-- ==== Sys2Proof/Word.lean ====
section
/-! DEFINITION. The word types of the model and its one container: the sparse map, a list of (key, value) pairs.
The operations over them stand in Machine/Maps.lean and Machine/Bits.lean. -/

namespace Sys2Proof

/-- A byte of storage (R8). -/
abbrev Byte := BitVec 8
/-- A string of bytes, the lowest address first (R8). -/
abbrev Bytes := List Byte
abbrev W32 := BitVec 32
abbrev W64 := BitVec 64
/-- A sparse map: pairs with strictly rising keys; a key that is not listed reads as the map's default. -/
abbrev SMap (α : Type) := List (Nat × α)

end Sys2Proof
end

