-- ==== Sys2Proof/Machine/Bits.lean ====
section
/-! DEFINITION. Bits, bytes and check values: little-endian layouts (R7, R8), field extraction, CRC-32C (R287), and the
few list operations the units share. -/

namespace Sys2Proof.Machine.Bits

/-- Field [hi:lo] of a number (R7). -/
def field (x hi lo : Nat) : Nat := (x >>> lo) % 2 ^ (hi + 1 - lo)

/-- A register's value from its fields, each given as its highest bit, its lowest bit and what it holds, from the top down: every other bit is
reserved and reads as zero (R11). -/
def word (fs : List (Nat × Nat × Nat)) : Nat := fs.foldr (fun f n => f.2.2 % 2 ^ (f.1 + 1 - f.2.1) * 2 ^ f.2.1 + n) 0

/-- Bit i of a number. -/
def bit (x i : Nat) : Bool := x.testBit i

/-- The number whose set bits are 2^i for the listed i, each at most once. -/
def ofBits : List Nat → Nat
  | [] => 0
  | i :: r => 2 ^ i ||| ofBits r

/-- The positions below n of the set bits of x, ascending. -/
def setBits (n x : Nat) : List Nat := (List.range n).filter (fun i => x.testBit i)

/-- The n low bytes of a number, lowest address first (R8). -/
def le : Nat → Nat → Bytes
  | 0, _ => []
  | n + 1, x => BitVec.ofNat 8 x :: le n (x / 256)

/-- The number a little-endian string of bytes holds. -/
def ofLe : Bytes → Nat
  | [] => 0
  | b :: r => b.toNat + 256 * ofLe r

/-- A field of a little-endian byte string: n bytes at offset o. -/
def at' (b : Bytes) (o n : Nat) : Nat := ofLe ((b.drop o).take n)

/-- n zero bytes. -/
def zeros (n : Nat) : Bytes := List.replicate n 0

/-- A byte string padded with zeros, or cut, to n bytes. -/
def padTo (n : Nat) (b : Bytes) : Bytes := b.take n ++ zeros (n - b.length)

/-- A byte string padded with zeros to a multiple of n. -/
def padMul (n : Nat) (b : Bytes) : Bytes := b ++ zeros ((n - b.length % n) % n)

/-- An n-byte layout of fields, each an offset with its bytes; bytes not named are zero. -/
def layout (n : Nat) (fs : List (Nat × Bytes)) : Bytes :=
  fs.foldl (fun acc f => acc.take f.1 ++ f.2 ++ acc.drop (f.1 + f.2.length)) (zeros n)

/-- A string cut into pieces of n bytes, the last possibly shorter; fuel bounds the number of pieces. -/
def piecesAux (n : Nat) : Nat → Bytes → List Bytes
  | 0, _ => []
  | fuel + 1, b => if b.isEmpty then [] else b.take n :: piecesAux n fuel (b.drop n)

def pieces (n : Nat) (b : Bytes) : List Bytes := piecesAux n b.length b

/-- One bit of the reflected CRC-32C register (R287). -/
def crcBit (c : W32) : W32 := if c.getLsbD 0 then (c >>> 1) ^^^ 0x82F63B78#32 else c >>> 1

/-- One byte of the reflected CRC-32C register (R287). -/
def crcByte (c : W32) (b : Byte) : W32 :=
  crcBit (crcBit (crcBit (crcBit (crcBit (crcBit (crcBit (crcBit (c ^^^ b.setWidth 32))))))))

/-- CRC-32C (R287). -/
def crc (b : Bytes) : W32 := (b.foldl crcByte 0xFFFFFFFF#32) ^^^ 0xFFFFFFFF#32

/-- a - b for two 32-bit counts that wrap (R464). -/
def dist32 (a b : Nat) : Nat := (a + 4294967296 - b % 4294967296) % 4294967296

/-- Sequence order on 32-bit numbers that wrap (R278): a comes before b. -/
def seqLt (a b : Nat) : Bool := let d := dist32 b a; decide (0 < d ∧ d < 2147483648)

/-- A signed number in n bits, as its two's complement code. -/
def signed (n : Nat) (x : Int) : Nat := (x % (2 ^ n : Int)).toNat

/-- The two's complement value of an n-bit code. -/
def toSigned (n x : Nat) : Int := if x < 2 ^ (n - 1) then x else (x : Int) - 2 ^ n

/-- The first element of a list that meets a test, with the rest of the list. -/
def takeFirst {α : Type} (p : α → Bool) : List α → Option (α × List α)
  | [] => none
  | x :: r => if p x then some (x, r) else (takeFirst p r).map (fun q => (q.1, x :: q.2))

/-- Change the first element of a list that meets a test. -/
def updFirst {α : Type} (p : α → Bool) (f : α → α) : List α → List α
  | [] => []
  | x :: r => if p x then f x :: r else x :: updFirst p f r

/-- Insert before the first element that the test says comes after (a stable ordered insertion). -/
def insertBy {α : Type} (before : α → α → Bool) (x : α) : List α → List α
  | [] => [x]
  | y :: r => if before x y then x :: y :: r else y :: insertBy before x r

/-- A list in the order of `before`, equal elements keeping their order. -/
def sortBy {α : Type} (before : α → α → Bool) (l : List α) : List α := l.foldl (fun acc x => insertBy before x acc) []

/-- ceil (a / b). -/
def ceilDiv (a b : Nat) : Nat := (a + b - 1) / b

end Sys2Proof.Machine.Bits
end

