-- ==== Sys2Proof/Syntax.lean ====
section
/-! DEFINITION. The commands of the block: one constructor of Instr for each row of the table of operations and events,
with the operands the manual's layouts give that row. What an outside party or a physical cause decides (whether a
signature verified, what a code corrected, what a sensor read) arrives as an operand. -/

namespace Sys2Proof

/-- What a storage code reports for the word or access that was read (R216, R217, R224, R239); `parity` is a DRAM command that failed
its command and address parity check on three successive attempts (R218). -/
inductive Ecc where
  | clean
  | corrected
  | uncorrectable
  | parity
deriving DecidableEq, Repr

/-- What the codes report at an address as a command's reads run (R216 to R218, R224, R239). -/
structure CodeHit where
  addr : Nat
  ecc : Ecc
deriving DecidableEq, Repr

/-- Who issues an instruction: logical core (R82, 0 to 63), context slot (R172) and stream code (R157); with what the codes report as its
word and the descriptors it names are read (R216, R224). -/
structure Issuer where
  core : Nat
  slot : Nat
  stream : Nat
  hits : List CodeHit := []
deriving DecidableEq, Repr

/-- The array-operation word below its class (R164); rsvd holds bits [38:0]. -/
structure PassWord where
  aop : Nat := 0
  read : Bool := false
  neww : Bool := false
  chunk : Nat := 0
  ovf : Bool := false
  acc : Bool := false
  last : Bool := false
  entry : Nat := 0
  wdesc : Nat := 0
  xdesc : Nat := 0
  odesc : Nat := 0
  tile : Nat := 0
  fact : Nat := 0
  flag : Nat := 0
  rsvd : Nat := 0
deriving DecidableEq, Repr

/-- The vector-operation word below its class and code (R166). -/
structure VecWord where
  ovf : Bool := false
  mmode : Bool := false
  bsel : Bool := false
  men : Bool := false
  den : Bool := true
  cen : Bool := false
  ctr : Nat := 0
  fact : Nat := 0
  flag : Nat := 0
  a : Nat := 0
  b : Nat := 0
  ce : Nat := 0
  m : Nat := 0
  d : Nat := 0
  s : W32 := 0
deriving DecidableEq, Repr

/-- The remote-operation word below its class and ROP (R167); rsvd holds bits [9:0]. -/
structure RemWord where
  osel : Nat := 0
  rank : Nat := 0
  raddr : Nat := 0
  rcore : Nat := 0
  rflag : Nat := 0
  ldesc : Nat := 0
  fact : Nat := 0
  flag : Nat := 0
  rsvd : Nat := 0
deriving DecidableEq, Repr

/-- The flag word below its class and FOP (R168); rsvd holds bits [78:0]. -/
structure FlagWord where
  nfl : Nat := 0
  flag : Nat := 0
  timeout : Nat := 0
  rsvd : Nat := 0
deriving DecidableEq, Repr

/-- The control word below its class and COP (R169); rsvd holds bits [112:96] and [31:0]. -/
structure CtlWord where
  cond : Nat := 0
  ctr : Nat := 0
  clr : Bool := false
  target : Nat := 0
  imm : W32 := 0
  rsvd : Nat := 0
deriving DecidableEq, Repr

/-- A register-mode instruction word (R152); op is read by RM_LANE_OP only, whose row stands for the codes 0x01 to 0x2C. -/
structure RmWord where
  op : Nat := 0
  vd : Nat := 0
  va : Nat := 0
  vb : Nat := 0
  vc : Nat := 0
  ovf : Bool := false
  int : Bool := false
  rsvd : Nat := 0
  imm : W32 := 0
deriving DecidableEq, Repr

/-- A fault of the hardware under a pass: bit `bit` of the 96-bit window of the first chunk of output lane `lane` is
inverted in vector `vec` (what R76 and R77 exist to detect); `drain` marks a difference between the two drain
computations of R79 instead, `load` a failed load check of R75, `store` an uncorrectable error of the accumulator entry that lane adds
to (R368). -/
structure ArrayFault where
  vec : Nat
  lane : Nat
  bit : Nat
  drain : Bool := false
  load : Bool := false
  store : Bool := false
deriving DecidableEq, Repr

/-- A difference between the two versions of an output of a redundant pair (R363): one bit of one byte is inverted in the partner's
version, or in the core's own; `skew` stands for two versions more than 4,096 cycles apart. `act` puts the fault into the flag action of
the completion instead of what is written or sent. -/
structure PairFault where
  byte : Nat
  bit : Nat
  partner : Bool := false
  skew : Bool := false
  act : Bool := false
deriving DecidableEq, Repr

/-- A packet: the header of R273 (resv is nonzero when a reserved bit is set) and its payload. -/
structure Pkt where
  dst : Nat := 0
  src : Nat := 0
  kind : Nat := 0
  unit : Nat := 0
  ctx : Nat := 0
  stream : Nat := 0
  chain : Bool := false
  mcast : Bool := false
  osel : Nat := 0
  gen : Nat := 0
  echoGen : Nat := 0
  len : Nat := 0
  start : Bool := false
  whole : Bool := false
  last : Bool := false
  seq : Nat := 0
  low : Nat := 0
  fcount : Nat := 0
  tag : Nat := 0
  rflag : Nat := 0
  rcore : Nat := 0
  fact : Nat := 0
  status : Nat := 0
  group : Nat := 0
  addr : Nat := 0
  stepTag : Nat := 0
  pcheck : W32 := 0
  rlen : Nat := 0
  leaf : Nat := 0
  resv : Nat := 0
  payload : Bytes := []
deriving DecidableEq, Repr

/-- The buffer class a packet travels in (R300, R305, R306). -/
inductive RouteClass where
  | adaptive
  | e0
  | e1
deriving DecidableEq, Repr

/-- One flit of a frame with its buffer index (R295, R300); index 0 is an idle flit. -/
structure Flit where
  buf : Nat
  data : Bytes
deriving DecidableEq, Repr

/-- A frame as it arrives (R294 to R298): its header and slots as they were sent, how many symbols of each of its four codewords were in
error, and whether the tag verified. -/
structure FrameIn where
  epoch : Nat
  retryReq : Bool
  counter : Nat
  credits : List (Nat × Nat)
  ackOrRetry : Nat
  flits : List Flit
  errors : List Nat
  tagOk : Bool
deriving DecidableEq, Repr

/-- How electrical training of a port ended (R315, R316); a trained link comes with its fixed asymmetry in ns, as measured: the delay
towards this module less the delay away from it (R36). -/
inductive Train where
  | trained (asym : Int)
  | noSignal
  | failed
deriving DecidableEq, Repr

/-- A HELLO of R320 with the outcome of verifying its signature and chain. -/
structure HelloMsg where
  module : Nat
  port : Nat
  revision : Nat
  gen : Nat
  nonce : BitVec 256
  sigOk : Bool
deriving DecidableEq, Repr

/-- A message of an in-epoch rekey exchange (R322). -/
inductive RekeyMsg where
  | encapKey (instant epoch : Nat) (key : Bytes)
  | cipher (instant epoch : Nat) (ct : Bytes)
  | notScheduled (instant epoch : Nat)
deriving DecidableEq, Repr

/-- A firefly (R35) with the fabric time at which it arrived at this module's SerDes. -/
structure FireflyMsg where
  rootId : Nat
  stratum : Nat
  rootEpoch : Nat
  seq : Nat
  tTx : Nat
  tEcho : Nat
  tEchoRx : Nat
deriving DecidableEq, Repr

/-- A VOTE_UP flit (R332). -/
structure VoteUpMsg where
  ctx : Nat
  count : Nat
  stepMin : Nat
  stepMax : Nat
  fail : W32
  nonfinite : Nat
  saturated : Nat
  digMin : Nat
  digMax : Nat
  loss : W64
deriving DecidableEq, Repr

/-- A VOTE_DOWN flit (R332). -/
structure VoteDownMsg where
  ctx : Nat
  result : Nat
  replays : Nat
  count : Nat
  step : Nat
  tv : Nat
  fail : W32
  nonfinite : Nat
  saturated : Nat
  digMin : Nat
  digMax : Nat
  loss : W64
deriving DecidableEq, Repr

/-- An ABORT flit (R389). -/
structure AbortMsg where
  ctx : Nat
  cause : Nat
  hops : Nat
  origin : Nat
  originGen : Nat
  reset : Bool
  sender : Nat
  time : Nat
  step : Nat
deriving DecidableEq, Repr

/-- What starts the reset sequence outside the rows that start it themselves (R382): an error class, with its effect. -/
structure Trigger where
  cls : Nat
  failed : Bool := false
deriving DecidableEq, Repr

/-- How a shard writer item ended (R416): normally with the file's ciphertext formed, or stopped. -/
inductive WriterOutcome where
  | done
  | check
  | fault
  | fenced
deriving DecidableEq, Repr

/-- How a known-answer test ended (R367): which phase, the digest, and whether the register-mode limit was hit. -/
structure TestResult where
  pass : Bool
  phase : Nat
  kernel : Nat
  digest : W64
  limit : Bool
deriving DecidableEq, Repr

/-- One 100 µs sample of R369 (temperatures in units of 0.125 °C, rails in mV, droop lengths in ns; input of R495). -/
structure SensorData where
  tdie : List Int
  vcore : List Nat
  tstack : List Int
  droopNs : List Nat
  vin : Nat
  iin : Nat
deriving DecidableEq, Repr

/-- How a bring-up phase ended (R486): the lost channels, the physical cores that failed with how their tests ended, whether the phase
failed, and, of the first phase, whether the ROM has verified the Dexhorn firmware (R435) and K_root was rebuilt (R439). -/
structure PhaseResult where
  ok : Bool
  lostChannels : List Nat
  failedCores : List (Nat × TestResult)
  firmwareOk : Bool := true
  pufOk : Bool := true
deriving DecidableEq, Repr

/-- An IDE_KM message (R449). -/
inductive IdeKm where
  | keyProg (key : BitVec 256)
  | keySetGo
  | keySetStop
deriving DecidableEq, Repr

/-- The header of a host descriptor (R467) with its ring and submission count t (R464). `bad` is true when a reserved byte is nonzero or
BODY is not 64-aligned, `badOp` when the OPCODE is none of R469; `fault` when the module's read of the body fails, `poisoned` when it
returns poisoned data (R478); `cqOk` and `sqOk` are false when the module's write of the descriptor's completion entry, and the read of the
SQ that follows it, fail (R465). -/
structure DescHead where
  ring : Nat
  t : Nat
  fence : Bool := false
  noirq : Bool := false
  ctx : Nat := 255
  tag : Nat := 0
  bad : Bool := false
  badOp : Bool := false
  fault : Bool := false
  poisoned : Bool := false
  cqOk : Bool := true
  sqOk : Bool := true
deriving DecidableEq, Repr

/-- The operands of CTX_DEFINE (R156, R469). -/
structure CtxFields where
  kind : Nat := 0
  stepped : Nat := 0
  pinned : Nat := 0
  accBase : Nat := 0
  accCount : Nat := 1
  cores : W64 := 0
  entryTable : Nat := 0
  descBase : Nat := 0
  saveBase : Nat := 0
deriving DecidableEq, Repr

/-- The step set-up body of R327. -/
structure StepSetupBody where
  ctx : Nat := 0
  root : Bool := false
  censusStop : Bool := false
  replayLimit : Nat := 1
  parent : Nat := 31
  children : Nat := 0
  modules : Nat := 1
  buddy : Nat := 65535
  mirrors : Nat := 65535
  confAddr : Nat := 0
  lossAddr : Nat := 0
  replayHold : Nat := 20
  confirmWait : Nat := 0
  stepDeadline : Nat := 0
  bad : Bool := false
deriving DecidableEq, Repr

/-- The step-resolve body of R393. -/
structure ResolveBody where
  ctx : Nat
  result : Nat
  step : Nat
  tv : Nat
  bad : Bool := false
deriving DecidableEq, Repr

/-- A scheduled-action entry (R43); bad is true when bytes 14 and 15 are not zero. -/
structure SchedEntry where
  instant : Nat
  action : Nat
  align : Nat
  ctx : Nat
  scope : Nat
  id : Nat
  param : BitVec 128
  bad : Bool := false
deriving DecidableEq, Repr

/-- A shard-load body (R421) with the first bytes of the file it names, as the module reads them: the header of R414. -/
structure LoadBody where
  ctx : Nat
  acceptNarrow : Bool
  partialLoad : Bool
  step : Nat
  hostAddr : Nat
  length : Nat
  offset : Nat := 0
  bytes : Nat := 0
  dest : Nat := 0
  bad : Bool := false
  header : Bytes := []
deriving DecidableEq, Repr

/-- How a shard load's transfer ended (R421, R478): the plaintext that opened under the job key with the outcome of the
tag and of the signature; a failed read; or a read with the places in the ciphertext of the 64-byte accesses that came poisoned. -/
inductive LoadResult where
  | opened (cipher : Bytes) (tagOk sigOk : Bool)
  | hostFault
  | poisoned (cipher : Bytes) (offsets : List Nat)
deriving DecidableEq, Repr

/-- The operands of COPY_IN and COPY_OUT (R469, R470). -/
structure CopyFields where
  queue : Bool := false
  hostAddr : Nat := 0
  localAddr : Nat := 0
  length : Nat := 1
  trigCore : Nat := 0
  trigFlag : Nat := 0
  trigEn : Bool := false
deriving DecidableEq, Repr

/-- How a copy's transfer ended (R470, R478): a read of host memory with its bytes, and the places in them of the 64-byte
accesses that came poisoned; a write that has been issued; a read that failed after some bytes had moved. -/
inductive CopyResult where
  | read (data : Bytes)
  | readPoisoned (data : Bytes) (offsets : List Nat)
  | written
  | hostFault (moved : Bytes)
deriving DecidableEq, Repr

/-- The operands of WORK (R469, R471). -/
structure WorkFields where
  startCore : Nat
  startFlag : Nat
  doneCore : Nat
  doneFlag : Nat
  timeout : Nat
deriving DecidableEq, Repr

/-- How a management request arrived (R490 to R492): its SEQ, its binding, and the SPDM session it came in, if any. -/
structure MgmtHead where
  seq : Nat := 0
  i3c : Bool := true
  session : Option Nat := none
  operandOk : Bool := true
deriving DecidableEq, Repr

/-- One planned port (R314). -/
structure PlanPort where
  peer : Nat
  peerPort : Nat
deriving DecidableEq, Repr

/-- The machine plan (R34, R314) as this module reads it: its identifier, the time roots, its port table, the required
port mask of each context, and the plan's own bytes. -/
structure Plan where
  module : Nat
  nx : Nat
  ny : Nat
  timeRoot : Nat
  backupRoot : Nat
  ports : SMap PlanPort
  required : SMap Nat
  text : Bytes
deriving DecidableEq, Repr

/-- A part of a plan (R494); the last carries the plan as the module reads it, whose bytes are those of all parts. -/
structure PlanPart where
  bytes : Bytes
  last : Option Plan
deriving DecidableEq, Repr

/-- The outcomes of an image's two cryptographic checks (R436): its signature, and the digest of its body. -/
structure ImageCheck where
  sigOk : Bool
  digestOk : Bool
deriving DecidableEq, Repr

/-- A part of a firmware image (R437); the last comes with the outcomes of its checks. -/
structure ImagePart where
  bytes : Bytes
  last : Option ImageCheck
deriving DecidableEq, Repr

/-- How an SPDM request arrived (R444, R490): its binding, and the session it came in as a secured message, if any. -/
structure SpdmHead where
  i3c : Bool := true
  session : Option Nat := none
deriving DecidableEq, Repr

/-- An SPDM request with its first operand. -/
structure SpdmReq (α : Type) where
  head : SpdmHead := {}
  value : α
deriving DecidableEq, Repr

/-- An SPDM request that is none of those supported (R444), by its code, and for a vendor-defined one the first byte of its payload (R446). -/
structure SpdmOther where
  head : SpdmHead := {}
  code : Nat
  vendor : Option Nat := none
deriving DecidableEq, Repr

/-- A PASS: its word, and what the codes report as its descriptors and its weights are read (R216, R224). -/
structure PassCmd where
  word : PassWord
  hits : List CodeHit := []
deriving DecidableEq, Repr

/-- The faults under a pass that ends: of the array, of the array of a redundant pair's partner core, and between the cores of the pair
(R363). -/
structure PassFaults where
  array : Option ArrayFault := none
  partner : Option ArrayFault := none
  pair : Option PairFault := none
deriving DecidableEq, Repr

/-- What is met as a vector operation ends: what the codes report as its operands are read, and a redundant pair's fault (R363). -/
structure VecEnd where
  hits : List CodeHit := []
  pair : Option PairFault := none
deriving DecidableEq, Repr

/-- A remote operation: its word, and a redundant pair's fault in the header it sends (R363). -/
structure RemCmd where
  word : RemWord
  pair : Option PairFault := none
deriving DecidableEq, Repr

/-- A SET or CLEAR: its word, and a redundant pair's fault in its flag action (R363). -/
structure FlagCmd where
  word : FlagWord
  pair : Option PairFault := none
deriving DecidableEq, Repr

/-- The end of a swap in a cluster: `load` is a failed load check of the copied weights (R75, R86). -/
structure SwapDone where
  cluster : Nat
  load : Bool := false
deriving DecidableEq, Repr

/-- A read of a queue's port: its length, and what the codes report as the cells are read (R239). -/
structure PortRead where
  len : Nat
  hits : List CodeHit := []
deriving DecidableEq, Repr

/-- A context slot that is switched: what the codes report as its save area and its weights are read, and a redundant pair's fault in the
entries it writes (R176, R363). -/
structure SlotCmd where
  slot : Nat
  hits : List CodeHit := []
  pair : Option PairFault := none
deriving DecidableEq, Repr

/-- A packet that brings data: with what the codes report as the words and accesses that it covers in part are read (R212, R224). -/
structure PktIn where
  pkt : Pkt
  hits : List CodeHit := []
deriving DecidableEq, Repr

/-- Bytes that the host writes: with what the codes report as the words and accesses that they cover in part are read (R212, R224). -/
structure HostData where
  data : Bytes
  hits : List CodeHit := []
deriving DecidableEq, Repr

/-- A load or store of register mode: its word, and what the codes report in the scratchpad (R153, R224). -/
structure RmMem where
  word : RmWord
  hits : List CodeHit := []
deriving DecidableEq, Repr

/-- A write of HEAD: its count, and whether the module's writes of entries and reads of descriptors that follow it succeed (R465). -/
structure CqHead where
  head : W32
  cqOk : Bool := true
  sqOk : Bool := true
deriving DecidableEq, Repr

/-- The end of a copy's transfer: how it ended, and what the codes report as its local bytes are read or written in part. -/
structure CopyEnd where
  result : CopyResult
  hits : List CodeHit := []
deriving DecidableEq, Repr

/-- The end of a shard load's transfer, likewise. -/
structure LoadEnd where
  result : LoadResult
  hits : List CodeHit := []
deriving DecidableEq, Repr

/-- The end of a shard writer's item: how it ended, and what the codes report as its regions are read. -/
structure WriterEnd where
  outcome : WriterOutcome
  hits : List CodeHit := []
deriving DecidableEq, Repr

/-- The commands: every row of the table of operations and events. -/
inductive Instr where
  /-- PASS (R164). -/
  | pass (i : Issuer) (w : PassCmd)
  /-- PASS_FEED_START (R62). -/
  | passFeedStart (core : Nat)
  /-- PASS_COMPLETE (R165). -/
  | passComplete (core : Nat) (hw : PassFaults) (hits : List CodeHit)
  /-- CICADA_RAMP_DOWN_START (R73). -/
  | cicadaRampDownStart (k : Nat)
  /-- CICADA_LEVEL_STEP (R73). -/
  | cicadaLevelStep (k : Nat)
  /-- ADD (R133). -/
  | add (i : Issuer) (w : VecWord)
  /-- SUB (R133). -/
  | sub (i : Issuer) (w : VecWord)
  /-- MUL (R133). -/
  | mul (i : Issuer) (w : VecWord)
  /-- FMA (R133). -/
  | fma (i : Issuer) (w : VecWord)
  /-- AXPY (R133). -/
  | axpy (i : Issuer) (w : VecWord)
  /-- MAX (R134). -/
  | maxOp (i : Issuer) (w : VecWord)
  /-- MIN (R134). -/
  | minOp (i : Issuer) (w : VecWord)
  /-- ABS (R133). -/
  | absOp (i : Issuer) (w : VecWord)
  /-- NEG (R133). -/
  | neg (i : Issuer) (w : VecWord)
  /-- CVT (R133). -/
  | cvt (i : Issuer) (w : VecWord)
  /-- SELECT (R133). -/
  | select (i : Issuer) (w : VecWord)
  /-- FILL (R132). -/
  | fill (i : Issuer) (w : VecWord)
  /-- IOTA (R132). -/
  | iota (i : Issuer) (w : VecWord)
  /-- DIV (R536). -/
  | div (i : Issuer) (w : VecWord)
  /-- RECIP (R536). -/
  | recip (i : Issuer) (w : VecWord)
  /-- SQRT (R536). -/
  | sqrt (i : Issuer) (w : VecWord)
  /-- RSQRT (R536). -/
  | rsqrt (i : Issuer) (w : VecWord)
  /-- EXP (R133). -/
  | exp (i : Issuer) (w : VecWord)
  /-- LOG (R536). -/
  | log (i : Issuer) (w : VecWord)
  /-- TANH (R133). -/
  | tanh (i : Issuer) (w : VecWord)
  /-- SIGMOID (R133). -/
  | sigmoid (i : Issuer) (w : VecWord)
  /-- ERF (R133). -/
  | erf (i : Issuer) (w : VecWord)
  /-- SILU (R133). -/
  | silu (i : Issuer) (w : VecWord)
  /-- GELU (R133). -/
  | gelu (i : Issuer) (w : VecWord)
  /-- EXPSUB (R133). -/
  | expsub (i : Issuer) (w : VecWord)
  /-- CMPLT (R134). -/
  | cmplt (i : Issuer) (w : VecWord)
  /-- CMPLE (R134). -/
  | cmple (i : Issuer) (w : VecWord)
  /-- CMPEQ (R134). -/
  | cmpeq (i : Issuer) (w : VecWord)
  /-- CMPNE (R134). -/
  | cmpne (i : Issuer) (w : VecWord)
  /-- ISFIN (R133). -/
  | isfin (i : Issuer) (w : VecWord)
  /-- RSUM (R137). -/
  | rsum (i : Issuer) (w : VecWord)
  /-- RSUMSQ (R138). -/
  | rsumsq (i : Issuer) (w : VecWord)
  /-- RMAX (R139). -/
  | rmax (i : Issuer) (w : VecWord)
  /-- RMIN (R139). -/
  | rmin (i : Issuer) (w : VecWord)
  /-- RARGMAX (R139). -/
  | rargmax (i : Issuer) (w : VecWord)
  /-- RTOP2 (R139). -/
  | rtop2 (i : Issuer) (w : VecWord)
  /-- SCAN (R140). -/
  | scan (i : Issuer) (w : VecWord)
  /-- COMPRESS (R141). -/
  | compress (i : Issuer) (w : VecWord)
  /-- COMPRESSR (R141). -/
  | compressr (i : Issuer) (w : VecWord)
  /-- EXPAND (R143). -/
  | expand (i : Issuer) (w : VecWord)
  /-- EXPANDR (R143). -/
  | expandr (i : Issuer) (w : VecWord)
  /-- GATHER (R144). -/
  | gather (i : Issuer) (w : VecWord)
  /-- GATHERR (R144). -/
  | gatherr (i : Issuer) (w : VecWord)
  /-- MCOUNT (R133). -/
  | mcount (i : Issuer) (w : VecWord)
  /-- MAND (R133). -/
  | mand (i : Issuer) (w : VecWord)
  /-- MOR (R133). -/
  | mor (i : Issuer) (w : VecWord)
  /-- MNOT (R133). -/
  | mnot (i : Issuer) (w : VecWord)
  /-- VECTOR_OP_COMPLETE (R149). -/
  | vectorOpComplete (core : Nat) (x : VecEnd)
  /-- RM_LANE_OP (R153). -/
  | rmLaneOp (k : Nat) (w : RmWord)
  /-- LDI (R153). -/
  | ldi (k : Nat) (w : RmWord)
  /-- LDGEN (R153). -/
  | ldgen (k : Nat) (w : RmWord)
  /-- LD (R153). -/
  | ld (k : Nat) (w : RmMem)
  /-- ST (R153). -/
  | st (k : Nat) (w : RmMem)
  /-- RM_DIGEST (R154). -/
  | rmDigest (k : Nat) (w : RmWord)
  /-- CHKLO (R153). -/
  | chklo (k : Nat) (w : RmWord)
  /-- CHKHI (R153). -/
  | chkhi (k : Nat) (w : RmWord)
  /-- RM_LOOP (R153). -/
  | rmLoop (k : Nat) (w : RmWord)
  /-- HALT (R155). -/
  | halt (k : Nat) (w : RmWord)
  /-- RM_PROGRAM_LIMIT (R153). -/
  | rmProgramLimit (k : Nat)
  /-- PUT (R267). -/
  | put (i : Issuer) (w : RemCmd) (hits : List CodeHit)
  /-- GET (R267). -/
  | get (i : Issuer) (w : RemCmd)
  /-- PUTF (R267). -/
  | putf (i : Issuer) (w : RemCmd) (hits : List CodeHit)
  /-- FSET (R267). -/
  | fset (i : Issuer) (w : RemCmd)
  /-- FCLR (R267). -/
  | fclr (i : Issuer) (w : RemCmd)
  /-- MPUT (R282). -/
  | mput (i : Issuer) (w : RemCmd) (hits : List CodeHit)
  /-- CHAIN (R284). -/
  | chain (i : Issuer) (w : RemCmd) (hits : List CodeHit)
  /-- WAITS (R168). -/
  | waits (i : Issuer) (w : FlagWord)
  /-- WAITC (R168). -/
  | waitc (i : Issuer) (w : FlagWord)
  /-- WAIT_SATISFIED (R257). -/
  | waitSatisfied (i : Issuer)
  /-- WAIT_TIMEOUT (R168). -/
  | waitTimeout (i : Issuer)
  /-- SET (R168). -/
  | setFlags (i : Issuer) (w : FlagCmd)
  /-- CLEAR (R168). -/
  | clearFlags (i : Issuer) (w : FlagCmd)
  /-- NOP (R169). -/
  | nop (i : Issuer) (w : CtlWord)
  /-- SETC (R169). -/
  | setc (i : Issuer) (w : CtlWord)
  /-- ADDC (R169). -/
  | addc (i : Issuer) (w : CtlWord)
  /-- BRC (R169). -/
  | brc (i : Issuer) (w : CtlWord)
  /-- LOOP (R169). -/
  | loopCtr (i : Issuer) (w : CtlWord)
  /-- BRS (R169). -/
  | brs (i : Issuer) (w : CtlWord)
  /-- YIELD (R173). -/
  | yield (i : Issuer) (w : CtlWord)
  /-- MARK (R169). -/
  | markTime (i : Issuer) (w : CtlWord)
  /-- WAITDONE (R169). -/
  | waitdone (i : Issuer) (w : CtlWord)
  /-- STEPEND (R171). -/
  | stepend (i : Issuer) (w : CtlWord)
  /-- END (R169). -/
  | endStream (i : Issuer) (w : CtlWord)
  /-- QUANTUM_EXPIRY (R174). -/
  | quantumExpiry (core : Nat)
  /-- CONTEXT_SWITCH (R176). -/
  | contextSwitch (core : Nat) (slot : SlotCmd)
  /-- SWITCH_COMPLETE (R176). -/
  | switchComplete (core : Nat) (slot : SlotCmd)
  /-- SWAP_COMPLETE (R86). -/
  | swapComplete (x : SwapDone)
  /-- CHURN_SLOT_WRITE (R181). -/
  | churnSlotWrite (addr : Nat) (data : Bytes)
  /-- SGD_MOMENTUM (R193). -/
  | sgdMomentum (n r : Nat) (hits : List CodeHit)
  /-- ADAM (R193). -/
  | adam (n r : Nat) (hits : List CodeHit)
  /-- FACTORED_SECOND_MOMENT (R194). -/
  | factoredSecondMoment (n r : Nat) (hits : List CodeHit)
  /-- SIGN_MOMENTUM (R193). -/
  | signMomentum (n r : Nat) (hits : List CodeHit)
  /-- SUMSQ (R195). -/
  | sumsq (n r : Nat) (hits : List CodeHit)
  /-- CAST (R198). -/
  | cast (n r : Nat) (hits : List CodeHit)
  /-- CHURN_DIGEST (R206). -/
  | churnDigest (n r : Nat)
  /-- CHURN_DESCRIPTOR_FINISH (R202). -/
  | churnDescriptorFinish (n : Nat)
  /-- PRESS_SLOT_WRITE (R225). -/
  | pressSlotWrite (addr : Nat) (data : Bytes)
  /-- PACK (R228). -/
  | pack (d r : Nat) (hits : List CodeHit)
  /-- UNPACK (R228). -/
  | unpack (d r : Nat) (image : Option Bytes) (hits : List CodeHit)
  /-- PRESS_DESCRIPTOR_FINISH (R233). -/
  | pressDescriptorFinish (d r : Nat) (ok : Bool)
  /-- HIVE_PUSH (R247). -/
  | hivePush (n q off : Nat) (data : Bytes) (check : W32)
  /-- HIVE_TAKE (R249). -/
  | hiveTake (n q : Nat) (x : PortRead)
  /-- HIVE_PEEK (R249). -/
  | hivePeek (n q : Nat) (x : PortRead)
  /-- QUEUE_CONFIG_WRITE (R245). -/
  | queueConfigWrite (n q : Nat) (v : W64)
  /-- HIVE_MARK (R246). -/
  | hiveMark (n q : Nat) (rsvd : Nat)
  /-- REWIND (R246). -/
  | rewind (n q : Nat) (rsvd : Nat)
  /-- RELEASE (R246). -/
  | release (n q : Nat) (rsvd : Nat)
  /-- ADVANCE (R246). -/
  | advance (n q : Nat) (rsvd : Nat)
  /-- HIVE_RESET (R246). -/
  | hiveReset (n q : Nat) (rsvd : Nat)
  /-- HIVE_PATROL_SCRUB (R239). -/
  | hivePatrolScrub (n q cell : Nat) (ecc : Ecc)
  /-- FLG_ACT_SET (R261). -/
  | flgActSet (core : Nat) (v : W64)
  /-- FLG_ACT_CLEAR (R261). -/
  | flgActClear (core : Nat) (v : W64)
  /-- FLG_ACT_NONE (R261). -/
  | flgActNone (core : Nat) (v : W64)
  /-- WRITE (R278). -/
  | write (p : PktIn)
  /-- WRITE_F (R277). -/
  | writeF (p : PktIn)
  /-- FLAG (R277). -/
  | flagPkt (p : Pkt)
  /-- READ_REQ (R267). -/
  | readReq (p : Pkt) (hits : List CodeHit)
  /-- READ_RSP (R267). -/
  | readRsp (p : PktIn)
  /-- ACK (R274). -/
  | ack (p : Pkt)
  /-- ERROR_RSP (R271). -/
  | errorRsp (p : Pkt)
  /-- ORDERING_TIMEOUT (R279). -/
  | orderingTimeout (key seq : Nat)
  /-- OPERATION_TIMEOUT (R272). -/
  | operationTimeout (tag : Nat)
  /-- PACKET_RESEND (R276). -/
  | packetResend (key seq : Nat)
  /-- PACKET_FORWARD (R305). -/
  | packetForward (inPort : Option Nat) (cls : RouteClass) (p : Pkt)
  /-- ESCAPE_FALLBACK (R305). -/
  | escapeFallback (idx : Nat)
  /-- FRAME_SEND (R294). -/
  | frameSend (p : Nat)
  /-- FRAME_RECEIVE (R298). -/
  | frameReceive (p : Nat) (f : FrameIn)
  /-- PORT_SIGNAL_LOSS (R318). -/
  | portSignalLoss (p cause : Nat)
  /-- PROBE_OUTCOME (R394). -/
  | probeOutcome (m : Nat)
  /-- PORT_RETRY (R315). -/
  | portRetry (p : Nat)
  /-- TRAINING_COMPLETE (R316). -/
  | trainingComplete (p : Nat) (result : Train)
  /-- CERTIFICATE_CHAIN (R441). -/
  | certificateChain (p : Nat) (digest : BitVec 512) (good : Bool)
  /-- HELLO (R320). -/
  | hello (p : Nat) (h : HelloMsg)
  /-- KEYING_ENCAP_KEY (R320). -/
  | keyingEncapKey (p : Nat) (key : Bytes) (sigOk : Bool)
  /-- KEYING_CIPHERTEXT (R320). -/
  | keyingCiphertext (p : Nat) (ct : Bytes) (sigOk : Bool)
  /-- KEYING_TIMEOUT (R316). -/
  | keyingTimeout (p : Nat)
  /-- LINK_DOWN_ANNOUNCE (R318). -/
  | linkDownAnnounce (p : Nat)
  /-- FENCE_NOTICE (R310). -/
  | fenceNotice (p : Nat)
  /-- REKEY_EXCHANGE_MSG (R322). -/
  | rekeyExchangeMsg (p : Nat) (m : RekeyMsg)
  /-- REKEY_RETRY (R322). -/
  | rekeyRetry (p : Nat)
  /-- KEY_GRACE_END (R322). -/
  | keyGraceEnd (p : Nat)
  /-- KEY_AGE_LIMIT (R323). -/
  | keyAgeLimit (p : Nat)
  /-- FIREFLY_SEND (R35). -/
  | fireflySend (p : Nat)
  /-- FIREFLY (R36). -/
  | firefly (p : Nat) (f : FireflyMsg)
  /-- HOLDOVER_ENTRY (R38). -/
  | holdoverEntry
  /-- HOLDOVER_LIMIT (R39). -/
  | holdoverLimit
  /-- EPOCH_WAIT_EXPIRY (R39). -/
  | epochWaitExpiry
  /-- BACKUP_ROOT_TAKEOVER (R40). -/
  | backupRootTakeover
  /-- START (R537). -/
  | startEntry (id : Nat)
  /-- ROUTE_SWAP (R312). -/
  | routeSwap (id : Nat)
  /-- ROUTE_SWAP_RESPONSE_STOP (R312). -/
  | routeSwapResponseStop
  /-- ROUTE_SWAP_ACTIVATE (R313). -/
  | routeSwapActivate
  /-- ROUTE_SWAP_RESUME (R312). -/
  | routeSwapResume
  /-- REKEY (R322). -/
  | rekey (id : Nat)
  /-- CHECKSUM_FLIP (R370). -/
  | checksumFlip (id : Nat)
  /-- CHECK_FLIP (R370). -/
  | checkFlip (id : Nat)
  /-- LINK_LOSS (R370). -/
  | linkLoss (id : Nat)
  /-- MODULE_RESET (R370). -/
  | moduleReset (id : Nat)
  /-- PACKET_DROP (R370). -/
  | packetDrop (id : Nat)
  /-- DRAM_CE (R370). -/
  | dramCe (id : Nat)
  /-- ENTRY_EXPIRED (R49). -/
  | entryExpired (id : Nat)
  /-- STEP_BOUNDARY (R331). -/
  | stepBoundary (ctx : Nat)
  /-- CONFIRM_WAIT_EXPIRY (R348). -/
  | confirmWaitExpiry (ctx : Nat)
  /-- DIGEST_TIMEOUT (R451). -/
  | digestTimeout (ctx : Nat)
  /-- VOTE_UP (R334). -/
  | voteUp (p : Nat) (v : VoteUpMsg)
  /-- VOTE_DOWN (R339). -/
  | voteDown (p : Nat) (v : VoteDownMsg)
  /-- REPLAY_HOLD_END (R342). -/
  | replayHoldEnd (ctx : Nat)
  /-- STEP_DEADLINE (R338). -/
  | stepDeadline (ctx : Nat)
  /-- RESET_SEQUENCE (R385). -/
  | resetSequence (t : Trigger)
  /-- DRAIN_END (R387). -/
  | drainEnd
  /-- RESET_ASSERT (R385). -/
  | resetAssert
  /-- ABORT (R391). -/
  | abortMsg (p : Nat) (a : AbortMsg)
  /-- ABORT_SEEN_EXPIRY (R390). -/
  | abortSeenExpiry (idx : Nat)
  /-- QUIESCED (R392). -/
  | quiesced (ctx : Nat)
  /-- RESET_SEQUENCE_TIMEOUT (R397). -/
  | resetSequenceTimeout
  /-- READY_TIMEOUT (R397). -/
  | readyTimeout
  /-- COLD_CYCLE_OFF_END (R397). -/
  | coldCycleOffEnd
  /-- COLD_CYCLE_READY_TIMEOUT (R397). -/
  | coldCycleReadyTimeout
  /-- WRITER_ITEM_FINISH (R416). -/
  | writerItemFinish (outcome : WriterEnd)
  /-- RELEASE_SELF (R428). -/
  | releaseSelf (ctx : Nat)
  /-- WIPE_DONE (R428). -/
  | wipeDone
  /-- WEEVIL_DUE (R366). -/
  | weevilDue (k : Nat)
  /-- WEEVIL_TEST_DONE (R367). -/
  | weevilTestDone (k : Nat) (r : TestResult)
  /-- SENSOR_SAMPLE (R369). -/
  | sensorSample (x : SensorData)
  /-- STACK_HOT_PERSIST (R369). -/
  | stackHotPersist (stack : Nat)
  /-- RAIL_LOW_PERSIST (R369). -/
  | railLowPersist (rail mv us : Nat)
  /-- DRAM_STACK_TEMP_SAMPLE (R220). -/
  | dramStackTempSample (stack : Nat) (temp : Int) (tth : Nat)
  /-- DRAM_PATROL_SCRUB (R219). -/
  | dramPatrolScrub (addr : Nat) (ecc : Ecc)
  /-- SRAM_PATROL_SCRUB (R224). -/
  | sramPatrolScrub (addr : Nat) (ecc : Ecc)
  /-- ONDIE_CE_POLL (R216). -/
  | ondieCePoll (stack count : Nat)
  /-- HEALTH_SCORE_UPDATE (R373). -/
  | healthScoreUpdate
  /-- NV_RECORD_FLUSH (R373). -/
  | nvRecordFlush
  /-- FIRMWARE_REVERIFY (R438). -/
  | firmwareReverify (dexhornOk imagesOk : Bool)
  /-- SECURITY_ALARM (R453). -/
  | securityAlarm (source : Nat)
  /-- ALARM_PERSIST_CHECK (R454). -/
  | alarmPersistCheck (active : Bool)
  /-- PSK_EXPIRY (R446). -/
  | pskExpiry (hint : Nat)
  /-- GOVERNOR_SAMPLE (R498). -/
  | governorSample (watts10 : Nat)
  /-- GOVERNING_PERIOD_END (R500). -/
  | governingPeriodEnd
  /-- THERMAL_FLOOR_STEP (R500). -/
  | thermalFloorStep
  /-- INPUT_VALID (R482). -/
  | inputValid
  /-- DEXHORN_BOOT (R484). -/
  | dexhornBoot (firmwareOk pufOk : Bool)
  /-- UNDERVOLTAGE_LOCKOUT (R482). -/
  | undervoltageLockout
  /-- OVERVOLTAGE_LOCKOUT (R482). -/
  | overvoltageLockout
  /-- OVERVOLTAGE_RELEASE (R482). -/
  | overvoltageRelease
  /-- INPUT_EXCURSION (R524). -/
  | inputExcursion (mv us : Nat)
  /-- BREAKER_TRIP (R483). -/
  | breakerTrip (mv : Nat)
  /-- INPUT_LOSS (R489). -/
  | inputLoss
  /-- PRESENCE_BREAK (R532). -/
  | presenceBreak
  /-- RAIL_REGULATION_TIMEOUT (R485). -/
  | railRegulationTimeout (rail mv : Nat)
  /-- BRINGUP_PHASE_END (R486). -/
  | bringupPhaseEnd (phase : Nat) (r : PhaseResult)
  /-- TIME_PHASE_END (R487). -/
  | timePhaseEnd
  /-- MOD_ATTN (R488). -/
  | modAttn
  /-- REMOVAL_START (R488). -/
  | removalStart
  /-- REMOVE_WAIT_EXPIRY (R488). -/
  | removeWaitExpiry
  /-- SAFE_REACHED (R488). -/
  | safeReached
  /-- PERST_ASSERT (R531). -/
  | perstAssert
  /-- PERST_DEASSERT (R531). -/
  | perstDeassert
  /-- FUNCTION_LEVEL_RESET (R460). -/
  | functionLevelReset
  /-- HOT_RESET (R460). -/
  | hotReset
  /-- LINK_DISABLE (R460). -/
  | linkDisable
  /-- D3HOT_TO_D0 (R460). -/
  | d3hotToD0
  /-- HOST_LINK_DOWN (R480). -/
  | hostLinkDown
  /-- IDE_STATE_CHANGE (R449). -/
  | ideStateChange (stream : Nat) (secure : Bool)
  /-- HOST_MEMORY_WRITE (R462). -/
  | hostMemoryWrite (addr : Nat) (data : HostData)
  /-- HOST_MEMORY_READ (R461). -/
  | hostMemoryRead (addr len : Nat) (ecc : Ecc)
  /-- HOST_SQ_DB (R464). -/
  | hostSqDb (r : Nat) (tail : W32) (fetchOk : Bool)
  /-- HOST_CQ_DB (R464). -/
  | hostCqDb (r : Nat) (head : CqHead)
  /-- RING_ENABLE (R463). -/
  | ringEnable (r : Nat) (v : W64)
  /-- RING_DISABLE (R465). -/
  | ringDisable (r : Nat) (v : W64)
  /-- COALESCE_TIMEOUT (R476). -/
  | coalesceTimeout (r : Nat)
  /-- CTX_DEFINE (R156). -/
  | ctxDefine (d : DescHead) (x : CtxFields)
  /-- CTX_DELETE (R178). -/
  | ctxDelete (d : DescHead)
  /-- STEP_SETUP (R327). -/
  | stepSetup (d : DescHead) (x : StepSetupBody)
  /-- STEP_RESOLVE (R393). -/
  | stepResolve (d : DescHead) (x : ResolveBody)
  /-- SCHED_WRITE (R46). -/
  | schedWrite (d : DescHead) (fireRing : Nat) (e : SchedEntry)
  /-- SCHED_CANCEL (R46). -/
  | schedCancel (d : DescHead) (id : Nat)
  /-- CKPT_SETUP (R408). -/
  | ckptSetup (d : DescHead) (block : Nat)
  /-- CKPT_COMMIT (R420). -/
  | ckptCommit (d : DescHead) (slot step host : Nat)
  /-- SHARD_LOAD (R421). -/
  | shardLoad (d : DescHead) (x : LoadBody)
  /-- COPY_IN (R470). -/
  | copyIn (d : DescHead) (x : CopyFields)
  /-- COPY_OUT (R470). -/
  | copyOut (d : DescHead) (x : CopyFields)
  /-- COPY_OUT_TRIGGER (R470). -/
  | copyOutTrigger (r t : Nat)
  /-- WORK (R471). -/
  | work (d : DescHead) (x : WorkFields)
  /-- WORK_DONE (R471). -/
  | workDone (r t : Nat)
  /-- WORK_TIMEOUT (R471). -/
  | workTimeout (r t : Nat)
  /-- HOST_NOP (R469). -/
  | hostNop (d : DescHead)
  /-- RM_MODE_SET (R516). -/
  | rmModeSet (k : Nat) (v : W64) (program : List W64)
  /-- RM_MODE_CLEAR (R516). -/
  | rmModeClear (k : Nat) (v : W64)
  /-- ERR_LOG_SETUP_WRITE (R518). -/
  | errLogSetupWrite (off : Nat) (v : W64)
  /-- ERR_LOG_TAIL_WRITE (R518). -/
  | errLogTailWrite (v : W64)
  /-- HEALTH_CTL_WRITE (R377). -/
  | healthCtlWrite (v : W64)
  /-- REM_TIMEOUT_WRITE (R510). -/
  | remTimeoutWrite (off : Nat) (v : W64)
  /-- CENSUS_REGISTER_WRITE (R513). -/
  | censusRegisterWrite (ctx : Nat) (isCount : Bool) (v : W64)
  /-- ROUTE_BANK_WRITE (R508). -/
  | routeBankWrite (bank off : Nat) (v : W64)
  /-- SETUP_REGISTER_WRITE (R504). -/
  | setupRegisterWrite (off len : Nat) (v : W64)
  /-- GET_STATUS (R494). -/
  | getStatus (m : MgmtHead)
  /-- GET_TELEMETRY (R495). -/
  | getTelemetry (m : MgmtHead)
  /-- GET_RECORDS (R494). -/
  | getRecords (m : MgmtHead) (index : Nat)
  /-- SUBSCRIBE (R497). -/
  | subscribe (m : MgmtHead)
  /-- POWER_ON (R484). -/
  | powerOn (m : MgmtHead)
  /-- REMOVE_GRACEFUL (R488). -/
  | removeGraceful (m : MgmtHead) (waitS : Nat)
  /-- REMOVE_FORCE (R488). -/
  | removeForce (m : MgmtHead) (waitS : Nat)
  /-- RESET_PACKAGE (R382). -/
  | resetPackage (m : MgmtHead)
  /-- RESET_COLD_CYCLE (R397). -/
  | resetColdCycle (m : MgmtHead)
  /-- SET_AUTOSTART (R494). -/
  | setAutostart (m : MgmtHead) (v : Nat)
  /-- LOAD_PLAN (R494). -/
  | loadPlan (m : MgmtHead) (plan : PlanPart) (digestOk : Bool)
  /-- SET_TIME (R34). -/
  | setTime (m : MgmtHead) (v : Nat)
  /-- STEER_TIME (R34). -/
  | steerTime (m : MgmtHead) (ppm : Int)
  /-- MGMT_SCHED_WRITE (R46). -/
  | mgmtSchedWrite (m : MgmtHead) (e : SchedEntry)
  /-- MGMT_SCHED_CANCEL (R46). -/
  | mgmtSchedCancel (m : MgmtHead) (id : Nat)
  /-- STAGE_FIRMWARE (R437). -/
  | stageFirmware (m : MgmtHead) (x : ImagePart)
  /-- RAISE_MIN_SVN (R437). -/
  | raiseMinSvn (m : MgmtHead) (type svn : Nat)
  /-- SET_PROBATION (R376). -/
  | setProbation (m : MgmtHead) (v : Nat)
  /-- SET_POWER_LIMIT (R499). -/
  | setPowerLimit (m : MgmtHead) (watts : Nat)
  /-- MGMT_UNKNOWN_COMMAND (R494). -/
  | mgmtUnknownCommand (m : MgmtHead) (command : Nat)
  /-- MCTP_CONTROL_MESSAGE (R490). -/
  | mctpControlMessage (onI3c : Bool) (body : Bytes)
  /-- MCTP_UNSUPPORTED_TYPE (R490). -/
  | mctpUnsupportedType (type : Nat)
  /-- GET_VERSION (R444). -/
  | getVersion
  /-- GET_CAPABILITIES (R444). -/
  | getCapabilities
  /-- NEGOTIATE_ALGORITHMS (R444). -/
  | negotiateAlgorithms (hash : SpdmReq Bool) (sig : Bool)
  /-- GET_DIGESTS (R444). -/
  | getDigests
  /-- GET_CERTIFICATE (R444). -/
  | getCertificate (slot : SpdmReq Nat) (off len : Nat)
  /-- CHALLENGE (R448). -/
  | challenge (slot : SpdmReq Nat) (nonce : BitVec 256)
  /-- GET_MEASUREMENTS (R445). -/
  | getMeasurements (index : SpdmReq Nat) (signed : Bool) (nonce : BitVec 256)
  /-- PSK_EXCHANGE (R448). -/
  | pskExchange (hint : SpdmReq Nat)
  /-- PSK_FINISH (R444). -/
  | pskFinish (head : SpdmHead) (verifyOk : Bool)
  /-- HEARTBEAT (R444). -/
  | heartbeat (head : SpdmHead)
  /-- KEY_UPDATE (R444). -/
  | keyUpdate (head : SpdmHead)
  /-- END_SESSION (R444). -/
  | endSession (head : SpdmHead)
  /-- SPDM_UNSUPPORTED_REQUEST (R444). -/
  | spdmUnsupportedRequest (x : SpdmOther)
  /-- KEM_KEY_GET (R446). -/
  | kemKeyGet (nonce : SpdmReq (BitVec 256))
  /-- KEM_PSK (R446). -/
  | kemPsk (ct : SpdmReq Bytes) (hint : Nat)
  /-- JOB_KEY_SET (R447). -/
  | jobKeySet (head : SpdmHead) (ctx : Nat) (digest : BitVec 512) (key : BitVec 256)
  /-- JOB_KEY_ERASE (R446). -/
  | jobKeyErase (head : SpdmHead) (ctx : Nat)
  /-- CONFIG_DIGEST_RETURN (R451). -/
  | configDigestReturn (ctx : Nat)
  /-- HOST_LINK_UP (R487). -/
  | hostLinkUp
  /-- COPY_TRANSFER_END (R470). -/
  | copyTransferEnd (r t : Nat) (x : CopyEnd)
  /-- SHARD_LOAD_COMPLETE (R421). -/
  | shardLoadComplete (ctx : Nat) (r : LoadEnd)
  /-- IDE_KM_MESSAGE (R449). -/
  | ideKmMessage (head : SpdmHead) (stream : Nat) (m : IdeKm)
deriving DecidableEq, Repr

end Sys2Proof
end

