-- ==== Sys2Proof/Decode.lean ====
section
/-! DEFINITION. Decoding: the 128-bit instruction word of a stream (R162 to R169), split into the fields of its class; and the words of
the table of operations and events, whose rows have no bits. -/

namespace Sys2Proof

/-- The command a word of the table spells: none, since no row of the table has bits. -/
def decodeTableWord (_nbits _w : Nat) : Option Instr := none

/-- A stream's instruction word by its class (R162), with the code within the class; `reserved` is a word of a reserved class, or of a
reserved code within its class. -/
inductive StreamWord where
  | pass (w : PassWord)
  | vec (code : Nat) (w : VecWord)
  | rem (rop : Nat) (w : RemWord)
  | flag (fop : Nat) (w : FlagWord)
  | ctl (cop : Nat) (w : CtlWord)
  | reserved (cls code : Nat)
deriving DecidableEq, Repr

namespace StreamWords

open Machine.Bits

/-- The array-operation word (R164). -/
def passOf (x : Nat) : PassWord :=
  { aop := field x 124 123, read := bit x 122, neww := bit x 121, chunk := field x 120 119, ovf := bit x 118, acc := bit x 117,
    last := bit x 116, entry := field x 115 106, wdesc := field x 105 94, xdesc := field x 93 82, odesc := field x 81 70,
    tile := field x 69 54, fact := field x 53 52, flag := field x 51 39, rsvd := field x 38 0 }

/-- The vector-operation word (R166). -/
def vecOf (x : Nat) : VecWord :=
  { ovf := bit x 116, mmode := bit x 115, bsel := bit x 114, men := bit x 113, den := bit x 112, cen := bit x 111,
    ctr := field x 110 107, fact := field x 106 105, flag := field x 104 92, a := field x 91 80, b := field x 79 68,
    ce := field x 67 56, m := field x 55 44, d := field x 43 32, s := BitVec.ofNat 32 x }

/-- The remote-operation word (R167). -/
def remOf (x : Nat) : RemWord :=
  { osel := field x 121 118, rank := field x 117 104, raddr := field x 103 56, rcore := field x 55 50, rflag := field x 49 37,
    ldesc := field x 36 25, fact := field x 24 23, flag := field x 22 10, rsvd := field x 9 0 }

/-- The flag word (R168). -/
def flagOf (x : Nat) : FlagWord :=
  { nfl := field x 121 116, flag := field x 115 103, timeout := field x 102 79, rsvd := field x 78 0 }

/-- The control word (R169). -/
def ctlOf (x : Nat) : CtlWord :=
  { cond := field x 120 118, ctr := field x 117 114, clr := bit x 113, target := field x 95 64, imm := BitVec.ofNat 32 (field x 63 32),
    rsvd := field x 112 96 * 2 ^ 32 + field x 31 0 }

/-- The operation codes of the vector stream engine (R133). -/
def vecCodes : List Nat :=
  [0x01, 0x02, 0x03, 0x04, 0x05, 0x06, 0x07, 0x08, 0x09, 0x0A, 0x0B, 0x0C, 0x0D, 0x10, 0x11, 0x12, 0x13, 0x18, 0x19, 0x1A, 0x1B, 0x1C,
   0x1D, 0x1E, 0x1F] ++ [0x20, 0x21, 0x22, 0x23, 0x24, 0x28, 0x29, 0x2A, 0x2B, 0x2C, 0x2D, 0x2E, 0x30, 0x31, 0x32, 0x33, 0x34, 0x35, 0x36,
   0x38, 0x39, 0x3A]

end StreamWords

open Machine.Bits StreamWords in
/-- The instruction that a 128-bit word spells (R162 to R169). -/
def decodeWord (x : Nat) : StreamWord :=
  match field x 127 125 with
  | 1 => if field x 124 123 = 0 then .pass (passOf x) else .reserved 1 (field x 124 123)
  | 2 => if vecCodes.contains (field x 124 117) then .vec (field x 124 117) (vecOf x) else .reserved 2 (field x 124 117)
  | 3 => if field x 124 122 < 7 then .rem (field x 124 122) (remOf x) else .reserved 3 (field x 124 122)
  | 4 => if field x 124 122 < 4 then .flag (field x 124 122) (flagOf x) else .reserved 4 (field x 124 122)
  | 5 => if field x 124 121 < 11 then .ctl (field x 124 121) (ctlOf x) else .reserved 5 (field x 124 121)
  | c => .reserved c 0

end Sys2Proof
end

