-- ==== Sys2Proof/Config.lean ====
section
/-! DEFINITION. What the manual leaves to the implementation or leaves open, as constants without a body (free values):
nothing in Lean can evaluate one or prove a value of one. Each is named in notes/assumptions. -/

namespace Sys2Proof.Config

/-- The cell a Hive pool takes next (R238: the order is not specified), by the count of free values drawn so far. -/
opaque freeCell : Nat → Nat
/-- How many groups of 32 elements a stopped Churn descriptor had written, or frames a stopped Press descriptor had
written (R204, R234 fix no number), by the count of free values drawn so far. -/
opaque stopPoint : Nat → Nat
/-- The plain bytes that an UNPACK gives for a frame whose coded bytes break R229 or R230 (the manual states none), by the count
of free values drawn, the frame and the byte's place in it. -/
opaque pressPlain : Nat → Nat → Nat → Byte
/-- SHA3-512 of FIPS 202 (its text is outside the manual's scope, 00_scope.md). -/
opaque sha3 : Bytes → BitVec 512
/-- The body of an ML-DSA-87 signature over a digest under the identity key of a seed, by the count of free values drawn (R440, R442:
hedged, never compared). -/
opaque signature : BitVec 256 → BitVec 512 → Nat → Bytes
/-- Bytes drawn from the Dexhorn controller's random source (R443). -/
opaque random : Nat → BitVec 256
/-- AES-256-GCM sealing: key, 96-bit IV, associated data, plaintext to ciphertext and tag (SP 800-38D). -/
opaque gcmSeal : BitVec 256 → BitVec 96 → Bytes → Bytes → Bytes × BitVec 128
/-- AES-256-GCM opening: key, IV, associated data, ciphertext to plaintext. -/
opaque gcmOpen : BitVec 256 → BitVec 96 → Bytes → Bytes → Bytes
/-- ML-KEM-1024 shared secret of an encapsulation key and a ciphertext (FIPS 203). -/
opaque kemSecret : Bytes → Bytes → BitVec 256
/-- A fresh ML-KEM-1024 encapsulation key (FIPS 203, R443). -/
opaque kemKey : Nat → Bytes
/-- An ML-KEM-1024 ciphertext made for an encapsulation key (FIPS 203, R443). -/
opaque kemCipher : Bytes → Nat → Bytes
/-- The ML-DSA-87 public key of a key-generation seed (R440, R442, FIPS 204). -/
opaque publicKey : BitVec 256 → Bytes
/-- The public key in the ROM that verifies firmware (R435). -/
opaque firmwareKey : Bytes
/-- Rilelyn's root certificate and the LKX-2400 product certificate in DER (R441). -/
opaque rootCertificate : Bytes
opaque productCertificate : Bytes
/-- The device certificate in DER (R441), by the public key it carries. -/
opaque deviceCertificate : Bytes → Bytes
/-- The identity certificate in DER (R441), by the seed of the device key that issues it, the public key it carries and its contents. -/
opaque identityCertificate : BitVec 256 → Bytes → Bytes → Bytes
/-- The key and the first IV of a session's messages to the requester (R444; DSP0274 and DSP0277 are outside the manual), by the session's
secret and the number of its key updates. -/
opaque sessionKey : BitVec 256 → Nat → BitVec 256 × BitVec 96
/-- What CAPABILITIES says beyond R444: the responder's time exponent, its transfer size and its message size, by 0 to 2. -/
opaque capability : Nat → Nat
/-- The entry of the registry that Rilelyn publishes for ML-DSA-87 (R444). -/
opaque signatureEntry : Nat
/-- Nanoseconds for which the controller carries a management command out, after the one in which it takes it (R492 gives none), by the
count of free values drawn. -/
opaque commandTime : Nat → Nat
/-- The helper-data-bound root secret of the physically unclonable function (R439). -/
opaque rootSecret : BitVec 256
/-- The code in the boot ROM (R435). -/
opaque romCode : Bytes
/-- The BODY_DIGEST of each running firmware image by TYPE 1 to 3 (R436, R438). -/
opaque bodyDigest : Nat → BitVec 512
/-- The digest a verdict word carries when none was returned in time (R451 states none), by the count of free values drawn. -/
opaque lateDigest : Nat → BitVec 64

/-- The flit of a fence notice (R310 gives no layout). -/
opaque fenceFlit : Bytes
/-- The flit that announces a link going down (R318 gives no layout). -/
opaque downFlit : Bytes
/-- The bytes of a HELLO (R320 gives no layout): module identifier, port, revision, reset generation and nonce. -/
opaque helloMessage : Nat → Nat → Nat → Nat → BitVec 256 → Bytes
/-- A rekey message (R322 gives no layout): its kind (0 key, 1 ciphertext, 2 NOT_SCHEDULED), INSTANT, epoch, and the key or ciphertext. -/
opaque rekeyMessage : Nat → Nat → Nat → Bytes → Bytes

/-- The answer to an MCTP control message (R490 names the type; DSP0236 is outside the manual), by its body. -/
opaque mctpControl : Bytes → Bytes

/-- The bit map of symbols in error of a DRAM access (R357), by the count of free values drawn. -/
opaque symbols : Nat → Nat

/-- SILU and GELU of minus infinity, which no rule states, by operation code. -/
opaque atMinusInfinity : Nat → W32

/-- Stall-origin cycles of a pass beyond those it ended late by (R70, R72: the manual's skid buffers are timing that the model leaves
out), by the count of free values drawn. -/
opaque stallCycles : Nat → Nat

/-- What a register-mode lane holds when the mode is entered (R155: register contents are not kept), by the count of free
values drawn at entry, register and lane. -/
opaque rmLane : Nat → Nat → Nat → W32

/-- The 4,096 bytes of sequencer state in a context's part of the save area (R176 gives no layout), by the count of free
values drawn and the byte's offset. -/
opaque saveByte : Nat → Nat → Byte

/-- DETAIL bytes of the fault completion of an illegal instruction (R163 asks for a cause code and gives no coding), by the
count of free values drawn. -/
opaque causeDetail : Nat → Bytes

end Sys2Proof.Config
end

