-- ==== Sys2Proof/Machine/Maps.lean ====
section
/-! DEFINITION. Operations on sparse maps (lists of key and value pairs with strictly rising keys): reading with a default,
writing, removing, and the canonical form that equal maps share. -/

namespace Sys2Proof.SMap

variable {α : Type}

/-- The value listed under a key. -/
def look : SMap α → Nat → Option α
  | [], _ => none
  | (k, v) :: r, x => if x = k then some v else look r x

/-- The value of a key, `d` where it is not listed. -/
def val (d : α) (m : SMap α) (k : Nat) : α := (look m k).getD d

/-- List a value under a key, keeping the keys rising. -/
def ins : SMap α → Nat → α → SMap α
  | [], x, w => [(x, w)]
  | (k, v) :: r, x, w => if x < k then (x, w) :: (k, v) :: r else if x = k then (x, w) :: r else (k, v) :: ins r x w

/-- Remove a key. -/
def del : SMap α → Nat → SMap α
  | [], _ => []
  | (k, v) :: r, x => if x = k then del r x else (k, v) :: del r x

/-- Write a value where an unlisted key reads as `d`: writing `d` removes the entry. -/
def put [DecidableEq α] (d : α) (m : SMap α) (k : Nat) (v : α) : SMap α := if v = d then del m k else ins m k v

/-- Change the value of a key, `d` where it is not listed. -/
def upd (d : α) (m : SMap α) (k : Nat) (f : α → α) : SMap α := ins m k (f (val d m k))

/-- Change every listed value. -/
def mapVals (f : Nat → α → α) : SMap α → SMap α
  | [] => []
  | (k, v) :: r => (k, f k v) :: mapVals f r

/-- Keys rise strictly from `lo`. -/
def risingFrom (lo : Nat) : SMap α → Bool
  | [] => true
  | (k, _) :: r => decide (lo ≤ k) && risingFrom (k + 1) r

/-- The canonical form: keys rise strictly and no entry equals the default. -/
def canon [DecidableEq α] (d : α) (m : SMap α) : Bool := risingFrom 0 m && m.all (fun p => decide (p.2 ≠ d))

end Sys2Proof.SMap
end

