-- ==== Sys2Proof/Machine/State.lean ====
section
/-! DEFINITION. Everything the manual gives the module to hold, as plain data. Each unit has a structure whose field
defaults are its values after package reset (R13, R381: a package reset clears every state of the package), so a unit that
is reset is simply the structure's default. Indices follow R209 and R503: logical core q = 8 n + core (0 to 63), physical
core k = 9 n + index (0 to 71), cluster n, die d, port p, context identifier c. -/

namespace Sys2Proof.Machine

/-- Reasons a step could stop. No meaning of this block raises one: every command of the table has an effect, or none. -/
inductive Fault where
  /-- Reserved for a machine check of the model itself; raised by no meaning. Safe: stopping proves nothing false. -/
  | machineCheck
deriving DecidableEq, Repr

/-- Reasons a command could be refused. -/
inductive Refusal where
  /-- A command whose meaning is not written; stands only in a refused arm of exec. Safe: nothing runs. -/
  | notModelled (mnemonic : String)
deriving DecidableEq, Repr

/-! ## Clocks and fabric time -/

/-- State of the fabric-time unit (R38). -/
inductive TimeState where
  | free
  | acquire
  | locked
  | holdover
deriving DecidableEq, Repr

/-- What one link end remembers of fireflies (R35, R36). -/
structure FfLink where
  /-- R35, 32 bits: sequence number of the next firefly sent on this link direction. -/
  seqTx : Nat := 0
  /-- R35: instant (module clock, ns) at which the last one was sent, if any. -/
  sentAt : Option Nat := none
  /-- R35: the last firefly received, if any. -/
  last : Option FireflyMsg := none
  /-- R35, R36, 64 bits: own fabric time at which it arrived. -/
  rxAt : Nat := 0
  /-- R36, signed: fixed asymmetry of the link in ns, measured when it was trained. -/
  asym : Int := 0
  /-- R39, R40: instant (module clock, ns) at which it was received. -/
  heard : Nat := 0
  /-- R487: instant (module clock, ns) at which the last one with STRATUM below 15 was received, if any. -/
  rootedAt : Option Nat := none
deriving DecidableEq, Repr

/-- The fabric-time unit (R31 to R41, R507). -/
structure FabTime where
  /-- R31, 64 bits: fabric time in ns. -/
  count : Nat := 0
  /-- R32, 16 bits: fraction of a nanosecond below the count. -/
  frac : Nat := 0
  /-- R32, signed: rate word, units of 2^-16 ns added per time-clock tick. -/
  rate : Int := 0
  /-- R38, 2 bits: FREE, ACQUIRE, LOCKED or HOLDOVER. -/
  state : TimeState := .free
  /-- R37, R507, 4 bits: own stratum. -/
  stratum : Nat := 15
  /-- R507, 14 bits: followed time root. -/
  rootId : Nat := 0
  /-- R35, R507, 8 bits: followed root epoch. -/
  rootEpoch : Nat := 0
  /-- R507, 5 bits: port of the parent, 31 for none. -/
  parentPort : Nat := 31
  /-- R36, R507, signed 16 bits: last measured offset in ns. -/
  theta : Int := 0
  /-- R38: in ACQUIRE, whether the counter has been set to the parent's time. -/
  acquired : Bool := false
  /-- R38: consecutive offsets within 4 ns. -/
  goodRun : Nat := 0
  /-- R38: module clock when a usable parent was last heard. -/
  usableAt : Nat := 0
  /-- R39: module clock when HOLDOVER was entered. -/
  holdSince : Nat := 0
  /-- R39: whether a firefly with a higher root epoch has arrived since HOLDOVER was entered. -/
  newEpoch : Bool := false
  /-- R34, signed: management's rate offset in ppm at the time root. -/
  steerPpm : Int := 0
  /-- R34, signed: what the rate offset has left over, in units of 2^-16 ns / 1,000,000. -/
  steerAcc : Int := 0
  /-- R35: the firefly state of each port. -/
  links : SMap FfLink := []
  /-- R40: module clock when the backup root last heard the time root. -/
  rootHeard : Nat := 0
deriving DecidableEq, Repr

/-- A pending entry of the scheduled-action table (R42, R43) with the ring its firing is reported on (none: MCTP, R496). -/
structure SchedSlot where
  entry : SchedEntry
  ring : Option Nat
  /-- R48: module clock of the first cycle in which the entry was due, while it is. -/
  dueAt : Option Nat := none
deriving DecidableEq, Repr

/-- A table swap in progress (R312): entry's INSTANT, window W, the named table and the stage reached (0 to 2). -/
structure SwapWindow where
  instant : Nat
  window : Nat
  table : Nat
  stage : Nat
deriving DecidableEq, Repr

/-! ## Stream descriptors, arrays and vector engines -/

/-- A stream descriptor as read from the descriptor table (R125); resv is nonzero when a reserved field is. -/
structure StreamDesc where
  base : Nat := 0
  format : Nat := 0
  kind : Nat := 0
  inner : Nat := 0
  rows : Nat := 0
  stride : Nat := 0
  tensor : Nat := 0
  scale : Nat := 0
  resv : Nat := 0
deriving DecidableEq, Repr

/-- The checksum cells of a tile (R74, R77): residues of the sums in the exact format classes, FP32 codes for bf16 and FP16. -/
structure Checksums where
  /-- c_i of checksum column cell i; in the 4-bit formats one for each of the 256 rows. -/
  cols : List Nat := []
  /-- r_j of checksum row cell j; in the 4-bit formats the even sum and the odd sum of each column in turn. -/
  rows : List Nat := []
  /-- R77: the a_i of the checksum column and of the checksum row, as FP32 codes. -/
  colMags : List Nat := []
  rowMags : List Nat := []
  /-- g of the corner cell, as a residue. -/
  corner : Nat := 0
deriving DecidableEq, Repr

/-- A weight tile as the weight registers hold it (R60): the context that loaded it (0xFF for none), its descriptor, its element
bytes row by row, its scale bytes, the elements (256 row + column) that an uncorrectable word left bad (R217), and the checksum cells;
`finite` is false when a weight or a scale is NaN or infinite (R78). The default is what the registers hold after reset: zeros. -/
structure Tile where
  ctx : Nat := 255
  desc : StreamDesc := {}
  /-- R80: TILE of the pass that loaded it. -/
  index : Nat := 0
  data : Bytes := []
  scales : Bytes := []
  bad : List Nat := []
  sums : Checksums := {}
  finite : Bool := true
deriving DecidableEq, Repr

/-- A pass held by the array (R63). -/
structure PassOp where
  ctx : Nat
  slot : Nat
  stream : Nat
  /-- R256: its place in the stream's issue order. -/
  serial : Nat := 0
  pc : Nat
  word : PassWord
  tile : Tile
  x : StreamDesc
  o : StreamDesc
  m : Nat
  half : Bool
  /-- R60, R220, R499: how far the load of its weights has come, in eighths of a cycle. -/
  loaded : Nat := 0
  /-- R61: cycle at which its first vector entered. -/
  fed : Option Nat
deriving DecidableEq, Repr

/-- What belongs to a logical core's array (R60 to R64, R108): it moves with the logical core at a swap (R86). -/
structure ArrayCore where
  /-- R63, R67: the passes that have not completed, oldest first: those that drain, the pass in progress and one next pass. -/
  passes : List PassOp := []
  /-- R60, R61: the active weight registers of the data and checksum cells. -/
  active : Tile := {}
  /-- R60: the shadow weight registers, as the last weight load filled them. -/
  shadow : Tile := {}
  /-- R62: cycle at which the last vector of the previous pass entered, its reading and its issue interval. -/
  lastEnter : Option (Nat × Bool × Nat) := none
  /-- R64, 128 lanes of 1,024 entries of 32 bits, keyed 1,024 lane + entry: drain totals. -/
  acc : SMap W32 := []
  /-- R118, same keys: totals that carry the saturation of R107. -/
  accSat : SMap Bool := []
  /-- R217, same keys: integer totals that depend on a bad access. -/
  accBad : SMap Bool := []
  /-- R108, keyed by a tile's first entry: the tile's saturation flag. -/
  tileSat : SMap Bool := []
  /-- R108, keyed by a tile's first entry: the tile's window-loss flag. -/
  tileLoss : SMap Bool := []
  /-- R370: a CHECKSUM_FLIP drill waits for the next checked vector. -/
  flipArmed : Bool := false
deriving DecidableEq, Repr

/-- What belongs to a physical core's array (R73, R84, R88, R505). -/
structure ArrayPhys where
  /-- R505, 48 bits each, keyed 0 to 6: passes, checked vectors, skipped checks, mismatches, stall-origin cycles, dummy
  cycles, window-loss chunks. -/
  counters : SMap Nat := []
  /-- R73, 7 bits: the array level L. -/
  level : Nat := 0
  /-- R73: 0 steady, 1 ramping up, 2 ramping down. -/
  ramp : Nat := 0
  /-- R73: cycle of the last level step, or at which the ramp started. -/
  rampAt : Nat := 0
  /-- R73: consecutive gap cycles that have passed, counted up to 2,048. -/
  gapRun : Nat := 0
  /-- R84: fabric time, context, tile and step of each class 0x10 error raised here, newest first. -/
  err10 : List (Nat × Nat × Nat × Nat) := []
deriving DecidableEq, Repr

/-- A vector operation in the engine's issue queue (R159), with the descriptors read at issue (R127). -/
structure VecOp where
  ctx : Nat
  slot : Nat
  stream : Nat
  /-- R256: its place in the stream's issue order. -/
  serial : Nat := 0
  pc : Nat
  code : Nat
  word : VecWord
  a : Option StreamDesc
  b : Option StreamDesc
  ce : Option StreamDesc
  m : Option StreamDesc
  d : Option StreamDesc
  n : Nat
  /-- R146, R499: cycle at which the engine started it; none while it waits for those before it or for a window. -/
  started : Option Nat := none
  /-- R160: a later instruction has written the counter, so the count of a compress no longer reaches it. -/
  ctrDead : Bool := false
  /-- R150: a descriptor was read from a corrupted word, so every result depends on it. -/
  tainted : Bool := false
deriving DecidableEq, Repr

/-- Register mode of a physical core's vector engine (R151 to R155, R516). -/
structure RmCore where
  /-- R516: MODE. -/
  mode : Bool := false
  /-- R516, 24 bits: LIMIT in µs. -/
  limit : Nat := 300000
  /-- R516: FAIL. -/
  fail : Bool := false
  /-- R516: HALTED. -/
  halted : Bool := false
  /-- R516, 64 bits: SEED. -/
  seed : W64 := 0
  /-- R516, 48 bits: window base, a multiple of 1,024. -/
  win : Nat := 0
  /-- R516, 64 bits: digest reported at the last HALT. -/
  digest : W64 := 0
  /-- R151, 64 bits: the digest accumulator. -/
  acc : W64 := 0
  /-- R153: program counter, a word index. -/
  pc : Nat := 0
  /-- R151, 32 registers of 256 lanes of 32 bits. -/
  regs : SMap (List W32) := []
  /-- R151, 2,048 words of 64 bits: the program memory; words past those listed are zero. -/
  program : List W64 := []
  /-- R153: LDGEN instructions run since the program start. -/
  gens : Nat := 0
  /-- R153: first word, length and repeats left of the loop being run. -/
  loop : Option (Nat × Nat × Nat) := none
  /-- R153: module clock at the program start. -/
  started : Nat := 0
  /-- R153: whether a program is running. -/
  running : Bool := false
  /-- R155: the model's count of free values drawn when the mode was last entered: what the registers then hold is open. -/
  draw : Nat := 0
  /-- R151, R222: bytes of the core's scratchpad while it has no active role, keyed by offset. -/
  spad : SMap Byte := []
deriving DecidableEq, Repr

/-! ## Contexts and streams -/

/-- Run state of a stream (R158, R171). -/
inductive RunState where
  | running
  | atStepEnd
  | ended
  | stopped
deriving DecidableEq, Repr

/-- A pending flag wait (R168): whether it consumes, first flag, count, deadline in µs of residency, residency used before
the present stay (ns of fabric time). -/
structure WaitState where
  consume : Bool
  flag : Nat
  count : Nat
  timeout : Nat
  used : Nat
  since : Nat
deriving DecidableEq, Repr

/-- One instruction stream of a context on a core (R158, R170, R171). -/
structure StreamState where
  /-- R156: whether its entry-table entry is nonzero. -/
  present : Bool := false
  /-- R158: program counter, a word index. -/
  pc : Nat := 0
  /-- R158: step-open address. -/
  stepOpen : Nat := 0
  /-- R170, 8 bits: sticky status word. -/
  status : BitVec 8 := 0
  /-- R158: run state. -/
  run : RunState := .running
  /-- R171: whether it ended during the current attempt. -/
  endedNow : Bool := false
  /-- R168: the wait it is blocked on. -/
  wait : Option WaitState := none
  /-- R159: operations issued and not completed. -/
  inflight : Nat := 0
  /-- R160: counters that an earlier operation has still to write. -/
  ctrBusy : List Nat := []
  /-- R256: operations issued so far, which number them in issue order. -/
  serial : Nat := 0
deriving DecidableEq, Repr

/-- What a core's sequencer remembers of its issue slots (R161): the module clock of the last issue, the streams (4 slot + stream code)
that have issued at it, and the last one that issued. -/
structure IssueRec where
  at' : Nat := 0
  streams : List Nat := []
  last : Nat := 15
deriving DecidableEq, Repr

/-- Where a context stands on one core (R172). -/
inductive Residency where
  | waiting
  | resident
  | leaving
  | entering
  | faulted
  | ended
deriving DecidableEq, Repr

/-- A context on one core (R156, R158, R172 to R177). -/
structure CoreCtx where
  /-- R172: state on this core. -/
  state : Residency := .waiting
  /-- R172: slot, when it has one. -/
  slot : Option Nat := none
  /-- R174: fabric time at which it entered its slot. -/
  enteredAt : Nat := 0
  /-- R174: fabric time at which it began to wait. -/
  waitingSince : Nat := 0
  /-- R174: quanta for which it was passed over because it was not eligible. -/
  passedOver : Nat := 0
  /-- R173: due to leave at its next instruction boundary. -/
  due : Bool := false
  /-- R173: fabric time at which one of its streams yielded, while it is due for that. -/
  yielded : Option Nat := none
  /-- R173, R514: fabric time at which its present quantum began. -/
  quantumAt : Nat := 0
  /-- R173: its quantum has expired, and no context has left for that yet. -/
  expired : Bool := false
  /-- R174: the contexts whose accumulator ranges meet its own are being switched out for it. -/
  clearing : Bool := false
  /-- R158, R157: its streams, keyed by stream code. -/
  streams : SMap StreamState := []
  /-- R158, 16 counters of 32 bits. -/
  counters : SMap W32 := []
  /-- R158, 16 step-open copies of 32 bits. -/
  copies : SMap W32 := []
  /-- R165: descriptor of the tile last loaded with NEWW 1. -/
  tile : Option StreamDesc := none
  /-- R80: TILE of the pass that loaded it. -/
  tileIndex : Nat := 0
  /-- R163, R255: entered FAULTED by a fault of its program here. -/
  programFault : Bool := false
  /-- R178: vote results to apply on re-entry, the earliest first (1 commit, 2 replay, 3 stop). -/
  held : List Nat := []
  /-- R176: it has been switched out, so its part of the save area holds its state. -/
  saved : Bool := false
  /-- R514: the quantum in µs that governs its present stay. -/
  quantum : Nat := 250
  /-- R118, R217, keyed as ArrayCore.acc: the saturation and bad marks of its totals while it is switched out. -/
  savedSat : SMap Bool := []
  savedBad : SMap Bool := []
  /-- R108: the flags of its tiles while it is switched out. -/
  savedTileSat : SMap Bool := []
  savedTileLoss : SMap Bool := []
deriving DecidableEq, Repr

/-- A context's part in the step protocol (R326 to R343, R391 to R393). -/
structure StepState where
  /-- R327: the accepted set-up. -/
  setup : Option StepSetupBody := none
  /-- R326, 64 bits: step number. -/
  step : Nat := 0
  /-- R327: whether a step is open. -/
  isOpen : Bool := false
  /-- R537: whether it has opened a step since it was defined. -/
  everOpened : Bool := false
  /-- R331: whether the open step is the job's first. -/
  first : Bool := false
  /-- R338: fabric time at which the current attempt opened. -/
  openedAt : Nat := 0
  /-- R333, 32 bits: FAIL bits of the current attempt. -/
  fail : W32 := 0
  /-- R333, 32 bits: FAIL bits recorded after the verdict was contributed. -/
  failNext : W32 := 0
  /-- R331: fabric time at which the boundary was reached. -/
  boundary : Option Nat := none
  /-- R331, 64 bits: loss checksum read at the boundary. -/
  loss : W64 := 0
  /-- R331, 32 bits: census summary, NONFINITE. -/
  nonfinite : Nat := 0
  /-- R331, 32 bits: census summary, SATURATED. -/
  saturated : Nat := 0
  /-- R451: the boundary's configuration digest, computed as the state stood then. -/
  digest : W64 := 0
  /-- R451: the digest has been returned, or the module has given it up. -/
  digestDone : Bool := false
  /-- R331, R348: the wait for the confirmation record has ended. -/
  confirmDone : Bool := false
  /-- R331: fabric time at which that wait began. -/
  confirmFrom : Option Nat := none
  /-- R334: children's VOTE_UP held, keyed by port. -/
  votes : SMap VoteUpMsg := []
  /-- R331: the verdict has been contributed. -/
  contributed : Bool := false
  /-- R339, R427: the context has stopped; the ledger entries that the Kelhexo keeps (R329) are released, and no attempt opens again. -/
  released : Bool := false
  /-- R339: last decided result, its step and Tv. -/
  last : Option (Nat × Nat × Nat) := none
  /-- R335: failed votes of the current step, at the root. -/
  failures : Nat := 0
  /-- R342: end of the replay hold. -/
  holdUntil : Option Nat := none
  /-- R393: PENDING. -/
  pending : Bool := false
  /-- R391: FAULTED by an abort. -/
  aborted : Bool := false
  /-- R392: cause, origin, origin's generation and attempt step of the abort applied. -/
  abortInfo : Nat × Nat × Nat × Nat := (0, 0, 0, 0)
  /-- R392: QUIESCED has still to be posted. -/
  quiesceDue : Bool := false
  /-- R204, R234: aborted or faulted, so its descriptors finish ABORTED until it is deleted. -/
  dead : Bool := false
deriving DecidableEq, Repr

/-- A region table entry (R410). -/
structure Region where
  even : Nat
  odd : Nat
  kind : Nat
  length : Nat
deriving DecidableEq, Repr

/-- An accepted checkpoint block (R408, R409) with the region tables copied with it. -/
structure CkptBlock where
  jobDigest : BitVec 512
  shard : Nat
  shards : Nat
  replica : Nat
  replicas : Nat
  root : Bool
  regions : List Region
  snapRegions : List Region
  fact : Nat
  fcore : Nat
  flag : Nat
  notice : Nat
  manifest : Nat
  hostSlot0 : Nat
  hostSlot1 : Nat
  hostCap : Nat
  snapHost : Nat
  snapCap : Nat
deriving DecidableEq, Repr

/-- A defined context (R156). -/
structure Ctx where
  fields : CtxFields
  /-- R175: pinned, when fewer than three others are on each of its cores. -/
  pinned : Bool := false
  /-- R466: the ring its CTX_DEFINE came on. -/
  ring : Nat := 0
  /-- R172: number of the definition, in order. -/
  order : Nat := 0
  /-- R361: runs redundant. -/
  redundant : Bool := false
  /-- R172: its state on each core of CORES. -/
  cores : SMap CoreCtx := []
  /-- R326: its part in the step protocol. -/
  step : StepState := {}
  /-- R408: its accepted checkpoint block. -/
  ckpt : Option CkptBlock := none
  /-- R422: UNRESTORED. -/
  unrestored : Bool := false
  /-- R447, 256 bits: its job key. -/
  jobKey : Option (BitVec 256) := none
  /-- R178: its deletion is in progress, for this ring and submission count. -/
  deleting : Option DescHead := none
  /-- R172: its context-ended entry has been posted. -/
  endPosted : Bool := false
deriving DecidableEq, Repr

/-! ## Memory, the Churn, the Press, the Hive and flags -/

/-- A DRAM channel (R216, R218, R512). -/
structure Channel where
  /-- R512, 32 bits: corrected accesses. -/
  ce : Nat := 0
  /-- R216: minute of fabric time in which its last class 0x01 record was written. -/
  minute : Option Nat := none
  /-- R218: fabric times of recent uncorrectable accesses. -/
  ue : List Nat := []
  /-- R370: a DRAM_CE drill waits for the next read. -/
  drill : Bool := false
deriving DecidableEq, Repr

/-- A stack's temperature control (R220, R221, R512). -/
structure StackTherm where
  /-- R220, units of 0.125 °C: throttle threshold in force. -/
  tth : Nat := 760
  /-- R220: throttle level, 0 to 4. -/
  level : Nat := 0
  /-- R221: an excursion is in progress. -/
  hot : Bool := false
  /-- R369: fabric time since which the stack has been at or above 105 °C. -/
  hotAt : Option Nat := none
  /-- R220: last temperature, units of 0.125 °C. -/
  temp : Int := 0
  /-- R220: a threshold out of range has been recorded in this bring-up. -/
  replaced : Bool := false
deriving DecidableEq, Repr

/-- The memory system (R209 to R224, R286 to R290). -/
structure Memory where
  /-- R209, R213, R222, R223: bytes of DRAM, pantry and scratchpad, keyed by local address; unlisted bytes are zero. -/
  cells : SMap Byte := []
  /-- R215, R217, keyed by address / 64: accesses with POISON set. -/
  poison : SMap Bool := []
  /-- R215, R230, keyed by address / 64: accesses with PRESS set. -/
  press : SMap Bool := []
  /-- R288, keyed by address / 512: blocks whose stored check value is the complement of their CRC. -/
  badCheck : SMap Bool := []
  /-- R224, R150, keyed by address / 8: SRAM words that hold an uncorrectable error. -/
  badWord : SMap Bool := []
  /-- R505, 32 bits: MEM_UNMAPPED. -/
  unmapped : Nat := 0
  /-- R512, 8 bits: scrub PERIOD in hours. -/
  scrubPeriod : Nat := 24
  /-- R512: channels, keyed 32 stack + channel. -/
  channels : SMap Channel := []
  /-- R220: stacks. -/
  stackTherm : SMap StackTherm := []
  /-- R505, 32 bits each: on-die corrections of each stack. -/
  ondie : SMap Nat := []
  /-- R224: corrected words of each scratchpad, keyed by logical core. -/
  spadCe : SMap Nat := []
  /-- R224: corrected words of each pantry, keyed by cluster. -/
  pantryCe : SMap Nat := []
  /-- R370, keyed by logical core: a CHECK_FLIP drill waits for the next block the vector engine writes. -/
  flipCheck : SMap Bool := []
deriving DecidableEq, Repr

/-- An update descriptor (R184). -/
structure ChurnDesc where
  seq : Nat
  opt : Nat
  flags : Nat
  gfmt : Nat
  sfmt : Nat
  wfmt : Nat
  dacc : Nat
  step : Nat
  tensor : Nat
  first : Nat
  count : Nat
  inner : Nat
  ctx : Nat
  fact : Nat
  fcore : Nat
  flag : Nat
  g : Nat
  wIn : Nat
  wOut : Nat
  s1In : Nat
  s1Out : Nat
  s2In : Nat
  s2Out : Nat
  o : Nat
  os : Nat
  hp : Nat
  report : Nat
  expect : W64
  resv : Nat
deriving DecidableEq, Repr

/-- One element of a running update descriptor: its writes (address and bytes), whether a result was limited, whether it
counts as non-finite, and what it adds to the digest (R201, R205). -/
structure ChurnElem where
  writes : List (Nat × Bytes)
  sat : Bool
  nonfinite : Bool
  mix : W64
deriving DecidableEq, Repr

/-- A running update descriptor: its results, to be written when it finishes (R183, R202). -/
structure ChurnRun where
  ring : Nat
  desc : ChurnDesc
  elems : List ChurnElem
  /-- R194: the statistics written after the last element, and what they add to the digest. -/
  extra : List (Nat × Bytes)
  extraMix : W64
  /-- R201: STATUS bits 0 to 4 and 7. -/
  status : Nat
  /-- R201: a limited result that belongs to no element. -/
  satOther : Bool
  sumsq : W32
  /-- R206: the accumulator OPT 6 read. -/
  digest : W64
  /-- R499: cycles since its start in which the Churn's window was open. -/
  ran : Nat := 0
  /-- R199, R220, R499: eighths of a cycle since its start in which DRAM could serve it. -/
  served : Nat := 0
  /-- R204: the free value that fixes after how many groups of 32 elements an abort stopped it. -/
  stop : Option Nat
deriving DecidableEq, Repr

/-- A Churn (R180 to R183). -/
structure Churn where
  /-- R180, 16 rings of 64 slots of 128 bytes, keyed 64 ring + slot. -/
  slots : SMap Bytes := []
  /-- R182, 32 bits each: NEXT of each ring. -/
  next : SMap Nat := []
  /-- R182: the ring that last ran. -/
  lastRing : Nat := 15
  /-- R183: the descriptor that is running. -/
  run : Option ChurnRun := none
deriving DecidableEq, Repr

/-- A Press descriptor (R227). -/
structure PressDesc where
  seq : Nat
  op : Nat
  mode : Nat
  sfmt : Nat
  tgt : Nat
  frames : Nat
  tensor : Nat
  plain : Nat
  rank : Nat
  image : Nat
  cap : Nat
  report : Nat
  ctx : Nat
  fact : Nat
  fcore : Nat
  flag : Nat
  osel : Nat
  resv : Nat
deriving DecidableEq, Repr

/-- One frame of a running Press descriptor (R229, R230): the bytes it gives (encoded for a PACK, plain for an UNPACK),
whether it is stored RAW, and its blocks with scale 0xFF. -/
structure PressFrame where
  data : Bytes
  raw : Bool
  nonfinite : Nat
deriving DecidableEq, Repr

/-- A running Press descriptor (R226, R233, R235): the frames it has carried out, to be written when it finishes, and its
traffic with a memory peer. -/
structure PressRun where
  ring : Nat
  desc : PressDesc
  frames : List PressFrame
  /-- R233: STATUS bits 0 to 5. -/
  status : Nat
  /-- R230: image length in bytes. -/
  imageBytes : Nat
  /-- R235: writes to the memory peer that have not been issued: address and bytes. -/
  sends : List (Nat × Bytes)
  /-- R235: reads from the memory peer that have not been issued: image offset and length. -/
  gets : List (Nat × Nat)
  /-- R235: image bytes read from the memory peer, keyed by image offset. -/
  buf : SMap Byte
  /-- R235: 0 while the image's header and frame table are read from the memory peer, 1 afterwards. -/
  stage : Nat
  /-- R272: operations of this descriptor in flight. -/
  ops : Nat
  /-- R234: an access outside the module failed. -/
  failed : Bool
  /-- R234: the free value that fixes after how many frames an abort stopped it. -/
  stop : Option Nat
deriving DecidableEq, Repr

/-- A Press (R225, R226). -/
structure Press where
  /-- R225, 16 rings of 64 slots of 64 bytes, keyed 64 ring + slot. -/
  slots : SMap Bytes := []
  /-- R225, 32 bits each: expected sequence number of each ring. -/
  next : SMap Nat := []
  /-- R182, R226: the ring that last started. -/
  lastRing : Nat := 15
  /-- R226: the descriptors that are running, at most four. -/
  runs : List PressRun := []
deriving DecidableEq, Repr

/-- One cell of a Hive queue (R238, R240): its number in the pool, its 64 bytes, its check-value nibble and its place in
the block it arrived in, with the number of cells of that block. -/
structure Cell where
  idx : Nat
  data : Bytes
  nibble : Nat
  pos : Nat
  size : Nat
deriving DecidableEq, Repr

/-- A queue record with its cells (R244, R245). -/
structure Queue where
  /-- R245, 32 bits: HEAD. -/
  head : Nat := 0
  /-- R245, 32 bits: MARK. -/
  mark : Nat := 0
  /-- R245, 32 bits: CUR. -/
  cur : Nat := 0
  /-- R245, 32 bits: TAIL. -/
  tail : Nat := 0
  /-- R245, 16 bits: CAP. -/
  cap : Nat := 0
  /-- R245, 8 bits: MODE. -/
  mode : Nat := 0
  /-- R245, 8 bits: OWNER. -/
  owner : Nat := 255
  /-- R245, 32 bits: STAIL. -/
  stail : Nat := 0
  /-- R244: the held cells, HEAD to TAIL - 1, oldest first. -/
  held : List Cell := []
  /-- R248: pending cells, keyed by their distance from TAIL (PEND). -/
  pend : SMap Cell := []
deriving DecidableEq, Repr

/-- A Hive pool (R238, R242). -/
structure Hive where
  /-- R242: HIVE_FREE. -/
  free : Nat := 65536
  /-- R242: HIVE_LOWFREE. -/
  lowFree : Nat := 65536
  /-- R242, 32 bits: HIVE_CE. -/
  ce : Nat := 0
  /-- R242, 32 bits: HIVE_REFUSED. -/
  refused : Nat := 0
  /-- R242, 32 bits: HIVE_EMPTY. -/
  empty : Nat := 0
  /-- R238: the 2,048 queues. -/
  queues : SMap Queue := []
  /-- R241: the stored bytes of each cell, in a queue or not. -/
  view : SMap Bytes := []
deriving DecidableEq, Repr

/-- A party named by a flag trace (R262). -/
structure Party where
  module : Nat := 0
  core : Nat := 0
  ctx : Nat := 255
  /-- Stream code in bits [1:0], source kind in bits [4:2]. -/
  src : Nat := 0
deriving DecidableEq, Repr

/-- Attributes of a flag (R252). -/
structure FlagAttr where
  stepped : Bool := false
  policy : Bool := false
  owner : Nat := 255
deriving DecidableEq, Repr

/-- A flag's trace (R262). -/
structure FlagTrace where
  sig : Option Party := none
  sigTime : Nat := 0
  clr : Option Party := none
  clrTime : Nat := 0
  ovr : Nat := 0
deriving DecidableEq, Repr

/-- An operation that a router stop holds for a core under a swap (R85): a flag action with its acting party, or a request packet
whose bytes the core's memories take or give, with what the codes report as it is served. -/
inductive StopOp where
  | act (flag fact : Nat) (party : Party)
  | pkt (p : Pkt) (hits : List CodeHit)
deriving DecidableEq, Repr

/-- The flag stores (R252 to R262), keyed 8,192 q + f unless stated. -/
structure Flags where
  /-- R252: values. -/
  vals : SMap Bool := []
  /-- R252: attributes. -/
  attrs : SMap FlagAttr := []
  /-- R262: traces. -/
  traces : SMap FlagTrace := []
  /-- R259: step-open copies. -/
  copies : SMap Bool := []
  /-- R261, 48 bits, keyed by logical core: FLG_OVR_COUNT. -/
  ovrCount : SMap Nat := []
  /-- R261, 13 bits, keyed by logical core: FLG_TRACE_SEL. -/
  traceSel : SMap Nat := []
  /-- R53: flags on which a wait has timed out and that have taken no action since. -/
  late : SMap Bool := []
  /-- R85, R281: what the router stops hold for cores under a swap: logical core and operation, oldest first. -/
  held : List (Nat × StopOp) := []
  /-- R258: attributes written in this cycle, which take effect at its end. -/
  newAttrs : SMap FlagAttr := []
  /-- R256: module clock of the last SET, CLEAR or WAITC at issue, and the values that its cycle's actions of step 1 had left in the
  flags which the stream actions of that cycle touched. -/
  issueAt : Nat := 0
  issueOld : SMap Bool := []
deriving DecidableEq, Repr

/-! ## Remote operations -/

/-- A packet sent or to be sent on a pair, with its state at the source (R276). -/
structure Sent where
  pkt : Pkt
  flagged : Bool
  /-- R269: bytes of a read request still to be answered; 1 for any other packet. -/
  left : Nat := 1
  /-- R270: local address from which its payload is read as it is sent. -/
  source : Option Nat := none
  /-- R283: leaves that have answered a multicast packet. -/
  acked : List Nat := []
  /-- R276: answered BUSY, and at what module clock. -/
  busyAt : Option Nat := none
deriving DecidableEq, Repr

/-- A pair at its source (R275, R276), keyed by Ops.pairKey. -/
structure Pair where
  /-- R276, 32 bits: SEQ of the next packet. -/
  next : Nat := 0
  /-- R277, 32 bits: SEQ of the previous flagged packet (2^32 - 1 before the first). -/
  lastFlag : Nat := 4294967295
  /-- R276: packets sent and not acknowledged, lowest SEQ first. -/
  window : List Sent := []
  /-- R276: packets that wait for the window; they take their SEQ as they are sent. -/
  waiting : List Sent := []
  /-- R342: packets that the rule treats as acknowledged and whose answers their operations still await. -/
  past : List Sent := []
deriving DecidableEq, Repr

/-- A remote operation in flight (R272). -/
structure RemoteOp where
  ctx : Nat
  core : Nat
  stream : Nat
  slot : Nat
  /-- R256: its place in the stream's issue order. -/
  serial : Nat := 0
  /-- R363: a redundant pair's fault in the flag action of its completion. -/
  pair : Option PairFault := none
  pc : Nat
  rop : Nat
  fact : Nat
  flag : Nat
  rank : Nat
  /-- R263: the destination modules (the leaves, for an MPUT). -/
  dests : List Nat
  /-- R275: the pair its packets travel on. -/
  key : Nat
  /-- R271: first status other than OK or BUSY. -/
  status : Nat
  /-- R269: runs of a GET: remote address, local address, length. -/
  runs : List (Nat × Nat × Nat)
  /-- R181: bytes of its local data. -/
  size : Nat
  deadline : Nat
  /-- R283: leaves pruned so far. -/
  pruned : List Nat
  /-- R271: a class 0x31 error has been raised. -/
  fencedRaised : Bool
deriving DecidableEq, Repr

/-- A flag action held by the tracker (R278). -/
structure Held where
  seq : Nat
  pkt : Pkt
  deadline : Nat
  status : Nat
deriving DecidableEq, Repr

/-- An ordering-tracker record (R278), keyed by Ops.trackKey. -/
structure Track where
  next : Nat
  drop : Nat
  /-- SEQ values that have arrived, at or above NEXT. -/
  arrived : List Nat
  /-- Held flag actions, lowest SEQ first. -/
  held : List Held
  /-- R280: module clock of its last use. -/
  used : Nat
deriving DecidableEq, Repr

/-- Remote operations and ordering (R263 to R284, R505, R509, R510). -/
structure Remote where
  /-- R510, 27 bits: REM_OP_TIMEOUT in µs. -/
  opTimeout : Nat := 500
  /-- R510, 24 bits: REM_ORD_TIMEOUT in µs. -/
  ordTimeout : Nat := 100
  /-- R505, 32 bits: REM_REFUSED. -/
  refused : Nat := 0
  /-- R505, 32 bits: REM_BAD_HDR. -/
  badHdr : Nat := 0
  /-- R505, 32 bits: REM_DUP. -/
  dup : Nat := 0
  /-- R505, 32 bits: REM_LATE_DROP. -/
  lateDrop : Nat := 0
  /-- R505, 32 bits: REM_LATE_ARR. -/
  lateArr : Nat := 0
  /-- R264, 256 registers: COUNT in bits [30:16], BASE in bits [13:0]. -/
  win : SMap W64 := []
  /-- R264, 16,384 registers: VALID bit 15, MODULE bits [13:0]. -/
  map : SMap W64 := []
  /-- R509, keyed 128 g + word: REM_MCAST words. -/
  mcast : SMap W64 := []
  /-- R272: operations in flight, keyed by tag. -/
  ops : SMap RemoteOp := []
  /-- R272: number of tags handed out, modulo 65,536. -/
  nextTag : Nat := 0
  /-- R275: pairs at this source. -/
  pairs : SMap Pair := []
  /-- R278: tracker records. -/
  tracks : SMap Track := []
  /-- R384, 8 bits each: the peer generation table (listed entries are valid). -/
  peerGen : SMap Nat := []
  /-- R342: steps whose packets are dropped: context, step tag, until. -/
  stale : List (Nat × Nat × Nat) := []
  /-- R428: contexts reclaimed and not defined again. -/
  reclaimed : SMap Bool := []
  /-- R394: probes in flight: module, and when the outcome is decided, with the answer if one came. -/
  probes : List (Nat × Nat × Option Nat) := []
deriving DecidableEq, Repr

/-! ## The fabric -/

/-- A frame kept for resending (R298). -/
structure Frame where
  counter : Nat
  epoch : Nat
  retryReq : Bool
  ack : Nat
  credits : List (Nat × Nat)
  flits : List Flit
  /-- R371: TAGs of the module's own requests whose header flit it carries. -/
  tags : List Nat := []
deriving DecidableEq, Repr

/-- The exchange for a pending REKEY entry on a port (R322): the entry's INSTANT and epoch, the encapsulation key sent, the keys
once agreed, and the fabric time of the initiator's next retry. -/
structure Rekey where
  instant : Nat
  epoch : Nat
  pub : Bytes
  keys : Option (List (BitVec 256 × W32))
  retryAt : Option Nat
deriving DecidableEq, Repr

/-- A flit that waits to leave on a port (R302, R303). -/
structure QueuedFlit where
  /-- R300: buffer at the far end. -/
  buf : Nat
  data : Bytes
  /-- R300: port and buffer of this module that it still occupies. -/
  origin : Option (Nat × Nat) := none
  /-- R309: number shared by the copies of one flit of a multicast packet. -/
  copy : Option Nat := none
  /-- R371: the header flit of a request of this module's own, by its TAG. -/
  tag : Option Nat := none
  /-- R35: a firefly, whose T_TX is the fabric time at which its frame leaves. -/
  firefly : Bool := false
deriving DecidableEq, Repr

/-- The previous epoch of a port, kept for a while after a rekey (R322): its keys, and until which fabric time. -/
structure Grace where
  epoch : Nat
  keys : List (BitVec 256 × W32)
  till : Nat
deriving DecidableEq, Repr

/-- A fabric port (R292, R294 to R303, R315 to R324). -/
structure Port where
  /-- R315, 4 bits: STATE code. -/
  state : Nat := 0
  /-- R324, 8 bits: CAUSE. -/
  cause : Nat := 0
  /-- R324, 8 bits: FLAPS. -/
  flaps : Nat := 0
  /-- R324, 14 bits: PEER. -/
  peer : Nat := 0
  /-- R324, 5 bits: PEER_PORT. -/
  peerPort : Nat := 0
  /-- R324, 8 bits: KEY_EPOCH. -/
  epoch : Nat := 0
  /-- R319: usable for routing, since a swap after it reached UP. -/
  usable : Bool := false
  /-- R318, R394: the neighbour sent a fence notice or announced the link down. -/
  warned : Bool := false
  /-- R315: module clock when it went DOWN. -/
  downAt : Nat := 0
  /-- R441: whether the peer's certificate chain has verified. -/
  chainOk : Bool := false
  /-- R316: module clock when KEYING began. -/
  keyingAt : Nat := 0
  /-- R320: bytes of the exchange so far (the transcript). -/
  transcript : Bytes := []
  /-- R321, 256 bits and 32 bits, for directions 0 and 1: key and salt. -/
  keys : List (BitVec 256 × W32) := []
  /-- R322: exchanges for pending REKEY entries. -/
  rekeys : List Rekey := []
  /-- R322: the previous epoch and its keys, while they are kept. -/
  grace : Option Grace := none
  /-- R319: fabric time at which it reached UP. -/
  upAt : Nat := 0
  /-- R323: fabric time at which the current epoch began. -/
  epochAt : Int := 0
  /-- R294, 64 bits: counter of the next frame sent. -/
  txCounter : Nat := 0
  /-- R298: counter of the next frame expected. -/
  rxCounter : Nat := 0
  /-- R322: epoch of the last good frame. -/
  rxEpoch : Nat := 0
  /-- R298: frames sent and not acknowledged. -/
  replay : List Frame := []
  /-- R298: waiting for a resend from this epoch and counter. -/
  rxRetry : Option (Nat × Nat) := none
  /-- R298: the next new frame sent carries RETRY_REQ. -/
  askRetry : Bool := false
  /-- R298: resending from this counter. -/
  txRetry : Option Nat := none
  /-- R298: module clock of recent bad frames. -/
  badAt : List Nat := []
  /-- R298: module clock of recent tag failures. -/
  tagFailAt : List Nat := []
  /-- R297: corrected symbols. -/
  corrected : Nat := 0
  /-- R300: credits held for each buffer 1 to 13, as flits used so far. -/
  used : SMap Nat := []
  /-- R300: flits held in each of the port's receive buffers 1 to 12. -/
  rxHeld : SMap Nat := []
  /-- R295, R300: credits owed to the sender: buffer and flits freed. -/
  owed : List (Nat × Nat) := []
  /-- R302: flits waiting to leave, in order. -/
  outq : List QueuedFlit := []
  /-- R303: channel of each of the last 64 slots (1 control, 2 transit, 0 other), newest first. -/
  slots64 : List Nat := []
  /-- R303: rotation among channels. -/
  rotate : Nat := 0
  /-- R370: a PACKET_DROP drill waits for the next request packet. -/
  dropArmed : Bool := false
deriving DecidableEq, Repr

/-- A route table bank (R308, R508). -/
structure Bank where
  /-- R508: VALID. -/
  valid : Bool := false
  /-- R508, 16 bits: TABLE_ID. -/
  table : Nat := 0
  /-- R508, 27 bits: PORT_EN. -/
  portEn : Nat := 0
  /-- R508, 27 entries of 5 bits: DETOUR. -/
  detour : SMap Nat := []
  /-- R508, 4,096 entries of 4 bits: DIRS. -/
  dirs : SMap Nat := []
  /-- R508, 4,096 entries: MCAST (LOCAL, OUT, LEAF). -/
  mcast : SMap W64 := []
deriving DecidableEq, Repr

/-- A packet a router holds blocked (R305): where it waits, its class and since when. -/
structure RouterHeld where
  pkt : Pkt
  inPort : Option Nat
  cls : RouteClass
  port : Nat
  since : Nat
deriving DecidableEq, Repr

/-- The link fabric of the module (R291 to R325). -/
structure Fabric where
  /-- R292: ports 0 to 26. -/
  ports : SMap Port := []
  /-- R508: banks 0 and 1. -/
  bank0 : Bank := {}
  bank1 : Bank := {}
  /-- R508: the active bank. -/
  activeBank : Nat := 0
  /-- R508, 16 bits: active TABLE_ID. -/
  activeTable : Nat := 0
  /-- R505, 32 bits: FAB_SWAP_DROP. -/
  swapDrop : Nat := 0
  /-- R312: the swap in progress. -/
  swap : Option SwapWindow := none
  /-- R312: request injection is stopped. -/
  reqStopped : Bool := false
  /-- R312: response injection is stopped. -/
  rspStopped : Bool := false
  /-- R305: packets a router holds. -/
  router : List RouterHeld := []
  /-- R305, R312: packets handed to the module's router that it has not yet taken. -/
  inject : List Pkt := []
  /-- R309: flits copied so far, for the number of the next. -/
  copies : Nat := 0
  /-- R441: digests of verified device chains kept. -/
  chains : List (BitVec 512) := []
  /-- R390: the ABORT seen table: sender, context, time, and when it was recorded. -/
  seen : List (Nat × Nat × Nat × Nat) := []
deriving DecidableEq, Repr

/-! ## Errors, health, tests and swaps -/

/-- An error record (R355); detail lists the 24 bytes 40 to 63. -/
structure ErrRec where
  cls : Nat := 0
  flags : Nat := 0
  unit : Nat := 0
  ctx : Nat := 255
  stream : Nat := 0
  op : Nat := 0
  addr : Nat := 0
  time : Nat := 0
  temp : Int := 0
  vcore : Nat := 0
  module : Nat := 0
  gen : Nat := 0
  effect : Nat := 0
  aux : Nat := 0
  step : Nat := 0
  detail : Bytes := []
  /-- R203, R206: the step that the raising rule itself names, in place of the context's. -/
  given : Option Nat := none
deriving DecidableEq, Repr

/-- The error log and the test masks held in the package (R359, R518, R519). -/
structure ErrLog where
  /-- R518, 64 bits: ERR_LOG_BASE. -/
  base : Nat := 0
  /-- R518, 21 bits: ERR_LOG_SIZE. -/
  size : Nat := 0
  /-- R518, 32 bits: ERR_LOG_HEAD. -/
  head : Nat := 0
  /-- R518, 32 bits: ERR_LOG_TAIL. -/
  tail : Nat := 0
  /-- R505, 32 bits: ERR_LOST. -/
  lost : Nat := 0
  /-- R359: records held on die, oldest first, at most 256. -/
  held : List ErrRec := []
  /-- R358: records detected in this cycle, which enter the log at its end, in ascending order of CLASS and then UNIT. -/
  fresh : List ErrRec := []
  /-- R359: the next record written carries OVERFLOW. -/
  overflow : Bool := false
  /-- R518: ENABLE of ERR_DRILL_CTL. -/
  drillEnable : Bool := false
  /-- R518, 32 bits: FIRED of ERR_DRILL_CTL. -/
  fired : Nat := 0
  /-- R519, 256 bits: ERR_RED_MASK. -/
  redMask : BitVec 256 := 0
  /-- R519, 256 bits: ERR_WEEVIL_HOLD. -/
  weevilHold : BitVec 256 := 0
  /-- R371: what a drill has touched, so that what follows carries DRILL: 0 and the TAG of an operation whose packet is lost, 1 and a
  512-byte block, 2 and a port while it leaves UP, 3 and the key of an ordering record with a fault, 4 and a port until it is UP again. -/
  drilled : List (Nat × Nat) := []
deriving DecidableEq, Repr

/-- A spare-core swap in progress in a cluster (R85, R86): logical index, the spare it moves to, the fabric time Tb at which
it began, and whether it is a rotation. -/
structure Swap where
  logical : Nat
  spare : Nat
  startedAt : Nat
  rotation : Bool
deriving DecidableEq, Repr

/-- A cluster's role map (R82, R88, R515), held by the Dexhorn controller across resets. -/
structure Role where
  /-- R515: physical index of each logical core 0 to 7. -/
  map : List Nat := [0, 1, 2, 3, 4, 5, 6, 7]
  /-- R515: physical index of the spare, 15 for none. -/
  spare : Nat := 8
  /-- R515: bit p marks physical core p failed. -/
  failed : Nat := 0
deriving DecidableEq, Repr

/-- Swaps, replacements and the Weevil, in the package (R83 to R87, R366, R520). -/
structure Weevil where
  /-- R86, keyed by cluster: the swap in progress. -/
  swaps : SMap Swap := []
  /-- R84, keyed by logical core: due for replacement. -/
  dueReplace : SMap Bool := []
  /-- R366, keyed by physical core: due for testing. -/
  due : SMap Bool := []
  /-- R367, keyed by physical core: a test is running. -/
  testing : SMap Bool := []
  /-- R367, keyed by physical core: module clock at which its running test began. -/
  testFrom : SMap Nat := []
  /-- R365, keyed by physical core: powered time at which its last test passed. -/
  passedAt : SMap Nat := []
  /-- R520: powered time of the last package reset, from which age counts until the bring-up self-test. -/
  since : Nat := 0
  /-- R178, keyed by logical core: a swap fell due at a boundary while a switch was in progress. -/
  afterSwitch : SMap Bool := []
  /-- R502, keyed by cluster: a swap that fell due outside the window of the governor's array share waits for it. -/
  afterWindow : SMap Bool := []
  /-- R373, keyed by physical core: hours of age beyond 5 already counted as events. -/
  overdue : SMap Nat := []
  /-- R514, 11 bits: WINDOW of ARR_SWAP_CTL in minutes. -/
  window : Nat := 60
  /-- R514, 4 bits: COUNT of ARR_SWAP_CTL. -/
  count : Nat := 2
deriving DecidableEq, Repr

/-- HEALTH_CTL and HEALTH_POOL (R377, R378). -/
structure HealthRegs where
  /-- R377, 10 bits. -/
  warn : Nat := 300
  /-- R377, 10 bits. -/
  prob : Nat := 500
  /-- R377, 10 bits. -/
  expel : Nat := 750
  /-- R377. -/
  probation : Bool := false
  /-- R378, 16 bits. -/
  floor : Nat := 0
  /-- R378, 16 bits. -/
  available : Nat := 65535
deriving DecidableEq, Repr

/-! ## The reset sequencer and checkpoints -/

/-- The reset sequence in progress (R385): when it began, its stage (1 fence and drain, 2 aborts sent), the ABORT cause,
whether the module is to be FAILED after it, and when the drain ended. -/
structure ResetSeq where
  td : Nat
  stage : Nat
  cause : Nat
  failed : Bool
  ta : Nat
deriving DecidableEq, Repr

/-- An item of the shard writer (R411, R412, R426); `cut` says that the host link went down while it was being written (R432). -/
structure WriterItem where
  ctx : Nat
  snapshot : Bool
  slot : Nat
  format : Nat
  step : Nat
  dest : Nat
  stage : Nat
  cut : Bool := false
deriving DecidableEq, Repr

/-- A gated host transfer (R343, R470): its descriptor and the step it belongs to. -/
structure Egress where
  ctx : Nat
  step : Nat
  ring : Nat
  t : Nat
deriving DecidableEq, Repr

/-- The shard writer, the egress queue and the release (R343, R412, R428). -/
structure Ckpt where
  /-- R412: queued work, the first item running. -/
  items : List WriterItem := []
  /-- R418: the module clock when the first item began. -/
  itemAt : Nat := 0
  /-- R343: committed egress that is being sent, in issue order. -/
  outgoing : List Egress := []
  /-- R343: the egress queue, at most 1,024 entries, in issue order. -/
  egress : List Egress := []
  /-- R428: the contexts being released, each with the fabric time at which its wipe began. -/
  releases : List (Nat × Option Nat) := []
  /-- R421: the loads in progress for each context, the earliest first. -/
  loads : SMap (List (DescHead × LoadBody)) := []
deriving DecidableEq, Repr

/-! ## The host interface -/

/-- A descriptor in progress (R468). -/
structure InProgress where
  head : DescHead
  data : Bool
  /-- 0x0A COPY_IN, 0x0B COPY_OUT, 0x0C WORK, 0x02 CTX_DELETE, 0x09 SHARD_LOAD, 0x08 CKPT_COMMIT. -/
  op : Nat
  copy : CopyFields := {}
  work : WorkFields := ⟨0, 0, 0, 0, 0⟩
  /-- R470: the trigger has been consumed, in this step. -/
  triggered : Option Nat := none
  /-- R470: the transfer may move. -/
  sending : Bool := false
  /-- R471: OR of the status bits so far. -/
  bits : BitVec 8 := 0
  /-- R471: fabric time at which a WORK times out. -/
  deadline : Option Nat := none
  /-- R465: its ring stopped while it ran, so its entry is discarded. -/
  unheard : Bool := false
deriving DecidableEq, Repr

/-- A completion entry (R472). -/
structure CqEntry where
  kind : Nat := 1
  status : Nat := 0
  ctx : Nat := 255
  tag : Nat := 0
  sqCount : Nat := 4294967295
  noirq : Bool := false
  /-- R473: bytes 16 to 127, as offset and bytes. -/
  body : List (Nat × Bytes) := []
deriving DecidableEq, Repr

/-- A ring pair (R463 to R465, R475, R476). -/
structure Ring where
  /-- R463, 64 bits: HOST_SQ_BASE. -/
  sqBase : Nat := 0
  /-- R463, 64 bits: HOST_CQ_BASE. -/
  cqBase : Nat := 0
  /-- R463: ENABLE. -/
  enable : Bool := false
  /-- R463, 8 bits: VECTOR. -/
  vector : Nat := 0
  /-- R463: IRQ_EN. -/
  irqEn : Bool := false
  /-- R463, 16 bits: COAL_US. -/
  coalUs : Nat := 0
  /-- R463, 8 bits: COAL_CNT. -/
  coalCnt : Nat := 1
  /-- R463, 4 bits: CQ_LOG. -/
  cqLog : Nat := 4
  /-- R463, 4 bits: SQ_LOG. -/
  sqLog : Nat := 4
  /-- R464, 32 bits: TAIL. -/
  tail : Nat := 0
  /-- R464, 32 bits: HEAD. -/
  head : Nat := 0
  /-- R463, 32 bits: SQ_HEAD. -/
  sqHead : Nat := 0
  /-- R464, 32 bits: CQ entry count n. -/
  written : Nat := 0
  /-- R463, 16 bits: LOST. -/
  lost : Nat := 0
  /-- R463, 8 bits: ERR_CODE. -/
  errCode : Nat := 0
  /-- R463: ERR. -/
  err : Bool := false
  /-- R468: submission count of the next descriptor to start. -/
  nextStart : Nat := 0
  /-- R468: descriptors in progress. -/
  inProg : List InProgress := []
  /-- R475: entries held on die, oldest first, with true for a descriptor completion. -/
  held : List (Bool × CqEntry) := []
  /-- R475: the next entry written carries OVERFLOW. -/
  overflow : Bool := false
  /-- R476: entries written since the last signal that do not carry NOIRQ. -/
  unsignalled : Nat := 0
  /-- R476: fabric time of the first of them. -/
  unsignalledAt : Nat := 0
deriving DecidableEq, Repr

/-- The host port (R457 to R480, R449). -/
structure HostPort where
  /-- R387, R388: Data Link Layer Link Active. -/
  linkUp : Bool := false
  /-- R449: a stream covering memory requests is Secure. -/
  secure : Bool := false
  /-- R449: IDE stream keys, keyed 0 Link and 1 Selective. -/
  ideKeys : SMap (BitVec 256) := []
  /-- R449: streams in the Secure state, keyed as ideKeys. -/
  ideOn : SMap Bool := []
  /-- R463: the 128 rings. -/
  rings : SMap Ring := []
  /-- R459, R503: bytes of the MSI-X table; the mask bit of an unlisted entry is 1 (the PCI Express reset value). -/
  msix : SMap Byte := []
  /-- R476, R503, 256 bits: pending-bit array. -/
  pba : BitVec 256 := 0
  /-- R449: streams whose programmed keys have been set to go, keyed as ideKeys. -/
  ideGo : SMap Bool := []
deriving DecidableEq, Repr

/-! ## The Dexhorn controller -/

/-- State of R481. -/
inductive MgmtState where
  | off
  | standby
  | bringup
  | ready
  | removing
  | safe
  | failed
deriving DecidableEq, Repr

/-- An open SPDM session (R444): its secret, the number of its key updates, and how many messages it has sealed since the last. -/
structure Session where
  id : Nat
  hint : Nat
  finished : Bool
  key : BitVec 256
  updates : Nat
  sent : Nat := 0
deriving DecidableEq, Repr

/-- A stored pre-shared key (R446). -/
structure Psk where
  hint : Nat
  key : BitVec 256
  stored : Nat
deriving DecidableEq, Repr

/-- A staged firmware image that met R436 when it arrived. -/
structure StagedImage where
  svn : Nat
  body : BitVec 512
deriving DecidableEq, Repr

/-- Keys, attestation and alarms (R435 to R456), held by the Dexhorn controller. -/
structure Security where
  /-- R440, 256 bits: the identity key's seed, while the key is held. -/
  identity : Option (BitVec 256) := none
  /-- R444: the requester has had VERSION, CAPABILITIES and ALGORITHMS, as bits 0 to 2. -/
  negotiated : Nat := 0
  /-- R448, R455: ATTESTED. -/
  attested : Bool := false
  /-- R444: open sessions, at most 4. -/
  sessions : List Session := []
  /-- R446: stored pre-shared keys. -/
  psks : List Psk := []
  /-- R446: the outstanding encapsulation key with the module and requester nonces. -/
  kem : Option (Bytes × BitVec 256 × BitVec 256) := none
  /-- R455, 8 bits: ALARMS. -/
  alarms : Nat := 0
  /-- R455: powered time (ns) of each alarm, newest first. -/
  alarmAt : List Nat := []
  /-- R455, 9 bits: LAST_SOURCE. -/
  lastSource : Nat := 0
  /-- R454: the sources that were active when the last alarm reset the package. -/
  alarmSince : Option Nat := none
  /-- R436, keyed by TYPE: fused minimum SVN. -/
  minSvn : SMap Nat := []
  /-- R436, R455, keyed by TYPE: SVN of the running image. -/
  svn : SMap Nat := []
  /-- R436, R438, keyed by TYPE: BODY_DIGEST of the running image; the one as shipped where none is listed. -/
  body : SMap (BitVec 512) := []
  /-- R437, keyed by TYPE: the staged images. -/
  staged : SMap StagedImage := []
  /-- R437, R494: bytes of an image that is coming in parts. -/
  imageParts : Bytes := []
deriving DecidableEq, Repr

/-- The package rails of R485, in the five groups in which they rise: off; rising, with the number of groups in regulation; stuck, with a
rail of the next group that has not reached regulation in time; in regulation; falling in the reverse order. -/
inductive Rails where
  | off
  | rising (done : Nat)
  | stuck (done : Nat)
  | up
  | falling
deriving DecidableEq, Repr

/-- The power front end, the governor and the sensors (R482 to R501, R369). -/
structure Power where
  /-- R532: the presence contact is made. -/
  present : Bool := true
  /-- R485: the package rails. -/
  rails : Rails := .off
  /-- R482: the input is valid. -/
  inputOk : Bool := false
  /-- R482: the overvoltage lockout holds. -/
  overLock : Bool := false
  /-- R483: powered time of each breaker trip, newest first. -/
  trips : List Nat := []
  /-- R524: module clock of the last excursion record, or of a breaker trip (R534). -/
  excursionAt : Option Nat := none
  /-- R531: PERST# is asserted. -/
  perst : Bool := false
  /-- R495: last sensor sample. -/
  sample : SensorData := ⟨[], [], [], [], 0, 0⟩
  /-- R495: the telemetry block as that sample refreshed it. -/
  telemetry : Bytes := []
  /-- R369, keyed by die: a fault excursion is in progress. -/
  dieHot : SMap Bool := []
  /-- R369, keyed by rail: fabric time of the last droop record. -/
  droopAt : SMap Nat := []
  /-- R369, keyed by rail: droop events seen. -/
  droops : SMap Nat := []
deriving DecidableEq, Repr

/-- The power governor (R498 to R501). -/
structure Governor where
  /-- R501, 16 bits: LIMIT in W. -/
  limit : Nat := 700
  /-- R499: a limit that waits for the end of the period. -/
  newLimit : Option Nat := none
  /-- R498: samples of this period, in units of 0.1 W: sum and number. -/
  sum : Nat := 0
  samples : Nat := 0
  /-- R501, 0.1 W: average of the last period. -/
  input : Nat := 0
  /-- R501, 16 bits: OVER. -/
  overCount : Nat := 0
  /-- R501, 3 bits: FLOOR. -/
  floor : Nat := 0
  /-- R500: the level the power rule asks for, before the floor. -/
  level : Nat := 0
  /-- R500: consecutive periods below LIMIT - 25 W. -/
  below : Nat := 0
  /-- R495, 32 bits: THROTTLED. -/
  throttled : Nat := 0
  /-- R500: module clock of the last floor step. -/
  floorAt : Nat := 0
  /-- R499: module clock at which the present period began. -/
  periodAt : Nat := 0
deriving DecidableEq, Repr

/-- A hot removal in progress or requested (R488): its mode, when it was requested, REMOVE_WAIT, whether the sequence runs, the step of the
sequence that comes next, and whether the module is to be FAILED after it (R454). -/
structure Removal where
  force : Bool
  since : Nat
  wait : Nat
  running : Bool
  step : Nat := 1
  failed : Bool := false
deriving DecidableEq, Repr

/-- What the Dexhorn controller keeps across package reset (R381): its non-volatile record, the generation, the copy of the
last records; and the state of the management plane. -/
structure Dexhorn where
  /-- R481: module state. -/
  state : MgmtState := .off
  /-- R486: bring-up phase, 1 to 8. -/
  phase : Nat := 1
  /-- R397: module clock of the latest reset assertion, or of the cold cycle's rail return. -/
  assertedAt : Nat := 0
  /-- R397: 0 none, 1 rails removed, 2 rails returned. -/
  coldCycle : Nat := 0
  /-- R397: module clock at which the rails were removed. -/
  coldAt : Nat := 0
  /-- R383, R398, 8 bits: reset generation. -/
  gen : Nat := 0
  /-- R398, 8 bits: LAST_CAUSE. -/
  lastCause : Nat := 0
  /-- R398, 8 bits: LAST_CLASS. -/
  lastClass : Nat := 0
  /-- R398, 8 bits: COLD_CYCLES. -/
  coldCycles : Nat := 0
  /-- R484: the plan, in the non-volatile record. -/
  plan : Option Plan := none
  /-- R494: bytes of a plan that is coming in parts. -/
  planParts : Bytes := []
  /-- R484: AUTOSTART, 1 as shipped. -/
  autostart : Bool := true
  /-- R88, keyed by cluster: the recorded role maps. -/
  roles : SMap Role := []
  /-- R88: replacements decided and not yet applied: logical core. -/
  decided : List Nat := []
  /-- R218, keyed 32 stack + channel: lost channels. -/
  lostChannels : SMap Bool := []
  /-- R360: the copy of the last 256 records, oldest first. -/
  records : List ErrRec := []
  /-- R360: records of the non-volatile record. -/
  nvRecords : List ErrRec := []
  /-- R373: health events: powered time and weight, newest first. -/
  events : List (Nat × Nat) := []
  /-- R373: corrected errors not yet counted into an event. -/
  corrected : Nat := 0
  /-- R489: events already in the non-volatile record. -/
  nvEvents : List (Nat × Nat) := []
  /-- R379, 10 bits: SCORE. -/
  score : Nat := 0
  /-- R379, 2 bits: BAND. -/
  band : Nat := 0
  /-- R379, 2 bits: RECOMMEND. -/
  recommend : Nat := 0
  /-- R379, 10 bits: STANDING. -/
  standing : Nat := 0
  /-- R365, ns: time powered and out of reset. -/
  powered : Nat := 0
  /-- R368, keyed by physical core: powered time of its last package reset with class 0x03 errors. -/
  sramResets : SMap Nat := []
  /-- R368: physical cores with class 0x03 errors since the last reset assertion. -/
  sramNow : List Nat := []
  /-- R487: module clock at which bring-up phase 8 began. -/
  phaseAt : Nat := 0
  /-- R453: records that enter the host log once the host link serves again. -/
  alarmLog : List ErrRec := []
  /-- R497: the subscriber's SPDM session. -/
  subscriber : Option Nat := none
  /-- R87, R373: physical cores reported unreplaceable, until a package reset finds them replaced or failed. -/
  unreplaceable : List Nat := []
  /-- R492: last nanosecond in which the management command it holds is carried out. -/
  busyTill : Option Nat := none
  /-- R488: removal. -/
  removal : Option Removal := none
deriving DecidableEq, Repr

/-! ## What leaves the module -/

/-- What the module sends or writes outside itself, newest first (the model's own record of its outputs). -/
inductive Out where
  /-- A packet that leaves on a port (R273), with the port. -/
  | packet (port : Nat) (p : Pkt)
  /-- A control flit sent on a port (R301): its kind byte and its bytes. -/
  | control (port : Nat) (bytes : Bytes)
  /-- A sealed frame (R294, R296, R297): port, header, ciphertext and tag, and the symbols of its four lanes. -/
  | frame (port : Nat) (header : Bytes) (cipher : Bytes) (tag : BitVec 128) (lanes : List (List Nat))
  /-- A resent frame (R298): port and counter. -/
  | resend (port counter : Nat)
  /-- A write of a part of a completion entry to a ring's CQ (R472): its slot, the offset in it, the bytes. -/
  | cq (ring slot off : Nat) (bytes : Bytes)
  /-- An MSI-X signal (R476). -/
  | msix (vector : Nat)
  /-- A write to host memory (R470, R359, R420, R235), with the parts of it that leave poisoned, as offset and length (R290, R478). -/
  | hostWrite (addr : Nat) (data : Bytes) (poisoned : List (Nat × Nat))
  /-- A completion of a host read of BAR0 (R461): data, or the status of R210, R14. -/
  | hostRead (addr : Nat) (data : Bytes) (status : Nat)
  /-- The status of a host write of BAR0 that was not carried out (R14, R210, R449): address and the status of R271. -/
  | hostRefused (addr : Nat) (status : Nat)
  /-- A completion status given to the master of a command-window, register or queue access (0 accepted). -/
  | answer (status : Nat) (data : Bytes)
  /-- The answer to a read of a Hive port (R249): status, the cells' bytes and their check-value nibbles. -/
  | cells (status : Nat) (data : Bytes) (nibbles : List Nat)
  /-- A management response (R491): command, SEQ, completion code, data. -/
  | mgmt (command seq code : Nat) (data : Bytes)
  /-- An unsolicited management message (R497): kind and bytes. -/
  | notice (kind : Nat) (data : Bytes)
  /-- An SPDM response outside a session (R444): code, and the bytes after the header of DSP0274. -/
  | spdm (code : Nat) (data : Bytes)
  /-- A secured message of a session (R444, R491): session, ciphertext and tag. -/
  | secured (session : Nat) (cipher : Bytes) (tag : BitVec 128)
  /-- The answer to an MCTP control message (R490). -/
  | mctp (data : Bytes)
  /-- A message of R320 on a port, with its signature (empty for the certificate chain). -/
  | handshake (port : Nat) (data sig : Bytes)
deriving DecidableEq, Repr

/-! ## The whole module -/

/-- The state of one module. -/
structure State where
  /-- The commands that wait, first in first out. -/
  pending : List Instr := []
  /-- The model's clock: ns since the model began; one idle step is one ns (the ticks of R32 and of the Dexhorn controller). -/
  ns : Nat := 0
  /-- The model's count of free values drawn. -/
  free : Nat := 0
  /-- The model's record of what has left the module, newest first. -/
  out : List Out := []
  ftime : FabTime := {}
  /-- R42, keyed by table slot 0 to 255: pending scheduled actions. -/
  sched : SMap SchedSlot := []
  /-- R60 to R64, keyed by logical core. -/
  arrays : SMap ArrayCore := []
  /-- R73, R505, keyed by physical core. -/
  phys : SMap ArrayPhys := []
  /-- R159, keyed by logical core: the vector engine's issue queue, oldest first. -/
  vecq : SMap (List VecOp) := []
  /-- R151, keyed by physical core. -/
  rm : SMap RmCore := []
  /-- R156, keyed by context identifier. -/
  ctxs : SMap Ctx := []
  /-- R172: number of the next definition. -/
  defined : Nat := 0
  /-- R204: the contexts that were deleted after they had faulted or been aborted, and are not defined again. -/
  gone : List Nat := []
  /-- R161, keyed by logical core: the sequencers' issue slots. -/
  issued : SMap IssueRec := []
  /-- R514, 27 bits: SEQ_QUANTUM in µs. -/
  quantum : Nat := 250
  mem : Memory := {}
  /-- R513, keyed by context identifier: CEN_BASE, CEN_COUNT, CEN_MISS. -/
  census : SMap (Nat × Nat × Nat) := []
  /-- R180, keyed by cluster. -/
  churns : SMap Churn := []
  /-- R206, 16 accumulators of 64 bits. -/
  dacc : SMap W64 := []
  /-- R225, keyed by die. -/
  presses : SMap Press := []
  /-- R238, keyed by cluster. -/
  hives : SMap Hive := []
  flags : Flags := {}
  remote : Remote := {}
  fabric : Fabric := {}
  err : ErrLog := {}
  weevil : Weevil := {}
  health : HealthRegs := {}
  /-- R385: the reset sequence in progress. -/
  resetSeq : Option ResetSeq := none
  ckpt : Ckpt := {}
  host : HostPort := {}
  gov : Governor := {}
  dex : Dexhorn := {}
  sec : Security := {}
  power : Power := {}
deriving DecidableEq, Repr

/-- The module right after its first package reset (R13, R381, R484): every state of the package at its reset value; the
Dexhorn controller as shipped (AUTOSTART 1, no plan), its generation counted once (R383), in BRINGUP phase 1. The values
of the Dexhorn controller's own record are DESIGN CHOICE (notes/assumptions/2.md). -/
def State.reset : State :=
  { dex := { state := .bringup, phase := 1, gen := 1 }, power := { inputOk := true, rails := .rising 0 } }

end Sys2Proof.Machine
end

