-- ==== Sys2Proof/Machine/Ops.lean ====
section
/-! DEFINITION. Named access to the parts of the state that several units share: contexts and their cores, rings and
completion entries (R472 to R476), ports, packets and their headers (R273), sequence pairs at the source (R275, R276). -/

namespace Sys2Proof.Machine.Ops

open Bits

/-! ## Clocks, identity, free values, outputs -/

/-- Fabric time (R31). -/
def now (s : State) : Nat := s.ftime.count

/-- Cycles of the 1.2 GHz arithmetic clock since the model began (R6). -/
def cycle (s : State) : Nat := s.ns * 6 / 5

/-- This module's identifier from the plan (R506): 0x3FFF without a plan. -/
def moduleId (s : State) : Nat := match s.dex.plan with | some p => p.module | none => 0x3FFF

/-- Record something that leaves the module. -/
def emit (s : State) (o : Out) : State := { s with out := o :: s.out }

/-- Draw the count of a free value: the state with the count advanced. -/
def drawn (s : State) : State := { s with free := s.free + 1 }

/-- The module is fenced: a reset sequence runs (R386). -/
def fenced (s : State) : Bool := s.resetSeq.isSome

/-- The state with one structure of it changed. -/
def modMem (s : State) (f : Memory → Memory) : State := { s with mem := f s.mem }
def modFlags (s : State) (f : Flags → Flags) : State := { s with flags := f s.flags }
def modRemote (s : State) (f : Remote → Remote) : State := { s with remote := f s.remote }
def modFabric (s : State) (f : Fabric → Fabric) : State := { s with fabric := f s.fabric }
def modErr (s : State) (f : ErrLog → ErrLog) : State := { s with err := f s.err }
def modWeevil (s : State) (f : Weevil → Weevil) : State := { s with weevil := f s.weevil }
def modCkpt (s : State) (f : Ckpt → Ckpt) : State := { s with ckpt := f s.ckpt }
def modHost (s : State) (f : HostPort → HostPort) : State := { s with host := f s.host }
def modDex (s : State) (f : Dexhorn → Dexhorn) : State := { s with dex := f s.dex }
def modSec (s : State) (f : Security → Security) : State := { s with sec := f s.sec }
def modPower (s : State) (f : Power → Power) : State := { s with power := f s.power }
def modGov (s : State) (f : Governor → Governor) : State := { s with gov := f s.gov }
def modTime (s : State) (f : FabTime → FabTime) : State := { s with ftime := f s.ftime }

/-! ## Contexts -/

/-- The context of an identifier, when it is defined (R156). -/
def ctx? (s : State) (c : Nat) : Option Ctx := SMap.look s.ctxs c

/-- Change a context, when it is defined. -/
def modCtx (s : State) (c : Nat) (f : Ctx → Ctx) : State :=
  match ctx? s c with
  | some x => { s with ctxs := SMap.ins s.ctxs c (f x) }
  | none => s

/-- The context uses logical core q (R156). -/
def usesCore (x : Ctx) (q : Nat) : Bool := x.fields.cores.getLsbD q

/-- The logical cores of a context, ascending. -/
def coresOf (x : Ctx) : List Nat := setBits 64 x.fields.cores.toNat

/-- The context follows the step protocol. -/
def stepped (x : Ctx) : Bool := x.fields.stepped == 1

/-- A context's state on a core. -/
def onCore (x : Ctx) (q : Nat) : CoreCtx := SMap.val {} x.cores q

/-- Change a context's state on a core. -/
def modCore (s : State) (c q : Nat) (f : CoreCtx → CoreCtx) : State :=
  modCtx s c (fun x => { x with cores := SMap.ins x.cores q (f (onCore x q)) })

/-- A stream of a context on a core. -/
def streamOf (k : CoreCtx) (t : Nat) : StreamState := SMap.val {} k.streams t

/-- Change a stream of a context on a core. -/
def modStream (s : State) (c q t : Nat) (f : StreamState → StreamState) : State :=
  modCore s c q (fun k => { k with streams := SMap.ins k.streams t (f (streamOf k t)) })

/-- Change every stream of a context on a core. -/
def mapStreams (k : CoreCtx) (f : StreamState → StreamState) : CoreCtx :=
  { k with streams := SMap.mapVals (fun _ v => f v) k.streams }

/-- Change a context's part in the step protocol. -/
def modStep (s : State) (c : Nat) (f : StepState → StepState) : State :=
  modCtx s c (fun x => { x with step := f x.step })

/-- The context that holds a slot of a core, resident or not. -/
def ctxInSlot (s : State) (q slot : Nat) : Option Nat :=
  (s.ctxs.find? (fun p => usesCore p.2 q && (onCore p.2 q).slot == some slot)).map (·.1)

/-- The core that doubles a core's writes: the partner of an even core of a redundant context (R362). -/
def partner (s : State) (q : Nat) : Option Nat :=
  if q % 2 = 0 ∧ s.ctxs.any (fun p => p.2.redundant && usesCore p.2 q) then some (q + 1) else none

/-- The logical core is the partner core of a redundant pair (R362). -/
def isPartner (s : State) (q : Nat) : Bool :=
  q % 2 == 1 && s.ctxs.any (fun p => p.2.redundant && usesCore p.2 (q - 1))

/-- The context a unit's descriptor names has faulted or been aborted, and has not been deleted and defined again since (R204, R234). -/
def dead (s : State) (c : Nat) : Bool := match ctx? s c with | some x => x.step.dead || x.deleting.isSome | none => s.gone.contains c

/-- The physical core that serves a logical core (R82, R515). -/
def physOf (s : State) (q : Nat) : Nat :=
  let r := SMap.val {} s.dex.roles (q / 8)
  9 * (q / 8) + r.map.getD (q % 8) (q % 8)

/-- The logical core that a physical core serves, if any (R515). -/
def logicalOf (s : State) (k : Nat) : Option Nat :=
  let r := SMap.val {} s.dex.roles (k / 9)
  (r.map.findIdx? (· == k % 9)).map (fun j => 8 * (k / 9) + j)

/-- The low 16 bits of a context's step number (R326). -/
def stepTag (s : State) (c : Nat) : Nat := match ctx? s c with | some x => x.step.step % 65536 | none => 0

/-! ## The host link (R449, R461) -/

/-- The host link takes memory requests: it is up, and a stream that covers them is Secure. -/
def hostReady (s : State) : Bool := s.host.linkUp && s.host.secure

/-- The host's memory requests are served: the link takes them, and the module is not fenced. -/
def hostServed (s : State) : Bool := hostReady s && !fenced s

/-- A request of the host that is not served gets an Unsupported Request status; a fenced module and a link that is down give none. -/
def fromHost (s t : State) : State :=
  if hostServed s then t else if s.host.linkUp && !fenced s then emit s (.answer 2 []) else s

/-- The status that the host sees of a request that was not carried out: Unsupported Request, whatever the reason (R14, R210). -/
def hostStatus (st : Nat) : Nat := if st == 0 then 0 else 2

/-! ## Completion entries -/

/-- A ring pair. -/
def ring (s : State) (r : Nat) : Ring := SMap.val {} s.host.rings r

def setRing (s : State) (r : Nat) (x : Ring) : State :=
  modHost s (fun h => { h with rings := SMap.ins h.rings r x })

def modRing (s : State) (r : Nat) (f : Ring → Ring) : State := setRing s r (f (ring s r))

/-- The 128 bytes of a completion entry written as entry n of a ring (R464, R472). -/
def cqBytes (x : Ring) (n : Nat) (lossy : Bool) (e : CqEntry) : Bytes :=
  let phase := if (n / 2 ^ x.cqLog) % 2 == 0 then 1 else 0
  layout 128 ([(0, le 1 (phase + (if lossy then 2 else 0))), (1, le 1 e.kind), (2, le 1 e.status), (3, le 1 e.ctx),
    (4, le 4 e.tag), (8, le 4 e.sqCount), (12, le 4 x.sqHead)] ++ e.body)

/-- A byte of the MSI-X table (R503): at reset every entry is masked, as PCI Express has it. -/
def msixByte (s : State) (i : Nat) : Byte := SMap.val (if i % 16 = 12 then 1 else 0) s.host.msix i

/-- An MSI-X vector is masked (R476; the mask bit of its table entry). -/
def masked (s : State) (v : Nat) : Bool := (msixByte s (16 * v + 12)).getLsbD 0

/-- Signal an MSI-X vector, or set its pending bit when it is masked (R476). -/
def signal (s : State) (v : Nat) : State :=
  if masked s v then modHost s (fun h => { h with pba := h.pba ||| (1#256 <<< v) }) else emit s (.msix v)

/-- Descriptors in progress lose their entries (R465). -/
def hush (x : Ring) : Ring := { x with inProg := x.inProg.map (fun p => { p with unheard := true }) }

/-- A ring stops (R465). -/
def stopRing (s : State) (r code : Nat) : State := modRing s r (fun x => { hush x with err := true, errCode := code })

/-- The two writes of an entry into host memory, in order: bytes 8 to 127, then bytes 0 to 7 (R472, R479). -/
def emitEntry (s : State) (r slot : Nat) (b : Bytes) : State :=
  emit (emit s (.cq r slot 8 (b.drop 8))) (.cq r slot 0 (b.take 8))

/-- Write one entry of a ring into host memory and count it toward the ring's signal (R464, R476). -/
def writeCq (s : State) (r : Nat) (e : CqEntry) : State :=
  let x := ring s r
  let s1 := emitEntry s r (x.written % 2 ^ x.cqLog) (cqBytes x x.written x.overflow e)
  let uns := if e.noirq then x.unsignalled else x.unsignalled + 1
  let at0 := if e.noirq then x.unsignalledAt else if x.unsignalled == 0 then now s else x.unsignalledAt
  let fire := x.irqEn && decide (x.coalCnt ≤ uns) && !e.noirq
  let s2 := setRing s1 r { x with written := (x.written + 1) % 4294967296, overflow := false,
                                  unsignalled := if fire then 0 else uns, unsignalledAt := at0 }
  if fire then signal s2 x.vector else s2

/-- An entry of a ring can be written now: its queue has room (R464), and the host link takes memory requests (R449). -/
def cqRoom (s : State) (x : Ring) : Bool := s.host.secure && decide (dist32 x.written x.head < 2 ^ x.cqLog)

/-- An entry goes to the CQ: a write that fails stops the ring (R465). -/
def putCq (s : State) (r : Nat) (e : CqEntry) (ok : Bool) : State := if ok then writeCq s r e else stopRing s r 4

/-- Post an entry on a ring: written, held on die while the queue is full or no stream is Secure, or lost (R449, R475). A ring that is not enabled or
has stopped, or a host link that is down, takes nothing (R465, R480). -/
def postCq (s : State) (r : Nat) (isDesc : Bool) (e : CqEntry) (ok : Bool := true) : State :=
  let x := ring s r
  if !x.enable || x.err || !s.host.linkUp then s
  else if x.held.isEmpty && cqRoom s x then putCq s r e ok
  else if decide ((x.held.filter (fun h => h.1 == isDesc)).length < 32) then setRing s r { x with held := x.held ++ [(isDesc, e)] }
  else if isDesc then s
  else setRing s r { x with lost := min 65535 (x.lost + 1), overflow := true }

/-- Write held entries, in order, while there is room (R475); fuel bounds their number. -/
def flushHeld : Nat → State → Nat → Bool → State
  | 0, s, _, _ => s
  | n + 1, s, r, ok =>
    let x := ring s r
    match x.held with
    | [] => s
    | (_, e) :: rest =>
      if x.err then s
      else if cqRoom s x then flushHeld n (putCq (setRing s r { x with held := rest }) r e ok) r ok
      else s

/-- Post an unsolicited entry that names a context, on the context's host ring (R466). -/
def postCtx (s : State) (c : Nat) (e : CqEntry) : State :=
  match ctx? s c with
  | some x => postCq s x.ring false { e with ctx := c }
  | none => s

/-- Descriptors the ring may fetch now (R464, R468, R475): those below TAIL, with at most 32 fetched and not completed, so that the 32
places of R475 hold every completion; none while it holds entries or the link takes no memory request (R449). -/
def mayFetch (s : State) (x : Ring) : Nat :=
  if !x.enable || x.err || !x.held.isEmpty || !s.host.linkUp || !s.host.secure then 0
  else min (dist32 x.tail x.sqHead) (32 - (dist32 x.sqHead x.nextStart + x.inProg.length))

/-- The ring fetches what it may; a read of the SQ that fails stops it (R465). -/
def fetch (s : State) (r : Nat) (ok : Bool) : State :=
  let x := ring s r
  let n := mayFetch s x
  if n == 0 then s
  else if ok then setRing s r { x with sqHead := (x.sqHead + n) % 4294967296 }
  else stopRing s r 3

/-- End a descriptor in progress with a status and a body (R468, R472); its entry is discarded on a ring that stopped
while it ran (R465). Its place is free for a further fetch (R468). -/
def endDesc (s : State) (r t status : Nat) (body : List (Nat × Bytes)) : State :=
  let x := ring s r
  match takeFirst (fun (i : InProgress) => i.head.t == t) x.inProg with
  | none => s
  | some (i, rest) =>
    let s1 := setRing s r { x with inProg := rest }
    let s2 := if i.unheard then s1 else postCq s1 r true
      { kind := 1, status := status, ctx := i.head.ctx, tag := i.head.tag, sqCount := t, noirq := i.head.noirq, body := body } i.head.cqOk
    fetch s2 r i.head.sqOk

/-- A descriptor in progress of a ring, by its submission count. -/
def inProg? (s : State) (r t : Nat) : Option InProgress := (ring s r).inProg.find? (fun i => i.head.t == t)

/-- Change a descriptor in progress. -/
def modProg (s : State) (r t : Nat) (f : InProgress → InProgress) : State :=
  modRing s r (fun x => { x with inProg := updFirst (fun i => i.head.t == t) f x.inProg })

/-- Every descriptor in progress, with its ring. -/
def allProg (s : State) : List (Nat × InProgress) :=
  s.host.rings.flatMap (fun p => p.2.inProg.map (fun i => (p.1, i)))

/-! ## Packets -/

/-- The 64-byte header flit of a packet (R273). -/
def header (p : Pkt) : Bytes :=
  layout 64 [(0, le 2 p.dst), (2, le 2 p.src), (4, le 1 p.kind), (5, le 1 p.unit), (6, le 1 p.ctx),
    (7, le 1 (p.stream + (if p.chain then 4 else 0) + (if p.mcast then 8 else 0) + 16 * p.osel)),
    (8, le 1 p.gen), (9, le 1 p.echoGen),
    (10, le 2 (p.len + (if p.start then 8192 else 0) + (if p.whole then 16384 else 0) + (if p.last then 32768 else 0))),
    (12, le 4 p.seq), (16, le 4 p.low), (20, le 4 p.fcount), (24, le 2 p.tag), (26, le 2 p.rflag),
    (28, le 1 (p.rcore + 64 * p.fact)), (29, le 1 p.status), (30, le 2 p.group), (32, le 6 p.addr), (38, le 2 p.stepTag),
    (40, le 4 p.pcheck.toNat), (44, le 4 p.rlen), (48, le 2 p.leaf)]

/-- The flits of a packet: its header and its payload in 64-byte flits, the last padded with zeros (R302). -/
def flits (p : Pkt) : List Bytes := header p :: (pieces 64 p.payload).map (padTo 64)

/-- A packet of kind READ_RSP, ACK or ERROR_RSP (R274). -/
def isResponse (p : Pkt) : Bool := decide (5 ≤ p.kind ∧ p.kind ≤ 7)

/-- A flagged packet: WRITE_F or FLAG (R274). -/
def isFlagged (p : Pkt) : Bool := p.kind == 2 || p.kind == 3

/-- Hand a packet to the module's router for injection (R305, R312). -/
def sendPkt (s : State) (p : Pkt) : State := modFabric s (fun f => { f with inject := f.inject ++ [p] })

/-- The response to a request (R274); a leaf answers a multicast packet under its own identifier. -/
def response (s : State) (q : Pkt) (kind status : Nat) : Pkt :=
  { dst := q.src, src := if q.mcast then moduleId s else q.dst, kind := kind, unit := q.unit, ctx := q.ctx, stream := q.stream, chain := q.chain,
    mcast := q.mcast, osel := q.osel, gen := s.dex.gen, echoGen := q.gen, seq := q.seq, tag := q.tag, status := status,
    group := q.group, stepTag := q.stepTag }

/-- Answer a request with a status: an ACK for OK, an ERROR_RSP for the others (R271, R274). -/
def answer (s : State) (q : Pkt) (status : Nat) : State :=
  sendPkt s (if status == 0 then { response s q 6 0 with rlen := 1 } else response s q 7 status)

/-- Key of a pair at this source (R275): multicast or not, destination module or group, CTX, UNIT and OSEL. -/
def pairKey (mcast : Bool) (dst ctx unit osel : Nat) : Nat :=
  ((((if mcast then 16384 else 0) + dst) * 256 + ctx) * 128 + unit) * 16 + osel

/-- Key of a tracker record (R275, R278): the ordering stream of a request packet. -/
def trackKey (p : Pkt) : Nat :=
  ((((if p.mcast then p.group + 1 else 0) * 16384 + p.src) * 256 + p.ctx) * 128 + p.unit) * 16 + p.osel

/-- The key of the pair at this source that a request packet of this module belongs to. -/
def pairOf (p : Pkt) : Nat := pairKey p.mcast (if p.mcast then p.group else p.dst) p.ctx p.unit p.osel

def pair (s : State) (k : Nat) : Pair := SMap.val {} s.remote.pairs k

def setPair (s : State) (k : Nat) (x : Pair) : State :=
  modRemote s (fun r => { r with pairs := SMap.ins r.pairs k x })

/-- A port (R292). -/
def port (s : State) (p : Nat) : Port := SMap.val {} s.fabric.ports p

def setPort (s : State) (p : Nat) (x : Port) : State :=
  modFabric s (fun f => { f with ports := SMap.ins f.ports p x })

def modPort (s : State) (p : Nat) (g : Port → Port) : State := setPort s p (g (port s p))

/-- Add n flits of a buffer to the credits that a port owes. -/
def addOwed (l : List (Nat × Nat)) (b n : Nat) : List (Nat × Nat) :=
  if n == 0 then l
  else if l.any (fun e => e.1 == b) then l.map (fun e => if e.1 == b then (b, e.2 + n) else e) else l ++ [(b, n)]

/-- A port is UP: state 5, or 7, a form of UP (R315). -/
def isUp (s : State) (p : Nat) : Bool := (port s p).state == 5 || (port s p).state == 7

/-- The ports that are UP, ascending. -/
def upPorts (s : State) : List Nat := (List.range 27).filter (isUp s)

/-- Flits leave a port's receive buffer, as far as it holds them: their credits are owed to the sender (R295, R300). -/
def freed (s : State) (q b n : Nat) : State :=
  modPort s q (fun x =>
    let k := min n (SMap.val 0 x.rxHeld b)
    { x with rxHeld := SMap.put 0 x.rxHeld b (SMap.val 0 x.rxHeld b - k), owed := addOwed x.owed b k })

/-- The receive buffers that flits still occupied are freed as they leave or are discarded. -/
def freeOrigins (s : State) (fs : List QueuedFlit) : State :=
  fs.foldl (fun acc f => match f.origin with | some (q, b) => freed acc q b 1 | none => acc) s

/-- Receive buffers in which a packet of a kind may stand on a port (R300, R301). -/
def rxBuffers (p : Pkt) : List Nat := if isResponse p then [4, 5, 6, 10, 11, 12] else [1, 2, 3, 7, 8, 9]

/-- The flits of a packet that is delivered leave the receive buffer they stand in. The command that delivers it names no port: it is the
first port, and the first buffer of its kind there, that holds as many (DESIGN CHOICE, notes/assumptions/51.md). -/
def unloaded (s : State) (p : Pkt) : State :=
  let n := (flits p).length
  let held := s.fabric.ports.flatMap (fun r => ((rxBuffers p).filter (fun b => decide (n ≤ SMap.val 0 r.2.rxHeld b))).map (fun b => (r.1, b)))
  match held with
  | (q, b) :: _ => freed s q b n
  | [] => s

/-- Send a control flit on a port: one 64-byte flit of buffer 13 (R300, R301). -/
def sendControl (s : State) (p : Nat) (b : Bytes) : State :=
  let fs := (pieces 64 b).map (padTo 64)
  emit (modPort s p (fun x => { x with outq := x.outq ++ fs.map (fun d => { buf := 13, data := d }) })) (.control p fs.flatten)

/-- Send a firefly on a port (R35). -/
def sendFirefly (s : State) (p : Nat) (b : Bytes) : State :=
  emit (modPort s p (fun x => { x with outq := x.outq ++ [{ buf := 13, data := padTo 64 b, firefly := true }] })) (.control p (padTo 64 b))

/-- Send a control message on each of several ports. -/
def sendControls (s : State) (ps : List Nat) (b : Bytes) : State := ps.foldl (fun acc p => sendControl acc p b) s

/-- The ports of the mask that the plan requires for a context's slice (R314). -/
def requiredPorts (s : State) (c : Nat) : List Nat :=
  match s.dex.plan with
  | some p => setBits 27 (SMap.val 0 p.required c)
  | none => []

/-- The module identifier that a rank of a context maps to (R263, R264), if it maps one. -/
def rankMap (s : State) (c rank : Nat) : Option Nat :=
  let w := (SMap.val 0#64 s.remote.win c).toNat
  let cnt := field w 30 16
  let base := field w 13 0
  let e := (SMap.val 0#64 s.remote.map (base + rank)).toNat
  if base + cnt ≤ 16384 ∧ rank < cnt ∧ bit e 15 then some (field e 13 0) else none

/-- A context's window maps a valid rank to a module (R391, R394). -/
def mapsModule (s : State) (c m : Nat) : Bool :=
  let w := (SMap.val 0#64 s.remote.win c).toNat
  let cnt := field w 30 16
  let base := field w 13 0
  decide (base + cnt ≤ 16384) && s.remote.map.any (fun e =>
    decide (base ≤ e.1 ∧ e.1 < base + cnt) && bit e.2.toNat 15 && field e.2.toNat 13 0 == m)

end Sys2Proof.Machine.Ops
end

