-- ==== Sys2Proof/Machine/Status.lean ====
section
/-! DEFINITION. Codes of the completion entries: STATUS (R474) and KIND (R473). -/

namespace Sys2Proof.Machine.Status

def ok : Nat := 0x00
def badDesc : Nat := 0x01
def fenced : Nat := 0x02
def noContext : Nat := 0x03
def hostFault : Nat := 0x04
def check : Nat := 0x05
def poisoned : Nat := 0x06
def timeout : Nat := 0x07
def refused : Nat := 0x08
def busy : Nat := 0x09
def aborted : Nat := 0x0A
def notLocked : Nat := 0x10
def badEntry : Nat := 0x11
def late : Nat := 0x12
def full : Nat := 0x13
def cancelled : Nat := 0x14
def tooLate : Nat := 0x15
def noEntry : Nat := 0x16
def expired : Nat := 0x17
def noSetup : Nat := 0x18
def noLink : Nat := 0x19
def noRestore : Nat := 0x1A
def badParam : Nat := 0x1B
def slotBusy : Nat := 0x1C
def writerFull : Nat := 0x1D
def badDest : Nat := 0x1E
def noRank : Nat := 0x1F
def noCheckpoint : Nat := 0x20
def badKind : Nat := 0x21
def disabled : Nat := 0x22
def badFormat : Nat := 0x28
def wrongJob : Nat := 0x29
def wrongStep : Nat := 0x2A
def wrongShard : Nat := 0x2B
def wrongLayout : Nat := 0x2C
def narrow : Nat := 0x2D
def badTag : Nat := 0x2E
def badSignature : Nat := 0x2F
def incomplete : Nat := 0x30
def notRoot : Nat := 0x31
def quota : Nat := 0x32
def poolFull : Nat := 0x33

/-- Kinds of entry (R473). -/
def kStep : Nat := 0x10
def kQuiesced : Nat := 0x11
def kFault : Nat := 0x12
def kFiring : Nat := 0x13
def kShard : Nat := 0x14
def kBand : Nat := 0x15
def kReleased : Nat := 0x16
def kEnded : Nat := 0x17

end Sys2Proof.Machine.Status
end

