-- ==== Sys2Proof/Machine/Report.lean ====
section
/-! DEFINITION. Detecting an error (R353 to R360): the record, the log, its copies, its fault completion, the health event,
the verdict bits (R333), and what a class starts: the fence of the reset sequence (R385, R386), the package reset (R381),
a context's entry into FAULTED (R163, R331). -/

namespace Sys2Proof.Machine.Report

open Bits Ops

/-! ## The record and the log -/

/-- UNIT of R356. -/
def unitCode (kind idx : Nat) : Nat := kind * 4096 + idx

/-- The die of a unit (R209, R292, R356); the Dexhorn controller's sensors are those of dies, stacks and rails (R526). -/
def unitDie (u : Nat) : Nat :=
  let k := u / 4096
  let i := u % 4096
  if k ≤ 3 then i / 32
  else if k ≤ 6 then i / 4
  else if k == 7 then i
  else if k == 8 then i / 64
  else if k == 14 then (if i == 1 || i == 4 || i == 5 || i == 9 || i == 11 || i == 13 || i == 15 then 1 else 0)
  else if k == 10 then (if i ≤ 7 || (15 ≤ i && i ≤ 18) || i == 23 || i == 24 then 0 else 1)
  else 0

/-- The 64 bytes of an error record (R355). -/
def recBytes (r : ErrRec) : Bytes :=
  layout 64 [(0, le 1 r.cls), (1, le 1 r.flags), (2, le 2 r.unit), (4, le 1 r.ctx), (5, le 1 r.stream), (6, le 2 r.op),
    (8, le 8 (r.addr % 2 ^ 48)), (16, le 8 r.time), (24, le 2 (signed 16 r.temp)), (26, le 2 r.vcore), (28, le 2 r.module),
    (30, le 1 r.gen), (31, le 1 r.effect), (32, le 4 r.aux), (36, le 4 r.step), (40, padTo 24 r.detail)]

/-- DETAIL bytes from fields at record offsets 40 to 63 (R357). -/
def detail (fs : List (Nat × Bytes)) : Bytes := layout 24 (fs.map (fun f => (f.1 - 40, f.2)))

/-- Write one record to the host's ring (R359). -/
def logWrite (s : State) (r : ErrRec) : State :=
  let r1 := if s.err.overflow then { r with flags := r.flags ||| 1 } else r
  let s1 := emit s (.hostWrite (s.err.base + 64 * (s.err.head % s.err.size)) (recBytes r1) [])
  modErr s1 (fun e => { e with head := (e.head + 1) % 4294967296, overflow := false })

/-- The log ring can take a record (R359), and the host link takes memory requests (R449). -/
def logRoom (s : State) : Bool :=
  s.host.linkUp && s.host.secure && decide (0 < s.err.size) && decide (dist32 s.err.head s.err.tail < s.err.size)

/-- The order in which two records of one cycle enter the log (R358): by CLASS, then by UNIT. -/
def recBefore (a b : ErrRec) : Bool := decide (a.cls < b.cls ∨ (a.cls = b.cls ∧ a.unit < b.unit))

/-- Note a record of this cycle for the log. -/
def logRec (s : State) (r : ErrRec) : State := modErr s (fun e => { e with fresh := insertBy recBefore r e.fresh })

/-- Log a record: written, held on die, or lost (R359). -/
def logOne (s : State) (r : ErrRec) : State :=
  if s.err.held.isEmpty && logRoom s then logWrite s r
  else if s.err.held.length < 256 then modErr s (fun e => { e with held := e.held ++ [r] })
  else modErr s (fun e => { e with lost := min 4294967295 (e.lost + 1), overflow := true })

/-- Write records held on die, in order, while there is room (R359); fuel bounds their number. -/
def flushLog : Nat → State → State
  | 0, s => s
  | n + 1, s => match s.err.held with
    | [] => s
    | r :: rest => if logRoom s then flushLog n (logWrite (modErr s (fun e => { e with held := rest })) r) else s

/-- The end of a cycle: its records enter the log, in ascending order of CLASS and then UNIT (R358, R359). -/
def endCycle (s : State) : State := s.err.fresh.foldl logOne (modErr s (fun e => { e with fresh := [] }))

/-- The controller's copy of the log with one more record, placed among the records of the same instant as R358 orders them (R360). -/
def addCopy (l : List ErrRec) (r : ErrRec) : List ErrRec :=
  let same := fun (x : ErrRec) => x.time == r.time && x.gen == r.gen
  let m := l.filter (fun x => !same x) ++ insertBy recBefore r (l.filter same)
  m.drop (m.length - 256)

/-- An unsolicited management message, when there is a subscriber (R497). -/
def notify (s : State) (kind : Nat) (data : Bytes) : State :=
  if s.dex.subscriber.isSome then emit s (.notice kind data) else s

/-! ## Health events (R373) -/

/-- The weight that an error of a class adds to the health score (R373); aux tells the subcause of class 0x23. -/
def weightOf (cls aux : Nat) : Nat :=
  match cls with
  | 0x10 => 60
  | 0x11 => 100
  | 0x12 => 150
  | 0x13 => 40
  | 0x22 => 20
  | 0x30 => 20
  | 0x40 => 80
  | 0x41 => 80
  | 0x23 => if aux % 256 == 6 then 150 else 0
  | _ => 0

/-- Add a health event at the present powered time (R365, R373). -/
def addEvent (s : State) (w : Nat) : State :=
  if w == 0 then s else modDex s (fun d => { d with events := (d.powered, w) :: d.events })

/-- Count corrected errors: each hundred adds an event of weight 1, at most 200 within any hour (R373). No other event has weight 1. -/
def addCorrected (s : State) (n : Nat) : State :=
  let total := s.dex.corrected + n
  let recent := s.dex.events.filter (fun e => e.2 == 1 && decide (s.dex.powered < e.1 + 3600000000000))
  let want := min (total / 100) (200 - recent.length)
  modDex s (fun d => { d with corrected := total % 100, events := List.replicate want (d.powered, 1) ++ d.events })

/-! ## Verdict bits and FAULTED contexts -/

/-- Set a FAIL bit of a context's verdict (R333): of the current attempt, or of the next once it has contributed. -/
def setFail (s : State) (c bitNo : Nat) : State :=
  modStep s c (fun t =>
    if t.contributed then { t with failNext := t.failNext ||| (1#32 <<< bitNo) }
    else { t with fail := t.fail ||| (1#32 <<< bitNo) })

/-- The FAIL bit that an error of effect "step" sets in the context it names (R333). -/
def failBit (cls aux : Nat) : Option Nat :=
  match cls with
  | 0x10 => some 0
  | 0x11 => some 1
  | 0x13 => some 2
  | 0x03 => some 3
  | 0x22 => some 4
  | 0x32 => some 8
  | 0x23 => if aux % 256 == 3 then some 5 else none
  | _ => none

/-- Complete with ABORTED the descriptors in progress of a context that a test selects. -/
def abortProg (s : State) (c : Nat) (which : InProgress → Bool) : State :=
  (allProg s).foldl (fun acc p => if p.2.head.ctx == c && which p.2 then endDesc acc p.1 p.2.head.t 0x0A [] else acc) s

/-- A WORK, or a COPY_OUT that has not consumed its trigger. -/
def waiting (i : InProgress) : Bool := i.op == 0x0C || (i.op == 0x0B && !i.sending && i.triggered.isNone)

/-- A core's streams stop issuing (R163). -/
def stopStreams (k : CoreCtx) : CoreCtx :=
  mapStreams k (fun t => { t with run := if t.run == .ended then .ended else .stopped, wait := none })

/-- A context enters FAULTED on one core (R163, R168, R255): its streams stop there, and in a stepped context everywhere
(R331), and its verdict takes FAIL bit 16. Descriptors of it that wait finish ABORTED, now and later (R204, R234, R480). -/
def faultCore (s : State) (c q : Nat) : State :=
  match ctx? s c with
  | none => s
  | some x =>
    let stopAll := stepped x
    let f := fun (i : Nat) (k : CoreCtx) =>
      if i == q then { stopStreams k with state := .faulted, programFault := true }
      else if stopAll then stopStreams k else k
    let s1 := modCtx s c (fun y =>
      { y with cores := SMap.mapVals f (SMap.ins y.cores q (onCore y q)), step := { y.step with dead := true } })
    let s2 := abortProg s1 c waiting
    if stopAll then setFail s2 c 16 else s2

/-! ## Package reset (R381, R383) -/

/-- The state with every state of the package at its reset value, and ages counting from the present powered time (R13, R365, R381); what
the Dexhorn controller and the power front end hold is kept. -/
def freshPackage (s : State) : State :=
  { pending := s.pending, ns := s.ns, free := s.free, out := s.out, dex := s.dex, sec := s.sec, power := s.power,
    weevil := { since := s.dex.powered } }

/-- The keys of the controller that a package reset erases, with its sessions and its attestation (R440, R448), and what it holds of a
message that has come in parts. -/
def eraseSecrets (x : Security) : Security :=
  { x with identity := none, negotiated := 0, attested := false, sessions := [], psks := [], kem := none, imageParts := [] }

/-- The reset assertion (R381, R383, R484): the package at its reset values, its rails sequencing, the generation increased, and bring-up
at its first phase; `cold` tells a cold cycle (R397). -/
def assertion (s : State) (cold : Nat) : State :=
  let t := freshPackage s
  { t with
    dex := { s.dex with state := .bringup, phase := 1, assertedAt := s.ns, coldCycle := cold, gen := (s.dex.gen + 1) % 256, planParts := [] },
    sec := eraseSecrets s.sec, power := { s.power with rails := .rising 0 } }

/-- A package reset (R381), with LAST_CAUSE and LAST_CLASS of R398. -/
def packageReset (s : State) (cause cls : Nat) : State :=
  assertion (modDex s (fun d => { d with lastCause := cause, lastClass := cls })) 0

/-- The package without its rails (R397, R483, R488): its state is gone; the controller's state is as given. It keeps its keys and sessions
until the next reset assertion (R440). -/
def railsOff (s : State) (st : MgmtState) : State :=
  modPower (modDex (freshPackage s) (fun d => { d with state := st })) (fun p => { p with rails := .off })

/-- Codes of the management states in table order (R481, R495). -/
def stateCode : MgmtState → Nat
  | .off => 0
  | .standby => 1
  | .bringup => 2
  | .ready => 3
  | .removing => 4
  | .safe => 5
  | .failed => 6

/-- Enter a management state and report it (R481, R497). -/
def enterState (s : State) (st : MgmtState) : State :=
  notify (modDex s (fun d => { d with state := st })) 1 (le 1 (stateCode st))

/-- The module is declared failed and ready for hot removal (R481): its rails are off. -/
def declareFailed (s : State) : State := notify (railsOff s .failed) 1 (le 1 6)

/-! ## The fence (R385 step 1, R386) -/

/-- Answer every flag action the tracker holds with FENCED (R281, R386). -/
def fenceHeld (s : State) : State :=
  let held := s.remote.tracks.flatMap (fun t => t.2.held)
  let s1 := held.foldl (fun acc h => answer acc h.pkt 6) s
  modRemote s1 (fun r => { r with tracks := SMap.mapVals (fun _ t => { t with held := [] }) r.tracks })

/-- Complete every host descriptor in progress with FENCED (R386, R449); an entry waits on die while no stream is Secure. -/
def fenceHost (s : State) : State := (allProg s).foldl (fun acc p => endDesc acc p.1 p.2.head.t 2 []) s

/-- The request that a response answers. -/
def sameRequest (p q : Pkt) : Bool :=
  p.kind == 5 && q.kind == 5 && p.dst == q.dst && p.ctx == q.ctx && p.unit == q.unit && p.osel == q.osel && p.seq == q.seq && p.tag == q.tag

/-- READ_RSPs that have not left give way to one ERROR_RSP FENCED for each request (R386): `seen` are the requests answered so. -/
def fenceReads (own : Nat) : List Pkt → List Pkt → List Pkt
  | _, [] => []
  | seen, p :: rest =>
    if p.kind == 5 && p.src == own then
      if seen.any (sameRequest p) then fenceReads own seen rest
      else { p with kind := 7, status := 6, addr := 0, len := 0, last := false, whole := false, pcheck := 0, payload := [] } :: fenceReads own (p :: seen) rest
    else p :: fenceReads own seen rest

/-- Fence the module (R385 step 1, R386). -/
def fence (s : State) (q : ResetSeq) : State :=
  let s1 := modFabric { s with resetSeq := some q } (fun f => { f with inject := fenceReads (moduleId s) [] f.inject })
  let s2 := sendControls s1 (upPorts s1) Config.fenceFlit
  fenceHost (fenceHeld s2)

/-- A trigger of R382 arrives: the reset sequence starts (R385); one already running goes on (R407); in BRINGUP, bring-up
restarts (R407); in REMOVING it is ignored (R502); without package rails nothing is there to reset. `abort` is the CAUSE of
the ABORTs (R389), `cause` and `cls` those of RST_STAT (R398), `failed` whether the module is failed after the sequence. -/
def trigger (s : State) (abort cause cls : Nat) (failed : Bool) : State :=
  match s.dex.state with
  | .ready =>
    match s.resetSeq with
    | some q => { s with resetSeq := some { q with failed := q.failed || failed } }
    | none =>
      let s1 := modDex s (fun d => { d with lastCause := cause, lastClass := cls })
      fence s1 { td := now s, stage := 1, cause := abort, failed := failed, ta := 0 }
  | .bringup => if failed then declareFailed s else packageReset s cause cls
  | _ => s

/-! ## Raising an error -/

/-- Complete a record with the fields of R355 that do not depend on the class. -/
def fill (s : State) (r : ErrRec) (effect : Nat) (drill : Bool) : ErrRec :=
  let d := unitDie r.unit
  { r with
    flags := r.flags ||| (if drill then 2 else 0), effect := effect, time := now s, gen := s.dex.gen,
    module := moduleId s,
    temp := s.power.sample.tdie.getD d 0, vcore := s.power.sample.vcore.getD d 0,
    step := match r.given with
      | some n => n % 4294967296
      | none => match ctx? s r.ctx with | some x => x.step.step % 4294967296 | none => 0 }

/-- Record an error (R359, R360): the log, the controller's copy of the last 256, its non-volatile record for effects 3 to
5, the subscriber for effects 3 to 7 (R497), and a fault completion where the record names a defined context (R359). -/
def record (s : State) (r : ErrRec) : State :=
  let s1 := logRec s r
  let s2 := modDex s1 (fun d =>
    { d with records := addCopy d.records r,
             nvRecords := if decide (3 ≤ r.effect ∧ r.effect ≤ 5) || r.effect == 6 then d.nvRecords ++ [r] else d.nvRecords })
  let s3 := if decide (3 ≤ r.effect) then notify s2 4 (recBytes r) else s2
  postCtx s3 r.ctx { kind := Status.kFault, body := [(16, recBytes r)] }

/-- Raise an error (R354): record it, add its health event (not for a drill, R372), set its verdict bit, and for a module
fault (4) or a module failed (5) start the reset sequence. Effects 2, 3, 6 and 7 are carried out by the raising rule. -/
def raise (s : State) (r : ErrRec) (effect : Nat) (drill : Bool := false) : State :=
  let r1 := fill s r effect drill
  let s1 := record s r1
  let w := weightOf r.cls r.aux + (if effect == 4 || effect == 5 then 300 else 0)
  let s2 := if drill then s1 else addEvent s1 w
  let s3 := match failBit r.cls r.aux with
    | some b => setFail s2 r.ctx b
    | none => s2
  if effect == 4 then trigger s3 1 (if drill && r.cls == 0x23 then 4 else 1) r.cls false
  else if effect == 5 then trigger s3 1 1 r.cls true
  else s3

/-- The effect of an error of effect step that names a context (R80, R354): the step fails in a context with a step protocol; in any other
the error is counted (DEDUCED, notes/assumptions/85.md). -/
def stepEffect (s : State) (c : Nat) : Nat := match ctx? s c with | some x => if stepped x then 1 else 0 | none => 0

/-- The STREAM byte of a record for a named stream (R355). -/
def streamByte (t : Nat) : Nat := t % 4 + 128

/-- The OP field of a record (R355): class and operation code. -/
def opField (cls code : Nat) : Nat := cls % 8 + 8 * (code % 256)

/-- A drill here has taken down a link that is not up again, or has made this module lose a packet of an operation in flight: a deadline that
passes meanwhile is taken as its consequence (R371; DEDUCED, notes/assumptions/71.md). -/
def drilledNow (s : State) : Bool := s.err.drilled.any (fun d => d.1 == 4 || (d.1 == 0 && (SMap.look s.remote.ops d.2).isSome))

/-- Count an access to an unmapped address (R210). -/
def countUnmapped (s : State) : State := modMem s (fun m => { m with unmapped := min 4294967295 (m.unmapped + 1) })

/-- The late record of R53: class and effect of a late arrival, with LATE set, and DRILL where a drill has made it late (R371). -/
def lateRecord (s : State) (r : ErrRec) (drill : Bool := false) : State := record s { fill s r 0 drill with flags := if drill then 6 else 4 }

end Sys2Proof.Machine.Report
end

