-- ==== Sys2Proof/Machine/Memory.lean ====
section
/-! DEFINITION. The local address map (R209) and storage: DRAM, pantry and scratchpad bytes with POISON, PRESS and check
values (R213 to R219, R222 to R224, R286 to R290), corrected and uncorrectable errors, and the writes that a redundant pair
doubles (R362). -/

namespace Sys2Proof.Machine.Mem

open Bits Ops Report

/-- Where a local address lies (R209). -/
inductive Place where
  | dram (off : Nat)
  | pantry (n off : Nat)
  | churn (n off : Nat)
  | press (d off : Nat)
  | spad (q off : Nat)
  | flags (q off : Nat)
  | hive (n off : Nat)
  | regs (off : Nat)
  | unmapped
deriving DecidableEq, Repr

/-- The first address past DRAM (R209: two dies of 144 GiB). -/
def dramEnd : Nat := 0x4800000000

/-- The place of an address (R209, R210). -/
def locate (a : Nat) : Place :=
  if a < dramEnd then .dram a
  else if 0x400000000000 ≤ a ∧ a < 0x400000000000 + 8 * 0x2000000 then
    let n := (a - 0x400000000000) / 0x2000000
    let o := (a - 0x400000000000) % 0x2000000
    if o < 0x1800000 then .pantry n o
    else if o < 0x1820000 then .churn n (o - 0x1800000)
    else if o < 0x1830000 ∧ n % 4 = 0 then .press (n / 4) (o - 0x1820000)
    else .unmapped
  else if 0x500000000000 ≤ a ∧ a < 0x500000000000 + 64 * 0x800000 then
    let o := (a - 0x500000000000) % 0x800000
    if o < 0x600000 then .spad ((a - 0x500000000000) / 0x800000) o else .unmapped
  else if 0x600000000000 ≤ a ∧ a < 0x600000000000 + 64 * 0x10000 then
    .flags ((a - 0x600000000000) / 0x10000) ((a - 0x600000000000) % 0x10000)
  else if 0x700000000000 ≤ a ∧ a < 0x700000000000 + 8 * 0x1000000 then
    .hive ((a - 0x700000000000) / 0x1000000) ((a - 0x700000000000) % 0x1000000)
  else if 0x7F0000000000 ≤ a ∧ a < 0x7F0000000000 + 0x1000000 then .regs (a - 0x7F0000000000)
  else .unmapped

/-- Base address of a scratchpad and of a pantry. -/
def spadBase (q : Nat) : Nat := 0x500000000000 + q * 0x800000
def pantryBase (n : Nat) : Nat := 0x400000000000 + n * 0x2000000

/-- The first address past the region that holds an address (R209); the address itself where none does. -/
def regionEnd (a : Nat) : Nat :=
  match locate a with
  | .dram _ => dramEnd
  | .pantry _ o => a + (0x1800000 - o)
  | .churn _ o => a + (0x20000 - o)
  | .press _ o => a + (0x10000 - o)
  | .spad _ o => a + (0x600000 - o)
  | .flags _ o => a + (0x10000 - o)
  | .hive _ o => a + (0x1000000 - o)
  | .regs o => a + (0x1000000 - o)
  | .unmapped => a

/-- More than the number of regions of the map (R209). -/
def regions : Nat := 256

/-- Some of n bytes from an address lie in no region; fuel bounds the regions they meet. -/
def leavesMap : Nat → Nat → Nat → Bool
  | 0, _, _ => true
  | f + 1, a, n =>
    let e := regionEnd a
    if e == a then true else if a + n ≤ e then false else leavesMap f e (a + n - e)

/-- Some of n bytes from an address lie in no region of the map (R210). -/
def unmapped (a n : Nat) : Bool := leavesMap regions a (max 1 n)

/-- n bytes from an address lie wholly in DRAM. -/
def inDram (a n : Nat) : Bool := decide (a + n ≤ dramEnd)

/-- n bytes from an address lie wholly in one scratchpad or one pantry. -/
def inSram (a n : Nat) : Bool :=
  match locate a with
  | .spad _ o => decide (o + n ≤ 0x600000)
  | .pantry _ o => decide (o + n ≤ 0x1800000)
  | _ => false

/-- n bytes from an address lie wholly in storage. -/
def inStore (a n : Nat) : Bool := inDram a n || inSram a n

/-- Stack and channel of a DRAM address (R214), as 32 stack + channel. -/
def channelOf (a : Nat) : Nat :=
  let d := if a < 0x2400000000 then 0 else 1
  let o := a - d * 0x2400000000
  let b := o / 512
  let c := (b ^^^ (b >>> 6) ^^^ (b >>> 12) ^^^ (b >>> 18)) % 64
  64 * d + c

/-- UNIT of the storage that holds an address (R356). -/
def unitOf (a : Nat) : Nat :=
  match locate a with
  | .dram o => unitCode 8 (channelOf o)
  | .pantry n _ => unitCode 5 n
  | .spad q _ => unitCode 3 q
  | .flags q _ => unitCode 2 q
  | .hive n _ => unitCode 6 n
  | _ => unitCode 9 0

/-- The byte at a storage address (unlisted bytes are zero, R219). -/
def byteAt (s : State) (a : Nat) : Byte := SMap.val 0#8 s.mem.cells a

/-- n bytes from an address. -/
def bytesAt (s : State) (a n : Nat) : Bytes := (List.range n).map (fun i => byteAt s (a + i))

/-- The number at an address, little-endian. -/
def word (s : State) (a n : Nat) : Nat := ofLe (bytesAt s a n)

/-- Write bytes into the cells, keeping the canonical form. -/
def pokeCells : SMap Byte → Nat → Bytes → SMap Byte
  | m, _, [] => m
  | m, a, b :: r => pokeCells (SMap.put 0#8 m a b) (a + 1) r

/-- The marked units of `size` bytes that the n bytes from an address meet, by their first addresses. -/
def markedAll (m : SMap Bool) (size a n : Nat) : List Nat :=
  (m.filter (fun p => p.2 && decide (size * p.1 < a + n ∧ a < size * p.1 + size))).map (fun p => size * p.1)

/-- A marked unit of `size` bytes meets the n bytes from an address. -/
def anyMarked (m : SMap Bool) (size a n : Nat) : Bool := !(markedAll m size a n).isEmpty

/-- The indices of the units of `size` bytes that the n bytes from an address meet. -/
def unitsOf (size a n : Nat) : List Nat :=
  if n = 0 then [] else (List.range ((a + n - 1) / size + 1 - a / size)).map (fun i => a / size + i)

/-- The unit of `size` bytes is written whole by n bytes from an address. -/
def covers (size a n u : Nat) : Bool := decide (a ≤ size * u ∧ size * u + size ≤ a + n)

/-- The requester of an access, as records name it: UNIT, context, stream and OP (255, none and 0 where there is none); STEP and TENSOR_ID
where the rule names those of a descriptor (R203). -/
structure Req where
  unit : Nat
  ctx : Nat := 255
  stream : Option Nat := none
  op : Nat := 0
  step : Option Nat := none
  tensor : Nat := 0

/-- The STREAM byte for a requester. -/
def Req.byte (r : Req) : Nat := match r.stream with | some t => streamByte t | none => 0

/-! ## Errors of storage -/

/-- DETAIL of a class 0x01 or 0x02 record (R357): the requester, the symbols in error, the channel's corrected count. The TENSOR_ID of a
Churn's error (R203), for which R357 has no place, stands at bytes 52 to 55 of classes 0x02, 0x03 and 0x13 (DESIGN CHOICE,
notes/assumptions/86.md). -/
def dramDetail (q : Req) (symbols ce : Nat) : Bytes := detail [(40, le 2 q.unit), (42, le 2 symbols), (44, le 4 ce), (52, le 4 q.tensor)]

/-- A corrected access of a channel: counted, and recorded once a minute (R216, R358); it feeds the health score. -/
def corrected (s : State) (a : Nat) (scrub drill : Bool) (q : Req) : State :=
  let i := channelOf a
  let ch := SMap.val {} s.mem.channels i
  let minute := now s / 60000000000
  let ch1 := { ch with ce := min 4294967295 (ch.ce + 1) }
  let s1 := if drill then s else addCorrected s 1
  if ch.minute == some minute then modMem s1 (fun m => { m with channels := SMap.ins m.channels i ch1 })
  else
    let s2 := modMem s1 (fun m => { m with channels := SMap.ins m.channels i { ch1 with minute := some minute } })
    raise (drawn s2) { cls := 0x01, unit := unitCode 8 i, ctx := q.ctx, stream := q.byte, op := q.op, given := q.step, addr := a,
                       aux := if scrub then 1 else 0,
                       detail := dramDetail q (Config.symbols s2.free) ch1.ce } 0 drill

/-- A channel is lost: the module is failed (R218). -/
def loseChannel (s : State) (i a : Nat) (scrub : Bool) (q : Req) (symbols : Nat) : State :=
  let s1 := modDex s (fun d => { d with lostChannels := SMap.ins d.lostChannels i true })
  raise s1 { cls := 0x02, flags := 8, unit := unitCode 8 i, ctx := q.ctx, stream := q.byte, op := q.op, given := q.step, addr := a, aux := if scrub then 1 else 0,
             detail := dramDetail q symbols (SMap.val {} s.mem.channels i).ce } 5

/-- An uncorrectable DRAM access (R217, R218): one error of class 0x02, a module fault; the fourth within 1 ms loses the
channel. -/
def uncorrectable (s : State) (a : Nat) (scrub : Bool) (q : Req) : State :=
  let i := channelOf a
  let ch := SMap.val {} s.mem.channels i
  let recent := now s :: ch.ue.filter (fun t => decide (now s < t + 1000000))
  let s1 := modMem s (fun m => { m with channels := SMap.ins m.channels i { ch with ue := recent },
                                        poison := SMap.ins m.poison (a / 64) true })
  let symbols := Config.symbols s1.free
  let s2 := raise (drawn s1) { cls := 0x02, unit := unitCode 8 i, ctx := q.ctx, stream := q.byte, op := q.op, given := q.step, addr := a,
                               aux := if scrub then 1 else 0, detail := dramDetail q symbols ch.ce } 4
  if 4 ≤ recent.length then loseChannel s2 i a scrub q symbols else s2

/-- A class 0x03 error at a word (R224, R252): its bank and its index in its store. -/
def sramError (s : State) (a bank idx : Nat) (q : Req) : State :=
  raise s { cls := 0x03, unit := unitOf a, ctx := q.ctx, stream := q.byte, op := q.op, given := q.step, addr := a,
            detail := detail [(40, le 2 q.unit), (42, le 2 bank), (44, le 4 idx), (52, le 4 q.tensor)] } 4

/-- An uncorrectable SRAM word (R224, R252): one error of class 0x03, a module fault; one in a scratchpad counts toward R368. -/
def badSram (s : State) (a : Nat) (q : Req) : State :=
  let s1 := modMem s (fun m => { m with badWord := SMap.ins m.badWord (a / 8) true })
  match locate a with
  | .spad k o => sramError (modDex s1 (fun d => { d with sramNow := physOf s k :: d.sramNow })) a ((o / 128) % 64) (o / 8) q
  | .pantry _ o => sramError s1 a ((o / 128) % 32) (o / 8) q
  | .flags _ o => sramError s a 0 (o / 8) q
  | _ => s

/-- A corrected word or access (R216, R224): counted by its store, and toward the health score. -/
def countCorrected (s : State) (a : Nat) (scrub : Bool) (q : Req) : State :=
  match locate a with
  | .dram _ => corrected s a scrub false q
  | .spad k _ => addCorrected (modMem s (fun m => { m with spadCe := SMap.upd 0 m.spadCe k (· + 1) })) 1
  | .pantry n _ => addCorrected (modMem s (fun m => { m with pantryCe := SMap.upd 0 m.pantryCe n (· + 1) })) 1
  | .flags k _ => addCorrected (modMem s (fun m => { m with spadCe := SMap.upd 0 m.spadCe k (· + 1) })) 1
  | _ => s

/-- What the codes report at an address as a command reads it (R216 to R218, R224, R252): a correction is counted; an uncorrectable
word or access holds its error from now on, one of the flag store is raised at once; a channel whose commands fail their parity
check is lost. -/
def report1 (s : State) (q : Req) (h : CodeHit) : State :=
  match h.ecc, locate h.addr with
  | .corrected, _ => countCorrected s h.addr false q
  | .uncorrectable, .dram _ => modMem s (fun m => { m with poison := SMap.ins m.poison (h.addr / 64) true })
  | .uncorrectable, .spad _ _ => modMem s (fun m => { m with badWord := SMap.ins m.badWord (h.addr / 8) true })
  | .uncorrectable, .pantry _ _ => modMem s (fun m => { m with badWord := SMap.ins m.badWord (h.addr / 8) true })
  | .uncorrectable, .flags _ _ => badSram s h.addr q
  | .parity, .dram _ => loseChannel s (channelOf h.addr) h.addr false q 0
  | _, _ => s

/-- What the codes report as a command's reads run. -/
def inject (s : State) (hits : List CodeHit) (q : Req) : State := hits.foldl (fun acc h => report1 acc q h) s

/-- A check-value failure of the block at an address (R290): class 0x13. -/
def checkFail (s : State) (a : Nat) (q : Req) : State :=
  let blk := bytesAt s (512 * (a / 512)) 512
  let drill := s.err.drilled.contains (1, a / 512)
  raise s { cls := 0x13, unit := unitOf a, ctx := q.ctx, stream := q.byte, op := q.op, given := q.step, addr := 512 * (a / 512),
            detail := detail [(40, le 2 q.unit), (44, le 4 (~~~ (crc blk)).toNat), (48, le 4 (crc blk).toNat), (52, le 4 q.tensor)] }
    (stepEffect s q.ctx) drill

/-- A DRAM_CE drill that waits for a read of one of the channels that n bytes from an address meet (R370). -/
def drillReads (s : State) (a n : Nat) (q : Req) : State :=
  if inDram a n && s.mem.channels.any (fun c => c.2.drill) then
    (unitsOf 512 a n).foldl (fun acc b =>
      let i := channelOf (512 * b)
      let ch := SMap.val {} acc.mem.channels i
      if ch.drill then
        corrected (modMem acc (fun m => { m with channels := SMap.ins m.channels i { ch with drill := false } }))
          (max a (512 * b)) false true q
      else acc) s
  else s

/-- What a read found: the data, the accesses, words and blocks that are bad, and whether it lies outside storage. -/
structure Read where
  data : Bytes
  poisoned : List Nat := []
  sram : List Nat := []
  check : List Nat := []
  outside : Bool := false
deriving DecidableEq, Repr

/-- No code reports an uncorrectable error in what was read. -/
def Read.sound (r : Read) : Bool := r.poisoned.isEmpty && r.sram.isEmpty

/-- Every byte read is good. -/
def Read.ok (r : Read) : Bool := r.sound && r.check.isEmpty && !r.outside

/-- Look at n bytes without side effects: the data and every mark they meet. -/
def look (s : State) (a n : Nat) (verify : Bool) : Read :=
  if inStore a n then
    { data := bytesAt s a n, poisoned := if inDram a n then markedAll s.mem.poison 64 a n else [],
      sram := if inDram a n then [] else markedAll s.mem.badWord 8 a n,
      check := if verify then markedAll s.mem.badCheck 512 a n else [] }
  else { data := [], outside := true }

/-- Raise what a read of n bytes from an address found, one error for each access, word and block (R210, R217, R224, R290). -/
def reactRead (s : State) (a n : Nat) (r : Read) (q : Req) : State :=
  let s1 := if r.outside && unmapped a n then countUnmapped s else s
  let s2 := r.poisoned.foldl (fun acc x => uncorrectable acc x false q) s1
  let s3 := r.sram.foldl (fun acc x => badSram acc x q) s2
  r.check.foldl (fun acc x => checkFail acc x q) s3

/-- A read of storage by a unit: the drill of R370, the errors it meets, and what it found. -/
def load (s : State) (a n : Nat) (verify : Bool) (q : Req) : State × Read :=
  let s0 := drillReads s a n q
  let r := look s0 a n verify
  (reactRead s0 a n r q, r)

/-! ## Writing -/

/-- A write meets the scratchpad of a redundant pair's partner core, and is not that core's own: it is refused (R362). -/
def guarded (s : State) (a : Nat) (q : Req) : Bool :=
  match locate a with
  | .spad k _ => isPartner s k && !(q.unit == unitCode 0 k || q.unit == unitCode 1 k || q.unit == unitCode 2 k)
  | _ => false

/-- Marks after a write of n bytes at an address: whole units are cleared, others keep theirs. -/
def clearMarks (m : SMap Bool) (size a n : Nat) : SMap Bool :=
  (unitsOf size a n).foldl (fun acc u => if covers size a n u then SMap.del acc u else acc) m

/-- Set marks on every unit that n bytes from an address meet. -/
def setMarks (m : SMap Bool) (size a n : Nat) : SMap Bool :=
  (unitsOf size a n).foldl (fun acc u => SMap.ins acc u true) m

/-- The bytes and marks of a storage write, without the errors it meets. -/
def poke (s : State) (a : Nat) (data : Bytes) (press : Bool) : State :=
  let n := data.length
  modMem s (fun m => { m with
    cells := pokeCells m.cells a data, poison := clearMarks m.poison 64 a n, badCheck := clearMarks m.badCheck 512 a n,
    badWord := clearMarks m.badWord 8 a n,
    press := if press && inDram a n then setMarks m.press 64 a n else clearMarks m.press 64 a n })

/-- The units that a write meets only in part and that carry a mark, by their first address. -/
def partMarked (m : SMap Bool) (size a n : Nat) : List Nat :=
  ((unitsOf size a n).filter (fun u => !covers size a n u && SMap.val false m u)).map (fun u => size * u)

/-- Status of a storage write: 0 accepted, 2 UNMAPPED, 3 an error completion (R271). -/
def writeStatus (s : State) (a n : Nat) : Nat :=
  if !inStore a n then (if unmapped a n then 2 else 3)
  else if inDram a n && !(partMarked s.mem.poison 64 a n).isEmpty then 3
  else if !inDram a n && !(partMarked s.mem.badWord 8 a n).isEmpty then 3
  else 0

/-- Raise what a write meets (R217, R224, R288): the old block of a partial write that fails its check value, a poisoned
access written in part, an uncorrectable word merged. -/
def reactWrite (s : State) (a n : Nat) (q : Req) : State :=
  let s1 := (partMarked s.mem.badCheck 512 a n).foldl (fun acc b => checkFail acc b q) s
  if inDram a n then (partMarked s1.mem.poison 64 a n).foldl (fun acc b => uncorrectable acc b false q) s1
  else (partMarked s1.mem.badWord 8 a n).foldl (fun acc b => badSram acc b q) s1

/-- A write into storage by a unit (R212, R217, R288), with its status; the partner core's scratchpad takes the same bytes
(R362). -/
def storeRaw (s : State) (a : Nat) (data : Bytes) (press : Bool) (q : Req) : State × Nat :=
  let n := data.length
  let st := writeStatus s a n
  if !inStore a n then (if unmapped a n then countUnmapped s else s, st)
  else if guarded s a q then (s, 3)
  else
    let s1 := poke (reactWrite s a n q) a data press
    let s2 := match locate a with
      | .spad k o => match partner s k with
        | some k2 => poke s1 (spadBase k2 + o) data press
        | none => s1
      | _ => s1
    (s2, st)

/-- The byte at an address belongs to a census record that the n bytes from `a` meet, and not to its identifier (R119, R121). -/
def inRecord (t : Nat × Nat × Nat) (a n x : Nat) : Bool :=
  let r := t.1 + 32 * ((x - t.1) / 32)
  decide (t.1 ≤ x ∧ x < t.1 + 32 * t.2.1 ∧ r + 4 ≤ x ∧ r < a + n ∧ a < r + 32)

/-- A census record that is written from outside the census is cleared to zero, except for its identifier (R121). -/
def clearRecords (s : State) (a n : Nat) : State :=
  if s.census.any (fun t => decide (t.2.1 < a + n ∧ a < t.2.1 + 32 * t.2.2.1)) then
    modMem s (fun m => { m with cells := m.cells.filter (fun c => !s.census.any (fun t => inRecord t.2 a n c.1)) })
  else s

/-- A write into storage by any unit but the census itself. -/
def store (s : State) (a : Nat) (data : Bytes) (press : Bool) (q : Req) : State × Nat :=
  let r := storeRaw s a data press q
  (clearRecords r.1 a data.length, r.2)

/-- Runs of contiguous addresses of a map of bytes, in ascending order. -/
def runsOf (m : SMap Byte) : List (Nat × Bytes) :=
  (m.foldl (fun (acc : List (Nat × Bytes)) p =>
    match acc with
    | (a, bs) :: rest => if a + bs.length == p.1 then (a, bs ++ [p.2]) :: rest else (p.1, [p.2]) :: acc
    | [] => [(p.1, [p.2])]) []).reverse

/-- A write whose status nobody reads. -/
def store' (s : State) (a : Nat) (data : Bytes) (q : Req) : State := (store s a data false q).1

/-- Write a map of bytes, run by run. -/
def storeMap (s : State) (m : SMap Byte) (q : Req) : State :=
  (runsOf m).foldl (fun acc r => store' acc r.1 r.2 q) s

/-- Mark the accesses that n bytes from an address meet as poisoned (R478). -/
def poisonAll (s : State) (a n : Nat) : State :=
  modMem s (fun m => { m with poison := setMarks m.poison 64 a n })

/-- The canonical form of the memory: keys rise strictly and no listed byte is zero. -/
def wf (m : Memory) : Bool := SMap.canon 0#8 m.cells

end Sys2Proof.Machine.Mem
end

