-- ==== Sys2Proof/Machine/Order.lean ====
section
/-! DEFINITION. The order of events within one arithmetic cycle (R52, R251, R256, R262). Time passes only on an empty queue, so the commands that
wait belong to the cycle of the command that runs: one that R52 places after a command still waiting is not in its turn, and has no
effect (DESIGN CHOICE, notes/assumptions/79.md). -/

namespace Sys2Proof.Machine.Order

/-- The queue, of a cluster, whose push area an address lies in (R241). -/
def pushArea (a : Nat) : Option (Nat × Nat) :=
  match Mem.locate a with
  | .hive n o => if o < 0x800000 ∧ o % 0x1000 < 0x800 then some (n, o / 0x1000) else none
  | _ => none

/-- The queue, of a cluster, whose take or peek area an address lies in (R241). -/
def readArea (a : Nat) : Option (Nat × Nat) :=
  match Mem.locate a with
  | .hive n o => if o < 0x800000 ∧ 0x800 ≤ o % 0x1000 then some (n, o / 0x1000) else none
  | _ => none

/-- The queue a command appends to. -/
def appendTo : Instr → Option (Nat × Nat)
  | .hivePush n q .. => some (n, q)
  | .write p => pushArea p.pkt.addr
  | .writeF p => pushArea p.pkt.addr
  | .hostMemoryWrite a _ => pushArea a
  | _ => none

/-- No append to a queue waits: a read of it in the same cycle follows them (R251). -/
def appended (s : State) (n q : Nat) : Bool := s.pending.all (fun c => appendTo c != some (n, q))

/-- The same for a read at an address. -/
def readable (s : State) (a : Nat) : Bool := match readArea a with | some x => appended s x.1 x.2 | none => true

/-- n bytes from an address meet the FLG_TRACE of a core (R261). -/
def meetsTrace (a n : Nat) : Bool :=
  (List.range 64).any (fun q => decide (a < 0x600000000440 + 0x10000 * q ∧ 0x600000000420 + 0x10000 * q < a + n))

/-- A read of FLG_TRACE, which shows the end of its cycle (R262). -/
def readsTrace : Instr → Bool
  | .hostMemoryRead a n _ => meetsTrace a n
  | .readReq p _ => meetsTrace p.addr p.rlen
  | _ => false

/-- Arrivals of packets, responses and control messages, with the events of the links that bring them. -/
def isArrival : Instr → Bool
  | .write _ | .writeF _ | .flagPkt _ | .readReq .. | .readRsp _ | .ack _ | .errorRsp _ => true
  | .voteUp .. | .voteDown .. | .abortMsg .. | .firefly .. | .fenceNotice _ | .linkDownAnnounce _ => true
  | .hello .. | .certificateChain .. | .keyingEncapKey .. | .keyingCiphertext .. | .rekeyExchangeMsg .. => true
  | .frameReceive .. | .hivePush .. | .configDigestReturn _ => true
  | .hostMemoryWrite a _ => (pushArea a).isSome
  | _ => false

/-- Writes to FLG_ACT. -/
def isFlagWrite : Instr → Bool
  | .flgActSet .. | .flgActClear .. | .flgActNone .. => true
  | .hostMemoryWrite a _ => match Mem.locate a with | .flags _ o => o == 0x400 | _ => false
  | _ => false

/-- Completions of a core's own operations. -/
def isCompletion : Instr → Bool
  | .passComplete .. | .vectorOpComplete .. => true
  | _ => false

/-- Deadlines in fabric time. -/
def isTimeout : Instr → Bool
  | .waitTimeout _ | .orderingTimeout .. | .operationTimeout _ | .stepDeadline _ | .drainEnd | .keyingTimeout _ => true
  | .digestTimeout _ | .confirmWaitExpiry _ | .workTimeout .. | .entryExpired _ | .probeOutcome _ => true
  | .holdoverEntry | .holdoverLimit | .epochWaitExpiry | .backupRootTakeover => true
  | _ => false

/-- Scheduled actions that fire at their instant. -/
def isAction : Instr → Bool
  | .startEntry _ | .routeSwap _ | .rekey _ | .checksumFlip _ | .checkFlip _ | .linkLoss _ | .moduleReset _ | .packetDrop _ | .dramCe _ => true
  | _ => false

/-- Place of a command in the order of a cycle: 0 arrivals; 1 the Churns; 2 the Presses; 3 writes to FLG_ACT; 4 completions;
5 timeouts; 6 scheduled actions; 7 every other command, the issue of new work and the waits among them; 8 the expiry of a quantum, after the
issues of its cycle (R173); 9 reads of FLG_TRACE. -/
def rank (c : Instr) : Nat :=
  if readsTrace c then 9
  else if isArrival c then 0
  else match c with
    | .churnDescriptorFinish _ => 1
    | .pressDescriptorFinish .. => 2
    | .quantumExpiry _ => 8
    | _ => if isFlagWrite c then 3 else if isCompletion c then 4 else if isTimeout c then 5 else if isAction c then 6 else 7

/-- No command of a lower place waits: a command of place `k` is in its turn. -/
def turn (k : Nat) (s : State) : Bool := s.pending.all (fun c => decide (k ≤ rank c))

/-- A flag action that a packet brings. -/
def isFlagArrival : Instr → Bool
  | .writeF _ | .flagPkt _ => true
  | _ => false

/-- No flag action of the cycle that R256 places before the completions of a core's own operations waits. -/
def flagsDone (s : State) : Bool := s.pending.all (fun c => !isFlagArrival c && !decide (1 ≤ rank c ∧ rank c ≤ 3))

end Sys2Proof.Machine.Order
end

