-- ==== Sys2Proof/Machine/Num.lean ====
section
/-! DEFINITION. Number formats and rounding (R89 to R117): exact values, decoding and encoding of every format, rounding to
nearest even with limiting, MX blocks, stochastic rounding and its generator, exact sums and products, quotients and roots
with a sticky bit. -/

namespace Sys2Proof.Machine.Numeric

open Bits

/-- An exact value: NaN, an infinity, or (-1)^neg · m · 2^e (R90, R91). -/
inductive Val where
  | nan
  | inf (neg : Bool)
  | fin (neg : Bool) (m : Nat) (e : Int)
deriving DecidableEq, Repr

/-- How a format spends its top exponent code (R90). -/
inductive Special where
  | ieee
  | e4m3
  | none
deriving DecidableEq, Repr

/-- A floating-point format (R90): exponent bits, fraction bits, bias. -/
structure Fmt where
  eb : Nat
  fb : Nat
  bias : Nat
  special : Special
deriving DecidableEq, Repr

def fp32 : Fmt := ⟨8, 23, 127, .ieee⟩
def bf16 : Fmt := ⟨8, 7, 127, .ieee⟩
def fp16 : Fmt := ⟨5, 10, 15, .ieee⟩
def e4m3 : Fmt := ⟨4, 3, 7, .e4m3⟩
def e5m2 : Fmt := ⟨5, 2, 15, .ieee⟩
def e3m2 : Fmt := ⟨3, 2, 3, .none⟩
def e2m3 : Fmt := ⟨2, 3, 1, .none⟩
def e2m1 : Fmt := ⟨2, 1, 1, .none⟩
def x40 : Fmt := ⟨8, 31, 127, .ieee⟩

/-- The element format of a format code (R89); none for integers and reserved codes. -/
def fmtOf (code : Nat) : Option Fmt :=
  match code with
  | 0 => some fp32
  | 1 => some bf16
  | 2 => some fp16
  | 3 => some e4m3
  | 4 => some e5m2
  | 5 => some e4m3
  | 6 => some e5m2
  | 7 => some e3m2
  | 8 => some e2m3
  | 9 => some e2m1
  | 13 => some x40
  | _ => none

/-- MX codes (R89). -/
def isMx (code : Nat) : Bool := decide (5 ≤ code ∧ code ≤ 9)

/-- Integer codes (R89): INT8, INT4, INT32. -/
def isInt (code : Nat) : Bool := decide (10 ≤ code ∧ code ≤ 12)

/-- Element width in bits (R89). -/
def width (code : Nat) : Nat :=
  match code with
  | 0 => 32
  | 1 => 16
  | 2 => 16
  | 3 => 8
  | 4 => 8
  | 5 => 8
  | 6 => 8
  | 7 => 6
  | 8 => 6
  | 9 => 4
  | 10 => 8
  | 11 => 4
  | 12 => 32
  | 13 => 40
  | _ => 0

namespace Fmt

/-- Width of the format in bits. -/
def bits (f : Fmt) : Nat := 1 + f.eb + f.fb

/-- Exponent of the smallest normal, emin (R90). -/
def emin (f : Fmt) : Int := 1 - (f.bias : Int)

/-- Largest finite magnitude code (R90). -/
def maxCode (f : Fmt) : Nat :=
  match f.special with
  | .ieee => (2 ^ f.eb - 1) * 2 ^ f.fb - 1
  | .e4m3 => 2 ^ (f.eb + f.fb) - 2
  | .none => 2 ^ (f.eb + f.fb) - 1

/-- emax (R90). -/
def emax (f : Fmt) : Int := ((f.maxCode / 2 ^ f.fb : Nat) : Int) - f.bias

/-- Canonical NaN code (R91). -/
def nanCode (f : Fmt) : Nat :=
  match f.special with
  | .ieee => (2 ^ f.eb - 1) * 2 ^ f.fb + 2 ^ (f.fb - 1)
  | .e4m3 => 2 ^ (f.eb + f.fb) - 1
  | .none => 0

/-- Code of an infinity (R90); E4M3 has none and gives 0x7F (R110). -/
def infCode (f : Fmt) (neg : Bool) : Nat :=
  match f.special with
  | .ieee => (if neg then 2 ^ (f.eb + f.fb) else 0) + (2 ^ f.eb - 1) * 2 ^ f.fb
  | .e4m3 => 2 ^ (f.eb + f.fb) - 1
  | .none => f.maxCode

/-- The value of a code (R90). -/
def decode (f : Fmt) (c : Nat) : Val :=
  let neg := c.testBit (f.eb + f.fb)
  let x := (c >>> f.fb) % 2 ^ f.eb
  let fr := c % 2 ^ f.fb
  let top := x == 2 ^ f.eb - 1
  if f.special == .ieee && top then (if fr == 0 then .inf neg else .nan)
  else if f.special == .e4m3 && top && fr == 2 ^ f.fb - 1 then .nan
  else if x == 0 then .fin neg fr (1 - (f.bias : Int) - f.fb)
  else .fin neg (2 ^ f.fb + fr) ((x : Int) - f.bias - f.fb)

end Fmt

/-- floor(m / 2^k) for a positive k, m · 2^(-k) otherwise. -/
def shiftDown (m : Nat) (k : Int) : Nat := if k ≤ 0 then m <<< (-k).toNat else m >>> k.toNat

/-- Nearest-even choice between n and n + 1 for (m, sticky) cut below bit k. -/
def roundsUp (m : Nat) (k : Int) (sticky : Bool) : Bool :=
  if k ≤ 0 then false
  else
    let s := k.toNat
    let n := m >>> s
    let rem := m - (n <<< s)
    let half := 1 <<< (s - 1)
    decide (half < rem) || (rem == half && (sticky || n % 2 == 1))

/-- The magnitude code of m · 2^e (plus a little, when sticky) rounded to nearest even, before limiting (R109). -/
def roundMag (f : Fmt) (m : Nat) (e : Int) (sticky : Bool) : Nat :=
  if m == 0 then 0
  else
    let ex : Int := (m.log2 : Int) + e
    let q : Int := (if ex < f.emin then f.emin else ex) - f.fb
    let n := shiftDown m (q - e) + (if roundsUp m (q - e) sticky then 1 else 0)
    ((q + f.fb + f.bias - 1).toNat) * 2 ^ f.fb + n

/-- A code with its sign. -/
def withSign (f : Fmt) (neg : Bool) (mag : Nat) : Nat := (if neg then 2 ^ (f.eb + f.fb) else 0) + mag

/-- A magnitude code beyond the largest finite value is limited (R107, R110): mode 0 takes the largest finite value and
counts it saturated, mode 1 takes infinity. -/
def limit (f : Fmt) (ieee neg : Bool) (mag : Nat) : Nat × Bool :=
  if f.maxCode < mag then (if ieee then (f.infCode neg, false) else (withSign f neg f.maxCode, true))
  else (withSign f neg mag, false)

/-- A value converted to a format under an overflow mode, with whether it was limited (R109, R110). -/
def encode (f : Fmt) (ieee : Bool) : Val → Nat × Bool
  | .nan => (f.nanCode, false)
  | .inf neg => (f.infCode neg, false)
  | .fin neg m e => limit f ieee neg (roundMag f m e false)

/-- The integer nearest to a value, ties to even. -/
def toInt (neg : Bool) (m : Nat) (e : Int) : Int :=
  let n := shiftDown m (-e) + (if roundsUp m (-e) false then 1 else 0)
  if neg then -(n : Int) else n

/-- Limits of an integer format (R93). -/
def intMax (code : Nat) : Int := 2 ^ (width code - 1) - 1
def intMin (code : Nat) : Int := -(2 ^ (width code - 1))

/-- An integer limited to a format's range, with whether it was limited (R110). -/
def clampInt (code : Nat) (x : Int) : Int × Bool :=
  if intMax code < x then (intMax code, true) else if x < intMin code then (intMin code, true) else (x, false)

/-- The exact value of an integer. -/
def ofInt (x : Int) : Val := .fin (decide (x < 0)) x.natAbs 0

/-- The value of an element code of a data format (R89 to R94): the element's own value, without its block's scale. -/
def elemVal (code c : Nat) : Val :=
  match fmtOf code with
  | some f => f.decode c
  | none => ofInt (toSigned (width code) c)

/-- A value times a block's scale (R94). -/
def scaled (sb : Nat) : Val → Val
  | .nan => .nan
  | .inf n => if sb == 255 then .nan else .inf n
  | .fin n m e => if sb == 255 then .nan else .fin n m (e + (sb : Int) - 127)

/-! ## Exact arithmetic -/

/-- An exact signed number k · 2^e. -/
structure Exact where
  k : Int
  e : Int
deriving DecidableEq, Repr

def toExact (neg : Bool) (m : Nat) (e : Int) : Exact := ⟨if neg then -(m : Int) else m, e⟩

/-- The mantissa of a number at a lower or equal exponent. -/
def Exact.at (x : Exact) (e : Int) : Int := x.k * 2 ^ (x.e - e).toNat

def Exact.add (x y : Exact) : Exact := let e := min x.e y.e; ⟨x.at e + y.at e, e⟩
def Exact.mul (x y : Exact) : Exact := ⟨x.k * y.k, x.e + y.e⟩
def Exact.neg (x : Exact) : Exact := ⟨-x.k, x.e⟩
def Exact.lt (x y : Exact) : Bool := let e := min x.e y.e; decide (x.at e < y.at e)
def Exact.zero : Exact := ⟨0, 0⟩

/-- An exact result as a value: zero is +0 (R91). -/
def Exact.val (x : Exact) : Val := if x.k == 0 then .fin false 0 0 else .fin (decide (x.k < 0)) x.k.natAbs x.e

/-- A result before it is rounded: special, or a magnitude with a sticky bit for what lies below it. -/
inductive Res where
  | nan
  | inf (neg : Bool)
  | num (neg : Bool) (m : Nat) (e : Int) (sticky : Bool)
deriving DecidableEq, Repr

/-- A value moved without being computed keeps its sign (R91). -/
def moved : Val → Res
  | .nan => .nan
  | .inf n => .inf n
  | .fin n m e => .num n m e false

def Exact.res (x : Exact) : Res := .num (decide (x.k < 0)) x.k.natAbs x.e false

/-- A result rounded once to FP32 under an overflow mode (R107, R112), with whether it was limited. -/
def toF32 (ieee : Bool) : Res → Nat × Bool
  | .nan => (fp32.nanCode, false)
  | .inf n => (fp32.infCode n, false)
  | .num n m e st =>
    if m == 0 && !st then (withSign fp32 n 0, false) else limit fp32 ieee n (roundMag fp32 m e st)

/-- A result rounded once to X40 (R96), with whether it was limited. -/
def toX40 (ieee : Bool) : Res → Nat × Bool
  | .nan => (x40.nanCode, false)
  | .inf n => (x40.infCode n, false)
  | .num n m e st =>
    if m == 0 && !st then (withSign x40 n 0, false) else limit x40 ieee n (roundMag x40 m e st)

def isZero : Val → Bool
  | .fin _ m _ => m == 0
  | _ => false

def isFinite : Val → Bool
  | .fin _ _ _ => true
  | _ => false

def isNan : Val → Bool
  | .nan => true
  | _ => false

def signOf : Val → Bool
  | .nan => false
  | .inf n => n
  | .fin n _ _ => n

def negVal : Val → Val
  | .nan => .nan
  | .inf n => .inf (!n)
  | .fin n m e => .fin (!n) m e

/-- Strict order of two values that are not NaN. -/
def ltVal : Val → Val → Bool
  | .nan, _ => false
  | _, .nan => false
  | .inf a, .inf b => a && !b
  | .inf a, .fin _ _ _ => a
  | .fin _ _ _, .inf b => !b
  | .fin a m e, .fin b n d => (toExact a m e).lt (toExact b n d)

/-- A + B, exact (R133); infinities of both signs give NaN under IEEE 754-2019. -/
def add : Val → Val → Res
  | .nan, _ => .nan
  | _, .nan => .nan
  | .inf a, .inf b => if a == b then .inf a else .nan
  | .inf a, .fin _ _ _ => .inf a
  | .fin _ _ _, .inf b => .inf b
  | .fin a m e, .fin b n d => ((toExact a m e).add (toExact b n d)).res

def sub (x y : Val) : Res := add x (negVal y)

/-- A · B, exact (R133): a product with a zero operand is +0, infinity times zero is NaN. -/
def mul : Val → Val → Res
  | .nan, _ => .nan
  | _, .nan => .nan
  | .inf a, .inf b => .inf (a != b)
  | .inf a, .fin b n _ => if n == 0 then .nan else .inf (a != b)
  | .fin a m _, .inf b => if m == 0 then .nan else .inf (a != b)
  | .fin a m e, .fin b n d => ((toExact a m e).mul (toExact b n d)).res

/-- A · B + C, exact (R133). -/
def fma (a b c : Val) : Res :=
  match mul a b, c with
  | .nan, _ => .nan
  | _, .nan => .nan
  | .inf x, .inf y => if x == y then .inf x else .nan
  | .inf x, .fin _ _ _ => .inf x
  | .num _ _ _ _, .inf y => .inf y
  | .num n m e _, .fin s k d => ((toExact n m e).add (toExact s k d)).res

/-- A / B (R536). -/
def div : Val → Val → Res
  | .nan, _ => .nan
  | _, .nan => .nan
  | .inf _, .inf _ => .nan
  | .inf a, .fin b _ _ => .inf (a != b)
  | .fin _ _ _, .inf _ => .num false 0 0 false
  | .fin a m e, .fin b n d =>
    if n == 0 then (if m == 0 then .nan else .inf (a != b))
    else if m == 0 then .num false 0 0 false
    else
      let s := 96 + n.log2
      let q := (m <<< s) / n
      .num (a != b) q (e - d - s) ((m <<< s) % n != 0)

/-- The value 1. -/
def one : Val := .fin false 1 0

/-- One step of the integer square root, from the highest bit down. -/
def isqrtAux (n : Nat) : Nat → Nat → Nat
  | 0, r => r
  | k + 1, r => let c := r + 2 ^ k; if c * c ≤ n then isqrtAux n k c else isqrtAux n k r

/-- floor (sqrt n). -/
def isqrt (n : Nat) : Nat := isqrtAux n (n.log2 / 2 + 1) 0

/-- √A (R536). -/
def sqrt : Val → Res
  | .nan => .nan
  | .inf n => if n then .nan else .inf false
  | .fin n m e =>
    if m == 0 then .num false 0 0 false
    else if n then .nan
    else
      let s : Nat := if e % 2 == 0 then 128 else 129
      let x := m <<< s
      let r := isqrt x
      .num false r ((e - s) / 2) (r * r != x)

/-- 1 / √A (R536). -/
def rsqrt : Val → Res
  | .nan => .nan
  | .inf n => if n then .nan else .num false 0 0 false
  | .fin n m e =>
    if m == 0 then .inf false
    else if n then .nan
    else
      let s0 : Nat := 128 + m.log2
      let s : Nat := if ((s0 : Int) + e) % 2 == 0 then s0 else s0 + 1
      let x := (1 <<< s) / m
      let r := isqrt x
      .num false r (-(((s : Int) + e) / 2)) (r * r * m != 1 <<< s)

/-! ## MX blocks (R94, R111) -/

/-- floor(log2 |v|) of a nonzero finite value. -/
def expOf : Val → Int
  | .fin _ m e => (m.log2 : Int) + e
  | _ => 0

/-- The larger magnitude of two finite values. -/
def maxMag (x y : Val) : Val :=
  match x, y with
  | .fin _ m e, .fin _ n d => if (toExact false m e).lt (toExact false n d) then y else x
  | _, _ => x

/-- The scale byte of a block from its largest magnitude (R111 step 2). -/
def scaleOf (f : Fmt) (top : Val) : Nat :=
  if isZero top then 0
  else
    let s := expOf top - f.emax
    ((if s < -127 then -127 else if 127 < s then 127 else s) + 127).toNat

/-- One element of a block divided by its scale and rounded, limited to the largest finite value (R111 steps 3 and 4). -/
def mxElem (f : Fmt) (sb : Nat) : Val → Nat
  | .fin n m e => withSign f n (min f.maxCode (roundMag f m (e - ((sb : Int) - 127)) false))
  | _ => 0

/-- A block of values encoded under R111: its scale byte and its element codes. -/
def mxBlock (f : Fmt) (vs : List Val) : Nat × List Nat :=
  if vs.all isFinite then
    let top := vs.foldl maxMag (.fin false 0 0)
    let sb := scaleOf f top
    (sb, vs.map (mxElem f sb))
  else (255, vs.map (fun _ => 0))

/-! ## Stochastic rounding (R113 to R117) -/

/-- The generator of R114. -/
def srWord (seed : W64) (step tensor index : W32) : W32 :=
  let k0 : W32 := seed.setWidth 32
  let k1 : W32 := (seed >>> 32).setWidth 32
  let round := fun (st : W32 × W32 × W32 × W32) (r : Nat) =>
    let a := st.1 + k0
    let b := st.2.1 + k1
    let c := st.2.2.1 ^^^ BitVec.ofNat 32 r
    let a := a + b
    let d := (st.2.2.2 ^^^ a).rotateLeft 16
    let c := c + d
    let b := (b ^^^ c).rotateLeft 12
    let a := a + b
    let d := (d ^^^ a).rotateLeft 8
    let c := c + d
    let b := (b ^^^ c).rotateLeft 4
    (a, b, c, d)
  let w := (List.range 4).foldl round (index >>> 2, tensor, step, 0x9E3779B9#32)
  match index.toNat % 4 with
  | 0 => w.1
  | 1 => w.2.1
  | 2 => w.2.2.1
  | _ => w.2.2.2

/-- Stochastic rounding of a finite magnitude m · 2^e to a format at a scale exponent (R116), limited to the largest finite
magnitude, with whether it was limited. -/
def srMag (f : Fmt) (m : Nat) (e : Int) (scale : Int) (r : W32) : Nat × Bool :=
  if m == 0 then (0, false)
  else
    let e1 := e - scale
    let ex : Int := (m.log2 : Int) + e1
    let q : Int := (if ex < f.emin then f.emin else ex) - f.fb
    let k := q - e1
    let n := shiftDown m k
    let d := if k ≤ 0 then 0 else ((m - (n <<< k.toNat)) <<< 32) >>> k.toNat
    let up := decide (r.toNat < d)
    let mag := ((q + f.fb + f.bias - 1).toNat) * 2 ^ f.fb + n + (if up then 1 else 0)
    if f.maxCode < mag then (f.maxCode, true) else (mag, false)

/-- A value rounded stochastically to a plain format (R116), with whether it was limited. -/
def srEncode (f : Fmt) (v : Val) (r : W32) : Nat × Bool :=
  match v with
  | .nan => (f.nanCode, false)
  | .inf n => (withSign f n f.maxCode, true)
  | .fin n m e => let x := srMag f m e 0 r; (withSign f n x.1, x.2)

/-- The largest finite X40 magnitude (R117). -/
def x40Max (n : Bool) : Val := match x40.decode x40.maxCode with | .fin _ m e => .fin n m e | v => v

/-- A block of X40 values written as MX working weights (R117) with the random word of each element; the flags say which
elements were limited. -/
def srBlock (f : Fmt) (vs : List (Val × W32)) : Nat × List (Nat × Bool) :=
  if vs.any (fun p => isNan p.1) then (255, vs.map (fun _ => (0, false)))
  else
    let top := (vs.map (fun p => match p.1 with | .inf n => x40Max n | v => v)).foldl maxMag (.fin false 0 0)
    let sb := scaleOf f top
    (sb, vs.map (fun p => match p.1 with
      | .inf n => (withSign f n f.maxCode, true)
      | .fin n m e => let x := srMag f m e ((sb : Int) - 127) p.2; (withSign f n x.1, x.2)
      | .nan => (0, false)))

end Sys2Proof.Machine.Numeric
end

