-- ==== Sys2Proof/Machine/Operands.lean ====
section
/-! DEFINITION. Operands and results: stream descriptors (R125 to R128), the elements of a stream as exact values, result
elements converted and packed (R95, R109 to R111), and the tensor census (R118 to R121). -/

namespace Sys2Proof.Machine.Operand

open Bits Ops Report Numeric

/-! ## Descriptors -/

/-- The 32 bytes of a stream descriptor (R125). -/
def parse (b : Bytes) : StreamDesc :=
  let f := at' b 6 1
  let inner := at' b 8 4
  { base := at' b 0 6, format := f % 16, kind := at' b 7 1, inner := inner % 16777216, rows := at' b 12 2,
    stride := at' b 16 4, tensor := at' b 20 4, scale := at' b 24 6,
    resv := f / 16 + inner / 16777216 + at' b 14 2 + at' b 30 2 }

/-- Address of entry idx of a context's descriptor table on a core (R127). -/
def descAddr (x : Ctx) (q idx : Nat) : Nat := Mem.spadBase q + x.fields.descBase + 32 * idx

/-- The descriptor at an index of a context's table on a core, when the entry lies in the core's scratchpad. -/
def descAt (s : State) (x : Ctx) (q idx : Nat) : Option StreamDesc :=
  if x.fields.descBase + 32 * idx + 32 ≤ 0x600000 then some (parse (Mem.bytesAt s (descAddr x q idx) 32)) else none

/-- Read the entries of the descriptor table that an operation names (R127): the errors their words meet are raised (R150). -/
def descRead (s : State) (x : Ctx) (q : Nat) (idx : List Nat) (rq : Mem.Req) : State :=
  idx.foldl (fun acc i => (Mem.load acc (descAddr x q i) 32 false rq).1) s

/-- An entry of the descriptor table that an operation names lies in a corrupted word (R150). -/
def descBad (s : State) (x : Ctx) (q : Nat) (idx : List Nat) : Bool := idx.any (fun i => Mem.anyMarked s.mem.badWord 8 (descAddr x q i) 32)

/-- A descriptor keeps R125 and R126: formats, kinds, ranges, reserved fields, row strides and MX rows. -/
def wfDesc (d : StreamDesc) : Bool :=
  d.resv == 0 && decide (d.kind ≤ 4) && decide (d.format ≤ 13) && decide (1 ≤ d.inner) && decide (1 ≤ d.rows) &&
  (if d.kind == 1 then d.format == 0 && d.scale == 0
   else d.stride != 0 && (if isMx d.format then d.inner % 32 == 0 else d.scale == 0) &&
     (if d.kind == 2 then d.format == 12 else true))

/-- Bytes of one packed row (R95, R126). -/
def rowBytes (d : StreamDesc) : Nat := ceilDiv (d.inner * (if d.kind == 1 then 1 else width d.format)) 8

/-- Address range of the elements: first byte and one past the last (R129). -/
def dataRange (d : StreamDesc) : Nat × Nat :=
  if d.kind == 1 && d.stride == 0 then (d.base, d.base + ceilDiv (d.rows * d.inner) 8)
  else (d.base, d.base + (d.rows - 1) * d.stride + rowBytes d)

/-- Address range of the scale array of an MX stream (R126). -/
def scaleRange (d : StreamDesc) : Nat × Nat := (d.scale, d.scale + d.rows * (d.inner / 32))

/-- The byte range of a stream, from its lowest byte to its highest, its scale array included (R129). -/
def byteRange (d : StreamDesc) : Nat × Nat :=
  let r := dataRange d
  if isMx d.format && d.kind != 1 then (min r.1 (scaleRange d).1, max r.2 (scaleRange d).2) else r

/-- A range lies wholly in core q's scratchpad or in its cluster's pantry (R128). -/
def local' (q : Nat) (r : Nat × Nat) : Bool :=
  decide ((Mem.spadBase q ≤ r.1 ∧ r.2 ≤ Mem.spadBase q + 0x600000) ∨
          (Mem.pantryBase (q / 8) ≤ r.1 ∧ r.2 ≤ Mem.pantryBase (q / 8) + 0x1800000))

/-- The alignment rules of R128. -/
def aligned (d : StreamDesc) : Bool :=
  if d.kind == 1 then true
  else
    (if width d.format == 16 then d.base % 2 == 0 && d.stride % 2 == 0
     else if width d.format == 32 then d.base % 4 == 0 && d.stride % 4 == 0 else true) &&
    (if width d.format == 4 then d.inner % 2 == 0 else if width d.format == 6 then d.inner % 4 == 0 else true)

/-- R128: location and alignment of a stream of the vector engine on core q. -/
def placed (q : Nat) (d : StreamDesc) : Bool :=
  local' q (dataRange d) && (if isMx d.format && d.kind != 1 then local' q (scaleRange d) else true) && aligned d

/-- Two byte ranges intersect. -/
def meets (a b : Nat × Nat) : Bool := decide (a.1 < b.2 ∧ b.1 < a.2)

/-- Two descriptors are identical in BASE, INNER, ROWS, ROW_STRIDE and element width (R129). -/
def inPlace (a b : StreamDesc) : Bool :=
  a.base == b.base && a.inner == b.inner && a.rows == b.rows && a.stride == b.stride &&
  (if a.kind == 1 then 1 else width a.format) == (if b.kind == 1 then 1 else width b.format)

/-! ## Reading elements -/

/-- Bit address of element c of row r: its byte and the bit within it (R95, R126). -/
def elemPos (d : StreamDesc) (r c : Nat) : Nat × Nat :=
  if d.kind == 1 then
    if d.stride == 0 then let f := r * d.inner + c; (d.base + f / 8, f % 8)
    else (d.base + r * d.stride + c / 8, c % 8)
  else let o := c * width d.format; (d.base + r * d.stride + o / 8, o % 8)

/-- Width of an element in bits. -/
def elemWidth (d : StreamDesc) : Nat := if d.kind == 1 then 1 else width d.format

/-- Bytes that an element touches. -/
def elemSpan (d : StreamDesc) (r c : Nat) : Nat × Nat :=
  let p := elemPos d r c
  (p.1, ceilDiv (p.2 + elemWidth d) 8)

/-- The code of element c of row r. -/
def elemCode (s : State) (d : StreamDesc) (r c : Nat) : Nat :=
  let p := elemPos d r c
  (Mem.word s p.1 (elemSpan d r c).2 >>> p.2) % 2 ^ elemWidth d

/-- The scale byte of the block of element c of row r (R126). -/
def scaleByte (s : State) (d : StreamDesc) (r c : Nat) : Nat :=
  (Mem.byteAt s (d.scale + r * (d.inner / 32) + c / 32)).toNat

/-- Element c of row r as an exact value (R90 to R94). -/
def elem (s : State) (d : StreamDesc) (r c : Nat) : Val :=
  let v := elemVal d.format (elemCode s d r c)
  if isMx d.format then scaled (scaleByte s d r c) v else v

/-- Element c of row r of an integer stream. -/
def elemInt (s : State) (d : StreamDesc) (r c : Nat) : Int := toSigned (width d.format) (elemCode s d r c)

/-- Bit c of row r of a mask stream. -/
def maskBit (s : State) (d : StreamDesc) (r c : Nat) : Bool := elemCode s d r c == 1

/-- The element depends on an access or word with an uncorrectable error (R150, R217). -/
def elemBad (s : State) (d : StreamDesc) (r c : Nat) : Bool :=
  let hit := fun (a n : Nat) => Mem.anyMarked s.mem.badWord 8 a n || Mem.anyMarked s.mem.poison 64 a n
  let p := elemSpan d r c
  hit p.1 p.2 || (isMx d.format && d.kind != 1 && hit (d.scale + r * (d.inner / 32) + c / 32) 1)

/-- The byte ranges a stream reads: its rows and its scale array, each as first address and length. -/
def rowRanges (d : StreamDesc) : List (Nat × Nat) :=
  (if d.kind == 1 && d.stride == 0 then [(d.base, ceilDiv (d.rows * d.inner) 8)]
   else (List.range d.rows).map (fun r => (d.base + r * d.stride, rowBytes d))) ++
  (if isMx d.format && d.kind != 1 then [(d.scale, d.rows * (d.inner / 32))] else [])

/-- A unit reads a whole stream: the errors its bytes meet are raised. -/
def loadAll (s : State) (d : StreamDesc) (q : Mem.Req) : State :=
  (rowRanges d).foldl (fun acc r => (Mem.load acc r.1 r.2 false q).1) s

/-- Some byte that a stream reads lies in a word or access with an uncorrectable error. -/
def anyBad (s : State) (d : StreamDesc) : Bool :=
  (rowRanges d).any (fun r => Mem.anyMarked s.mem.badWord 8 r.1 r.2 || Mem.anyMarked s.mem.poison 64 r.1 r.2)

/-! ## Result elements -/

/-- A result element ready to be written: its code and what the census counts of it (R118). -/
structure Elem where
  code : Nat
  sat : Bool := false
  nonfinite : Bool := false
  zero : Bool := false
  subnormal : Bool := false
deriving DecidableEq, Repr

/-- Counting of a floating-point code in its written format (R118). -/
def countFloat (f : Fmt) (c : Nat) (sat : Bool) : Elem :=
  let mag := c % 2 ^ (f.eb + f.fb)
  { code := c, sat := sat, nonfinite := !(isFinite (f.decode c)), zero := mag == 0,
    subnormal := mag != 0 && decide (mag < 2 ^ f.fb) }

/-- A value limited to an integer format from a floating-point one (R110). -/
def floatToInt (code : Nat) (v : Val) (sat : Bool) : Elem :=
  match v with
  | .nan => { code := 0, nonfinite := true, zero := true, sat := sat }
  | .inf n => { code := signed (width code) (if n then intMin code else intMax code), sat := true }
  | .fin n m e =>
    let x := clampInt code (toInt n m e)
    { code := signed (width code) x.1, sat := sat || x.2, zero := x.1 == 0 }

/-- An FP32 result converted to a format that is not MX (R109, R110); `sat` says that the result was limited already. -/
def fromF32 (code : Nat) (ieee : Bool) (c : Nat) (sat : Bool) : Elem :=
  match fmtOf code with
  | some f => let x := encode f ieee (fp32.decode c); countFloat f x.1 (sat || x.2)
  | none => floatToInt code (fp32.decode c) sat

/-- An INT32 result converted to a format that is not MX (R109). -/
def fromInt (code : Nat) (ieee : Bool) (x : Int) (sat : Bool) : Elem :=
  if isInt code then
    let y := clampInt code x
    { code := signed (width code) y.1, sat := sat || y.2, zero := y.1 == 0 }
  else fromF32 code ieee (encode fp32 ieee (ofInt x)).1 sat

/-- A block of 32 FP32 results encoded as MX (R111) with its scale byte. -/
def fromBlock (code : Nat) (cs : List (Nat × Bool)) : Nat × List Elem :=
  match fmtOf code with
  | none => (0, [])
  | some f =>
    let b := mxBlock f (cs.map (fun c => fp32.decode c.1))
    let nan := b.1 == 255
    (b.1, (b.2.zip cs).map (fun p =>
      let mag := p.1 % 2 ^ (f.eb + f.fb)
      { code := p.1, sat := p.2.2, nonfinite := nan, zero := !nan && mag == 0,
        subnormal := !nan && mag != 0 && decide (mag < 2 ^ f.fb) }))

/-- The element a poisoned or uncorrectable operand gives (R150, R217): the canonical NaN, or integer 0, counted
non-finite. -/
def badElem (code : Nat) : Elem :=
  match fmtOf code with
  | some f => { code := f.nanCode, nonfinite := true }
  | none => { code := 0, nonfinite := true, zero := true }

/-! ## Writing elements -/

/-- Bytes waiting to be written over memory. -/
def overlay (s : State) (ov : SMap Byte) (a : Nat) : Byte := SMap.val (Mem.byteAt s a) ov a

/-- Replace w bits at a bit offset of the bytes from an address (R95). -/
def putBits (s : State) (ov : SMap Byte) (a off w code : Nat) : SMap Byte :=
  let n := ceilDiv (off + w) 8
  let old := ofLe ((List.range n).map (fun i => overlay s ov (a + i)))
  let mask := (2 ^ w - 1) <<< off
  let new := (old ^^^ (old &&& mask)) ||| ((code % 2 ^ w) <<< off)
  ((le n new).zipIdx).foldl (fun m p => SMap.ins m (a + p.2) p.1) ov

/-- Put one element's code. -/
def putElem (s : State) (d : StreamDesc) (ov : SMap Byte) (r c code : Nat) : SMap Byte :=
  let p := elemPos d r c
  putBits s ov p.1 p.2 (elemWidth d) code

/-- Put the scale byte of block b of row r. -/
def putScale (d : StreamDesc) (ov : SMap Byte) (r b sb : Nat) : SMap Byte :=
  SMap.ins ov (d.scale + r * (d.inner / 32) + b) (BitVec.ofNat 8 sb)

/-! ## The census -/

/-- Counts of one write (R118). -/
structure Count where
  elements : Nat := 0
  zeros : Nat := 0
  saturated : Nat := 0
  subnormal : Nat := 0
  nonfinite : Nat := 0
deriving DecidableEq, Repr

def Count.add (n : Count) (e : Elem) : Count :=
  { elements := n.elements + 1, zeros := n.zeros + (if e.zero then 1 else 0),
    saturated := n.saturated + (if e.sat then 1 else 0), subnormal := n.subnormal + (if e.subnormal then 1 else 0),
    nonfinite := n.nonfinite + (if e.nonfinite then 1 else 0) }

/-- A context's census registers (R513): base, N and the miss count. -/
def cen (s : State) (c : Nat) : Nat × Nat × Nat := SMap.val (0, 0, 0) s.census c

/-- A census record with a write's counts added (R119); each count stops at its limit and sets FLAGS bit 0. -/
def recAdd (old : Bytes) (tensor step : Nat) (n : Count) (loss mode1 : Bool) : Bytes :=
  let cap := fun (x lim : Nat) => min x (2 ^ lim - 1)
  let e := at' old 8 6 + n.elements
  let z := at' old 14 6 + n.zeros
  let sa := at' old 20 4 + n.saturated
  let su := at' old 24 4 + n.subnormal
  let nf := at' old 28 3 + n.nonfinite
  let full := decide (2 ^ 48 - 1 ≤ e ∨ 2 ^ 48 - 1 ≤ z ∨ 2 ^ 32 - 1 ≤ sa ∨ 2 ^ 32 - 1 ≤ su ∨ 2 ^ 24 - 1 ≤ nf)
  let fl := at' old 31 1 ||| (if full then 1 else 0) ||| (if loss then 2 else 0) ||| (if mode1 then 4 else 0)
  le 4 tensor ++ le 4 step ++ le 6 (cap e 48) ++ le 6 (cap z 48) ++ le 4 (cap sa 32) ++ le 4 (cap su 32) ++
    le 3 (cap nf 24) ++ le 1 fl

/-- Apply a write's counts to the census of a context (R118 to R121). A write of no element counts as a write: it adds a miss, or sets STEP and
FLAGS (DESIGN CHOICE, notes/assumptions/83.md). -/
def censusAdd (s : State) (c tensor : Nat) (n : Count) (loss mode1 : Bool) (q : Mem.Req) : State :=
  if tensor == 0xFFFFFFFF then s
  else
    let r := cen s c
    if tensor < r.2.1 then
      let a := r.1 + 32 * tensor
      let step := match ctx? s c with | some x => if stepped x then x.step.step % 4294967296 else 0 | none => 0
      (Mem.storeRaw s a (recAdd (Mem.bytesAt s a 32) tensor step n loss mode1) false q).1
    else { s with census := SMap.ins s.census c (r.1, r.2.1, min 4294967295 (r.2.2 + 1)) }

/-- Clear the census records of a context to zero, except for their identifiers, as each step opens (R121). -/
def censusClear (s : State) (c : Nat) : State :=
  let r := cen s c
  modMem s (fun m => { m with cells := m.cells.filter (fun p =>
    !(decide (r.1 ≤ p.1 ∧ p.1 < r.1 + 32 * r.2.1 ∧ 4 ≤ (p.1 - r.1) % 32))) })

/-- The census summary of R331: sums of NONFINITE and SATURATED over the table, stopping at 2^32 - 1. -/
def censusSum (s : State) (c : Nat) : Nat × Nat :=
  let r := cen s c
  let recs := (Mem.unitsOf 32 0 (32 * r.2.1))
  recs.foldl (fun acc i =>
    let a := r.1 + 32 * i
    (min 4294967295 (acc.1 + Mem.word s (a + 28) 3), min 4294967295 (acc.2 + Mem.word s (a + 20) 4))) (0, 0)

end Sys2Proof.Machine.Operand
end

