-- ==== Sys2Proof/Machine/Pairs.lean ====
section
/-! DEFINITION. Full redundancy (R361 to R364): the pair comparator, which sends core q's version of every unit of output and raises class
0x11 where its partner's differs. A pair without a fault always agrees (R122), so the model holds one copy of what both run, and a
command names the fault that makes them differ. -/

namespace Sys2Proof.Machine.Pairs

open Bits Ops Report Operand

/-- The pass or operation whose output is compared. -/
structure Site where
  unit : Nat
  q : Nat
  ctx : Nat
  stream : Nat
  op : Nat
  pc : Nat
  tensor : Nat := 0

/-- The context runs redundant (R361). -/
def redundant (s : State) (c : Nat) : Bool := match ctx? s c with | some x => x.redundant | none => false

/-- The error of a difference (R363): class 0x11 for the pass or operation; both physical cores become due for the Weevil at once (R364). -/
def differ (s : State) (x : Site) (addr : Nat) (found expect : Bytes) : State :=
  let s1 := raise s
    { cls := 0x11, unit := x.unit, ctx := x.ctx, stream := streamByte x.stream, op := x.op, addr := addr, aux := x.pc,
      detail := detail [(40, le 1 (physOf s x.q)), (41, le 1 (physOf s (x.q + 1))), (42, le 4 x.tensor), (48, found), (56, expect)] }
    (stepEffect s x.ctx)
  modWeevil s1 (fun w => { w with due := SMap.ins (SMap.ins w.due (physOf s x.q) true) (physOf s (x.q + 1)) true })

/-- The bytes of a unit of output with one bit inverted. -/
def disturb (m : SMap Byte) (f : PairFault) : SMap Byte :=
  m.zipIdx.map (fun p => if p.2 == f.byte then (p.1.1, p.1.2 ^^^ BitVec.ofNat 8 (2 ^ (f.bit % 8))) else p.1)

/-- The comparator on two versions of what is written. -/
def compare (s : State) (x : Site) (own other : SMap Byte) : State :=
  match (own.zip other).find? (fun r => r.1.2 != r.2.2) with
  | none => s
  | some (f, _) =>
    let a := 8 * (f.1 / 8)
    let wordOf := fun (m : SMap Byte) => (List.range 8).map (fun i => overlay s m (a + i))
    differ s x f.1 (wordOf own) (wordOf other)

/-- What a redundant pair's fault makes of bytes that are written (R363): core q's version, and the error. -/
def bytes (s : State) (x : Site) (w : SMap Byte) (pair : Option PairFault) : State × SMap Byte :=
  match pair with
  | none => (s, w)
  | some f =>
    if !redundant s x.ctx || f.act then (s, w)
    else if f.skew then (differ s x 0 (zeros 8) (zeros 8), w)
    else if f.partner then (compare s x w (disturb w f), w)
    else (compare s x (disturb w f) w, disturb w f)

/-- The output of a pair whose cores computed it each from its own (R363): core q's version is sent, and a difference is an error. A fault
between the cores stands in place of the comparison, since an operation has one record. -/
def output (s : State) (x : Site) (own other : SMap Byte) (pair : Option PairFault) : State × SMap Byte :=
  if pair.any (fun f => !f.act) then bytes s x own pair else (compare s x own other, own)

/-- What a redundant pair's fault makes of a field, `width` bits wide, of a packet header or a flag action (R363): core q's version, and
the error. -/
def field (s : State) (x : Site) (addr width v : Nat) (pair : Option PairFault) : State × Nat :=
  match pair with
  | none => (s, v)
  | some f =>
    let u := v ^^^ 2 ^ ((8 * f.byte + f.bit) % width)
    if !redundant s x.ctx then (s, v)
    else if f.skew then (differ s x 0 (zeros 8) (zeros 8), v)
    else if f.partner then (differ s x addr (le 8 v) (le 8 u), v)
    else (differ s x addr (le 8 u) (le 8 v), u)

/-- The flag action FACT on FLAG of a completion, as a redundant pair takes it (R363). -/
def action (s : State) (x : Site) (fact flag : Nat) (pair : Option PairFault) : State × Nat :=
  match pair with
  | some f => if f.act && fact != 0 then field s x 0 13 flag pair else (s, flag)
  | none => (s, flag)

end Sys2Proof.Machine.Pairs
end

