-- ==== Sys2Proof/Machine/Flags.lean ====
section
/-! DEFINITION. The flag stores (R252 to R262): the result of a set or a clear, overrun and underrun, held actions under a
swap (R85), waits and the order in which they are satisfied (R168, R256, R257), step copies (R259). -/

namespace Sys2Proof.Machine.FlagOps

open Bits Ops Report

/-- Key of flag f of logical core q. -/
def key (q f : Nat) : Nat := 8192 * q + f

/-- The value of a flag (R252). -/
def value (s : State) (q f : Nat) : Bool := SMap.val false s.flags.vals (key q f)

/-- The attributes of a flag (R252). -/
def attr (s : State) (q f : Nat) : FlagAttr := SMap.val {} s.flags.attrs (key q f)

/-- The trace of a flag (R262). -/
def trace (s : State) (q f : Nat) : FlagTrace := SMap.val {} s.flags.traces (key q f)

/-- The acting party of a stream of this module (R262). -/
def streamParty (s : State) (q c t : Nat) : Party := { module := moduleId s, core := q, ctx := c, src := t % 4 }

/-- SIG_SRC coding of source kinds: 1 remote, 2 Churn, 3 Press, 4 host (R262). -/
def srcKind (k : Nat) : Nat := 4 * k

/-- DETAIL of an overrun or underrun (R357): OWNER, the acting party, the previous party and its time. -/
def partyDetail (owner : Nat) (act : Party) (prev : Option Party) (prevTime : Nat) : Bytes :=
  let p := prev.getD { module := 0, core := 0, ctx := 0, src := 0 }
  detail [(40, le 1 owner), (41, le 1 act.src), (42, le 2 act.module), (44, le 1 act.core), (45, le 1 act.ctx),
    (46, le 2 p.module), (48, le 1 p.core), (49, le 1 p.ctx), (50, le 1 p.src), (56, le 8 prevTime)]

/-- Overrun or underrun (R254, R255): a record, and a FAULTED owner where OWNER names a defined context. -/
def report (s : State) (cls q f : Nat) (act : Party) (prev : Option Party) (prevTime : Nat) : State :=
  let o := (attr s q f).owner
  let named := (ctx? s o).isSome && o != 255
  let r : ErrRec := { cls := cls, unit := unitCode 2 q, ctx := if named then o else 255, aux := f,
                      detail := partyDetail o act prev prevTime }
  let s1 := raise s r (if named then 2 else 0)
  if named then faultCore s1 o q else s1

/-- A late action on a flag on which a wait has timed out (R53): counted, recorded, and FAIL bit 10 for its OWNER. -/
def late (s : State) (q f : Nat) : State :=
  if SMap.val false s.flags.late (key q f) then
    let s1 := modFlags s (fun x => { x with late := SMap.del x.late (key q f) })
    let s2 := modRemote s1 (fun r => { r with lateArr := min 4294967295 (r.lateArr + 1) })
    let o := (attr s q f).owner
    let s3 := lateRecord s2 { cls := 0x23, unit := unitCode 2 q, ctx := o, aux := 2, detail := detail [(40, le 2 f)] }
      (s.err.drilled.contains (5, key q f))
    setFail s3 o 10
  else s

/-- The partner core of a redundant pair takes every write into the flags of its core (R362). -/
def double (s : State) (q f : Nat) : State :=
  match partner s q with
  | none => s
  | some k => modFlags s (fun x => { x with
      vals := if SMap.val false x.vals (key q f) then SMap.ins x.vals (key k f) true else SMap.del x.vals (key k f),
      traces := SMap.ins x.traces (key k f) (SMap.val {} x.traces (key q f)) })

/-- A set of a flag (R254). -/
def setFlag (s : State) (q f : Nat) (p : Party) : State :=
  let k := key q f
  let t := trace s q f
  if value s q f then
    if (attr s q f).policy then
      double (modFlags s (fun x => { x with
        traces := SMap.ins x.traces k { t with ovr := min 65535 (t.ovr + 1) },
        ovrCount := SMap.ins x.ovrCount q (min (2 ^ 48 - 1) (SMap.val 0 x.ovrCount q + 1)) })) q f
    else report s 0x20 q f p t.sig t.sigTime
  else double (modFlags s (fun x => { x with
        vals := SMap.ins x.vals k true, traces := SMap.ins x.traces k { t with sig := some p, sigTime := now s } })) q f

/-- A clear of a flag (R254). -/
def clearFlag (s : State) (q f : Nat) (p : Party) : State :=
  let k := key q f
  let t := trace s q f
  if value s q f then
    double (modFlags s (fun x => { x with
      vals := SMap.del x.vals k, traces := SMap.ins x.traces k { t with clr := some p, clrTime := now s } })) q f
  else report s 0x21 q f p t.clr t.clrTime

/-- The value that the actions of step 1 have left in a flag in this cycle: what a WAITS sees (R256). -/
def seen (s : State) (q f : Nat) : Bool :=
  if s.flags.issueAt == s.ns then (SMap.look s.flags.issueOld (key q f)).getD (value s q f) else value s q f

/-- A stream is about to act on a flag: the value that step 1 left stays known until the end of the cycle (R256). -/
def noteIssue (s : State) (q f : Nat) : State :=
  modFlags s (fun x =>
    let old := if x.issueAt == s.ns then x.issueOld else []
    { x with issueAt := s.ns, issueOld := SMap.ins old (key q f) (seen s q f) })

/-- A wait is met: WAITS by the values that step 1 left, WAITC by the present ones (R168, R256, R257). -/
def met (s : State) (q : Nat) (w : WaitState) : Bool :=
  (List.range w.count).all (fun i => if w.consume then value s q (w.flag + i) else seen s q (w.flag + i))

/-- A flag on which a wait has timed out has taken an action since (R53). -/
def acted (s : State) (q f : Nat) : State := modFlags s (fun x => { x with late := SMap.del x.late (key q f) })

/-- Flags f to f + n - 1 cleared as one consuming action (R257). -/
def consume : Nat → State → Nat → Nat → Party → State
  | 0, s, _, _, _ => s
  | n + 1, s, q, f, p => consume n (clearFlag (acted (noteIssue s q f) q f) q f p) q (f + 1) p

/-- A stream passes its wait: a WAITC clears its flags first (R168). -/
def passWait (s : State) (c q t : Nat) (w : WaitState) : State :=
  let s1 := if w.consume then consume w.count s q w.flag (streamParty s q c t) else s
  modStream s1 c q t (fun x => { x with wait := none, pc := x.pc + 1 })

/-- The logical core is under a swap (R85). -/
def swapping (s : State) (q : Nat) : Bool :=
  match SMap.look s.weevil.swaps (q / 8) with | some w => w.logical == q % 8 | none => false

/-- A core issues nothing while it is under a swap (R85); the cores of a redundant pair run in lockstep, so neither does while the other
is (DEDUCED, notes/assumptions/22.md). -/
def paused (s : State) (q : Nat) : Bool := swapping s q || (partner s q).any (swapping s)

/-- Attributes written in a cycle take effect after it (R258). -/
def takeAttrs (s : State) : State :=
  modFlags s (fun x => { x with attrs := x.newAttrs.foldl (fun m p => SMap.put {} m p.1 p.2) x.attrs, newAttrs := [] })

/-- A flag action FACT 1 or 2 takes effect (R253, R254); 0 takes none. No wait sees it before the actions of its cycle are over
(R256). -/
def act (s : State) (q f fact : Nat) (p : Party) : State :=
  if fact == 1 then setFlag (late s q f) q f p
  else if fact == 2 then clearFlag (late s q f) q f p
  else s

/-- A flag action that reaches the core through its cluster's router stop: held while the core is under a swap (R85); the partner core of a
redundant pair takes none (R362). -/
def arrive (s : State) (q f fact : Nat) (p : Party) : State :=
  if isPartner s q then s
  else if swapping s q && fact != 0 then modFlags s (fun x => { x with held := x.held ++ [(q, .act f fact p)] })
  else act s q f fact p

/-- The keys of the stepped flags that a context owns (R259). -/
def steppedOf (s : State) (c : Nat) : List Nat :=
  (s.flags.attrs.filter (fun p => p.2.stepped && p.2.owner == c)).map (·.1)

/-- A commit copies the values of the owner's stepped flags (R259). -/
def commitFlags (s : State) (c : Nat) : State :=
  modFlags s (fun x => { x with copies := (steppedOf s c).foldl (fun m k =>
    if SMap.val false x.vals k then SMap.ins m k true else SMap.del m k) x.copies })

/-- A replay restores the values of the owner's stepped flags; no trace changes and nothing is reported (R259). -/
def restoreFlags (s : State) (c : Nat) : State :=
  modFlags s (fun x => { x with vals := (steppedOf s c).foldl (fun m k =>
    if SMap.val false x.copies k then SMap.ins m k true else SMap.del m k) x.vals })

end Sys2Proof.Machine.FlagOps
end

