-- ==== Sys2Proof/Machine/Streams.lean ====
section
/-! DEFINITION. What every instruction shares (R157 to R163, R170, R498, R499): which stream may issue and when, the fetch and decoding of
its word, the issue itself, the response to an illegal instruction, and the completion of an operation with its status bits and
flag action. -/

namespace Sys2Proof.Machine.Issue

open Bits Ops Report

/-- A stream that may issue: its context identifier, its context, the context on the core, and the stream. -/
structure Runner where
  c : Nat
  x : Ctx
  k : CoreCtx
  t : StreamState

/-- The stream an issuer names, when it may issue now (R159, R172, R173, R85, R331, R386): its context is RESIDENT in the slot
and not due to leave, it is present, running and not blocked on a wait; a stepped context has a step open; the core is not
under a swap; the module is not fenced. -/
def runner (s : State) (i : Issuer) : Option Runner :=
  match ctxInSlot s i.core i.slot with
  | none => none
  | some c => match ctx? s c with
    | none => none
    | some x =>
      let k := onCore x i.core
      let t := streamOf k i.stream
      if k.state == .resident && !k.due && t.present && t.run == .running && t.wait.isNone &&
         (!stepped x || x.step.isOpen) && !FlagOps.paused s i.core && !fenced s && Order.turn 7 s
      then some ⟨c, x, k, t⟩ else none

/-- Address of a stream's instruction word (R156, R158): its program base from the entry table, read at every fetch (DESIGN CHOICE,
notes/assumptions/83.md), plus 16 bytes a word. -/
def fetchAddr (s : State) (x : Ctx) (q t pc : Nat) : Nat :=
  Mem.word s (x.fields.entryTable + 8 * (4 * q + t)) 8 + 16 * pc

/-- The fetch of a word meets an address outside DRAM or an uncorrectable access (R169, R210). -/
def fetchBad (s : State) (x : Ctx) (q t pc : Nat) : Bool :=
  let a := fetchAddr s x q t pc
  !Mem.inDram a 16 || Mem.anyMarked s.mem.poison 64 a 16

/-- The instruction at a stream's program counter (R158, R162). -/
def nextWord (s : State) (x : Ctx) (q t pc : Nat) : StreamWord := decodeWord (Mem.word s (fetchAddr s x q t pc) 16)

/-- The response to an illegal instruction (R163): the context enters FAULTED on the core, and a fault completion goes to its
host ring. -/
def illegal (s : State) (c q t pc op : Nat) : State :=
  let r : ErrRec := { cls := 0, unit := unitCode 2 q, ctx := c, stream := streamByte t, op := op, aux := pc,
                      detail := Config.causeDetail s.free }
  let s1 := faultCore (drawn s) c q
  postCtx s1 c { kind := Status.kFault, body := [(16, recBytes (fill s1 r 2 false))] }

/-- A stream as it reads its word and its descriptors. -/
def reader (s : State) (i : Issuer) : Mem.Req :=
  { unit := unitCode 2 i.core, ctx := (ctxInSlot s i.core i.slot).getD 255, stream := some i.stream }

/-- What the codes report as the word that a stream has reached and the descriptors it names are read (R216, R224). -/
def heard (s : State) (i : Issuer) : State := Mem.inject s i.hits (reader s i)

/-- An access of the fetch is reported uncorrectable (R217). -/
def fetchHit (s : State) (i : Issuer) (r : Runner) : Bool :=
  let a := fetchAddr s r.x i.core i.stream r.t.pc
  i.hits.any (fun h => h.ecc == .uncorrectable && decide (64 * (h.addr / 64) < a + 16 ∧ a < 64 * (h.addr / 64) + 64))

/-- A fetch that fails (R163, R169, R210, R217): the errors it meets, then the response to an illegal instruction. -/
def fetchFault (s0 : State) (i : Issuer) (r : Runner) : State :=
  let s := heard s0 i
  let a := fetchAddr s r.x i.core i.stream r.t.pc
  let q := reader s i
  let s1 := if Mem.inDram a 16 then (Mem.markedAll s.mem.poison 64 a 16).foldl (fun acc b => Mem.uncorrectable acc b false q) s
    else if Mem.unmapped a 16 then countUnmapped s else s
  illegal s1 r.c i.core i.stream r.t.pc 0

/-! ## When an instruction may issue (R159 to R161, R499) -/

/-- The shares of R498, in eighths of a governing period. -/
def arrayShare (level : Nat) : Nat := 8 - level
def dramShare (level : Nat) : Nat := if level ≤ 4 then 8 else if level == 5 then 6 else if level == 6 then 5 else 4
def vectorShare (level : Nat) : Nat := if level ≤ 2 then 8 else 10 - level

/-- The governor's level in force (R500). -/
def level (s : State) : Nat := max s.gov.level s.gov.floor

/-- A share's window at the start of the governing period is open (R499). -/
def windowOpen (s : State) (share : Nat) : Bool :=
  decide (8 ≤ share) || decide ((s.ns - s.gov.periodAt) * 8 < share * 100000)

/-- The share of a stack's command slots at a throttle level, in eighths (R220). -/
def stackShare (level : Nat) : Nat := match level with | 0 => 8 | 1 => 6 | 2 => 4 | 3 => 3 | _ => 2

/-- Eighths of a cycle's traffic that memory at an address serves in this cycle: DRAM under the smaller of the governor's share, which is
a window, and the stack's share of slots (R220, R499); all of it elsewhere. -/
def servedNow (s : State) (a : Nat) : Nat :=
  let g := dramShare (level s)
  let t := stackShare (SMap.val {} s.mem.stackTherm (Mem.channelOf a / 32)).level
  if !Mem.inDram a 1 then 8
  else if g ≤ t then (if windowOpen s g then 8 else 0)
  else t

/-- Passes that hold a place (R63, R67): the last one whose first vector has entered, until the next one's enters, and those that wait. -/
def places (l : List PassOp) : Nat :=
  (l.filter (fun p => p.fed.isNone)).length + (if l.any (fun p => p.fed.isSome) then 1 else 0)

/-- A vector operation that reads its counter (R160). -/
def readsCtr (code : Nat) : Bool := decide (0x32 ≤ code ∧ code ≤ 0x35)

/-- The stream waits for an earlier operation that writes a counter (R160). -/
def ctrBusy (t : StreamState) (n : Nat) : Bool := t.ctrBusy.contains n

/-- A flag word is legal (R163, R168). -/
def legalFlag (w : FlagWord) : Bool := w.rsvd == 0 && decide (w.nfl ≤ 63) && decide (w.flag + w.nfl ≤ 8191)

/-- A stream is blocked at an instruction (R159, R160, R499): the array holds two passes, the engine's queue 8 operations, the module
65,536 remote operations or a table swap stops its requests (R312), a wait is not met, a counter is awaited, an earlier operation of
the stream has not completed, the engine is in register mode (R151), or the window of the governor's share has ended. An operation counts in the engine's queue until it has completed (DESIGN
CHOICE, notes/assumptions/83.md). -/
def blockedAt (s : State) (q : Nat) (t : StreamState) : StreamWord → Bool
  | .pass _ => decide (2 ≤ places (SMap.val {} s.arrays q : ArrayCore).passes) || !windowOpen s (arrayShare (level s))
  | .vec code w =>
    decide (8 ≤ (SMap.val [] s.vecq q : List VecOp).length) || (SMap.val {} s.rm (physOf s q) : RmCore).mode || (readsCtr code && ctrBusy t w.ctr) || !windowOpen s (vectorShare (level s))
  | .rem _ _ => decide (65536 ≤ s.remote.ops.length) || s.fabric.reqStopped
  | .flag fop w => fop < 2 && legalFlag w && !FlagOps.met s q { consume := fop == 1, flag := w.flag, count := w.nfl + 1, timeout := w.timeout, used := 0, since := 0 }
  | .ctl cop w => (decide (2 ≤ cop ∧ cop ≤ 4) && ctrBusy t w.ctr) || ((cop == 5 || cop == 8 || cop == 9) && t.inflight != 0)
  | .reserved _ _ => false

/-- The place of a stream in a core's rotation (R161): by slot, then by stream code. -/
def streamIndex (i : Issuer) : Nat := 4 * i.slot + i.stream

/-- The issue slots of a core. -/
def slots (s : State) (q : Nat) : IssueRec := SMap.val {} s.issued q

/-- The streams of a core that have issued in this cycle. -/
def issuedNow (s : State) (q : Nat) : List Nat := if (slots s q).at' == s.ns then (slots s q).streams else []

/-- The stream of a core at a place of its rotation. -/
def streamAt (q j : Nat) : Issuer := { core := q, slot := j / 4, stream := j % 4 }

/-- The wait a stream is blocked on, with its context, where it may issue: its context is RESIDENT and not due, the core is under no swap,
and the module not fenced (R85, R168, R173, R387). -/
def pendingWait (s : State) (i : Issuer) : Option (Nat × WaitState) :=
  match ctxInSlot s i.core i.slot with
  | none => none
  | some c => match ctx? s c with
    | none => none
    | some x =>
      let k := onCore x i.core
      if k.state == .resident && !k.due && !FlagOps.paused s i.core && !fenced s && Order.turn 7 s then
        (streamOf k i.stream).wait.map (fun w => (c, w))
      else none

/-- The wait a stream is blocked on is met. -/
def unblocked (s : State) (i : Issuer) : Bool := match pendingWait s i with | some (_, w) => FlagOps.met s i.core w | none => false

/-- A stream could issue in this cycle: it has not issued in it, and the wait it is blocked on is met, or it runs and is not blocked; what
cannot be fetched gets its response. -/
def ready (s : State) (i : Issuer) : Bool :=
  !(issuedNow s i.core).contains (streamIndex i) &&
  (unblocked s i || (match runner s i with
    | none => false
    | some r => fetchBad s r.x i.core i.stream r.t.pc || !blockedAt s i.core r.t (nextWord s r.x i.core i.stream r.t.pc)))

/-- The flags that the next instruction of a stream consumes: first and number, when it is a WAITC. -/
def consumes (s : State) (i : Issuer) : Option (Nat × Nat) :=
  match pendingWait s i with
  | some (_, w) => if w.consume then some (w.flag, w.count) else none
  | none => match runner s i with
    | none => none
    | some r => match nextWord s r.x i.core i.stream r.t.pc with
      | .flag 1 w => if legalFlag w then some (w.flag, w.nfl + 1) else none
      | _ => none

/-- Two consuming waits name a common flag. -/
def compete (a b : Nat × Nat) : Bool := decide (a.1 < b.1 + b.2 ∧ b.1 < a.1 + a.2)

/-- Distance of a stream from the last one that issued, in rotation. -/
def distance (s : State) (q idx : Nat) : Nat := (idx + 31 - (slots s q).last) % 16

/-- The stream that issues next of those at some places: the first in rotation (R161); where that is a consuming wait, the one of the lowest
place among those that compete with it (R168). None once two have issued in the cycle. -/
def pick (s : State) (q : Nat) (l : List Nat) : Option Nat :=
  if 2 ≤ (issuedNow s q).length then none
  else match l.find? (fun j => l.all (fun i => decide (distance s q j ≤ distance s q i))) with
    | none => none
    | some j => match consumes s (streamAt q j) with
      | none => some j
      | some f => l.find? (fun i => (consumes s (streamAt q i)).any (compete f))

/-- It is the stream's turn (R161). -/
def myTurn (s : State) (i : Issuer) : Bool :=
  pick s i.core ((List.range 16).filter (fun j => ready s (streamAt i.core j))) == some (streamIndex i)

/-- An instruction of a stream issues: it takes a slot of the cycle (R161). An illegal one does not issue (R163). -/
def noted (s0 : State) (i : Issuer) : State :=
  let s := heard s0 i
  { s with issued := SMap.ins s.issued i.core { at' := s.ns, streams := issuedNow s i.core ++ [streamIndex i], last := streamIndex i } }

/-- A stream that is blocked on a wait passes it (R161, R168). -/
def passPending (s : State) (i : Issuer) : State :=
  match pendingWait s i with
  | some (c, w) => FlagOps.passWait (noted s i) c i.core i.stream w
  | none => s

/-- The waits of a core that are met pass in their order, while the cycle has room; fuel bounds their number (R161, R256). -/
def passWaits : Nat → State → Nat → State
  | 0, s, _ => s
  | n + 1, s, q =>
    match pick s q ((List.range 16).filter (fun j => !(issuedNow s q).contains j && unblocked s (streamAt q j))) with
    | some j => passWaits n (passPending s (streamAt q j)) q
    | none => s

/-- Step 4 of R52 for the streams that are blocked on a wait, on every core; attributes written in the cycle take effect after it
(R256, R258). -/
def endCycle (s : State) : State :=
  FlagOps.takeAttrs ((s.ctxs.flatMap (fun p => p.2.cores.map (·.1))).foldl (passWaits 2) s)

/-- The response of R163 for the instruction a runner would issue, whose word and descriptors have been read. -/
def refuse (s : State) (i : Issuer) (r : Runner) (cls code : Nat) : State :=
  illegal s r.c i.core i.stream r.t.pc (opField cls code)

/-- The response of R163 for the instruction a runner would issue. -/
def reject (s : State) (i : Issuer) (r : Runner) (cls code : Nat) : State := refuse (heard s i) i r cls code

/-- The instruction a stream has reached, when it is the one named: a fetch that fails and a word of a reserved class or code give the
response of R163. -/
def fetched (s : State) (i : Issuer) (word : StreamWord) (body : Runner → State) : State :=
  match runner s i with
  | none => s
  | some r =>
    if fetchBad s r.x i.core i.stream r.t.pc || fetchHit s i r then fetchFault s i r
    else match nextWord s r.x i.core i.stream r.t.pc with
      | .reserved cls code => reject s i r cls code
      | w => if w = word then body r else s

/-- The issue of the instruction named: the word the stream has reached, not blocked and in its turn (R159 to R162). -/
def issue (s : State) (i : Issuer) (word : StreamWord) (body : Runner → State) : State :=
  fetched s i word (fun r => if myTurn s i then body r else s)

/-- The same for an instruction with descriptors, whose entries of the table it has read (R127, R150). -/
def rejectRead (s : State) (i : Issuer) (r : Runner) (cls code : Nat) (ds : List Nat) : State :=
  refuse (Operand.descRead (heard s i) r.x i.core ds { reader s i with op := opField cls code }) i r cls code

/-- The stream moves to the next word. -/
def advance (s : State) (c : Nat) (i : Issuer) : State :=
  modStream s c i.core i.stream (fun t => { t with pc := t.pc + 1 })

/-- An operation has issued: it is in flight, and the stream moves on (R159). -/
def launched (s : State) (c : Nat) (i : Issuer) : State :=
  modStream s c i.core i.stream (fun t => { t with pc := t.pc + 1, inflight := t.inflight + 1, serial := t.serial + 1 })

/-- A completion ORs bits into a stream's status word (R170) and into every WORK of the context (R471). -/
def orStatus (s : State) (c q t : Nat) (bits : BitVec 8) : State :=
  let s1 := modStream s c q t (fun x => { x with status := x.status ||| bits })
  modHost s1 (fun h => { h with rings := SMap.mapVals (fun _ r =>
    { r with inProg := r.inProg.map (fun p =>
        if p.op == 0x0C && p.head.ctx == c then { p with bits := p.bits ||| bits } else p) }) h.rings })

/-- An operation of a stream completes: status, one fewer in flight, then its flag action (R162, R170). -/
def complete (s : State) (c q t : Nat) (bits : BitVec 8) (fact flag : Nat) : State :=
  let s1 := modStream (orStatus s c q t bits) c q t (fun x => { x with inflight := x.inflight - 1 })
  FlagOps.act s1 q flag fact (FlagOps.streamParty s1 q c t)

/-- The place of an operation in the order in which the completions of a core act on flags (R256): its stream by slot and code, and its
number within it. -/
abbrev Place := Nat × Nat

/-- One place is before another. -/
def before (a b : Place) : Bool := decide (a.1 < b.1) || (a.1 == b.1 && decide (a.2 < b.2))

/-- The operation of a core's own that a waiting command completes. -/
def completes (s : State) : Instr → Option (Nat × Place)
  | .passComplete q .. => match (SMap.val {} s.arrays q : ArrayCore).passes with
    | p :: _ => some (q, 4 * p.slot + p.stream, p.serial)
    | [] => none
  | .vectorOpComplete q _ => match (SMap.val [] s.vecq q : List VecOp) with
    | p :: _ => some (q, 4 * p.slot + p.stream, p.serial)
    | [] => none
  | .ack p => (SMap.look s.remote.ops p.tag).map (fun o => (o.core, 4 * o.slot + o.stream, o.serial))
  | .readRsp p => (SMap.look s.remote.ops p.pkt.tag).map (fun o => (o.core, 4 * o.slot + o.stream, o.serial))
  | .errorRsp p => (SMap.look s.remote.ops p.tag).map (fun o => (o.core, 4 * o.slot + o.stream, o.serial))
  | _ => none

/-- No completion of the core that comes before an operation's waits (R256). -/
def nextToComplete (s : State) (q : Nat) (x : Place) : Bool :=
  s.pending.all (fun c => match completes s c with | some y => !(y.1 == q && before y.2 x) | none => true)

/-- Status bits of R170. -/
def bSaturated : BitVec 8 := 1
def bWindowLoss : BitVec 8 := 2
def bNonfinite : BitVec 8 := 4
def bCapacity : BitVec 8 := 8
def bMismatch : BitVec 8 := 16
def bPartial : BitVec 8 := 32

/-- A bit when a condition holds. -/
def flagBit (b : Bool) (v : BitVec 8) : BitVec 8 := if b then v else 0

/-- A counter of a context on a core (R158). -/
def counter (k : CoreCtx) (n : Nat) : W32 := SMap.val 0 k.counters n

/-- Write a counter. -/
def setCounter (s : State) (c q n : Nat) (v : W32) : State :=
  modCore s c q (fun k => { k with counters := SMap.ins k.counters n v })

/-- Every operation of a context on a core has completed. -/
def idle (k : CoreCtx) : Bool := k.streams.all (fun t => t.2.inflight == 0)

/-- Every operation of a context has completed, on every core. -/
def allIdle (x : Ctx) : Bool := x.cores.all (fun k => idle k.2)

end Sys2Proof.Machine.Issue
end

