-- ==== Sys2Proof/Machine/Remote.lean ====
section
/-! DEFINITION. Remote operations at their source (R263 to R276, R282 to R285, R387): runs and packets, issue, what an answer does,
completion, timeout, resend; and the traffic of a Press with a memory peer (R235, R272). -/

namespace Sys2Proof.Machine.RemoteOps

open Bits Ops Report Operand

/-! ## Runs and packets (R268, R269) -/

/-- A run: remote address, local address, length. -/
abbrev Run := Nat × Nat × Nat

/-- The runs of a descriptor moved to a remote address: its rows, those without a gap as one, then its scale array. -/
def runs (d : StreamDesc) (raddr : Nat) : List Run :=
  let data := if d.kind == 1 && d.stride == 0 then [(d.base, ceilDiv (d.rows * d.inner) 8)]
    else if d.stride == rowBytes d then [(d.base, d.rows * rowBytes d)]
    else (List.range d.rows).map (fun r => (d.base + r * d.stride, rowBytes d))
  let scales := if isMxStream d then [(d.scale, d.rows * (d.inner / 32))] else []
  (data ++ scales).map (fun p => ((raddr + p.1 + (2 ^ 48 - d.base)) % 2 ^ 48, p.1, p.2))
where
  isMxStream (d : StreamDesc) : Bool := Numeric.isMx d.format && d.kind != 1

/-- Bytes of a list of runs. -/
def total (rs : List Run) : Nat := (rs.map (fun r => r.2.2)).foldl (· + ·) 0

/-- A run cut into pieces that do not cross a 512-byte boundary of the remote address; fuel bounds their number. -/
def cutRun : Nat → Run → List Run
  | 0, _ => []
  | f + 1, (r, l, n) =>
    if n = 0 then []
    else let k := min n (512 - r % 512); (r, l, k) :: cutRun f (r + k, l + k, n - k)

/-- The pieces of all runs, one for each packet. -/
def cut (rs : List Run) : List Run := rs.flatMap (fun r => cutRun (r.2.2 / 512 + 2) r)

/-- The data packets of an operation (R267), each with the local address of its bytes: the last carries LAST, and the flag where the
operation has one. -/
def dataPackets (t : Pkt) (flagged : Bool) (ps : List Run) : List (Pkt × Option Nat) :=
  ps.zipIdx.map (fun x =>
    let p := { t with kind := 1, rflag := 0, rcore := 0, fact := 0, addr := x.1.1 % 2 ^ 48, len := x.1.2.2,
                      whole := x.1.2.2 == 512 && x.1.2.1 % 512 == 0 }
    let last := x.2 + 1 == ps.length
    (if last && flagged then { p with kind := 2, last := true, rflag := t.rflag, rcore := t.rcore, fact := t.fact } else { p with last := last },
     some x.1.2.1))

/-! ## Tags and pairs (R272, R275, R276) -/

/-- The first free tag from a number on; fuel bounds the search. -/
def tagFrom (ops : SMap RemoteOp) : Nat → Nat → Option Nat
  | 0, _ => none
  | f + 1, t => if (SMap.look ops t).isNone then some t else tagFrom ops f ((t + 1) % 65536)

/-- The tag the next operation holds, when one is free. -/
def freeTag (s : State) : Option Nat :=
  if s.remote.ops.length < 65536 then tagFrom s.remote.ops (s.remote.ops.length + 1) s.remote.nextTag else none

/-- A packet of this tag on a pair awaits its answer or is still to be sent. -/
def outstanding (x : Pair) (tag : Nat) : Bool := (x.window ++ x.waiting ++ x.past).any (fun w => w.pkt.tag == tag)

def modOp (s : State) (tag : Nat) (f : RemoteOp → RemoteOp) : State :=
  match SMap.look s.remote.ops tag with
  | some o => modRemote s (fun r => { r with ops := SMap.ins r.ops tag (f o) })
  | none => s

/-- A status other than OK or BUSY stays when it is the operation's first (R271). -/
def noteStatus (s : State) (tag st : Nat) : State :=
  modOp s tag (fun o => { o with status := if o.status == 0 then st else o.status })

/-- The requester that records name for a packet's local data. -/
def requester (s : State) (p : Pkt) : Mem.Req :=
  { unit := unitCode 9 0, ctx := p.ctx, stream := some p.stream,
    op := match SMap.look s.remote.ops p.tag with | some o => opField 3 o.rop | none => 0 }

/-- The packet with its payload, read as it is sent (R270): verified (R290), with the block's check value carried when it is whole
(R289); the status that its local data gives otherwise (R217, R290). -/
def fill (s : State) (w : Sent) : State × Except Nat Pkt :=
  match w.source with
  | none => (s, .ok w.pkt)
  | some a =>
    let r := Mem.load s a w.pkt.len true (requester s w.pkt)
    (r.1, if r.2.outside then .error (if Mem.unmapped a w.pkt.len then 2 else 3)
          else if !r.2.sound then .error 5
          else if !r.2.check.isEmpty then .error 4
          else .ok { w.pkt with payload := r.2.data, pcheck := crc r.2.data })

/-- A packet takes its number on its pair (R276, R277). -/
def number (x : Pair) (p : Pkt) : Pkt :=
  { p with seq := x.next, low := match x.window with | o :: _ => o.pkt.seq | [] => x.next, start := x.window.isEmpty,
           fcount := if isFlagged p then dist32 x.next (x.lastFlag + 1) else 0 }

/-- Send packets of a pair while its window of 64 has room (R276); nothing is sent while the module is fenced (R387). A packet whose
local data fails is not sent, nor is any further packet of its operation (R217, R290). Fuel bounds the number of packets. -/
def pump : Nat → State → Nat → State
  | 0, s, _ => s
  | n + 1, s, k =>
    match (pair s k).waiting with
    | [] => s
    | w :: rest =>
      if fenced s || decide (64 ≤ (pair s k).window.length) then s
      else
        let f := fill s w
        let x := pair f.1 k
        match f.2 with
        | .error st => pump n (setPair (noteStatus f.1 w.pkt.tag st) k { x with waiting := rest.filter (fun y => y.pkt.tag != w.pkt.tag) }) k
        | .ok q =>
          let p := number x q
          pump n (sendPkt (setPair f.1 k { x with waiting := rest, window := x.window ++ [{ w with pkt := p, source := none }],
                                                  next := (x.next + 1) % 4294967296, lastFlag := if isFlagged p then x.next else x.lastFlag }) p) k

/-- Send what a pair's window allows. -/
def pumpAll (s : State) (k : Nat) : State := pump (pair s k).waiting.length s k

/-- Hand the packets of an operation to its pair. -/
def submit (s : State) (k : Nat) (ps : List (Pkt × Option Nat)) : State :=
  let x := pair s k
  pumpAll (setPair s k { x with waiting := x.waiting ++ ps.map (fun p =>
    { pkt := p.1, flagged := isFlagged p.1, left := if p.1.kind == 4 then p.1.rlen else 1, source := p.2 }) }) k

/-- Register an operation under its tag, which no earlier drill concerns any more (R371), and send its packets. -/
def launch (s : State) (tag : Nat) (o : RemoteOp) (ps : List (Pkt × Option Nat)) : State :=
  let s1 := modRemote (modErr s (fun e => { e with drilled := e.drilled.filter (· != (0, tag)) })) (fun r => { r with ops := SMap.ins r.ops tag o, nextTag := (tag + 1) % 65536 })
  submit s1 o.key ps

/-- The deadline of an operation that issues now (R272, R511), in fabric time. -/
def deadline (s : State) : Nat := now s + 1000 * s.remote.opTimeout

/-! ## The Press's traffic with a memory peer (R235) -/

def press (s : State) (d : Nat) : Press := SMap.val {} s.presses d

/-- Change the run of a ring of a Press. -/
def modRun (s : State) (d ring : Nat) (f : PressRun → PressRun) : State :=
  let x := press s d
  { s with presses := SMap.ins s.presses d { x with runs := updFirst (fun (u : PressRun) => u.ring == ring) f x.runs } }

/-- The run of a ring of a Press. -/
def runOf (s : State) (d ring : Nat) : Option PressRun := (press s d).runs.find? (fun u => u.ring == ring)

/-- Header fields that the packets of a Press share. -/
def pressHeader (s : State) (d : Nat) (u : PressRun) (m tag : Nat) : Pkt :=
  { dst := m, src := moduleId s, unit := 64 + d, ctx := u.desc.ctx, osel := u.desc.osel % 16, gen := s.dex.gen, tag := tag,
    stepTag := stepTag s u.desc.ctx }

/-- The record of an operation of a Press. -/
def pressOp (s : State) (d : Nat) (u : PressRun) (m rop : Nat) (rs : List Run) : RemoteOp :=
  { ctx := u.desc.ctx, core := 64 + d, stream := 0, slot := u.ring, pc := 0, rop := rop, fact := 0, flag := 0, rank := u.desc.rank,
    dests := [m], key := pairKey false m u.desc.ctx (64 + d) (u.desc.osel % 16), status := 0, runs := rs, size := 0, deadline := deadline s,
    pruned := [], fencedRaised := false }

/-- The error of a rank that maps no module (R266): class 0x32 subcause 13. -/
def noRank (s : State) (c stream op pc rank : Nat) : State :=
  raise s { cls := 0x32, unit := unitCode 9 0, ctx := c, stream := stream, op := op, aux := 13, detail := detail [(42, le 2 rank), (48, le 4 pc)] }
    (stepEffect s c)

/-- Issue the next operation of a Press run. -/
def pressIssue (s : State) (d : Nat) (u : PressRun) (m tag : Nat) : State :=
  let h := pressHeader s d u m tag
  match u.sends, u.gets with
  | (a, b) :: rest, _ =>
    let p := { h with kind := 1, addr := (u.desc.image + a) % 2 ^ 48, len := b.length, last := true, payload := b, pcheck := crc b }
    launch (modRun s d u.ring (fun v => { v with sends := rest, ops := v.ops + 1 })) tag (pressOp s d u m 0 []) [(p, none)]
  | [], (o, n) :: rest =>
    let p := { h with kind := 4, addr := (u.desc.image + o) % 2 ^ 48, rlen := n, last := true }
    launch (modRun s d u.ring (fun v => { v with gets := rest, ops := v.ops + 1 })) tag (pressOp s d u m 1 [((u.desc.image + o) % 2 ^ 48, o, n)]) [(p, none)]
  | [], [] => s

/-- Issue operations of a Press run while fewer than 64 are in flight; fuel bounds their number. -/
def pressPump : Nat → State → Nat → Nat → State
  | 0, s, _, _ => s
  | f + 1, s, d, ring =>
    match runOf s d ring with
    | none => s
    | some u =>
      if u.failed || u.stop.isSome || fenced s || decide (64 ≤ u.ops) || (u.sends.isEmpty && u.gets.isEmpty) then s
      else match rankMap s u.desc.ctx u.desc.rank, freeTag s with
        | none, _ => modRun (noRank s u.desc.ctx 0 (opField 0 u.desc.op) 0 u.desc.rank) d ring (fun v => { v with failed := true })
        | _, none => s
        | some m, some t => pressPump f (pressIssue s d u m t) d ring

/-- The reads a Press run still needs once the header and table of a peer image have arrived: the frames, in pieces of 512. -/
def frameGets (u : PressRun) : List (Nat × Nat) :=
  let tbl := 64 * ceilDiv u.desc.frames 64
  let lens := (List.range u.desc.frames).map (fun i => 64 * ((SMap.val 0#8 u.buf (64 + i)).toNat % 128))
  let n := lens.foldl (· + ·) 0
  (cutRun (n / 512 + 2) (u.desc.image + 64 + tbl, 64 + tbl, n)).map (fun r => (r.2.1, r.2.2))

/-- The header of a peer image agrees with the descriptor (R228). -/
def headerAgrees (d : PressDesc) (h : Bytes) : Bool :=
  at' h 0 4 == d.frames && at' h 4 4 == d.tensor && at' h 8 1 == d.mode && at' h 9 1 == d.sfmt

/-- The first 64 bytes of a peer image. -/
def bufHeader (u : PressRun) : Bytes := (List.range 64).map (fun i => SMap.val 0#8 u.buf i)

/-- An operation of a Press has completed with a status: the run goes on. -/
def pressNext (s : State) (d ring status : Nat) : State :=
  let s1 := modRun s d ring (fun u =>
    let v := { u with ops := u.ops - 1, failed := u.failed || status != 0 }
    if v.ops == 0 && v.gets.isEmpty && v.stage == 0 && v.desc.op == 2 then
      { v with stage := 1, gets := if headerAgrees v.desc (bufHeader v) && at' (bufHeader v) 24 4 == v.desc.frames then frameGets v else [] }
    else v)
  pressPump 64 s1 d ring

/-- A tag is free again: a Press run that found none, and has nothing in flight that would wake it, goes on (R272). -/
def wakeRuns (s : State) : State :=
  (s.presses.flatMap (fun p => (p.2.runs.filter (fun u => u.ops == 0)).map (fun u => (p.1, u.ring)))).foldl (fun acc x => pressPump 64 acc x.1 x.2) s

/-! ## Completion (R270 to R272) -/

/-- An operation completes: its tag is free, and its status and flag action reach its stream, or its Press goes on. -/
def finishOp (s : State) (tag : Nat) : State :=
  match SMap.look s.remote.ops tag with
  | none => s
  | some o =>
    let s1 := modRemote s (fun r => { r with ops := SMap.del r.ops tag })
    wakeRuns (if o.core < 64 then
        let y := Pairs.action s1 { unit := unitCode 9 0, q := o.core, ctx := o.ctx, stream := o.stream, op := opField 3 o.rop, pc := o.pc }
          o.fact o.flag o.pair
        Issue.complete y.1 o.ctx o.core o.stream (Issue.flagBit (o.status != 0) Issue.bPartial) o.fact y.2
      else pressNext s1 (o.core - 64) o.slot o.status)

/-- Complete an operation once every packet of it has been answered. -/
def checkOp (s : State) (tag : Nat) : State :=
  match SMap.look s.remote.ops tag with
  | none => s
  | some o => if outstanding (pair s o.key) tag then s else finishOp s tag

/-- Complete the operations of a pair of which nothing is outstanding. -/
def settlePair (s : State) (k : Nat) : State := ((s.remote.ops.filter (fun o => o.2.key == k)).map (·.1)).foldl checkOp s

/-- The class 0x31 error of a fenced destination, once for an operation, or of a pruned leaf, once for each (R271, R283). An operation of a
Press raises one for any error completion, so that a record names the rank (R234; DESIGN CHOICE, notes/assumptions/45.md). -/
def noteFenced (s : State) (tag st m : Nat) : State :=
  match SMap.look s.remote.ops tag with
  | none => s
  | some o =>
    let isPress := decide (64 ≤ o.core)
    let r : ErrRec := { cls := 0x31, unit := if isPress then unitCode 7 (o.core - 64) else unitCode 9 0, ctx := o.ctx,
                        stream := if isPress then 0 else streamByte o.stream, op := if isPress then opField 0 (2 - o.rop % 2) else opField 3 o.rop,
                        aux := if st == 8 then 1 else 0, detail := detail ((40, le 2 m) :: (if isPress then [(42, le 2 o.rank)] else [])) }
    if (st == 6 || (isPress && 2 ≤ st && st != 8)) && !o.fencedRaised then raise (modOp s tag (fun x => { x with fencedRaised := true })) r 0
    else if st == 8 && !o.pruned.contains m then raise (modOp s tag (fun x => { x with pruned := m :: x.pruned })) r 0
    else s

/-! ## Answers -/

/-- What an answer from a module leaves of a packet that awaits it: none once it is answered for good. -/
def answered (dests : List Nat) (m : Nat) (w : Sent) : Option Sent :=
  if w.pkt.mcast then
    let a := if w.acked.contains m then w.acked else m :: w.acked
    if dests.all (fun x => a.contains x) then none else some { w with acked := a }
  else none

/-- A response answers a packet (R274): of its tag and number, and of the pair that it echoes. -/
def isSent (p : Pkt) (seq : Nat) (w : Sent) : Bool :=
  w.pkt.tag == p.tag && w.pkt.seq == seq && w.pkt.ctx == p.ctx && w.pkt.unit == p.unit && w.pkt.stream == p.stream &&
  w.pkt.chain == p.chain && w.pkt.mcast == p.mcast && w.pkt.osel == p.osel && w.pkt.group == p.group

/-- Apply an answer to every packet of a list that it names. -/
def strike (dests : List Nat) (m : Nat) (p : Pkt) (seq : Nat) (l : List Sent) : List Sent :=
  l.filterMap (fun w => if isSent p seq w then answered dests m w else some w)

/-- One packet of a response's operation has been answered by a module (R276, R283). -/
def answerSeq (s : State) (p : Pkt) (m seq : Nat) : State :=
  match SMap.look s.remote.ops p.tag with
  | none => s
  | some o =>
    let x := pair s o.key
    pumpAll (setPair s o.key { x with window := strike o.dests m p seq x.window, past := strike o.dests m p seq x.past }) o.key

/-- The packet a response answers, at this source. -/
def sentOf (s : State) (p : Pkt) (seq : Nat) : Option Sent :=
  match SMap.look s.remote.ops p.tag with
  | none => none
  | some o => let x := pair s o.key; (x.window ++ x.past).find? (isSent p seq)

/-- A late response is dropped, counted and recorded (R53). -/
def lateResponse (s : State) (p : Pkt) : State :=
  let s1 := modRemote s (fun r => { r with lateDrop := min 4294967295 (r.lateDrop + 1) })
  lateRecord s1 { cls := 0x23, unit := unitCode 9 0, aux := 3, detail := detail [(40, le 2 p.tag)] } (s.err.drilled.contains (0, p.tag))

/-- A packet whose header has a reserved value is dropped and counted (R273). -/
def badHeader (s : State) : State := modRemote s (fun r => { r with badHdr := min 4294967295 (r.badHdr + 1) })

/-- A packet that was answered BUSY is to be sent again (R276). -/
def busyAnswer (s : State) (k : Nat) (p : Pkt) : State :=
  let x := pair s k
  setPair s k { x with window := x.window.map (fun w => if isSent p p.seq w then { w with busyAt := some s.ns } else w) }

/-- The outcome of a liveness probe's answer is noted (R394); BUSY is no outcome, the probe is sent again (R271, R276). -/
def probeAnswer (s : State) (p : Pkt) : State :=
  if p.kind == 7 && p.status == 1 then busyAnswer s (pairKey false p.src 255 127 0) p
  else modRemote s (fun r => { r with probes := r.probes.map (fun x => if x.1 == p.src && x.2.2.isNone then (x.1, x.2.1, some p.status) else x) })

/-- The header of a packet has a reserved value or a nonzero reserved bit (R162, R273). -/
def badFields (p : Pkt) : Bool :=
  p.resv != 0 || decide (16384 ≤ p.dst ∨ 16384 ≤ p.src ∨ 127 < p.unit ∨ (66 ≤ p.unit ∧ p.unit ≤ 126) ∨ 255 < p.ctx ∨ 512 < p.len ∨
    8192 ≤ p.rflag ∨ 4096 ≤ p.group ∨ 16384 ≤ p.leaf ∨ 63 < p.rcore ∨ 3 ≤ p.fact ∨ p.payload.length ≠ p.len) ||
  (p.ctx == 255 && p.unit != 127)

/-- A response reaches its operation (R53, R273, R274, R384, R386): not with a reserved value, not late; one of the link monitor's
belongs to a probe. -/
def response (s : State) (p : Pkt) (codes : Bool) (f : RemoteOp → State) : State :=
  if badFields p || !codes then badHeader s
  else if p.echoGen != s.dex.gen || (s.resetSeq.any (fun q => q.stage == 2)) then lateResponse s p
  else if p.unit == 127 then probeAnswer s p
  else match SMap.look s.remote.ops p.tag with
    | none => lateResponse s p
    | some o => f o

/-- ACK: the packets SEQ - RLEN + 1 to SEQ of one tag are answered (R274). -/
def ackIn (s : State) (p : Pkt) : State :=
  response s p (p.status == 0) (fun o =>
    let n := min p.rlen 64
    settlePair ((List.range n).foldl (fun acc i => answerSeq acc p p.src (dist32 p.seq (n - 1 - i))) s) o.key)

/-- ERROR_RSP: BUSY asks for a resend; every other status answers the packet (R271, R276). -/
def errorIn (s : State) (p : Pkt) : State :=
  response s p (decide (1 ≤ p.status ∧ p.status ≤ 8)) (fun o =>
    if p.status == 1 then busyAnswer s o.key p
    else match sentOf s p p.seq with
      | none => s
      | some _ =>
        let m := if p.status == 8 then p.leaf else p.src
        settlePair (answerSeq (noteFenced (noteStatus s p.tag p.status) p.tag p.status m) p m p.seq) o.key)

/-- Where the payload of a READ_RSP goes under an operation's runs. -/
def place (o : RemoteOp) (p : Pkt) : Option Nat :=
  (o.runs.find? (fun r => decide (r.1 ≤ p.addr ∧ p.addr + p.len ≤ r.1 + r.2.2))).map (fun r => r.2.1 + (p.addr - r.1))

/-- Write the bytes of a READ_RSP: under LDESC, or into a Press's image. -/
def landing (s : State) (o : RemoteOp) (a : Nat) (p : Pkt) : State × Nat :=
  if o.core < 64 then Mem.store s a p.payload false { unit := unitCode 9 0, ctx := o.ctx, stream := some o.stream, op := opField 3 o.rop }
  else (modRun s (o.core - 64) o.slot (fun u => { u with buf := (p.payload.zipIdx).foldl (fun m b => SMap.ins m (a + b.2) b.1) u.buf }), 0)

/-- READ_RSP: its bytes are written, and its request is answered once all of it has come (R267, R270, R290). -/
def readRspIn (s : State) (p : Pkt) : State :=
  response s p (p.status == 0) (fun o =>
    match sentOf s p p.seq, place o p with
    | some _, some a =>
      let good := crc p.payload == p.pcheck
      let s1 := if good then
          let w := landing s o a p
          if w.2 == 0 then w.1 else noteStatus w.1 p.tag w.2
        else noteStatus (raise s { cls := 0x13, unit := unitCode 9 0, ctx := o.ctx, stream := streamByte o.stream, op := opField 3 o.rop, addr := a,
                                   detail := detail [(40, le 2 (unitCode 9 0)), (44, le 4 p.pcheck.toNat), (48, le 4 (crc p.payload).toNat)] }
            (stepEffect s o.ctx)) p.tag 4
      let less := fun (l : List Sent) => l.filterMap (fun w =>
        if isSent p p.seq w then (if w.left ≤ p.len then none else some { w with left := w.left - p.len }) else some w)
      let x := pair s1 o.key
      settlePair (pumpAll (setPair s1 o.key { x with window := less x.window, past := less x.past }) o.key) o.key
    | _, _ => s)

/-! ## Timeout, resend, abandonment -/

/-- OPERATION_TIMEOUT (R272): the tag is retired with TIMEOUT, and what was not answered counts as acknowledged. -/
def timeout (s : State) (tag : Nat) : State :=
  match SMap.look s.remote.ops tag with
  | none => s
  | some o =>
    if now s < o.deadline || !Order.turn 5 s then s
    else
      let isPress := decide (64 ≤ o.core)
      let s1 := raise s { cls := 0x23, unit := if isPress then unitCode 7 (o.core - 64) else unitCode 9 0, ctx := o.ctx,
                          stream := if isPress then 0 else streamByte o.stream, op := if isPress then opField 0 (2 - o.rop % 2) else opField 3 o.rop,
                          aux := 3, detail := detail [(40, le 2 tag), (42, le 2 o.rank), (44, le 4 o.pc)] } (stepEffect s o.ctx) (s.err.drilled.contains (0, tag))
      let other := fun (w : Sent) => w.pkt.tag != tag
      let x := pair s1 o.key
      let s2 := setPair s1 o.key { x with window := x.window.filter other, waiting := x.waiting.filter other, past := x.past.filter other }
      settlePair (finishOp (noteStatus (pumpAll s2 o.key) tag 9) tag) o.key

/-- PACKET_RESEND (R276): a packet answered BUSY at least 1 µs ago goes out again with a fresh LOW. -/
def resend (s : State) (key seq : Nat) : State :=
  let x := pair s key
  match x.window.find? (fun w => w.pkt.seq == seq) with
  | none => s
  | some w =>
    match w.busyAt with
    | none => s
    | some t =>
      if s.ns < t + 1000 then s
      else
        let low := match x.window with | o :: _ => o.pkt.seq | [] => seq
        let p := { w.pkt with low := low, start := false }
        let w1 := x.window.map (fun y => if y.pkt.seq == seq then { y with pkt := p, busyAt := none } else y)
        sendPkt (setPair s key { x with window := w1 }) p

/-- A replay or an abort at the source (R342): every earlier packet of the context's pairs counts as acknowledged, and SEQ moves to
65 beyond the last one sent. Packets not yet sent are not sent. -/
def skipPairs (s : State) (c : Nat) : State :=
  let skip := fun (k : Nat) (x : Pair) =>
    if (k / 2048) % 256 == c then
      { x with next := (x.next + 64) % 4294967296, window := [], waiting := [], past := x.past ++ x.window }
    else x
  modRemote s (fun r => { r with pairs := SMap.mapVals skip r.pairs })

/-- Operations of a context whose packets have all been answered complete. -/
def settleOps (s : State) : State := (s.remote.ops.map (·.1)).foldl checkOp s

/-- The end of a drain (R387): every operation that is not complete is abandoned. -/
def abandon (s : State) : State :=
  modRemote s (fun r => { r with ops := [], pairs := SMap.mapVals (fun _ (x : Pair) => { x with window := [], waiting := [], past := [] }) r.pairs })

/-- An outbound operation still awaits an answer to a packet it has sent (R387); one that the router has not yet taken is not sent. -/
def draining (s : State) : Bool := s.remote.pairs.any (fun p => (p.2.window ++ p.2.past).any (fun w => !s.fabric.inject.contains w.pkt))

/-! ## Issue (R263 to R268, R282, R284) -/

/-- Header fields that the packets of a stream's operation share. -/
def streamHeader (s : State) (i : Issuer) (c : Nat) (w : RemWord) (tag : Nat) : Pkt :=
  { src := moduleId s, unit := i.core, ctx := c, stream := i.stream, osel := w.osel, gen := s.dex.gen, tag := tag, stepTag := stepTag s c }

/-- The descriptor of a data operation, when it is legal: R125, R126, and 1 byte to 16 MiB. -/
def dataDesc (s : State) (r : Issue.Runner) (q : Nat) (w : RemWord) : Option StreamDesc :=
  match descAt s r.x q w.ldesc with
  | some d => let n := total (runs d 0); if wfDesc d && decide (1 ≤ n ∧ n ≤ 16777216) then some d else none
  | none => none

/-- The word itself is legal (R163, R167, R282). -/
def legalWord (rop : Nat) (w : RemWord) : Bool := w.rsvd == 0 && decide (w.fact ≤ 2) && (rop != 5 || decide (w.rank < 4096))

/-- The leaves of an MPUT as modules (R282, R509): an error names the rank that maps none. -/
def leaves (s : State) (c g : Nat) : Except Nat (List Nat) :=
  let w := (SMap.val 0xFF0000#64 s.remote.mcast (128 * g)).toNat
  let n := field w 8 0
  if field w 23 16 != c || n == 0 || decide (256 < n) then .error g
  else (List.range n).mapM (fun l =>
    let rank := field (SMap.val 0#64 s.remote.mcast (128 * g + 1 + l / 4)).toNat (16 * (l % 4) + 13) (16 * (l % 4))
    match rankMap s c rank with | some m => .ok m | none => .error rank)

/-- The destinations of an operation (R263, R282). -/
def destinations (s : State) (c rop : Nat) (w : RemWord) : Except Nat (List Nat) :=
  if rop == 5 then leaves s c w.rank
  else match rankMap s c w.rank with | some m => .ok [m] | none => .error w.rank

/-- The packets of an operation whose word is legal, each with the local address of its bytes. -/
def packets (rop : Nat) (w : RemWord) (t : Pkt) (d : Option StreamDesc) : List (Pkt × Option Nat) :=
  match d with
  | none => [({ t with kind := 3, last := true }, none)]
  | some x =>
    let rs := runs x w.raddr
    if rop == 1 then rs.zipIdx.map (fun r => ({ t with kind := 4, addr := r.1.1, rlen := r.1.2.2, last := r.2 + 1 == rs.length }, none))
    else dataPackets t (rop != 0) (cut rs)

/-- A legal operation with its destinations at hand goes out (R267). -/
def send (s : State) (i : Issuer) (r : Issue.Runner) (rop : Nat) (w : RemWord) (d : Option StreamDesc) (ms : List Nat) (tag : Nat)
    (pair : Option PairFault := none) : State :=
  let flagOp := rop == 2 || rop == 3 || rop == 4 || rop == 5 || rop == 6
  let h := streamHeader s i r.c w tag
  let t := { h with
    dst := if rop == 5 then 0 else ms.headD 0, chain := rop == 6, mcast := rop == 5, group := if rop == 5 then w.rank else 0,
    rflag := if flagOp then w.rflag else 0, rcore := if flagOp then w.rcore else 0, fact := if rop == 4 then 2 else if flagOp then 1 else 0 }
  let o : RemoteOp :=
    { ctx := r.c, core := i.core, stream := i.stream, slot := i.slot, serial := r.t.serial, pair := pair, pc := r.t.pc, rop := rop, fact := w.fact, flag := w.flag, rank := w.rank,
      dests := ms, key := pairOf t, status := 0, runs := if rop == 1 then (match d with | some x => runs x w.raddr | none => []) else [],
      size := (match d with | some x => total (runs x 0) | none => 0), deadline := deadline s, pruned := [], fencedRaised := false }
  settlePair (launch (Issue.launched s r.c i) tag o (packets rop w t d)) o.key

/-- The header of an operation as a redundant pair sends it (R363): core q's remote address, or core q's flag. -/
def header (s : State) (i : Issuer) (r : Issue.Runner) (rop : Nat) (w : RemWord) (pair : Option PairFault) : State × RemWord :=
  let x : Pairs.Site := { unit := unitCode 9 0, q := i.core, ctx := r.c, stream := i.stream, op := opField 3 rop, pc := r.t.pc }
  if pair.any (·.act) then (s, w)
  else if rop == 3 || rop == 4 then let y := Pairs.field s x 0 13 w.rflag pair; (y.1, { w with rflag := y.2 })
  else let y := Pairs.field s x w.raddr 48 w.raddr pair; (y.1, { w with raddr := y.2 })

/-- Issue of a remote operation: illegal (R163), without a rank (R266), or sent. `hits` are what the codes report as its local data is
read. -/
def start (s : State) (i : Issuer) (rop : Nat) (w : RemWord) (hits : List CodeHit) (pair : Option PairFault) : State :=
  Issue.issue s i (.rem rop w) (fun r =>
    let needs := rop != 3 && rop != 4
    let d := if needs then dataDesc s r i.core w else none
    if !legalWord rop w || (needs && d.isNone) then Issue.rejectRead s i r 3 rop (if needs then [w.ldesc] else [])
    else match freeTag s with
      | none => s
      | some tag =>
        let rq : Mem.Req := { unit := unitCode 9 0, ctx := r.c, stream := some i.stream, op := opField 3 rop }
        let s0 := descRead (Mem.inject (Issue.noted s i) hits rq) r.x i.core (if needs then [w.ldesc] else []) rq
        let y := header s0 i r rop w pair
        let s1 := y.1
        match destinations s r.c rop w with
        | .error rank =>
          let s2 := noRank (Issue.launched s1 r.c i) r.c (streamByte i.stream) (opField 3 rop) r.t.pc rank
          Issue.complete s2 r.c i.core i.stream Issue.bPartial w.fact w.flag
        | .ok ms => send s1 i r rop y.2 d ms tag pair)

/-! ## Meanings -/

/-- PUT (R267). -/
def execPut (i : Issuer) (w : RemCmd) (hits : List CodeHit) (s : State) : Host.Outcome State Fault Refusal :=
  .next (start s i 0 w.word hits w.pair)

/-- GET (R267). -/
def execGet (i : Issuer) (w : RemCmd) (s : State) : Host.Outcome State Fault Refusal := .next (start s i 1 w.word [] w.pair)

/-- PUTF (R267). -/
def execPutf (i : Issuer) (w : RemCmd) (hits : List CodeHit) (s : State) : Host.Outcome State Fault Refusal :=
  .next (start s i 2 w.word hits w.pair)

/-- FSET (R267). -/
def execFset (i : Issuer) (w : RemCmd) (s : State) : Host.Outcome State Fault Refusal := .next (start s i 3 w.word [] w.pair)

/-- FCLR (R267). -/
def execFclr (i : Issuer) (w : RemCmd) (s : State) : Host.Outcome State Fault Refusal := .next (start s i 4 w.word [] w.pair)

/-- MPUT (R282). -/
def execMput (i : Issuer) (w : RemCmd) (hits : List CodeHit) (s : State) : Host.Outcome State Fault Refusal :=
  .next (start s i 5 w.word hits w.pair)

/-- CHAIN (R284). -/
def execChain (i : Issuer) (w : RemCmd) (hits : List CodeHit) (s : State) : Host.Outcome State Fault Refusal :=
  .next (start s i 6 w.word hits w.pair)

/-- The answer to an operation with a flag action comes in the place of its core's completions: after the other flag actions of the cycle, in
the order of slot, stream and issue (R256). -/
def inPlace (s : State) (p : Pkt) : Bool :=
  match SMap.look s.remote.ops p.tag with
  | some o => o.fact == 0 || (Order.flagsDone s && Issue.nextToComplete s o.core (4 * o.slot + o.stream, o.serial))
  | none => true

/-- READ_RSP (R267). -/
def execReadRsp (p : PktIn) (s : State) : Host.Outcome State Fault Refusal :=
  .next (if p.pkt.kind == 5 && inPlace s p.pkt then
      readRspIn (Mem.inject (unloaded s p.pkt) p.hits { unit := unitCode 9 0 }) p.pkt else s)

/-- ACK (R274). -/
def execAck (p : Pkt) (s : State) : Host.Outcome State Fault Refusal :=
  .next (if p.kind == 6 && inPlace s p then ackIn (unloaded s p) p else s)

/-- ERROR_RSP (R271). -/
def execErrorRsp (p : Pkt) (s : State) : Host.Outcome State Fault Refusal :=
  .next (if p.kind == 7 && inPlace s p then errorIn (unloaded s p) p else s)

/-- OPERATION_TIMEOUT (R272). -/
def execOperationTimeout (tag : Nat) (s : State) : Host.Outcome State Fault Refusal := .next (timeout s tag)

/-- PACKET_RESEND (R276). -/
def execPacketResend (key seq : Nat) (s : State) : Host.Outcome State Fault Refusal := .next (resend s key seq)

end Sys2Proof.Machine.RemoteOps
end

