-- ==== Sys2Proof/Machine/Press.lean ====
section
/-! DEFINITION. The Press, the activation compressor (R225 to R237): its command window, bad descriptors, the lossless and the
lossy coding of a frame, images, and the end of a descriptor. -/

namespace Sys2Proof.Machine.PressOps

open Bits Ops Report Numeric

def press (s : State) (d : Nat) : Press := SMap.val {} s.presses d
def setPress (s : State) (d : Nat) (x : Press) : State := { s with presses := SMap.ins s.presses d x }

/-! ## The command window (R225) -/

/-- The 64 bytes of a slot of a ring. -/
def slot (x : Press) (r i : Nat) : Bytes := SMap.val (zeros 64) x.slots (64 * r + i)

/-- One write of any master to the window, the host among them (R225): accepted only as a whole slot whose SEQ names it; status 0, or 3 for
an error completion. -/
def slotWrite (s : State) (d off : Nat) (data : Bytes) : State × Nat :=
  let i := (off / 64) % 64
  if data.length == 64 && off % 64 == 0 && at' data 0 4 % 64 == i then
    let x := press s d
    (setPress s d { x with slots := SMap.ins x.slots (64 * (off / 4096) + i) data }, 0)
  else (s, 3)

/-- The byte at an offset of the window. -/
def byteAt (s : State) (d off : Nat) : Byte := (slot (press s d) (off / 4096) ((off / 64) % 64)).getD (off % 64) 0

/-- The descriptor in 64 bytes (R227). -/
def parse (b : Bytes) : PressDesc :=
  { seq := at' b 0 4, op := at' b 4 1, mode := at' b 5 1, sfmt := at' b 6 1 % 16, tgt := at' b 7 1 % 4, frames := at' b 8 4,
    tensor := at' b 12 4, plain := at' b 16 6, rank := at' b 22 2 % 16384, image := at' b 24 8, cap := at' b 32 8, report := at' b 40 6,
    ctx := at' b 46 1, fact := at' b 47 1 % 4, fcore := at' b 47 1 / 4, flag := at' b 48 2 % 8192, osel := at' b 50 2 % 16,
    resv := at' b 6 1 / 16 + at' b 7 1 / 4 + at' b 22 2 / 16384 + at' b 48 2 / 8192 + at' b 50 2 / 16 + at' b 52 12 }

/-! ## Ready rings (R182, R226) -/

def nextOf (x : Press) (r : Nat) : Nat := SMap.val 0 x.next r

/-- Ring r is ready: it is not running, and the slot of its next number holds that number. -/
def ready (x : Press) (r : Nat) : Bool :=
  !(x.runs.any (fun u => u.ring == r)) &&
  (match SMap.look x.slots (64 * r + nextOf x r % 64) with
   | some b => at' b 0 4 == nextOf x r
   | none => false)

/-- The ring that starts next: the first ready one in rotation after the ring that last started. -/
def chosen (x : Press) : Option Nat := ((List.range 16).map (fun i => (x.lastRing + 1 + i) % 16)).find? (ready x)

/-- The descriptor that ring r runs next. -/
def headDesc (x : Press) (r : Nat) : PressDesc := parse (slot x r (nextOf x r % 64))

/-- A descriptor is BAD (R227). -/
def bad (d : PressDesc) : Bool :=
  !(d.op == 1 || d.op == 2) || decide (3 < d.mode) || decide (2 < d.sfmt) || d.tgt == 3 || d.frames == 0 || d.resv != 0 || d.fact == 3 ||
  d.plain % 64 != 0 || d.image % 64 != 0 || d.cap % 64 != 0 || !Mem.inStore d.plain (4096 * d.frames) ||
  (d.tgt == 0 && !Mem.inDram d.image d.cap) || (d.tgt == 2 && decide (2 ^ 48 ≤ d.image))

/-! ## Lossless coding (R229) -/

/-- The elements of a frame, little-endian, in ascending order. -/
def elements (sfmt : Nat) (b : Bytes) : List Nat := (pieces (width sfmt / 8) b).map ofLe

def fracBits (sfmt : Nat) : Nat := match sfmt with | 0 => 23 | 1 => 7 | _ => 10
def expField (sfmt c : Nat) : Nat := (c >>> fracBits sfmt) % 2 ^ (width sfmt - 1 - fracBits sfmt)

/-- Sign and fraction as one number. -/
def residue (sfmt c : Nat) : Nat :=
  let f := fracBits sfmt
  (if c.testBit (width sfmt - 1) then 2 ^ f else 0) + c % 2 ^ f

/-- Nibbles packed low nibble first, a final odd one padded. -/
def packNibbles : List Nat → Bytes
  | [] => []
  | [a] => [BitVec.ofNat 8 a]
  | a :: b :: r => BitVec.ofNat 8 (a + 16 * b) :: packNibbles r

/-- The nibbles of the exponents after the first. -/
def expNibbles : Nat → List Nat → List Nat
  | _, [] => []
  | p, e :: r =>
    (if e + 7 ≥ p && p + 7 ≥ e then [(16 + e - p) % 16] else [8, e % 16, e / 16]) ++ expNibbles e r

/-- Values of w bits packed into bytes, least significant bit first, padded with zero bits. -/
def packBits (w : Nat) (l : List Nat) : Bytes :=
  le (ceilDiv (w * l.length) 8) (l.zipIdx.foldl (fun acc p => acc + p.1 <<< (w * p.2)) 0)

/-- The values of w bits that n values packed in bytes hold. -/
def unpackBits (w n : Nat) (b : Bytes) : List Nat :=
  let x := ofLe b
  (List.range n).map (fun i => (x >>> (w * i)) % 2 ^ w)

/-- The coded form of a group: its mask, exponents and residues. -/
def codedGroup (sfmt : Nat) (l : List Nat) : Bytes :=
  let nz := l.filter (· != 0)
  let mask := ofBits ((l.zipIdx.filter (fun p => p.1 != 0)).map (·.2))
  let es := nz.map (expField sfmt)
  let exps := match es with | [] => [] | e :: r => BitVec.ofNat 8 e :: packNibbles (expNibbles e r)
  le 4 mask ++ exps ++ packBits (fracBits sfmt + 1) (nz.map (residue sfmt))

/-- One group of 32 elements. -/
def encodeGroup (sfmt : Nat) (l : List Nat) : Bytes :=
  let raw := l.flatMap (fun c => le (width sfmt / 8) c)
  let coded := codedGroup sfmt l
  if l.all (· == 0) then [0]
  else if coded.length < raw.length then 2 :: coded
  else 1 :: raw

/-- Groups of 32; fuel bounds their number. -/
def groups : Nat → List Nat → List (List Nat)
  | 0, _ => []
  | f + 1, l => if l.isEmpty then [] else l.take 32 :: groups f (l.drop 32)

/-- A lossless frame: its coded bytes, or its plain bytes stored RAW. -/
def encodeLossless (sfmt : Nat) (b : Bytes) : PressFrame :=
  let x := padMul 64 ((groups 64 (elements sfmt b)).flatMap (encodeGroup sfmt))
  if 4032 < x.length then { data := b, raw := true, nonfinite := 0 } else { data := x, raw := false, nonfinite := 0 }

/-- Low nibble and high nibble of each byte. -/
def nibbles (b : Bytes) : List Nat := b.flatMap (fun x => [x.toNat % 16, x.toNat / 16])

/-- n exponents after the first from nibbles, with how many nibbles they took. -/
def readExps (bits : Nat) : Nat → Nat → List Nat → Option (List Nat × Nat)
  | 0, _, _ => some ([], 0)
  | n + 1, p, ns =>
    match ns with
    | 8 :: a :: b :: r => if a + 16 * b < 2 ^ bits then (readExps bits n (a + 16 * b) r).map (fun x => ((a + 16 * b) :: x.1, x.2 + 3)) else none
    | d :: r =>
      let e := if d < 8 then p + d else p - (16 - d)
      if d == 8 || (decide (8 < d) && decide (p < 16 - d)) || decide (2 ^ bits ≤ e) then none
      else (readExps bits n e r).map (fun x => (e :: x.1, x.2 + 1))
    | [] => none

/-- Put the nonzero elements back at the set bits of a mask. -/
def spread : Nat → Nat → List Nat → List Nat
  | 0, _, _ => []
  | n + 1, m, l => if m % 2 == 1 then l.headD 0 :: spread n (m / 2) l.tail else 0 :: spread n (m / 2) l

/-- A coded group from its bytes, with the rest. -/
def readCoded (sfmt : Nat) (b : Bytes) : Option (List Nat × Bytes) :=
  let f := fracBits sfmt
  let mask := at' b 0 4
  let n := (setBits 32 mask).length
  if b.length < 5 || n == 0 then none
  else
    let e0 := at' b 4 1
    if 2 ^ (width sfmt - 1 - f) ≤ e0 then none
    else match readExps (width sfmt - 1 - f) (n - 1) e0 (nibbles (b.drop 5)) with
      | none => none
      | some (es, used) =>
        let rest := b.drop (5 + ceilDiv used 2)
        let len := ceilDiv ((f + 1) * n) 8
        if rest.length < len then none
        else
          let rs := unpackBits (f + 1) n (rest.take len)
          let cs := ((e0 :: es).zip rs).map (fun p => (p.2 / 2 ^ f) * 2 ^ (width sfmt - 1) + p.1 * 2 ^ f + p.2 % 2 ^ f)
          some (spread 32 mask cs, rest.drop len)

/-- The groups of a lossless frame from its bytes; none where they break R229. -/
def readGroups (sfmt : Nat) : Nat → Bytes → Option (List Nat)
  | 0, _ => some []
  | n + 1, b =>
    match b with
    | [] => none
    | h :: r =>
      let w := width sfmt / 8
      if h == 0 then (readGroups sfmt n r).map (List.replicate 32 0 ++ ·)
      else if h == 1 then
        if r.length < 32 * w then none else (readGroups sfmt n (r.drop (32 * w))).map (elements sfmt (r.take (32 * w)) ++ ·)
      else if h == 2 then
        match readCoded sfmt r with
        | none => none
        | some x => (readGroups sfmt n x.2).map (x.1 ++ ·)
      else none

/-- The plain bytes of a lossless frame. -/
def decodeLossless (sfmt : Nat) (b : Bytes) : Option Bytes :=
  (readGroups sfmt (128 / (width sfmt / 8)) b).map (fun l => l.flatMap (fun c => le (width sfmt / 8) c))

/-! ## Lossy coding (R230) -/

/-- The element format code of a lossy mode. -/
def modeFmt (mode : Nat) : Nat := match mode with | 1 => 7 | 2 => 8 | _ => 9

/-- A lossy frame. -/
def encodeLossy (mode sfmt : Nat) (b : Bytes) : PressFrame :=
  let f := (fmtOf (modeFmt mode)).getD e2m1
  let bs := (groups 64 (elements sfmt b)).map (fun g => mxBlock f (g.map (elemVal sfmt)))
  { data := padMul 64 (packBits (width (modeFmt mode)) (bs.flatMap (·.2)) ++ bs.map (fun x => BitVec.ofNat 8 x.1)),
    raw := false, nonfinite := (bs.filter (fun x => x.1 == 255)).length }

/-- Elements of a frame. -/
def frameElems (sfmt : Nat) : Nat := 4096 / (width sfmt / 8)

/-- The plain bytes of a lossy frame with its blocks of scale 0xFF; none where it is too short. -/
def decodeLossy (mode sfmt : Nat) (b : Bytes) : Option (Bytes × Nat) :=
  let n := frameElems sfmt
  let w := width (modeFmt mode)
  let eb := n * w / 8
  if b.length < eb + n / 32 then none
  else
    let es := unpackBits w n (b.take eb)
    let sb := fun i => (b.getD (eb + i / 32) 0).toNat
    let one := fun (p : Nat × Nat) =>
      let v := scaled (sb p.2) (elemVal (modeFmt mode) p.1)
      match fmtOf sfmt with
      | some f => (Numeric.encode f false v).1
      | none => 0
    some ((es.zipIdx.map one).flatMap (fun c => le (width sfmt / 8) c),
          ((List.range (n / 32)).filter (fun i => sb (32 * i) == 255)).length)

/-! ## Images (R230, R231) -/

def tableBytes (d : PressDesc) : Nat := 64 * ceilDiv d.frames 64

/-- One frame of a PACK. -/
def encodeFrame (d : PressDesc) (b : Bytes) : PressFrame := if d.mode == 0 then encodeLossless d.sfmt b else encodeLossy d.mode d.sfmt b

/-- Frames in order as long as the image stays within CAP, with its length. -/
def fit (cap : Nat) : Nat → List PressFrame → List PressFrame × Nat
  | len, [] => ([], len)
  | len, f :: r => if len + f.data.length ≤ cap then let x := fit cap (len + f.data.length) r; (f :: x.1, x.2) else ([], len)

/-- The header and frame table of an image. -/
def imageHead (d : PressDesc) (fs : List PressFrame) (len : Nat) : Bytes :=
  layout 64 [(0, le 4 d.frames), (4, le 4 d.tensor), (8, le 1 d.mode), (9, le 1 d.sfmt), (16, le 8 len), (24, le 4 fs.length)] ++
  padTo (tableBytes d) (fs.map (fun f => BitVec.ofNat 8 (f.data.length / 64 + (if f.raw then 128 else 0))))

/-- The image of the frames of a descriptor, never past CAP. -/
def imageOf (d : PressDesc) (fs : List PressFrame) (len : Nat) : Bytes := (imageHead d fs len ++ fs.flatMap (·.data)).take d.cap

/-- Offset and length of each frame of an image, with its RAW bit, from its table. -/
def frameSpans (d : PressDesc) (table : Bytes) : List (Nat × Nat × Bool) :=
  ((List.range d.frames).foldl (fun (acc : List (Nat × Nat × Bool) × Nat) i =>
    let e := (table.getD i 0).toNat
    let n := 64 * (e % 128)
    ((acc.2, n, decide (128 ≤ e)) :: acc.1, acc.2 + n)) ([], 64 + tableBytes d)).1.reverse

/-- One frame of an UNPACK from its bytes; a frame whose bytes break the coding gives free bytes. -/
def decodeFrame (k : Nat) (d : PressDesc) (i : Nat) (raw : Bool) (b : Bytes) : PressFrame :=
  let free := { data := (List.range 4096).map (Config.pressPlain k i), raw := raw, nonfinite := 0 : PressFrame }
  if raw then (if b.length == 4096 then { data := b, raw := true, nonfinite := 0 } else free)
  else if d.mode == 0 then (match decodeLossless d.sfmt b with | some x => { data := x, raw := false, nonfinite := 0 } | none => free)
  else match decodeLossy d.mode d.sfmt b with
    | some x => { data := x.1, raw := false, nonfinite := x.2 }
    | none => free

/-- The header agrees with the descriptor and names a whole image (R228, R231). -/
def whole (d : PressDesc) (h : Bytes) : Bool := RemoteOps.headerAgrees d h && at' h 24 4 == d.frames

/-! ## Starting (R226, R228, R234, R235) -/

/-- The requester that a Press's records name (R234, R355). -/
def requester (n : Nat) (d : PressDesc) : Mem.Req := { unit := unitCode 7 n, ctx := d.ctx, op := opField 0 d.op }

/-- A run without frames. -/
def emptyRun (r : Nat) (d : PressDesc) (status : Nat) : PressRun :=
  { ring := r, desc := d, frames := [], status := status, imageBytes := 0, sends := [], gets := [], buf := [], stage := 1, ops := 0,
    failed := false, stop := none }

/-- The first of a list of ranges whose verified read fails. -/
def firstBad (s : State) (rs : List (Nat × Nat)) : Option (Nat × Nat × Nat) :=
  (rs.zipIdx.find? (fun r => !(Mem.look s r.1.1 r.1.2 true).ok)).map (fun r => (r.2, r.1.1, r.1.2))

/-- The writes of a run into a memory peer's image, in pieces that stay within a block: bytes from an image offset on. -/
def pieces (d : PressDesc) (off : Nat) (b : Bytes) : List (Nat × Bytes) :=
  (RemoteOps.cutRun (b.length / 512 + 2) (d.image + off, 0, b.length)).map (fun p => (off + p.2.1, (b.drop p.2.1).take p.2.2))

/-- A PACK reads its plain tensor frame by frame and codes it (R228, R230, R234): up to the frame that no longer fits in CAP, which ends
it first, or to the first frame that fails; the frames before that one are written. -/
def pack (s : State) (n r : Nat) (d : PressDesc) : State × PressRun :=
  let q := requester n d
  let f := firstBad s ((List.range d.frames).map (fun i => (d.plain + 4096 * i, 4096)))
  let count := match f with | some x => x.1 | none => d.frames
  let all := (List.range count).map (fun i => encodeFrame d (Mem.bytesAt s (d.plain + 4096 * i) 4096))
  let x := fit d.cap (64 + tableBytes d) all
  let full := decide (x.1.length < count)
  let s0 := Mem.drillReads s d.plain (4096 * min d.frames (x.1.length + 1)) q
  let s1 := match f with | some (_, a, l) => if full then s0 else Mem.reactRead s0 a l (Mem.look s0 a l true) q | none => s0
  let status := if full then 4 else if f.isSome then 16 else 1
  let puts := if d.tgt != 2 then [] else if status == 16 then pieces d (64 + tableBytes d) (x.1.flatMap (·.data)) else pieces d 0 (imageOf d x.1 x.2)
  (s1, { emptyRun r d status with frames := x.1, imageBytes := x.2, sends := puts })

/-- Decode an image whose bytes are at hand. -/
def unpackBytes (k : Nat) (u : PressRun) (img : Bytes) : PressRun :=
  let d := u.desc
  let h := img.take 64
  let len := at' h 16 8
  if !whole d h then { u with status := 8, imageBytes := len }
  else
    let fs := (frameSpans d ((img.drop 64).take (tableBytes d))).zipIdx.map (fun x =>
      decodeFrame k d x.2 x.1.2.2 ((img.drop x.1.1).take x.1.2.1))
    { u with status := 1, frames := fs, imageBytes := len }

/-- Decode an image in local DRAM, up to the first read that fails. -/
def unpackLocal (s : State) (n r : Nat) (d : PressDesc) : State × PressRun :=
  let q := requester n d
  let hb := 64 + tableBytes d
  let l := Mem.load s d.image hb true q
  let s0 := l.1
  let h := l.2
  let u := emptyRun r d 16
  if !h.ok then (s0, u)
  else if !whole d h.data then (s0, { u with status := 8, imageBytes := at' h.data 16 8 })
  else
    let spans := frameSpans d ((h.data.drop 64).take (tableBytes d))
    let f := firstBad s0 (spans.map (fun x => (d.image + x.1, x.2.1)))
    let s1 := match f with | some (_, a, l) => Mem.reactRead s0 a l (Mem.look s0 a l true) q | none => s0
    let count := match f with | some x => x.1 | none => d.frames
    let fs := (spans.take count).zipIdx.map (fun x => decodeFrame s.free d x.2 x.1.2.2 (Mem.bytesAt s (d.image + x.1.1) x.1.2.1))
    (drawn s1, { u with status := if f.isSome then 16 else 1, frames := fs, imageBytes := at' h.data 16 8 })

/-- An UNPACK starts: from local DRAM, from the bytes a host image gave, or by reading a peer's image. -/
def unpack (s : State) (n r : Nat) (d : PressDesc) (image : Option Bytes) : State × PressRun :=
  match d.tgt with
  | 0 => unpackLocal s n r d
  | 1 => match (if hostReady s then image else none) with
    | some b => (drawn s, unpackBytes s.free (emptyRun r d 1) b)
    | none => (s, { emptyRun r d 16 with failed := true })
  | _ =>
    let hb := 64 + tableBytes d
    (s, { emptyRun r d 1 with stage := 0, gets := (RemoteOps.cutRun (hb / 512 + 2) (d.image, 0, hb)).map (fun p => (p.2.1, p.2.2)) })

/-- A descriptor of operation `op` starts on ring r, when that ring is the one the Press starts next and fewer than four run. `hits` are
what the codes report as it reads. -/
def start (s0 : State) (n r op : Nat) (image : Option Bytes) (hits : List CodeHit) : State :=
  let x := press s0 n
  if fenced s0 || decide (4 ≤ x.runs.length) || chosen x != some r || (headDesc x r).op != op then s0
  else
    let d := headDesc x r
    let s := Mem.inject s0 hits (requester n d)
    let b := if dead s d.ctx then (s, emptyRun r d 32)
      else if bad d then (s, emptyRun r d 2)
      else if op == 1 then pack s n r d
      else unpack s n r d image
    let y := press b.1 n
    RemoteOps.pressPump 64 (setPress b.1 n { y with runs := y.runs ++ [b.2], lastRing := r }) n r

/-! ## The end of a descriptor (R233, R234) -/

/-- The 32 bytes of a report. -/
def report (u : PressRun) (status : Nat) (fs : List PressFrame) : Bytes :=
  le 4 u.desc.seq ++ le 1 status ++ le 1 u.ring ++ zeros 2 ++ le 4 fs.length ++ le 4 (fs.filter (·.raw)).length ++ le 8 u.imageBytes ++
    le 4 ((fs.map (·.nonfinite)).foldl (· + ·) 0) ++ zeros 4

/-- The writes of a finished run: plain frames, or an image; a stopped PACK leaves its frames without a header. -/
def writes (u : PressRun) (status : Nat) (fs : List PressFrame) : List (Nat × Bytes) :=
  let d := u.desc
  if d.op == 2 then [(d.plain, fs.flatMap (·.data))]
  else if status == 1 || status == 4 then [(d.image, imageOf d fs u.imageBytes)]
  else [(d.image + 64 + tableBytes d, fs.flatMap (·.data))]

/-- Put the writes of a run where its target lies; the host takes them while its link takes memory requests (R235, R236, R449). -/
def deliver (s : State) (n : Nat) (u : PressRun) (ws : List (Nat × Bytes)) (ok : Bool) : State :=
  let d := u.desc
  let full := ws.filter (fun w => !w.2.isEmpty)
  if d.op == 2 || d.tgt == 0 then full.foldl (fun acc w => (Mem.store acc w.1 w.2 (d.op == 1) (requester n d)).1) s
  else if d.tgt == 1 && hostReady s && ok then full.foldl (fun acc w => emit acc (.hostWrite w.1 w.2 [])) s
  else s

/-- A finished descriptor: its bytes, its report, its flag action, and the next number of its ring. -/
def finishRun (s : State) (n : Nat) (u : PressRun) (status : Nat) (ok : Bool := true) : State :=
  let d := u.desc
  let fs := match u.stop with | some v => u.frames.take (v % (u.frames.length + 1)) | none => u.frames
  let s1 := if status == 2 then s else deliver s n u (writes u status fs) ok
  let s2 := if status == 16 then setFail s1 d.ctx 7 else s1
  let s3 := Mem.store' s2 d.report (report u status fs) (requester n d)
  let s4 := if status == 32 then s3
    else FlagOps.arrive s3 d.fcore d.flag (if d.fact == 3 then 0 else d.fact)
      { module := moduleId s3, core := n, ctx := d.ctx, src := FlagOps.srcKind 3 }
  let x := press s4 n
  setPress s4 n { x with runs := x.runs.filter (fun v => v.ring != u.ring), next := SMap.ins x.next u.ring ((nextOf x u.ring + 1) % 4294967296) }

/-- The run has nothing left to send or to receive. -/
def quiet (u : PressRun) : Bool := u.ops == 0 && (u.failed || u.stop.isSome || (u.sends.isEmpty && u.gets.isEmpty && u.stage == 1))

/-- STATUS of a run that ends: stopped, failed outside the module, or as it ran. -/
def finalStatus (s : State) (u : PressRun) (ok : Bool) : Nat :=
  if u.stop.isSome then 32
  else if u.failed || (u.desc.tgt == 1 && (!ok || !hostReady s) && (u.status == 1 || u.status == 4 || u.status == 8)) then 16
  else u.status

/-- PRESS_DESCRIPTOR_FINISH: a run of ring r ends; `ok` says whether its host accesses succeeded. A ready descriptor with a
reserved OP has no start of its own: it is BAD and finishes here. -/
def finish (s : State) (n r : Nat) (ok : Bool) : State :=
  match RemoteOps.runOf s n r with
  | some u =>
    if quiet u && Order.turn 2 s then
      let fetched := u.desc.op == 2 && u.desc.tgt == 2 && u.status == 1 && !u.failed
      let len := u.buf.foldl (fun acc p => max acc (p.1 + 1)) 0
      let v := if fetched then unpackBytes s.free u ((List.range len).map (fun i => SMap.val 0#8 u.buf i)) else u
      finishRun (if fetched then drawn s else s) n v (finalStatus s v ok) ok
    else s
  | none =>
    let x := press s n
    let d := headDesc x r
    if Order.turn 2 s && chosen x == some r && decide (x.runs.length < 4) && !fenced s && !(d.op == 1 || d.op == 2) then
      finishRun (setPress s n { x with lastRing := r }) n (emptyRun r d 2) (if dead s d.ctx then 32 else 2)
    else s

/-- An abort stops the running descriptors of a context at the end of a frame (R234). -/
def abort (s : State) (c : Nat) : State :=
  { drawn s with presses := SMap.mapVals (fun _ x => { x with runs := x.runs.map (fun u =>
      if u.desc.ctx == c then { u with stop := some (Config.stopPoint s.free), sends := [], gets := [] } else u) }) s.presses }

/-! ## Meanings -/

/-- PRESS_SLOT_WRITE (R225). -/
def execPressSlotWrite (addr : Nat) (data : Bytes) (s : State) : Host.Outcome State Fault Refusal :=
  .next (match Mem.locate addr with
    | .press d o => let r := slotWrite s d o data; emit r.1 (.answer r.2 [])
    | _ => s)

/-- PACK (R228). -/
def execPack (d r : Nat) (hits : List CodeHit) (s : State) : Host.Outcome State Fault Refusal := .next (start s d r 1 none hits)

/-- UNPACK (R228). -/
def execUnpack (d r : Nat) (image : Option Bytes) (hits : List CodeHit) (s : State) : Host.Outcome State Fault Refusal :=
  .next (start s d r 2 image hits)

/-- PRESS_DESCRIPTOR_FINISH (R233). -/
def execPressDescriptorFinish (d r : Nat) (ok : Bool) (s : State) : Host.Outcome State Fault Refusal := .next (finish s d r ok)

end Sys2Proof.Machine.PressOps
end

