-- ==== Sys2Proof/Machine/Slots.lean ====
section
/-! DEFINITION. Context slots (R171 to R178): eligibility, entering and leaving a slot, the save area, ending, and the
application of a vote result to a core's streams. -/

namespace Sys2Proof.Machine.Slots

open Bits Ops Report Issue

/-! ## Eligibility (R172, R174) -/

/-- The accumulator ranges of two contexts intersect. -/
def accMeet (x y : Ctx) : Bool :=
  decide (x.fields.accBase < y.fields.accBase + y.fields.accCount ∧ y.fields.accBase < x.fields.accBase + x.fields.accCount)

/-- The contexts that hold a slot of a core. -/
def holders (s : State) (q : Nat) : List (Nat × Ctx) :=
  s.ctxs.filter (fun p => usesCore p.2 q && (onCore p.2 q).slot.isSome)

/-- The contexts that wait on a core. -/
def waiters (s : State) (q : Nat) : List (Nat × Ctx) :=
  s.ctxs.filter (fun p => usesCore p.2 q && (onCore p.2 q).state == .waiting && !p.2.deleting.isSome)

/-- Every holder of a slot whose accumulator range meets that of a waiting context may leave: it is not pinned and not
FAULTED (R172, R175). -/
def clearable (s : State) (q : Nat) (x : Ctx) : Bool :=
  (holders s q).all (fun h => !accMeet h.2 x || (!h.2.pinned && (onCore h.2 q).state != .faulted))

/-- The waiting context for which the next expiry switches intersecting contexts out: passed over for four quanta, and some holder of a
slot still meets its range (R174). -/
def starved (s : State) (q : Nat) : Option (Nat × Ctx) :=
  (waiters s q).find? (fun w => decide (4 ≤ (onCore w.2 q).passedOver) && clearable s q w.2 && (holders s q).any (fun h => accMeet h.2 w.2))

/-- The waiting context for which an expiry has begun to switch intersecting contexts out (R174). -/
def clearing (s : State) (q : Nat) : Option (Nat × Ctx) :=
  (waiters s q).find? (fun w => (onCore w.2 q).clearing && clearable s q w.2)

/-- A waiting context may enter the slot that `out` leaves (none: a free slot): its accumulator range meets that of no other
holder (R172), nor that of another context for which slots are being cleared (R174). -/
def eligible (s : State) (q : Nat) (out : Option Nat) (x : Ctx) : Bool :=
  (holders s q).all (fun h => some h.1 == out || !accMeet h.2 x) &&
  (match clearing s q with | some w => w.2.order == x.order || !accMeet w.2 x | none => true)

/-- The eligible waiting context that has waited longest; ties go to the lower identifier at a switch (R174), to the earlier
definition at a free slot (R172). -/
def longestWait (s : State) (q : Nat) (out : Option Nat) : Option Nat :=
  ((waiters s q).filter (fun w => eligible s q out w.2)).foldl (fun (best : Option (Nat × Nat × Nat)) w =>
    let t := (onCore w.2 q).waitingSince
    match best with
    | none => some (w.1, t, w.2.order)
    | some b => if t < b.2.1 || (t == b.2.1 && out.isNone && w.2.order < b.2.2) then some (w.1, t, w.2.order) else best) none |>.map (·.1)

/-- The context that enters a slot: the one the slots were cleared for, as soon as it may (R174), else the longest wait. -/
def incoming (s : State) (q : Nat) (out : Option Nat) : Option Nat :=
  match clearing s q with
  | some w => if eligible s q out w.2 then some w.1 else longestWait s q out
  | none => longestWait s q out

/-- The partner core of a redundant pair holds the pair's context in the same slot (R362). -/
def mirrored (s : State) (q sl : Nat) : Bool :=
  q % 2 == 1 && s.ctxs.any (fun p => p.2.redundant && usesCore p.2 (q - 1) && (onCore p.2 (q - 1)).slot == some sl)

/-- A slot of a core that no context holds, the lowest. -/
def freeSlot (s : State) (q : Nat) : Option Nat :=
  (List.range 4).find? (fun sl => (holders s q).all (fun h => (onCore h.2 q).slot != some sl) && !mirrored s q sl)

/-- A context may be made due: it is RESIDENT, not pinned (R175), and not being deleted, for then nothing is saved (R178). -/
def leaves (x : Ctx) (q : Nat) : Bool := (onCore x q).state == .resident && !x.pinned && x.deleting.isNone

/-- A context is due when a waiting context may take its slot and it may leave (R173, R175). -/
def mayLeave (s : State) (c q : Nat) : Bool :=
  match ctx? s c with
  | some x => leaves x q && (incoming s q (some c)).isSome
  | none => false

/-- The slots that hold a waiting context back are being cleared, and this one is among them (R174). -/
def cleared (s : State) (q : Nat) (x : Ctx) : Bool :=
  match clearing s q with
  | some w => accMeet x w.2
  | none => false

/-- A context is due, its operations have completed, and a context takes its slot: its switch begins once the pass in progress in the array
has completed, and no further pass feeds before it (R56, R173, R176). A swap in progress goes first (R178). -/
def switchReady (s : State) (q : Nat) : Bool :=
  !FlagOps.paused s q && (holders s q).any (fun h => let k := onCore h.2 q
    k.state == .resident && k.due && idle k && h.2.deleting.isNone && ((incoming s q (some h.1)).isSome || cleared s q h.2))

/-- The streams of a context on a core stop issuing at their next instruction boundary (R173). -/
def makeDue (s : State) (c q : Nat) : State := modCore s c q (fun k => { k with due := true })

/-! ## The save area (R176) -/

/-- Address of a context's part of the save area for a core. -/
def saveAddr (x : Ctx) (q : Nat) : Nat := x.fields.saveBase + q * (4096 + 512 * x.fields.accCount)

/-- The accumulator entries of a context as bytes: 128 lanes of 4 bytes for each entry. -/
def accBytes (a : ArrayCore) (x : Ctx) : Bytes :=
  (List.range x.fields.accCount).flatMap (fun e => (List.range 128).flatMap (fun l =>
    le 4 (SMap.val 0#32 a.acc (1024 * l + x.fields.accBase + e)).toNat))

/-- The key of an accumulator map belongs to a context's entries. -/
def ownsEntry (x : Ctx) (k : Nat) : Bool :=
  decide (x.fields.accBase ≤ k % 1024 ∧ k % 1024 < x.fields.accBase + x.fields.accCount)

/-- The part of a map that lies in a context's entries, and the rest. -/
def mine {α : Type} (x : Ctx) (m : SMap α) : SMap α := m.filter (fun p => ownsEntry x p.1)
def others {α : Type} (x : Ctx) (m : SMap α) : SMap α := m.filter (fun p => !ownsEntry x p.1)

/-- Put a context's part back into a map. -/
def merge {α : Type} (m extra : SMap α) : SMap α := extra.foldl (fun acc p => SMap.ins acc p.1 p.2) m

/-- Bytes as they are written from an address. -/
def written (a : Nat) (l : Bytes) : SMap Byte := l.zipIdx.map (fun b => (a + b.2, b.1))

/-- The switch as a redundant pair's comparator names it (R363). -/
def site (q c : Nat) : Pairs.Site := { unit := unitCode 2 q, q := q, ctx := c, stream := 0, op := 0, pc := 0 }

/-- The accumulator entries of a redundant context are the same in both cores of its pair, which hold it in the same slot (R362). -/
def mirror (s : State) (x : Ctx) (q : Nat) : State :=
  if x.redundant then
    let a : ArrayCore := SMap.val {} s.arrays q
    let b : ArrayCore := SMap.val {} s.arrays (q + 1)
    { s with arrays := SMap.ins s.arrays (q + 1) { b with
        acc := merge (others x b.acc) (mine x a.acc), accSat := merge (others x b.accSat) (mine x a.accSat),
        accBad := merge (others x b.accBad) (mine x a.accBad), tileSat := merge (others x b.tileSat) (mine x a.tileSat),
        tileLoss := merge (others x b.tileLoss) (mine x a.tileLoss) } }
  else s

/-- Save a context that leaves its slot (R176): a redundant pair's comparator takes the entries from both cores (R363). -/
def save (s : State) (c q : Nat) (pair : Option PairFault) : State :=
  match ctx? s c with
  | none => s
  | some x =>
    let a : ArrayCore := SMap.val {} s.arrays q
    let b : ArrayCore := SMap.val {} s.arrays (q + 1)
    let r : Mem.Req := { unit := unitCode 2 q, ctx := c }
    let s1 := Mem.store' (drawn s) (saveAddr x q) ((List.range 4096).map (Config.saveByte s.free)) r
    let w := written (saveAddr x q + 4096) (accBytes a x)
    let y := if x.redundant then Pairs.output s1 (site q c) w (written (saveAddr x q + 4096) (accBytes b x)) pair else (s1, w)
    modCore (Mem.storeMap y.1 y.2 r) c q (fun k =>
      { k with saved := true, savedSat := mine x a.accSat, savedBad := mine x a.accBad, savedTileSat := mine x a.tileSat,
               savedTileLoss := mine x a.tileLoss })

/-- Restore a context that enters a slot, when it has been saved (R176). -/
def restoreOwn (s : State) (c q : Nat) : State :=
  match ctx? s c with
  | none => s
  | some x =>
    let k := onCore x q
    if k.saved then
      let n := 512 * x.fields.accCount
      let r := Mem.load s (saveAddr x q + 4096) n false { unit := unitCode 2 q, ctx := c }
      let a := SMap.val {} r.1.arrays q
      let put := fun (m : SMap W32) (i : Nat) =>
        SMap.put 0#32 m (1024 * (i % 128) + x.fields.accBase + i / 128) (BitVec.ofNat 32 (at' r.2.data (4 * i) 4))
      { r.1 with arrays := SMap.ins r.1.arrays q { a with
          acc := (List.range (128 * x.fields.accCount)).foldl put (others x a.acc),
          accSat := merge (others x a.accSat) k.savedSat, accBad := merge (others x a.accBad) k.savedBad,
          tileSat := merge (others x a.tileSat) k.savedTileSat, tileLoss := merge (others x a.tileLoss) k.savedTileLoss } }
    else s

/-- Restore a context that enters a slot, in both cores of a redundant pair (R176, R362). -/
def restore (s : State) (c q : Nat) : State :=
  match ctx? s c with
  | some x => mirror (restoreOwn s c q) x q
  | none => s

/-! ## Vote results on a core (R171) -/

/-- A commit on a core. -/
def commitCore (k : CoreCtx) : CoreCtx :=
  let k1 := mapStreams k (fun t => match t.run with
    | .atStepEnd => { t with run := .running, stepOpen := t.pc, endedNow := false }
    | _ => { t with endedNow := false })
  { k1 with copies := k1.counters }

/-- A replay on a core. -/
def replayCore (k : CoreCtx) : CoreCtx :=
  let k1 := mapStreams k (fun t => match t.run with
    | .ended => if t.endedNow then { t with run := .running, pc := t.stepOpen, status := 0, endedNow := false }
                else { t with status := 0 }
    | _ => { t with run := .running, pc := t.stepOpen, status := 0, wait := none, endedNow := false })
  { k1 with counters := k1.copies }

/-- A stop on a core: its streams stop, and it is ENDED unless it had faulted there (R171, R172). -/
def stopCore (k : CoreCtx) : CoreCtx :=
  let k1 := { stopStreams k with held := [] }
  if k.state == .faulted then k1 else { k1 with state := .ended, slot := none, due := false }

/-- Every stream of a context on a core has ended. -/
def streamsEnded (k : CoreCtx) : Bool := k.streams.all (fun t => !t.2.present || t.2.run == .ended)

/-- A result applied to a core: 1 commit, 2 replay, 3 stop. A core whose streams have all ended is ENDED at a commit. -/
def resultCore (r : Nat) (k : CoreCtx) : CoreCtx :=
  if k.state == .faulted || k.state == .ended then (if r == 3 then stopCore k else k)
  else if r == 1 then
    let k1 := commitCore k
    if streamsEnded k1 then { k1 with state := .ended, slot := none, due := false } else k1
  else if r == 2 then replayCore k
  else stopCore k

/-- A result reaches a core of a context: at once where it is RESIDENT or due, on re-entry otherwise, after those that already
wait there (R178). -/
def giveResult (r : Nat) (k : CoreCtx) : CoreCtx :=
  match k.state with
  | .resident => resultCore r k
  | .faulted => resultCore r k
  | .ended => k
  | _ => { k with held := k.held ++ [r] }

/-- The results that waited for a core's re-entry are applied in their order (R178). -/
def applyHeld (k : CoreCtx) : CoreCtx := k.held.foldl (fun acc r => resultCore r acc) { k with held := [] }

/-! ## Ending (R172) -/

/-- The context is ENDED on every core of CORES, and never faulted there. -/
def endedEverywhere (x : Ctx) : Bool := (coresOf x).all (fun q => (onCore x q).state == .ended)

/-- Post the context-ended entry once the context is ENDED on every core (R172). -/
def endCheck (s : State) (c : Nat) : State :=
  match ctx? s c with
  | none => s
  | some x =>
    if endedEverywhere x && !x.endPosted then
      postCtx (modCtx s c (fun y => { y with endPosted := true })) c { kind := Status.kEnded }
    else s

/-- Without a step protocol a core whose streams have all ended, or on which none is present, is ENDED (R172). -/
def endIfDone (x : Ctx) (k : CoreCtx) : CoreCtx :=
  if !stepped x && streamsEnded k && k.state == .resident then { k with state := .ended, slot := none, due := false } else k

/-! ## Entering slots -/

/-- A core of a context as it takes its slot: its quantum begins, and its waits count again (R173, R177). -/
def enterCore (s : State) (slot : Nat) (k : CoreCtx) : CoreCtx :=
  { k with state := .resident, slot := some slot, enteredAt := now s, quantumAt := now s, passedOver := 0, due := false, yielded := none,
           clearing := false, expired := false, saved := false, quantum := s.quantum,
           streams := SMap.mapVals (fun _ (t : StreamState) => { t with wait := t.wait.map (fun (w : WaitState) => { w with since := now s }) }) k.streams }

/-- A context becomes RESIDENT in a slot; results that waited are applied before it issues (R178), and it ends where that, or the
absence of any stream, ends it (R172). -/
def becomeResident (s : State) (c q slot : Nat) : State :=
  match ctx? s c with
  | none => s
  | some x => endCheck (modCore (restore s c q) c q (fun k => endIfDone x (applyHeld (enterCore s slot k)))) c

/-- A context takes a slot: at once when it has nothing to restore, after a switch otherwise (R172, R176). -/
def takeSlot (s : State) (c q slot : Nat) : State :=
  match ctx? s c with
  | none => s
  | some x =>
    if (onCore x q).saved then modCore s c q (fun k => { k with state := .entering, slot := some slot })
    else becomeResident s c q slot

/-- Waiting contexts enter the free slots of a core, longest wait first (R172); fuel bounds their number. -/
def fillSlots : Nat → State → Nat → State
  | 0, s, _ => s
  | n + 1, s, q =>
    match freeSlot s q, incoming s q none with
    | some sl, some c => fillSlots n (takeSlot s c q sl) q
    | _, _ => s

/-- Fill the free slots of a core with as many of the contexts that wait as may enter. -/
def fill (s : State) (q : Nat) : State := fillSlots (waiters s q).length s q

/-- After a change that may have freed slots: fill them and report the end. -/
def settle (s : State) (c : Nat) (cores : List Nat) : State := endCheck (cores.foldl fill s) c

/-- Change every core of a context, then fill the slots that became free. -/
def onCores (s : State) (c : Nat) (f : CoreCtx → CoreCtx) : State :=
  match ctx? s c with
  | none => s
  | some x => settle (modCtx s c (fun y => { y with cores := SMap.mapVals (fun _ k => f k) y.cores })) c (coresOf x)

/-- A vote result reaches every core of a context (R171, R178). -/
def applyResult (s : State) (c r : Nat) : State := onCores s c (giveResult r)

/-- The firing of a STOP or RECLAIM entry ends a context wherever it stands (R172). -/
def stopAll (s : State) (c : Nat) : State := onCores s c stopCore

/-- A stream has ended: in a context without a step protocol the core is ENDED once every stream has (R172). -/
def streamEnd (s : State) (c q : Nat) : State :=
  match ctx? s c with
  | none => s
  | some x =>
    if !stepped x && streamsEnded (onCore x q) then
      settle (modCore s c q (fun k => { k with state := .ended, slot := none, due := false })) c [q]
    else s

end Sys2Proof.Machine.Slots
end

