-- ==== Sys2Proof/Machine/Roles.lean ====
section
/-! DEFINITION. The role map of a cluster, its spare, and the swaps that are pending (R82 to R85, R365, R366). -/

namespace Sys2Proof.Machine.Swaps

open Bits Ops Report

/-- The role map of a cluster (R515). -/
def role (s : State) (n : Nat) : Role := SMap.val {} s.dex.roles n
def setRole (s : State) (n : Nat) (r : Role) : State := modDex s (fun d => { d with roles := SMap.ins d.roles n r })

/-- Age of a physical core in ns (R365). -/
def age (s : State) (k : Nat) : Nat := s.dex.powered - SMap.val s.weevil.since s.weevil.passedAt k

def hour : Nat := 3600000000000

/-- The cluster has a spare that passed its most recent known-answer test (R85). -/
def usableSpare (s : State) (n : Nat) : Bool :=
  let r := role s n
  decide (r.spare < 9) && !SMap.val false s.weevil.testing (9 * n + r.spare) && !bit r.failed r.spare

/-- The cluster's spare is under its known-answer test (R87, R366). -/
def spareTested (s : State) (n : Nat) : Bool :=
  let r := role s n
  decide (r.spare < 9) && SMap.val false s.weevil.testing (9 * n + r.spare)

/-- A context that holds the core has its bit set in ERR_WEEVIL_HOLD (R366, R519). -/
def holdsOff (s : State) (q : Nat) : Bool :=
  s.ctxs.any (fun p => usesCore p.2 q && s.err.weevilHold.getLsbD p.1)

/-- The rotation of an active physical core is deferred by a hold, which has no effect from an age of 5 hours (R366). -/
def deferred (s : State) (k : Nat) : Bool :=
  match logicalOf s k with
  | some q => holdsOff s q && decide (age s k < 5 * hour)
  | none => false

/-- A swap is pending for a logical core: it is due, and the cluster has a spare for it (R73, R85, R366). -/
def pendingSwap (s : State) (q : Nat) : Bool :=
  usableSpare s (q / 8) && (SMap.val false s.weevil.dueReplace q ||
    (SMap.val false s.weevil.due (physOf s q) && !deferred s (physOf s q)))

end Sys2Proof.Machine.Swaps
end

