-- ==== Sys2Proof/Machine/Cicada.lean ====
section
/-! DEFINITION. The gap cycles of an array and its dummy-cycle counter (R73, R505): both are counted as time passes. -/

namespace Sys2Proof.Machine.Cicada

open Ops

def physAt (s : State) (k : Nat) : ArrayPhys := SMap.val {} s.phys k
def setPhys (s : State) (k : Nat) (a : ArrayPhys) : State := { s with phys := SMap.ins s.phys k a }

/-- A counter of a physical core (R505) raised: 48 bits, stopping at the limit. -/
def raised (a : ArrayPhys) (j n : Nat) : ArrayPhys :=
  { a with counters := SMap.ins a.counters j (min (2 ^ 48 - 1) (SMap.val 0 a.counters j + n)) }

/-- Add to a counter of a physical core. -/
def bump (s : State) (k j n : Nat) : State := setPhys s k (raised (physAt s k) j n)

/-- The passes an array holds: those of its core, and in the partner of a redundant pair those that it runs with the pair's core (R362). -/
def passesOf (s : State) (q : Nat) : List PassOp :=
  (SMap.val {} s.arrays q : ArrayCore).passes ++
  (if q % 2 == 1 then (SMap.val {} s.arrays (q - 1) : ArrayCore).passes.filter (fun p => Pairs.redundant s p.ctx) else [])

/-- A context switch is in progress on a core: the passes of its other contexts wait for the array (R176). -/
def switching (s : State) (q : Nat) : Bool :=
  s.ctxs.any (fun c => (onCore c.2 q).state == .leaving || (onCore c.2 q).state == .entering)

/-- A context of a core is due to leave it (R173); one that is deleted leaves no slot by a switch (R178). -/
def switchDue (s : State) (q : Nat) : Bool :=
  s.ctxs.any (fun c => let x := onCore c.2 q; x.due && x.slot.isSome && c.2.deleting.isNone)

/-- The physical core is the spare of a swap in progress (R86). -/
def underSwap (s : State) (k : Nat) : Bool :=
  match SMap.look s.weevil.swaps (k / 9) with | some w => w.spare == k % 9 | none => false

/-- A gap cycle (R73): no pass is held, no weights are loading, and no context switch or swap is in progress or pending for the core. -/
def inGap (s : State) (k : Nat) : Bool :=
  match logicalOf s k with
  | none => !underSwap s k
  | some q => (passesOf s q).isEmpty && !FlagOps.swapping s q && !Swaps.pendingSwap s q && !switching s q && !switchDue s q

/-- The array's cells make dummy products (R73): in a gap cycle, in a cycle of a context switch, and while a pass waits for the ramp up. -/
def dummies (s : State) (k : Nat) : Bool :=
  inGap s k || (match logicalOf s k with
    | none => false
    | some q => switching s q || (!(passesOf s q).isEmpty && decide ((physAt s k).level < 64)))

/-- Cycles pass: those that are gap cycles in a row are counted up to the 2,048 of R73, and dummy cycles in their counter (R505). -/
def passed (s : State) (k n : Nat) (a : ArrayPhys) : ArrayPhys :=
  raised { a with gapRun := if inGap s k then min 2048 (a.gapRun + n) else 0 } 5 (if dummies s k then n else 0)

/-- Cycles pass on every array. -/
def tick (s : State) (n : Nat) : State :=
  { s with phys := (List.range 72).foldl (fun m k => SMap.ins m k (passed s k n (physAt s k))) s.phys }

end Sys2Proof.Machine.Cicada
end

