-- ==== Sys2Proof/Machine/Swaps.lean ====
section
/-! DEFINITION. Spare-core swaps (R82 to R88, R364 to R366): which core of a cluster is due, when a swap may begin, and what
its completion changes. -/

namespace Sys2Proof.Machine.Swaps

open Bits Ops Report

/-- Class 0x10 errors of a logical core's array in the window of R84. -/
def errorsOf (s : State) (q : Nat) : Nat :=
  ((SMap.val {} s.phys (physOf s q)).err10.filter (fun e => decide (now s < e.1 + s.weevil.window * 60000000000))).length

/-- The logical core of a cluster to be replaced next: most errors first, ties to the lower index (R87). -/
def dueReplacement (s : State) (n : Nat) : Option Nat :=
  ((List.range 8).filter (fun j => SMap.val false s.weevil.dueReplace (8 * n + j))).foldl (fun (best : Option Nat) j =>
    match best with
    | none => some j
    | some b => if errorsOf s (8 * n + b) < errorsOf s (8 * n + j) then some j else best) none

/-- The logical core of a cluster to be rotated next: the oldest due one that is not held (R366). -/
def dueRotation (s : State) (n : Nat) : Option Nat :=
  ((List.range 8).filter (fun j => let k := physOf s (8 * n + j)
      SMap.val false s.weevil.due k && !deferred s k)).foldl (fun (best : Option Nat) j =>
    match best with
    | none => some j
    | some b => if age s (physOf s (8 * n + b)) < age s (physOf s (8 * n + j)) then some j else best) none

/-- The core with no spare to move to is reported once (R87). The class 0x10 error that made it due has its weight already; the report adds
only the standing one (R373). -/
def unreplaceable (s : State) (q : Nat) : State :=
  if s.dex.unreplaceable.contains (physOf s q) then s
  else
    let s1 := modDex s (fun d => { d with unreplaceable := d.unreplaceable ++ [physOf s q] })
    record s1 (fill s1 { cls := 0x10, unit := unitCode 0 q, detail := detail [(40, le 1 (physOf s q))] } 0 false)

/-- A swap of logical core 8 n + j begins (R85, R86): the spare's Cicada starts its ramp from level 0, and a replacement is recorded by the
Dexhorn controller (R88). -/
def begin' (s : State) (n j : Nat) (rotation : Bool) : State :=
  let q := 8 * n + j
  if Cicada.switching s q then modWeevil s (fun w => { w with afterSwitch := SMap.ins w.afterSwitch q true })
  else
    let r := role s n
    let k := 9 * n + r.spare
    let s1 := modWeevil s (fun w => { w with
      swaps := SMap.ins w.swaps n { logical := j, spare := r.spare, startedAt := now s, rotation := rotation },
      afterSwitch := SMap.del w.afterSwitch q,
      dueReplace := if rotation then w.dueReplace else SMap.del w.dueReplace q })
    let s2 := if rotation then s1 else modDex s1 (fun d => { d with decided := d.decided ++ [q] })
    Cicada.setPhys s2 k { Cicada.physAt s k with level := 0, ramp := 1, rampAt := cycle s }

/-- The logical cores of a cluster that are due for replacement. -/
def allDue (s : State) (n : Nat) : List Nat := (List.range 8).filter (fun j => SMap.val false s.weevil.dueReplace (8 * n + j))

/-- Begin a swap in the window of the governor's array share; outside it the swap waits for the window, like any pass (R502). -/
def inWindow (s : State) (n : Nat) (swap : State → State) : State :=
  if Issue.windowOpen s (Issue.arrayShare (Issue.level s)) then swap s
  else modWeevil s (fun w => { w with afterWindow := SMap.ins w.afterWindow n true })

/-- Begin what is due in a cluster at a boundary: a replacement before a rotation; without a spare that could take it, every core that
is due is reported (R85, R87). -/
def startDue (s0 : State) (n : Nat) : State :=
  let s := modWeevil s0 (fun w => { w with afterWindow := SMap.del w.afterWindow n })
  if (SMap.look s.weevil.swaps n).isSome then s
  else match dueReplacement s n with
    | some j =>
      if usableSpare s n then inWindow s n (fun t => begin' t n j false)
      else if spareTested s n then s
      else (allDue s n).foldl (fun acc j => unreplaceable acc (8 * n + j)) s
    | none => match dueRotation s n with
      | some j => if usableSpare s n then inWindow s n (fun t => begin' t n j true) else s
      | none => s

/-- The swaps that waited for the window of the governor's share begin as it opens (R502). -/
def atWindow (s : State) : State :=
  if Issue.windowOpen s (Issue.arrayShare (Issue.level s)) then (s.weevil.afterWindow.map (·.1)).foldl startDue s else s

/-- A step boundary of some context: every cluster starts what is due (R85). -/
def atBoundary (s : State) : State := (List.range 8).foldl startDue s

/-- No context of the module has a step protocol, and a swap of the core is due when its pass ends (R85, R366). -/
def dueAtPass (s : State) (q : Nat) : Bool :=
  !s.ctxs.any (fun p => stepped p.2) &&
  (dueReplacement s (q / 8) == some (q % 8) || ((dueReplacement s (q / 8)).isNone && dueRotation s (q / 8) == some (q % 8)))

/-- The end of a pass at which a swap was due (R85): the pass after the one that made it so. -/
def atPass (s : State) (q : Nat) (due : Bool) : State := if due then startDue s (q / 8) else s

/-- Class 0x10 errors of a physical core count toward the replacement of its logical core (R84): the context, the tile index and the
step of each are kept. -/
def countError (s : State) (q c tile : Nat) : State :=
  let k := physOf s q
  let a := Cicada.physAt s k
  let st := match ctx? s c with | some x => x.step | none => {}
  let here := (now s, c, tile, st.step)
  let recent := a.err10.filter (fun e => decide (now s < e.1 + s.weevil.window * 60000000000))
  let again := st.fail.getLsbD 25 &&
    a.err10.any (fun e => e.2.1 == c && e.2.2.1 == tile && e.2.2.2 == st.step && decide (e.1 < st.openedAt))
  let s1 := Cicada.setPhys s k { a with err10 := here :: a.err10 }
  if s.weevil.count ≤ recent.length + 1 || again then
    modWeevil s1 (fun w => { w with dueReplace := SMap.ins w.dueReplace q true })
  else s1

/-- A switch of a core has completed: a swap that waited for it begins (R178). -/
def atSwitchEnd (s : State) (q : Nat) : State :=
  if SMap.val false s.weevil.afterSwitch q then startDue s (q / 8) else s

/-- The role map of a cluster after its swap (R82, R86, R88): a replaced core is marked failed and never returns. -/
def swapped (r : Role) (w : Swap) : Role :=
  let old := r.map.getD w.logical 0
  { map := r.map.set w.logical w.spare, spare := if w.rotation then old else 15,
    failed := if w.rotation then r.failed else r.failed ||| 2 ^ old }

/-- The core's array is idle: the pass in progress and the next one have completed (R86). -/
def drained (s : State) (q : Nat) : Bool := (Cicada.passesOf s q).isEmpty

/-- An array stands at level 0: a spare core is idle (R73). -/
def rest (s : State) (k : Nat) : State := Cicada.setPhys s k { Cicada.physAt s k with level := 0, ramp := 0 }

end Sys2Proof.Machine.Swaps
end

