-- ==== Sys2Proof/Machine/Func.lean ====
section
/-! DEFINITION. The elementary functions of the vector engine (R112, R133, R536), correctly rounded: each is enclosed in an
interval of exact numbers computed to a growing precision, until both ends round to the same FP32 value. -/

namespace Sys2Proof.Machine.Func

open Numeric

/-- An interval [lo · 2^e, hi · 2^e]. -/
structure Iv where
  lo : Int
  hi : Int
  e : Int
deriving DecidableEq, Repr

/-- floor (x / 2^k). -/
def floorShift (x : Int) (k : Nat) : Int := x / 2 ^ k

/-- ceil (x / 2^k). -/
def ceilShift (x : Int) (k : Nat) : Int := -((-x) / 2 ^ k)

/-- Drop low bits, outward, so that about p bits stay. -/
def norm (p : Nat) (x : Iv) : Iv :=
  let big := max x.lo.natAbs x.hi.natAbs
  let l := big.log2
  if l < p then x
  else let k := l - p; ⟨floorShift x.lo k, ceilShift x.hi k, x.e + k⟩

def point (k e : Int) : Iv := ⟨k, k, e⟩

/-- Both ends of an interval at a lower or equal exponent. -/
def Iv.down (x : Iv) (e : Int) : Int × Int := let s := (x.e - e).toNat; (x.lo * 2 ^ s, x.hi * 2 ^ s)

def addI (p : Nat) (x y : Iv) : Iv :=
  let e := min x.e y.e
  let a := x.down e
  let b := y.down e
  norm p ⟨a.1 + b.1, a.2 + b.2, e⟩

def negI (x : Iv) : Iv := ⟨-x.hi, -x.lo, x.e⟩

def mulI (p : Nat) (x y : Iv) : Iv :=
  let a := x.lo * y.lo
  let b := x.lo * y.hi
  let c := x.hi * y.lo
  let d := x.hi * y.hi
  norm p ⟨min (min a b) (min c d), max (max a b) (max c d), x.e + y.e⟩

/-- x / n for a positive integer n. -/
def divN (p : Nat) (x : Iv) (n : Nat) : Iv :=
  norm p ⟨(x.lo * 2 ^ p) / (n : Int), -((-(x.hi * 2 ^ p)) / (n : Int)), x.e - p⟩

/-- 1 / x for an interval above zero. -/
def invI (p : Nat) (x : Iv) : Iv :=
  let s := 2 * p + x.hi.natAbs.log2
  if x.lo ≤ 0 then ⟨0, 2 ^ (2 * p), 0⟩
  else norm p ⟨(2 ^ s) / x.hi, -((-(2 ^ s : Int)) / x.lo), -(x.e + s)⟩

/-- Sum of a series term, from t_i to t_(i+1) by `next i t`, over n terms. -/
def sumI (p : Nat) (next : Nat → Iv → Iv) : Nat → Nat → Iv → Iv → Iv
  | 0, _, _, acc => acc
  | n + 1, i, t, acc => sumI p next n (i + 1) (next i t) (addI p acc t)

/-- atanh (z) for |z| ≤ 1/3: the series z^(2i+1) / (2i+1), over p/3 + 8 terms, and what is left. -/
def atanhI (p : Nat) (z : Iv) : Iv :=
  let z2 := mulI p z z
  let n := p / 3 + 8
  let pows := (List.range n).foldl (fun (acc : Iv × Iv) i =>
    (mulI p acc.1 z2, addI p acc.2 (divN p acc.1 (2 * i + 1)))) (point 1 0, point 0 0)
  let s := addI p pows.2 ⟨-1, 1, -(p : Int)⟩
  mulI p z s

/-- ln 2 = 2 atanh (1/3). -/
def ln2 (p : Nat) : Iv := let a := atanhI p (divN p (point 1 0) 3); ⟨a.lo, a.hi, a.e + 1⟩

/-- e^x for an exact x of magnitude below 2^10. -/
def expI (p : Nat) (x : Exact) : Iv :=
  let px := p + 16
  let n : Int := (x.k * 2 ^ (x.e + 400).toNat * 94548) / 2 ^ (16 + 400)
  let nn := if x.e < -400 then 0 else n
  let l := ln2 px
  let r := addI px (point x.k x.e) (negI ⟨nn * (if 0 ≤ nn then l.lo else l.hi), nn * (if 0 ≤ nn then l.hi else l.lo), l.e⟩)
  let terms := px / 4 + 24
  let s := sumI px (fun i t => divN px (mulI px t r) (i + 1)) terms 0 (point 1 0) (point 0 0)
  let y := addI px s ⟨-1, 1, -(px : Int)⟩
  norm p ⟨y.lo, y.hi, y.e + nn⟩

/-- ln x for a positive exact x. -/
def logI (p : Nat) (x : Exact) : Iv :=
  let px := p + 16
  let l := x.k.natAbs.log2
  -- x = y · 2^k with y between 3/4 and 3/2
  let big := decide (2 * x.k.natAbs ≥ 3 * 2 ^ l)
  let k : Int := (l : Int) + x.e + (if big then 1 else 0)
  let ye : Int := x.e - k
  let num := (Exact.add ⟨x.k, ye⟩ ⟨-1, 0⟩)
  let den := (Exact.add ⟨x.k, ye⟩ ⟨1, 0⟩)
  let z := mulI px (point num.k num.e) (invI px (point den.k den.e))
  let a := atanhI px z
  let t := ln2 px
  let t2 := ⟨k * (if 0 ≤ k then t.lo else t.hi), k * (if 0 ≤ k then t.hi else t.lo), t.e⟩
  norm p (addI px t2 ⟨a.lo, a.hi, a.e + 1⟩)

/-- π by Machin's formula: 16 atan (1/5) - 4 atan (1/239). -/
def atanInv (p n : Nat) : Iv :=
  let z2 := divN p (divN p (point 1 0) n) n
  let pows := (List.range (p / 4 + 8)).foldl (fun (acc : Iv × Iv) i =>
    (negI (mulI p acc.1 z2), addI p acc.2 (divN p acc.1 (2 * i + 1)))) (divN p (point 1 0) n, point 0 0)
  addI p pows.2 ⟨-1, 1, -(p : Int)⟩

def piI (p : Nat) : Iv :=
  let a := atanInv p 5
  let b := atanInv p 239
  addI p ⟨a.lo, a.hi, a.e + 4⟩ (negI ⟨b.lo, b.hi, b.e + 2⟩)

/-- √x for an interval above zero. -/
def sqrtI (p : Nat) (x : Iv) : Iv :=
  let s : Nat := if x.e % 2 == 0 then 2 * p else 2 * p + 1
  let lo := isqrt (x.lo.toNat <<< s)
  let hi := isqrt (x.hi.toNat <<< s) + 1
  norm p ⟨lo, hi, (x.e - s) / 2⟩

/-- erf y for an exact y with 0 < y² and y below 2^4: 2/√π · e^(-y²) · Σ 2^n y^(2n+1) / (1 · 3 ⋯ (2n+1)); y² is exact. -/
def erfI (p : Nat) (y : Iv) (y2 : Exact) : Iv :=
  let px := p + 32
  let i2 := point y2.k y2.e
  let terms := px + 700
  let s := sumI px (fun i t => divN px (mulI px t ⟨2 * i2.lo, 2 * i2.hi, i2.e⟩) (2 * i + 3)) terms 0 (point 1 0) (point 0 0)
  let s1 := addI px s ⟨-1, 1, -(px : Int)⟩
  let c := invI px (sqrtI px (piI px))
  let ex := expI px y2.neg
  let r := mulI px (mulI px y s1) (mulI px ex c)
  norm p ⟨2 * r.lo, 2 * r.hi, r.e⟩

/-- One end of an interval as a result to round: what lies below the end is nothing. -/
def endRes (k e : Int) : Res := .num (decide (k < 0)) k.natAbs e false

/-- Round an enclosure: precisions are tried in order until both ends round alike; the middle of the last stands if none
does. -/
def settle (ieee : Bool) (f : Nat → Iv) : List Nat → Nat × Bool
  | [] => (fp32.nanCode, false)
  | p :: ps =>
    let x := f p
    let a := toF32 ieee (endRes x.lo x.e)
    let b := toF32 ieee (endRes x.hi x.e)
    if a == b then a
    else match ps with
      | [] => toF32 ieee (endRes (x.lo + x.hi) (x.e - 1))
      | _ => settle ieee f ps

/-- The precisions tried. -/
def precisions : List Nat := [112, 256, 768, 2048]

/-- A tiny nonzero result: it rounds to zero and keeps its sign (R91). -/
def tiny (neg : Bool) : Res := .num neg 1 (-400) true

/-- A result beyond every finite value of FP32. -/
def huge : Res := .num false 1 400 false

/-- |x| below 2^j. -/
def below (x : Exact) (j : Int) : Bool := x.k == 0 || decide ((x.k.natAbs.log2 : Int) + x.e < j)

/-- e^x (R133). -/
def expR (ieee : Bool) (x : Exact) : Nat × Bool :=
  if x.k == 0 then toF32 ieee (.num false 1 0 false)
  else if below x 8 then settle ieee (fun p => expI p x) precisions
  else if x.k < 0 then toF32 ieee (tiny false) else toF32 ieee huge

/-- ln x for x above zero. -/
def logR (ieee : Bool) (x : Exact) : Nat × Bool :=
  if (Exact.add x ⟨-1, 0⟩).k == 0 then toF32 ieee (.num false 0 0 false)
  else settle ieee (fun p => logI p x) precisions

/-- An interval with the sign of x. -/
def signed (x : Exact) (y : Iv) : Iv := if x.k < 0 then negI y else y

/-- tanh x for x not zero: (1 - u) / (1 + u) with u = e^(-2|x|); below 2^-40 it lies between |x| (1 - 2^-60) and |x|. -/
def tanhR (ieee : Bool) (x : Exact) : Nat × Bool :=
  let a : Exact := ⟨x.k.natAbs, x.e⟩
  if below x (-40) then
    settle ieee (fun _ => signed x ⟨a.k * (2 ^ 60 - 1), a.k * 2 ^ 60, a.e - 60⟩) [60]
  else if below x 6 then
    settle ieee (fun p =>
      let px := p + 64
      let u := expI px ⟨-2 * a.k, a.e⟩
      signed x (mulI px (addI px (point 1 0) (negI u)) (invI px (addI px (point 1 0) u)))) precisions
  else toF32 ieee (.num (decide (x.k < 0)) (2 ^ 80 - 1) (-80) true)

/-- 1 / (1 + e^-x). -/
def sigmoidI (p : Nat) (x : Exact) : Iv :=
  let px := p + 16
  if x.k < 0 then
    let u := expI px x
    mulI px u (invI px (addI px (point 1 0) u))
  else invI px (addI px (point 1 0) (expI px x.neg))

def sigmoidR (ieee : Bool) (x : Exact) : Nat × Bool :=
  if below x 8 then settle ieee (fun p => sigmoidI p x) precisions
  else if x.k < 0 then toF32 ieee (tiny false) else toF32 ieee (.num false (2 ^ 80 - 1) (-80) true)

/-- x / (1 + e^-x) for x not zero. -/
def siluR (ieee : Bool) (x : Exact) : Nat × Bool :=
  if below x 8 then settle ieee (fun p => mulI (p + 16) (point x.k x.e) (sigmoidI (p + 16) x)) precisions
  else if x.k < 0 then toF32 ieee (tiny true) else toF32 ieee (.num false (x.k.natAbs * 2 ^ 80 - 1) (x.e - 80) true)

/-- erf x for x not zero; from 8 on it lies between 1 - 2^-80 and 1. -/
def erfR (ieee : Bool) (x : Exact) : Nat × Bool :=
  let a : Exact := ⟨x.k.natAbs, x.e⟩
  if below x 3 then settle ieee (fun p => signed x (erfI p (point a.k a.e) (a.mul a))) precisions
  else toF32 ieee (.num (decide (x.k < 0)) (2 ^ 80 - 1) (-80) true)

/-- x · (1 + erf (x / √2)) / 2 for x not zero; (x/√2)² = x²/2 is exact. -/
def geluR (ieee : Bool) (x : Exact) : Nat × Bool :=
  let a : Exact := ⟨x.k.natAbs, x.e⟩
  let y2 : Exact := ⟨x.k * x.k, 2 * x.e - 1⟩
  if below x 4 then
    settle ieee (fun p =>
      let px := p + 320
      let r2 := sqrtI px (point 2 0)
      let y := mulI px (point a.k (a.e - 1)) r2
      let er := signed x (erfI px y y2)
      mulI px (point x.k (x.e - 1)) (addI px (point 1 0) er)) precisions
  else if x.k < 0 then toF32 ieee (tiny true) else toF32 ieee (.num false (x.k.natAbs * 2 ^ 80 - 1) (x.e - 80) true)

/-- The exact number of a finite value. -/
def exactOf : Val → Exact
  | .fin n m e => toExact n m e
  | _ => Exact.zero

/-- An elementary function by its operation code (R133) on one operand, as an FP32 code with whether it was limited. SILU and
GELU of minus infinity are stated nowhere: a free value of Config. -/
def unary (code : Nat) (ieee : Bool) (a : Val) : Nat × Bool :=
  match a with
  | .nan => (fp32.nanCode, false)
  | .inf neg =>
    match code with
    | 0x18 => if neg then (0, false) else (fp32.infCode false, false)
    | 0x19 => if neg then (fp32.nanCode, false) else (fp32.infCode false, false)
    | 0x1A => toF32 ieee (.num neg 1 0 false)
    | 0x1B => if neg then (0, false) else toF32 ieee (.num false 1 0 false)
    | 0x1C => toF32 ieee (.num neg 1 0 false)
    | _ => if neg then ((Config.atMinusInfinity code).toNat, false) else (fp32.infCode false, false)
  | .fin neg m _ =>
    let x := exactOf a
    match code with
    | 0x18 => expR ieee x
    | 0x19 => if m == 0 then (fp32.infCode true, false) else if neg then (fp32.nanCode, false) else logR ieee x
    | 0x1A => if m == 0 then (0, false) else tanhR ieee x
    | 0x1B => sigmoidR ieee x
    | 0x1C => if m == 0 then (0, false) else erfR ieee x
    | 0x1D => if m == 0 then (0, false) else siluR ieee x
    | _ => if m == 0 then (0, false) else geluR ieee x

/-- e^(A - B), the difference exact (R133). -/
def expsub (ieee : Bool) (a b : Val) : Nat × Bool :=
  match sub a b with
  | .nan => (fp32.nanCode, false)
  | .inf n => if n then (0, false) else (fp32.infCode false, false)
  | .num n m e _ => expR ieee (toExact n m e)

end Sys2Proof.Machine.Func
end

