-- ==== Sys2Proof/Machine/VecMath.lean ====
section
/-! DEFINITION. The arithmetic of the vector engine on one element, on one row and in one comparison (R112, R132 to R134, R137
to R140, R536), shared by stream mode and register mode (R155). -/

namespace Sys2Proof.Machine.VecMath

open Bits Numeric Operand

/-- A result before conversion: an FP32 code or an INT32 value, each with whether it was limited (R107), or a result that
depends on a corrupted word (R150). -/
inductive Raw where
  | f32 (code : Nat) (sat : Bool)
  | int (x : Int) (sat : Bool)
  | bad
deriving DecidableEq, Repr

/-- +0, or INT32 0. -/
def zero (int : Bool) : Raw := if int then .int 0 false else .f32 0 false

/-- The integer value of an operand of an integer format. -/
def intOf : Val → Int
  | .fin n m e => toInt n m e
  | _ => 0

/-- An INT32 result takes the nearer limit (R132). -/
def sat32 (x : Int) : Raw := let y := clampInt 12 x; .int y.1 y.2

/-- An FP32 result and whether it was limited. -/
def ofPair (p : Nat × Bool) : Raw := .f32 p.1 p.2

/-- A value selected or moved without being computed (R91). -/
def moveVal (int ovf : Bool) (v : Val) : Raw := if int then .int (intOf v) false else ofPair (toF32 ovf (moved v))

/-- The larger of two values (R134): a NaN if either is one, +0 above -0. -/
def maxVal (a b : Val) : Val :=
  if isNan a || isNan b then .nan else if ltVal a b then b else if ltVal b a then a else if signOf a then b else a

/-- The smaller of two values (R134): a NaN if either is one, -0 below +0. -/
def minVal (a b : Val) : Val :=
  if isNan a || isNan b then .nan else if ltVal a b then a else if ltVal b a then b else if signOf a then a else b

/-- The magnitude of a value. -/
def absVal : Val → Val
  | .nan => .nan
  | .inf _ => .inf false
  | .fin _ m e => .fin false m e

/-- The float domain (R112, R133, R536): the result for one element of operands A, B and C with scalar S. -/
def floatOp (code : Nat) (ovf : Bool) (a b c sc : Val) : Raw :=
  match code with
  | 0x01 => ofPair (toF32 ovf (Numeric.add a b))
  | 0x02 => ofPair (toF32 ovf (Numeric.sub a b))
  | 0x03 => ofPair (toF32 ovf (Numeric.mul a b))
  | 0x04 => ofPair (toF32 ovf (Numeric.fma a b c))
  | 0x05 => ofPair (toF32 ovf (Numeric.fma sc a b))
  | 0x06 => ofPair (toF32 ovf (moved (maxVal a b)))
  | 0x07 => ofPair (toF32 ovf (moved (minVal a b)))
  | 0x08 => ofPair (toF32 ovf (moved (absVal a)))
  | 0x09 => if isZero a then .f32 0 false else ofPair (toF32 ovf (moved (negVal a)))
  | 0x0A => ofPair (toF32 ovf (moved a))
  | 0x10 => ofPair (toF32 ovf (Numeric.div a b))
  | 0x11 => ofPair (toF32 ovf (Numeric.div one a))
  | 0x12 => ofPair (toF32 ovf (Numeric.sqrt a))
  | 0x13 => ofPair (toF32 ovf (Numeric.rsqrt a))
  | 0x1F => ofPair (Func.expsub ovf a b)
  | _ => ofPair (Func.unary code ovf a)

/-- The integer domain (R132, R133): exact INT32 with limits. -/
def intOp (code : Nat) (a b : Int) : Raw :=
  match code with
  | 0x01 => sat32 (a + b)
  | 0x02 => sat32 (a - b)
  | 0x03 => sat32 (a * b)
  | 0x06 => sat32 (max a b)
  | 0x07 => sat32 (min a b)
  | 0x08 => sat32 (a.natAbs : Int)
  | 0x09 => sat32 (-a)
  | _ => sat32 a

/-- One elementwise result in its domain. -/
def compute (int : Bool) (code : Nat) (ovf : Bool) (a b c sc : Val) : Raw :=
  if int then intOp code (intOf a) (intOf b) else floatOp code ovf a b c sc

/-- The comparisons CMPLT, CMPLE, CMPEQ, CMPNE (R134) and ISFIN. -/
def compare' (code : Nat) (a b : Val) : Bool :=
  let nan := isNan a || isNan b
  match code with
  | 0x20 => !nan && ltVal a b
  | 0x21 => !nan && !ltVal b a
  | 0x22 => !nan && !ltVal a b && !ltVal b a
  | 0x23 => nan || ltVal a b || ltVal b a
  | _ => isFinite a

/-! ## Reductions (R137 to R140) -/

/-- Each of w lanes combines its elements in ascending order: elements c, c + w, c + 2 w and so on. -/
def lanes {α β : Type} (w : Nat) (first : α → β) (step : β → α → β) (xs : List α) : List β :=
  let n := xs.length
  (List.range (min n w)).filterMap (fun l =>
    match (List.range (ceilDiv n w)).filterMap (fun i => xs[l + w * i]?) with
    | [] => none
    | x :: r => some (r.foldl step (first x)))

/-- One level of the fixed binary tree: neighbours are combined, a last one without a neighbour stays. -/
def treeStep {β : Type} (comb : β → β → β) : List β → List β
  | x :: y :: r => comb x y :: treeStep comb r
  | l => l

/-- The fixed binary tree over at most 256 lanes. -/
def tree {β : Type} (comb : β → β → β) (l : List β) : Option β :=
  ((List.range 8).foldl (fun acc _ => treeStep comb acc) l).head?

/-- A sum of two FP32 codes, rounded once, with the limits met so far. -/
def addCodes (ovf : Bool) (x y : Nat × Bool) : Nat × Bool :=
  let r := toF32 ovf (Numeric.add (fp32.decode x.1) (fp32.decode y.1))
  (r.1, x.2 || y.2 || r.2)

/-- RSUM in the float domain (R137). -/
def rsumF (ovf : Bool) (xs : List Val) : Option (Nat × Bool) :=
  tree (addCodes ovf) (lanes 256 (fun x => toF32 ovf (moved x)) (fun l x =>
    let r := toF32 ovf (Numeric.add (fp32.decode l.1) x); (r.1, l.2 || r.2)) xs)

/-- RSUMSQ (R138). -/
def rsumsqF (ovf : Bool) (xs : List Val) : Option (Nat × Bool) :=
  tree (addCodes ovf) (lanes 256 (fun x => toF32 ovf (Numeric.mul x x)) (fun l x =>
    let r := toF32 ovf (Numeric.fma x x (fp32.decode l.1)); (r.1, l.2 || r.2)) xs)

/-- A saturating integer sum (R132). -/
def addInts (x y : Int × Bool) : Int × Bool := let r := clampInt 12 (x.1 + y.1); (r.1, x.2 || y.2 || r.2)

/-- RSUM in the integer domain: the same lanes and tree, saturating at each partial sum (R133). -/
def rsumI (xs : List Int) : Option (Int × Bool) :=
  tree addInts (lanes 256 (fun x => (x, false)) (fun l x => addInts l (x, false)) xs)

/-- Order of R139: a NaN above every other value, +0 above -0. -/
def above (a b : Val) : Bool :=
  if isNan b then false else if isNan a then true
  else ltVal b a || (!ltVal a b && isZero a && isZero b && !signOf a && signOf b)

/-- The entry that an order puts first; among equals the lowest column wins. -/
def best (beats : Val → Val → Bool) : List (Val × Nat) → Option (Val × Nat)
  | [] => none
  | x :: r => some (r.foldl (fun m y => if beats y.1 m.1 then y else m) x)

/-- RMAX and RARGMAX (R139). -/
def largest (xs : List (Val × Nat)) : Option (Val × Nat) := best above xs

/-- RMIN (R139): a row that contains a NaN gives a NaN. -/
def smallest (xs : List (Val × Nat)) : Option (Val × Nat) :=
  match xs.find? (fun x => isNan x.1) with
  | some x => some x
  | none => best (fun a b => above b a) xs

/-- RTOP2 (R139): the largest and the largest of the rest. -/
def topTwo (xs : List (Val × Nat)) : Option (Val × Nat) × Option (Val × Nat) :=
  match largest xs with
  | none => (none, none)
  | some m => (some m, largest (xs.filter (fun x => x.2 != m.2)))

/-- Running sums of SCAN (R140): each is the sum of the elements before it, with the limits met so far. -/
def scanRaw (int ovf : Bool) : Raw → List (Option (Val × Bool)) → List Raw
  | _, [] => []
  | t, x :: r =>
    let t1 := match t, x with
      | t, none => t
      | .bad, _ => .bad
      | _, some (_, true) => .bad
      | .int a st, some (v, false) => let y := clampInt 12 (a + intOf v); .int y.1 (st || y.2)
      | .f32 c st, some (v, false) => let y := toF32 ovf (Numeric.add (fp32.decode c) v); .f32 y.1 (st || y.2)
    t :: scanRaw int ovf t1 r

/-- A reduction of a row's unmasked elements with their columns (R137 to R139, R135): the entries of D, and those of E for
RTOP2. -/
def reduce (int : Bool) (code : Nat) (ovf : Bool) (xs : List (Val × Nat)) : List Raw × List Raw :=
  let vals := xs.map (·.1)
  let col := fun (o : Option (Val × Nat)) => match o with | some x => Raw.int x.2 false | none => Raw.int (-1) false
  let value := fun (o : Option (Val × Nat)) => match o with | some x => moveVal int ovf x.1 | none => zero int
  match code with
  | 0x28 =>
    if int then ([match rsumI (vals.map intOf) with | some p => .int p.1 p.2 | none => .int 0 false], [])
    else ([match rsumF ovf vals with | some p => ofPair p | none => .f32 0 false], [])
  | 0x29 => ([match rsumsqF ovf vals with | some p => ofPair p | none => .f32 0 false], [])
  | 0x2A => ([value (largest xs)], [])
  | 0x2B => ([value (smallest xs)], [])
  | 0x2C => ([col (largest xs)], [])
  | _ =>
    let t := topTwo xs
    ([value t.1, value t.2], [col t.1, col t.2])

end Sys2Proof.Machine.VecMath
end

