-- ==== Sys2Proof/Machine/Churn.lean ====
section
/-! DEFINITION. The Churn, the update engine (R180 to R208): its command window, the choice of a ready ring, bad descriptors, the
optimizers in X40, working weights, digests, and the end of a descriptor. -/

namespace Sys2Proof.Machine.ChurnOps

open Bits Ops Report Numeric

def churn (s : State) (n : Nat) : Churn := SMap.val {} s.churns n
def setChurn (s : State) (n : Nat) (x : Churn) : State := { s with churns := SMap.ins s.churns n x }

/-! ## The command window (R180, R181) -/

/-- The 128 bytes of a slot of a ring. -/
def slot (x : Churn) (r i : Nat) : Bytes := SMap.val (zeros 128) x.slots (64 * r + i)

/-- A write to the window: accepted only as a whole slot whose SEQ names it; status 0, or 3 for an error completion. -/
def slotWrite (s : State) (n off : Nat) (data : Bytes) : State × Nat :=
  let i := (off / 128) % 64
  if data.length == 128 && off % 128 == 0 && at' data 0 4 % 64 == i then
    let x := churn s n
    (setChurn s n { x with slots := SMap.ins x.slots (64 * (off / 8192) + i) data }, 0)
  else (s, 3)

/-- The byte at an offset of the window. -/
def byteAt (s : State) (n off : Nat) : Byte := (slot (churn s n) (off / 8192) ((off / 128) % 64)).getD (off % 128) 0

/-- The descriptor in 128 bytes (R184). -/
def parse (b : Bytes) : ChurnDesc :=
  let f := at' b 32 2
  { seq := at' b 0 4, opt := at' b 4 1, flags := at' b 5 1, gfmt := at' b 6 1 % 16, sfmt := at' b 6 1 / 16, wfmt := at' b 7 1 % 16,
    dacc := at' b 7 1 / 16, step := at' b 8 8, tensor := at' b 16 4, first := at' b 20 4, count := at' b 24 4, inner := at' b 28 2,
    ctx := at' b 30 1, fact := at' b 31 1 % 4, fcore := at' b 31 1 / 4, flag := f % 8192, g := at' b 34 6, wIn := at' b 40 6,
    wOut := at' b 46 6, s1In := at' b 52 6, s1Out := at' b 58 6, s2In := at' b 64 6, s2Out := at' b 70 6, o := at' b 76 6,
    os := at' b 82 6, hp := at' b 88 6, report := at' b 94 6, expect := BitVec.ofNat 64 (at' b 100 8),
    resv := f / 8192 + at' b 108 20 }

/-! ## Ready rings (R182) -/

def nextOf (x : Churn) (r : Nat) : Nat := SMap.val 0 x.next r

/-- Ring r is ready: the slot of its next number holds that number. A slot that was never written holds no descriptor. -/
def ready (x : Churn) (r : Nat) : Bool :=
  match SMap.look x.slots (64 * r + nextOf x r % 64) with
  | some b => at' b 0 4 == nextOf x r
  | none => false

/-- The ring that runs next: the first ready one in rotation after the ring that last ran. -/
def chosen (x : Churn) : Option Nat := ((List.range 16).map (fun i => (x.lastRing + 1 + i) % 16)).find? (ready x)

/-- The descriptor that ring r runs next. -/
def headDesc (x : Churn) (r : Nat) : ChurnDesc := parse (slot x r (nextOf x r % 64))

/-! ## Bad descriptors (R186, R187, R190, R191) -/

def fClip (d : ChurnDesc) : Bool := bit d.flags 0
def fNfskip (d : ChurnDesc) : Bool := bit d.flags 1
def fWout (d : ChurnDesc) : Bool := bit d.flags 2
def fNesterov (d : ChurnDesc) : Bool := bit d.flags 3
def fCmp (d : ChurnDesc) : Bool := bit d.flags 4
def fOvf (d : ChurnDesc) : Bool := bit d.flags 5

/-- The operations that update: OPT 0 to 3. -/
def updates (d : ChurnDesc) : Bool := decide (d.opt ≤ 3)

/-- Width in bytes of a gradient or state format. -/
def fw (f : Nat) : Nat := width f / 8

/-- Rows of a tensor of OPT 2. -/
def rowsOf (d : ChurnDesc) : Nat := if d.inner == 0 then 0 else d.count / d.inner

/-- Elements of the first and second state regions. -/
def s1Count (d : ChurnDesc) : Nat := if d.opt == 2 then rowsOf d else if d.opt == 0 || d.opt == 1 || d.opt == 3 then d.count else 0
def s2Count (d : ChurnDesc) : Nat := if d.opt == 1 then d.count else if d.opt == 2 then d.inner else 0

/-- Working weights are written. -/
def working (d : ChurnDesc) : Bool := (updates d || d.opt == 5) && fWout d

/-- Regions as kind, start and length: master 0, states 1 and 2, gradient 3, working weights 4, scales 5. -/
def readRegions (d : ChurnDesc) : List (Nat × Nat × Nat) :=
  (if updates d || d.opt == 5 then [(0, d.wIn, 5 * d.count)] else []) ++
  (if s1Count d != 0 then [(1, d.s1In, s1Count d * fw d.sfmt)] else []) ++
  (if s2Count d != 0 then [(2, d.s2In, s2Count d * fw d.sfmt)] else []) ++
  (if decide (d.opt ≤ 4) then [(3, d.g, d.count * fw d.gfmt)] else [])

def writtenRegions (d : ChurnDesc) : List (Nat × Nat × Nat) :=
  (if updates d then [(0, d.wOut, 5 * d.count)] else []) ++
  (if s1Count d != 0 then [(1, d.s1Out, s1Count d * fw d.sfmt)] else []) ++
  (if s2Count d != 0 then [(2, d.s2Out, s2Count d * fw d.sfmt)] else []) ++
  (if working d then (4, d.o, ceilDiv (d.count * width d.wfmt) 8) :: (if isMx d.wfmt then [(5, d.os, d.count / 32)] else []) else [])

def meets (a b : Nat × Nat × Nat) : Bool := decide (a.2.1 < b.2.1 + b.2.2 ∧ b.2.1 < a.2.1 + a.2.2)

/-- R190: each written region is identical to the read region of its kind, or meets no read region; written regions do not meet; in a
stepped context master and state regions meet no read region. -/
def regionsOk (d : ChurnDesc) (inStepped : Bool) : Bool :=
  let rd := readRegions d
  let wr := writtenRegions d
  wr.all (fun w => (rd.contains w && !(inStepped && updates d && decide (w.1 ≤ 2))) || rd.all (fun r => !meets w r)) &&
  wr.zipIdx.all (fun w => (wr.drop (w.2 + 1)).all (fun v => !meets w.1 v))

/-- Formats (R187). -/
def formatsOk (d : ChurnDesc) : Bool :=
  (if decide (d.opt ≤ 4) then decide (d.gfmt ≤ 2) else d.gfmt == 0) &&
  (if updates d then d.sfmt == 0 || d.sfmt == 13 else d.sfmt == 0) &&
  (if working d then decide (d.wfmt ≤ 9) else d.wfmt == 0)

/-- Fields that the operation does not use are zero (R187, R186; DEDUCED, notes/assumptions/36.md). FLAG and FCORE count as used whatever
FACT is: the manual does not say (DESIGN CHOICE, notes/assumptions/36.md). STEP is used by every operation and
TENSOR_ID by every one that reads a tensor, since its errors name them (R203, R206); OPT 4 ignores CLIP, and with it NFSKIP (R195). -/
def unusedZero (d : ChurnDesc) : Bool :=
  (decide (d.opt ≤ 4) || d.g == 0) &&
  (updates d || d.opt == 5 || d.wIn == 0) && (updates d || d.wOut == 0) &&
  (updates d || (d.s1In == 0 && d.s1Out == 0)) &&
  (d.opt == 1 || d.opt == 2 || (d.s2In == 0 && d.s2Out == 0)) &&
  (working d || d.o == 0) && ((working d && isMx d.wfmt) || d.os == 0) &&
  (updates d || d.opt == 5 || d.hp == 0) &&
  ((d.opt == 6 && fCmp d) || d.expect == 0) && (updates d || d.opt == 6 || d.dacc == 0) &&
  (d.opt == 0 || !fNesterov d) && (d.opt == 6 || !fCmp d) && (updates d || d.opt == 5 || !fWout d) &&
  (updates d || d.opt == 5 || d.first == 0) &&
  (d.opt != 6 || (d.count == 0 && d.tensor == 0 && !fClip d && !fNfskip d && !fOvf d))

/-- A descriptor is BAD (R191). -/
def bad (d : ChurnDesc) (inStepped : Bool) : Bool :=
  decide (7 ≤ d.opt) || decide (64 ≤ d.flags) || d.resv != 0 || d.fact == 3 || !formatsOk d ||
  (d.opt != 6 && (d.count == 0 || decide (16777216 < d.count))) ||
  !unusedZero d || (d.opt == 5 && !fWout d) ||
  (working d && isMx d.wfmt && (d.first % 32 != 0 || d.count % 32 != 0)) ||
  (if d.opt == 2 then d.first != 0 || d.inner == 0 || decide (8192 < d.inner) || d.count % d.inner != 0 || decide (65535 < rowsOf d)
   else d.inner != 0) ||
  !regionsOk d inStepped

/-! ## X40 arithmetic (R192) -/

/-- A value in X40 with whether a result on the way to it was limited. -/
structure X where
  v : Val
  sat : Bool

def lit (v : Val) : X := ⟨v, false⟩

/-- A result rounded once to X40. -/
def rnd (ovf : Bool) (r : Res) (st : Bool) : X := let p := toX40 ovf r; ⟨x40.decode p.1, st || p.2⟩

def xadd (ovf : Bool) (a b : X) : X := rnd ovf (Numeric.add a.v b.v) (a.sat || b.sat)
def xmul (ovf : Bool) (a b : X) : X := rnd ovf (Numeric.mul a.v b.v) (a.sat || b.sat)
def xdiv (ovf : Bool) (a b : X) : X := rnd ovf (Numeric.div a.v b.v) (a.sat || b.sat)
def xsqrt (ovf : Bool) (a : X) : X := rnd ovf (Numeric.sqrt a.v) a.sat
def xfma (ovf : Bool) (a b c : X) : X := rnd ovf (Numeric.fma a.v b.v c.v) (a.sat || b.sat || c.sat)
def xneg (a : X) : X := ⟨negVal a.v, a.sat⟩

/-- sign (x): +1, -1, +0 for either zero, NaN for NaN. -/
def xsign (a : X) : X :=
  ⟨match a.v with | .nan => .nan | .inf n => .fin n 1 0 | .fin n m _ => if m == 0 then .fin false 0 0 else .fin n 1 0, a.sat⟩

/-- The X40 code of a value. -/
def code40 (v : Val) : Nat := (encode x40 false v).1

/-- The parameter block (R188). -/
structure Params where
  lr : X
  wd : X
  b1 : X
  a1 : X
  b2 : X
  a2 : X
  eps : X
  k1 : X
  k2 : X
  c : X
  seed : W64

/-- The parameters of a block; its reserved bytes 48 to 63 are not looked at, for R191 names no such case (DESIGN CHOICE,
notes/assumptions/36.md). -/
def params (b : Bytes) : Params :=
  let f := fun o => lit (fp32.decode (at' b o 4))
  { lr := f 0, wd := f 4, b1 := f 8, a1 := f 12, b2 := f 16, a2 := f 20, eps := f 24, k1 := f 28, k2 := f 32, c := f 36,
    seed := BitVec.ofNat 64 (at' b 40 8) }

/-- c is a positive finite value (R196). -/
def positive (c : Val) : Bool := match c with | .fin n m _ => !n && m != 0 | _ => false

/-! ## Elements (R189, R193) -/

/-- The value of a code of FP32, bf16, FP16 or X40. -/
def valOf (f code : Nat) : Val := match fmtOf f with | some x => x.decode code | none => .nan

def gradient (s : State) (d : ChurnDesc) (k : Nat) : X := lit (valOf d.gfmt (Mem.word s (d.g + k * fw d.gfmt) (fw d.gfmt)))
def master (s : State) (d : ChurnDesc) (k : Nat) : X := lit (x40.decode (Mem.word s (d.wIn + 5 * k) 5))
def state1 (s : State) (d : ChurnDesc) (k : Nat) : X := lit (valOf d.sfmt (Mem.word s (d.s1In + k * fw d.sfmt) (fw d.sfmt)))
def state2 (s : State) (d : ChurnDesc) (k : Nat) : X := lit (valOf d.sfmt (Mem.word s (d.s2In + k * fw d.sfmt) (fw d.sfmt)))

/-- The code in which a state value is stored (R192). -/
def stateCode (d : ChurnDesc) (v : Val) : Nat := if d.sfmt == 13 then code40 v else (encode fp32 (fOvf d) v).1

/-- The step w = fma (-lr, fma (wd, w, d), w). -/
def descend (ovf : Bool) (p : Params) (w dir : X) : X := xfma ovf (xneg p.lr) (xfma ovf p.wd w dir) w

/-- New master weight and states of an element (R193). -/
def update (d : ChurnDesc) (p : Params) (g0 w m v : X) : X × List X :=
  let o := fOvf d
  let g := if fClip d then xmul o g0 p.c else g0
  match d.opt with
  | 0 =>
    let m1 := xfma o p.b1 m g
    let dir := if fNesterov d then xfma o p.b1 m1 g else m1
    (descend o p w dir, [m1])
  | 1 =>
    let m1 := xfma o p.b1 m (xmul o p.a1 g)
    let v1 := xfma o p.b2 v (xmul o p.a2 (xmul o g g))
    let u := xdiv o (xmul o m1 p.k1) (xadd o (xsqrt o (xmul o v1 p.k2)) p.eps)
    (descend o p w u, [m1, v1])
  | _ =>
    let u := xsign (xfma o p.b1 m (xmul o p.a1 g))
    (descend o p w u, [xfma o p.b2 m (xmul o p.a2 g)])

/-! ## Digests (R205) -/

def emix (tensor index region : Nat) (bits : Nat) : W64 :=
  let x0 := BitVec.ofNat 64 (tensor * 4294967296 + index % 4294967296)
  let x1 := (x0 ^^^ (x0 >>> 31)) * 0xBF58476D1CE4E5B9#64
  let x2 := x1 ^^^ (BitVec.ofNat 64 bits + BitVec.ofNat 64 (region * 2 ^ 56))
  let x3 := (x2 ^^^ (x2 >>> 27)) * 0x94D049BB133111EB#64
  x3 ^^^ (x3 >>> 31)

/-! ## Working weights (R116, R117, R197) -/

/-- One working weight that is not MX: its code, and whether it was limited. Under OVF 1 a finite value that rounds beyond the
largest becomes infinite (R107, R197). -/
def workCode (d : ChurnDesc) (seed : W64) (k : Nat) (w : Val) : Nat × Bool :=
  match fmtOf d.wfmt with
  | none => (0, false)
  | some f =>
    let r := srWord seed (BitVec.ofNat 32 d.step) (BitVec.ofNat 32 d.tensor) (BitVec.ofNat 32 (d.first + k))
    let x := srEncode f w r
    if x.2 && fOvf d && isFinite w then (f.infCode (signOf w), false) else x

/-- The writes of one working weight. -/
def workWrite (d : ChurnDesc) (k code : Nat) : Nat × Bytes := (d.o + k * fw d.wfmt, le (fw d.wfmt) code)

/-- A block of 32 working weights in an MX format: the writes of its elements and scale, and which were limited. A fault within the block
leaves fewer: those are written under the scale they give, and the places after them keep their codes (R203; DESIGN CHOICE,
notes/assumptions/37.md). -/
def workBlock (s : State) (d : ChurnDesc) (seed : W64) (b : Nat) (ws : List Val) : List (Nat × Bytes) × List Bool :=
  match fmtOf d.wfmt with
  | none => ([], [])
  | some f =>
    let rs := ws.zipIdx.map (fun p =>
      (p.1, srWord seed (BitVec.ofNat 32 d.step) (BitVec.ofNat 32 d.tensor) (BitVec.ofNat 32 (d.first + 32 * b + p.2))))
    let x := srBlock f rs
    let w := width d.wfmt
    let n := w * ws.length
    let a := d.o + 4 * w * b
    let packed := x.2.zipIdx.foldl (fun acc p => acc + (p.1.1 % 2 ^ w) <<< (w * p.2)) 0
    let kept := (Mem.word s a (ceilDiv n 8) >>> n) <<< n
    ([(a, le (ceilDiv n 8) (packed + kept)), (d.os + b, le 1 x.1)], x.2.map (·.2))

/-- Add the working weights of a descriptor to its elements; those of an MX block are written with the last element it has. -/
def addWorking (s : State) (d : ChurnDesc) (seed : W64) (es : List (ChurnElem × Val)) : List ChurnElem :=
  if !working d then es.map (·.1)
  else if isMx d.wfmt then
    (List.range (ceilDiv es.length 32)).flatMap (fun b =>
      let part := (es.drop (32 * b)).take 32
      let w := workBlock s d seed b (part.map (·.2))
      part.zipIdx.map (fun p =>
        { p.1.1 with sat := p.1.1.sat || w.2.getD p.2 false, writes := p.1.1.writes ++ (if p.2 + 1 == part.length then w.1 else []) }))
  else es.zipIdx.map (fun p =>
    let w := workCode d seed p.2 p.1.2
    { p.1.1 with sat := p.1.1.sat || w.2, writes := p.1.1.writes ++ [workWrite d p.2 w.1] })

/-! ## Descriptors (R193 to R198, R203, R206) -/

/-- Non-finite counting of R201. -/
def nonfiniteOf (g w : Val) : Bool := !isFinite g || !isFinite w

/-- Element k of OPT 0, 1 or 3. -/
def element (s : State) (d : ChurnDesc) (p : Params) (k : Nat) : ChurnElem × Val :=
  let g := gradient s d k
  let r := update d p g (master s d k) (state1 s d k) (state2 s d k)
  let w := code40 r.1.v
  let st := r.2.map (fun x => stateCode d x.v)
  let outs := [d.s1Out, d.s2Out]
  ({ writes := (d.wOut + 5 * k, le 5 w) ::
       (st.zipIdx.map (fun c => ((outs.getD c.2 0) + k * fw d.sfmt, le (fw d.sfmt) c.1))),
     sat := r.1.sat || r.2.any (·.sat), nonfinite := nonfiniteOf g.v r.1.v,
     mix := (st.zipIdx.map (fun c => emix d.tensor (d.first + k) (c.2 + 1) c.1)).foldl (· + ·) (emix d.tensor (d.first + k) 0 w) },
   r.1.v)

/-- Element k of OPT 5. -/
def castElement (s : State) (d : ChurnDesc) (k : Nat) : ChurnElem × Val :=
  let w := (master s d k).v
  ({ writes := [], sat := false, nonfinite := !isFinite w, mix := 0 }, w)

/-- For each element of a sum of squares, whether its own step in its lane was limited (R195, R201). -/
def laneLimits (ovf : Bool) : Nat → SMap X → List X → List Bool
  | _, _, [] => []
  | k, lanes, g :: rest =>
    let r := match SMap.look lanes (k % 64) with
      | none => xmul ovf g g
      | some a => xfma ovf g g a
    r.sat :: laneLimits ovf (k + 1) (SMap.ins lanes (k % 64) (lit r.v)) rest

/-- The sum of squares of R195. -/
def lanesumSq (ovf : Bool) (gs : List X) : X :=
  let l := VecMath.lanes 64 (fun g => xmul ovf g g) (fun acc g => xfma ovf g g acc) gs
  (VecMath.tree (xadd ovf) l).getD (lit (.fin false 0 0))

/-- The statistics of OPT 2 after its first sweep (R194): R, C and the total t. -/
def statistics (s : State) (d : ChurnDesc) (p : Params) : List X × List X × X :=
  let o := fOvf d
  let rows := rowsOf d
  let cc := if fClip d then xmul o p.c p.c else lit one
  let kr := xdiv o cc (lit (ofInt d.inner))
  let kc := xdiv o cc (lit (ofInt rows))
  let r := (List.range rows).map (fun i =>
    let rs := lanesumSq o ((List.range d.inner).map (fun j => gradient s d (i * d.inner + j)))
    xfma o p.b2 (state1 s d i) (xmul o p.a2 (xmul o kr rs)))
  let c := (List.range d.inner).map (fun j =>
    let cs := (List.range rows).foldl (fun acc i => let g := gradient s d (i * d.inner + j); xfma o g g acc) (lit (.fin false 0 0))
    xfma o p.b2 (state2 s d j) (xmul o p.a2 (xmul o kc cs)))
  let t := match r with | x :: rest => rest.foldl (xadd o) x | [] => lit (.fin false 0 0)
  (r, c, t)

/-- Element k of OPT 2's second sweep (R194). -/
def factoredElement (s : State) (d : ChurnDesc) (p : Params) (st : List X × List X × X) (k : Nat) : ChurnElem × Val :=
  let o := fOvf d
  let g := gradient s d k
  let gg := if fClip d then xmul o g p.c else g
  let ri := st.1.getD (k / d.inner) (lit .nan)
  let cj := st.2.1.getD (k % d.inner) (lit .nan)
  let u := xdiv o gg (xadd o (xsqrt o (xdiv o (xmul o ri cj) st.2.2)) p.eps)
  let w := descend o p (master s d k) u
  let c := code40 w.v
  ({ writes := [(d.wOut + 5 * k, le 5 c)], sat := w.sat, nonfinite := nonfiniteOf g.v w.v, mix := emix d.tensor (d.first + k) 0 c }, w.v)

/-- The addresses and lengths that element k reads. -/
def readsOf (d : ChurnDesc) (k : Nat) : List (Nat × Nat) :=
  (if decide (d.opt ≤ 4) then [(d.g + k * fw d.gfmt, fw d.gfmt)] else []) ++
  (if updates d || d.opt == 5 then [(d.wIn + 5 * k, 5)] else []) ++
  (if d.opt == 0 || d.opt == 1 || d.opt == 3 then [(d.s1In + k * fw d.sfmt, fw d.sfmt)] else []) ++
  (if d.opt == 1 then [(d.s2In + k * fw d.sfmt, fw d.sfmt)] else [])

/-- What OPT 2's first sweep reads, before any element is written: regions as start, number and width of their elements. -/
def sweepReads (d : ChurnDesc) : List (Nat × Nat × Nat) :=
  if d.opt == 2 then [(d.g, d.count, fw d.gfmt), (d.s1In, s1Count d, fw d.sfmt), (d.s2In, s2Count d, fw d.sfmt)] else []

/-- A read verifies and meets no error (R203). -/
def good (s : State) (r : Nat × Nat) : Bool := (Mem.look s r.1 r.2 true).ok

/-- The first element of a region whose read fails. -/
def firstBad (s : State) (r : Nat × Nat × Nat) : Option (Nat × Nat) :=
  if good s (r.1, r.2.1 * r.2.2) then none
  else ((List.range r.2.1).map (fun k => (r.1 + k * r.2.2, r.2.2))).find? (fun e => !good s e)

/-- The first element whose reads fail, with the read that failed; none when all are good. -/
def firstFault (s : State) (d : ChurnDesc) : Option (Nat × Nat × Nat) :=
  match (sweepReads d).findSome? (firstBad s) with
  | some r => some (0, r)
  | none =>
    match (readRegions d).all (fun r => good s r.2) with
    | true => none
    | false => (List.range d.count).findSome? (fun k => ((readsOf d k).find? (fun r => !good s r)).map (fun r => (k, r)))

/-- The requester that a Churn's records name (R203, R355). -/
def requester (n : Nat) (d : ChurnDesc) : Mem.Req :=
  { unit := unitCode 4 n, ctx := d.ctx, op := opField 0 d.opt, step := some d.step, tensor := d.tensor }

/-- A run that ends without touching an element. -/
def emptyRun (r : Nat) (d : ChurnDesc) (status : Nat) : ChurnRun :=
  { ring := r, desc := d, elems := [], extra := [], extraMix := 0, status := status, satOther := false, sumsq := 0, digest := 0,
    stop := none }

/-- The run of a descriptor of OPT 0 to 5 whose parameters are at hand: elements up to the first fault. -/
def runOf (s : State) (r : Nat) (d : ChurnDesc) (p : Params) (fault : Option (Nat × Nat × Nat)) : ChurnRun :=
  let n := match fault with | some f => f.1 | none => d.count
  let base := emptyRun r d (if fault.isSome then 8 else 1)
  let ks := List.range n
  match d.opt with
  | 4 =>
    let gs := ks.map (gradient s d)
    let sum := lanesumSq (fOvf d) gs
    let out := encode fp32 (fOvf d) sum.v
    { base with elems := (gs.zip (laneLimits (fOvf d) 0 [] gs)).map (fun g => { writes := [], sat := g.2, nonfinite := !isFinite g.1.v, mix := 0 }),
                satOther := sum.sat || out.2, sumsq := if fault.isSome then 0 else BitVec.ofNat 32 out.1 }
  | 5 => { base with elems := addWorking s d p.seed (ks.map (castElement s d)) }
  | 2 =>
    let st := statistics s d p
    let codes := fun (l : List X) => l.map (fun x => stateCode d x.v)
    let put := fun (b : Nat) (l : List Nat) => l.zipIdx.map (fun c => (b + c.2 * fw d.sfmt, le (fw d.sfmt) c.1))
    let mixes := fun (region : Nat) (l : List Nat) => (l.zipIdx.map (fun c => emix d.tensor c.2 region c.1)).foldl (· + ·) (0#64)
    { base with elems := addWorking s d p.seed (ks.map (factoredElement s d p st)),
                extra := if fault.isSome then [] else put d.s1Out (codes st.1) ++ put d.s2Out (codes st.2.1),
                extraMix := mixes 1 (codes st.1) + mixes 2 (codes st.2.1),
                satOther := st.1.any (·.sat) || st.2.1.any (·.sat) || st.2.2.sat }
  | _ => { base with elems := addWorking s d p.seed (ks.map (element s d p)) }

/-- OPT 6: the accumulator is read, compared and cleared (R206). The record of a difference names DACC at byte 46 of DETAIL, where R357 has
no field (DESIGN CHOICE, notes/assumptions/86.md). -/
def digestStart (s : State) (n r : Nat) (d : ChurnDesc) : State × ChurnRun :=
  let v := SMap.val 0#64 s.dacc d.dacc
  let mis := fCmp d && v != d.expect
  let s1 := { s with dacc := SMap.del s.dacc d.dacc }
  let s2 := if mis then
      raise s1 { cls := 0x11, unit := unitCode 4 n, ctx := d.ctx, op := opField 0 6, aux := d.seq, given := some d.step,
                 detail := detail [(40, le 1 (0x80 + n)), (42, le 4 d.tensor), (46, le 1 d.dacc), (48, le 8 v.toNat), (56, le 8 d.expect.toNat)] }
        (stepEffect s1 d.ctx)
    else s1
  (s2, { emptyRun r d (if mis then 129 else 1) with digest := v })

/-- A descriptor starts (R183, R188, R191, R196, R203, R204). -/
def begin' (s : State) (n r : Nat) (d : ChurnDesc) : State × ChurnRun :=
  let inStepped := match ctx? s d.ctx with | some x => stepped x | none => false
  if dead s d.ctx then (s, emptyRun r d 16)
  else if bad d inStepped then (s, emptyRun r d 4)
  else if d.opt == 6 then digestStart s n r d
  else
    let q := requester n d
    let hp := if d.opt == 4 then (s, { data := zeros 64 }) else Mem.load s d.hp 64 true q
    let p := params hp.2.data
    if !hp.2.ok then (hp.1, emptyRun r d 8)
    else if fNfskip d && fClip d && d.opt != 4 && !positive p.c.v then (hp.1, emptyRun r d 2)
    else
      let s0 := (readRegions d).foldl (fun acc x => Mem.drillReads acc x.2.1 x.2.2 q) hp.1
      let f := firstFault s0 d
      let s1 := match f with | some (_, a, l) => Mem.reactRead s0 a l (Mem.look s0 a l true) q | none => s0
      (s1, runOf s0 r d p f)

/-- A descriptor of operation code `opt` starts on ring r, when that ring is the one the Churn runs next, in the window of the governor's
share (R499), which one that ends at once with ABORTED does not need (R204). `hits` are what the codes report as it reads. -/
def start (s : State) (n r opt : Nat) (hits : List CodeHit) : State :=
  let x := churn s n
  if fenced s || x.run.isSome || chosen x != some r || (headDesc x r).opt != opt ||
     !(Issue.windowOpen s (Issue.vectorShare (Issue.level s)) || dead s (headDesc x r).ctx) then s
  else
    let d := headDesc x r
    let b := begin' (Mem.inject s hits (requester n d)) n r d
    setChurn b.1 n { churn b.1 n with run := some b.2 }

/-! ## The end of a descriptor (R199, R201, R202, R204, R206) -/

/-- Cycles in which a run reads elements, and those it takes beside them, from start to report (R199). -/
def cycles (u : ChurnRun) : Nat × Nat :=
  let d := u.desc
  if u.elems.isEmpty || d.opt == 6 then (0, 16)
  else match d.opt with
    | 2 => (ceilDiv d.count 64 + ceilDiv d.count 32, 16 + rowsOf d)
    | 4 => (ceilDiv d.count 64, 28)
    | _ => (ceilDiv d.count 32, 16)

/-- The time of a run has passed: the cycles of R199 in the windows of the governor's share, and what DRAM serves for its elements (R220,
R499). One that was stopped, or whose context is faulted or aborted, ends at once (R204). -/
def timeOver (u : ChurnRun) : Bool :=
  let c := cycles u
  (decide (c.1 + c.2 ≤ u.ran) && decide (8 * c.1 ≤ u.served)) || u.stop.isSome || u.status % 32 == 16

/-- Cycles pass: a run goes on in the window of the governor's share, as memory serves it. -/
def tick (s : State) (n : Nat) : State :=
  { s with churns := SMap.mapVals (fun _ x => { x with run := x.run.map (fun u => { u with
      ran := u.ran + (if Issue.windowOpen s (Issue.vectorShare (Issue.level s)) then n else 0),
      served := u.served + n * Issue.servedNow s (if u.desc.opt == 5 then u.desc.wIn else u.desc.g) }) }) s.churns }

/-- The 32 bytes of a report (R201) for the elements that were carried out. -/
def report (u : ChurnRun) (es : List ChurnElem) (status : Nat) (digest : W64) (written : Nat) : Bytes :=
  let sat := (es.filter (·.sat)).length
  let nf := (es.filter (·.nonfinite)).length
  let st := status + (if 0 < sat || u.satOther then 32 else 0) + (if 0 < nf then 64 else 0)
  le 4 u.desc.seq ++ le 1 st ++ le 1 u.ring ++ zeros 2 ++ le 4 u.sumsq.toNat ++ le 4 sat ++ le 4 nf ++ le 4 written ++ le 8 digest.toNat

/-- A run as its report tells it: one of OPT 4 that an abort stopped has no result (R201, R204). -/
def told (u : ChurnRun) : ChurnRun := if u.stop.isSome && u.desc.opt == 4 then { u with sumsq := 0, satOther := false } else u

/-- A finished descriptor: its elements, its digest, its report, its flag action, and the next number of its ring. What lies outside storage
of a written region or of REPORT is not stored, and the descriptor ends as it does otherwise: the manual names no error there (DESIGN
CHOICE, notes/assumptions/37.md). -/
def finishRun (s : State) (n : Nat) (u : ChurnRun) : State :=
  let d := u.desc
  let q := requester n d
  let groups := ceilDiv u.elems.length 32
  let es := match u.stop with | some v => u.elems.take (32 * (v % (groups + 1))) | none => u.elems
  let status := if u.stop.isSome then 16 else u.status
  let done := status % 32 == 1
  let mix := (es.map (·.mix)).foldl (· + ·) u.extraMix
  let digest := if d.opt == 6 then u.digest else if done && updates d then mix else 0
  let ws := es.flatMap (·.writes) ++ (if done then u.extra else [])
  let s1 := ws.foldl (fun acc w => Mem.store' acc w.1 w.2 q) s
  let s2 := if done && updates d then { s1 with dacc := SMap.ins s1.dacc d.dacc (SMap.val 0#64 s1.dacc d.dacc + mix) } else s1
  let wrote := if updates d || d.opt == 5 then es.length else 0
  let s2a := if status % 32 == 8 then setFail s2 d.ctx 7 else s2
  let s3 := Mem.store' s2a d.report (report (told u) es status digest wrote) q
  let s4 := if status % 32 == 16 then s3
    else FlagOps.arrive s3 d.fcore d.flag (if d.fact == 3 then 0 else d.fact)
      { module := moduleId s3, core := n, ctx := d.ctx, src := FlagOps.srcKind 2 }
  let x := churn s4 n
  setChurn s4 n { x with run := none, lastRing := u.ring, next := SMap.ins x.next u.ring ((nextOf x u.ring + 1) % 4294967296) }

/-- CHURN_DESCRIPTOR_FINISH: the running descriptor ends, no sooner than R199 allows. A ready descriptor whose context is faulted or aborted
finishes at once (R204), and one with a reserved OPT, which has no start of its own, is BAD and finishes here; a fenced module takes up
no further one (R385). -/
def finish (s : State) (n : Nat) : State :=
  let x := churn s n
  match x.run with
  | some u => if Order.turn 1 s && timeOver u then finishRun s n u else s
  | none =>
    match chosen x with
    | some r =>
      let d := headDesc x r
      if !Order.turn 1 s || fenced s then s
      else if dead s d.ctx then finishRun s n (emptyRun r d 16)
      else if 7 ≤ d.opt then finishRun s n (emptyRun r d 4)
      else s
    | none => s

/-- An abort stops the running descriptors of a context at a boundary of 32 elements (R204). -/
def abort (s : State) (c : Nat) : State :=
  { drawn s with churns := SMap.mapVals (fun _ x => { x with run := x.run.map (fun u =>
      if u.desc.ctx == c then { u with stop := some (Config.stopPoint s.free) } else u) }) s.churns }

/-! ## Meanings -/

/-- CHURN_SLOT_WRITE (R181). -/
def execChurnSlotWrite (addr : Nat) (data : Bytes) (s : State) : Host.Outcome State Fault Refusal :=
  .next (match Mem.locate addr with
    | .churn n o => let r := slotWrite s n o data; emit r.1 (.answer r.2 [])
    | _ => s)

/-- SGD_MOMENTUM (R193). -/
def execSgdMomentum (n r : Nat) (hits : List CodeHit) (s : State) : Host.Outcome State Fault Refusal := .next (start s n r 0 hits)

/-- ADAM (R193). -/
def execAdam (n r : Nat) (hits : List CodeHit) (s : State) : Host.Outcome State Fault Refusal := .next (start s n r 1 hits)

/-- FACTORED_SECOND_MOMENT (R194). -/
def execFactoredSecondMoment (n r : Nat) (hits : List CodeHit) (s : State) : Host.Outcome State Fault Refusal := .next (start s n r 2 hits)

/-- SIGN_MOMENTUM (R193). -/
def execSignMomentum (n r : Nat) (hits : List CodeHit) (s : State) : Host.Outcome State Fault Refusal := .next (start s n r 3 hits)

/-- SUMSQ (R195). -/
def execSumsq (n r : Nat) (hits : List CodeHit) (s : State) : Host.Outcome State Fault Refusal := .next (start s n r 4 hits)

/-- CAST (R198). -/
def execCast (n r : Nat) (hits : List CodeHit) (s : State) : Host.Outcome State Fault Refusal := .next (start s n r 5 hits)

/-- CHURN_DIGEST (R206). -/
def execChurnDigest (n r : Nat) (s : State) : Host.Outcome State Fault Refusal := .next (start s n r 6 [])

/-- CHURN_DESCRIPTOR_FINISH (R202). -/
def execChurnDescriptorFinish (n : Nat) (s : State) : Host.Outcome State Fault Refusal := .next (finish s n)

end Sys2Proof.Machine.ChurnOps
end

