-- ==== Sys2Proof/Machine/FlagWindow.lean ====
section
/-! DEFINITION. The flag window of a logical core (R261, R262): FLG_ACT, the trace selector, attributes, and every byte of the
window as it reads. -/

namespace Sys2Proof.Machine.FlagWindow

open Bits Ops Report

/-- The host as an acting party (R262). -/
def hostParty (s : State) : Party := { module := moduleId s, core := 0, ctx := 255, src := FlagOps.srcKind 4 }

/-- A write to FLG_ACT (R261): the action, or an error completion for FACT 0b11. -/
def actWrite (s : State) (q : Nat) (v : W64) (p : Party) : State × Nat :=
  let fact := field v.toNat 15 14
  if fact == 3 then (s, Status.refused) else (FlagOps.arrive s q (field v.toNat 12 0) fact p, 0)

/-- The bytes of 8,192 flags, 8 to a byte. -/
def valueBytes (m : SMap Bool) (q : Nat) (b n : Nat) : Bytes :=
  (List.range n).map (fun i => BitVec.ofNat 8 (ofBits ((List.range 8).filter (fun j => SMap.val false m (8192 * q + 8 * (b + i) + j)))))

/-- The streams of a core that are blocked on a flag, as slot and stream (R262). Contexts that wait have no slot and count for
WAITERS only. -/
def waiters (s : State) (q f : Nat) : List (Option Nat × Nat) :=
  s.ctxs.flatMap (fun p =>
    if usesCore p.2 q then
      let k := onCore p.2 q
      (List.range 4).filterMap (fun t => match (streamOf k t).wait with
        | some w => if w.flag ≤ f ∧ f < w.flag + w.count then some (k.slot, t) else none
        | none => none)
    else [])

/-- The bytes that name a party (R262), valid bit in bit 15 of the module. -/
def partyBytes (p : Option Party) : Bytes :=
  match p with
  | some x => le 2 (x.module + 32768) ++ le 1 x.core ++ le 1 x.ctx ++ le 1 x.src
  | none => zeros 5

/-- The 32 bytes of FLG_TRACE (R262); WAITERS stops at 31, the most its five bits hold (DESIGN CHOICE, notes/assumptions/81.md). -/
def traceBytes (s : State) (q : Nat) : Bytes :=
  let f := SMap.val 0 s.flags.traceSel q
  let t := FlagOps.trace s q f
  let w := waiters s q f
  let map := ofBits (w.filterMap (fun x => x.1.map (fun sl => 4 * sl + x.2)))
  partyBytes t.sig ++ le 1 (min 31 w.length + (if FlagOps.value s q f then 128 else 0)) ++ le 2 map ++ le 8 t.sigTime ++
    partyBytes t.clr ++ zeros 1 ++ le 2 t.ovr ++ le 8 t.clrTime

/-- The 16 bits of a flag's attributes (R252). -/
def attrCode (a : FlagAttr) : Nat := a.owner + (if a.policy then 256 else 0) + (if a.stepped then 1024 else 0)

/-- Attributes from their 16 bits. -/
def attrOf (x : Nat) : FlagAttr := { stepped := bit x 10, policy := bit x 8, owner := field x 7 0 }

/-- The attributes of a flag as the window reads them: those last written (R258). -/
def shownAttr (s : State) (q f : Nat) : FlagAttr := (SMap.look s.flags.newAttrs (FlagOps.key q f)).getD (FlagOps.attr s q f)

/-- The byte at an offset of a flag window; none where the window is unmapped (R261). FLG_TRACE shows the end of the cycle (R262). -/
def byteAt (s : State) (q o : Nat) : Option Byte :=
  if o < 0x400 then (valueBytes s.flags.vals q o 1).head?
  else if o < 0x408 then some 0
  else if o < 0x410 then (le 8 (SMap.val 0 s.flags.traceSel q))[o - 0x408]?
  else if o < 0x418 then (le 8 (SMap.val 0 s.flags.ovrCount q))[o - 0x410]?
  else if 0x420 ≤ o ∧ o < 0x440 then (traceBytes (Issue.endCycle s) q)[o - 0x420]?
  else if 0x800 ≤ o ∧ o < 0xC00 then (valueBytes s.flags.copies q (o - 0x800) 1).head?
  else if 0x4000 ≤ o ∧ o < 0x8000 then (le 2 (attrCode (shownAttr s q ((o - 0x4000) / 2))))[o % 2]?
  else none

/-- A read of a flag window: none where a byte is unmapped or an access size is not accepted (R261). -/
def read (s : State) (q o n : Nat) : Option Bytes :=
  if decide (o < 0x410 ∧ 0x400 < o + n) && (n != 8 || o % 8 != 0) then none
  else (List.range n).mapM (fun i => byteAt s q (o + i))

/-- Write attributes, two bytes each, to both cores of a redundant pair (R362); an action of the same cycle still uses the old ones (R258). -/
def writeAttrs : Nat → State → Nat → Nat → Bytes → State
  | 0, s, _, _, _ => s
  | n + 1, s, q, f, b =>
    let a := attrOf (ofLe (b.take 2))
    let keys := FlagOps.key q f :: (match partner s q with | some k => [FlagOps.key k f] | none => [])
    let s1 := modFlags s (fun x => { x with newAttrs := keys.foldl (fun m k => SMap.ins m k a) x.newAttrs })
    writeAttrs n s1 q (f + 1) (b.drop 2)

/-- A part of the window is mapped (R261). -/
def mapped (o : Nat) : Bool :=
  decide (o < 0x418) || decide (0x420 ≤ o ∧ o < 0x440) || decide (0x800 ≤ o ∧ o < 0xC00) || decide (0x4000 ≤ o ∧ o < 0x8000)

/-- A write to a flag window: status 0 accepted, UNMAPPED as 2 of R271, or an error completion. -/
def write (s : State) (q o : Nat) (data : Bytes) (p : Party) : State × Nat :=
  let n := data.length
  if o == 0x400 && n == 8 then actWrite s q (BitVec.ofNat 64 (ofLe data)) p
  else if o == 0x408 && n == 8 then
    (modFlags s (fun x => { x with traceSel := SMap.put 0 x.traceSel q (field (ofLe data) 12 0) }), 0)
  else if 0x4000 ≤ o ∧ o + n ≤ 0x8000 ∧ o % 2 = 0 ∧ n % 2 = 0 then (writeAttrs (n / 2) s q ((o - 0x4000) / 2) data, 0)
  else if !mapped o then (countUnmapped s, 2)
  else (s, Status.refused)

/-! ## Meanings -/

/-- A FLG_ACT write by the host whose FACT is the row's, answered (R261), in its place among the flag actions of its cycle (R256); the partner
core of a redundant pair refuses it (R362), and a host whose requests are not served is told so (R449). -/
def hostAct (s : State) (core : Nat) (v : W64) (fact : Nat) : State :=
  if !Order.turn 3 s || field v.toNat 15 14 != fact then s
  else if isPartner s core then fromHost s (emit s (.answer 2 []))
  else
    let r := actWrite s core v (hostParty s)
    fromHost s (emit r.1 (.answer (hostStatus r.2) []))

/-- FLG_ACT_SET (R261). -/
def execFlgActSet (core : Nat) (v : W64) (s : State) : Host.Outcome State Fault Refusal := .next (hostAct s core v 1)

/-- FLG_ACT_CLEAR (R261). -/
def execFlgActClear (core : Nat) (v : W64) (s : State) : Host.Outcome State Fault Refusal := .next (hostAct s core v 2)

/-- FLG_ACT_NONE (R261). -/
def execFlgActNone (core : Nat) (v : W64) (s : State) : Host.Outcome State Fault Refusal := .next (hostAct s core v 0)

end Sys2Proof.Machine.FlagWindow
end

