-- ==== Sys2Proof/Machine/Hive.lean ====
section
/-! DEFINITION. The Hive (R238 to R251): appending to queues in arrival and sequenced mode, reading, marking, commands, the
queue record, the pool's status words, and what a vote result does to the queues of a context. -/

namespace Sys2Proof.Machine.HiveOps

open Bits Ops Report

def hive (s : State) (n : Nat) : Hive := SMap.val {} s.hives n
def setHive (s : State) (n : Nat) (h : Hive) : State := { s with hives := SMap.ins s.hives n h }
def queue (h : Hive) (q : Nat) : Queue := SMap.val {} h.queues q
def setQueue (h : Hive) (q : Nat) (x : Queue) : Hive := { h with queues := SMap.ins h.queues q x }

/-- Statuses of the Hive that R474 does not code. -/
def duplicate : Nat := 0x40
def emptyStatus : Nat := 0x41

/-- Held and pending cells (R244). -/
def occupancy (x : Queue) : Nat := x.held.length + x.pend.length

/-- MODE bit 0 (R245). -/
def sequenced (x : Queue) : Bool := bit x.mode 0

/-- The step protocol governs the queue: its owner is a defined stepped context (R250). -/
def governed (s : State) (x : Queue) : Bool := match ctx? s x.owner with | some c => stepped c | none => false

/-- STEP_REWIND and STEP_TRUNCATE in effect (R250). -/
def stepRewind (s : State) (x : Queue) : Bool := bit x.mode 1 && governed s x
def stepTruncate (s : State) (x : Queue) : Bool := bit x.mode 2 && governed s x

/-! ## The pool (R238) -/

/-- The numbers of the cells in queues. -/
def usedCells (h : Hive) : List Nat :=
  h.queues.flatMap (fun q => q.2.held.map (·.idx) ++ q.2.pend.map (fun p => p.2.idx))

/-- The first number from v on, in circular order, that is not in a list; fuel of one more than the list's length suffices. -/
def nextFree (used : List Nat) : Nat → Nat → Nat
  | 0, v => v % 65536
  | n + 1, v => if used.contains (v % 65536) then nextFree used n (v + 1) else v % 65536

/-- Take k cells from the pool: their numbers are free values (R238). -/
def takeCells (h : Hive) : Nat → Nat → List Nat → List Nat
  | 0, _, acc => acc
  | k + 1, draw, acc =>
    let used := acc ++ usedCells h
    takeCells h k (draw + 1) (acc ++ [nextFree used (used.length + 1) (Config.freeCell draw)])

/-- Return m cells to the pool. -/
def freeCells (h : Hive) (m : Nat) : Hive := { h with free := h.free + m }

/-! ## Appending (R247, R248) -/

/-- Position p of the port as a distance from TAIL: the sequence s from TAIL to TAIL + 31 with s mod 32 = p. -/
def distOf (x : Queue) (p : Nat) : Nat := (p + 32 - x.tail % 32) % 32

/-- The positions of a sequenced write of k cells at an offset. -/
def positions (x : Queue) (off k : Nat) : List Nat := (List.range k).map (fun j => distOf x (off / 64 + j))

/-- Pending cells at TAIL become visible, as long as they are contiguous (R248). -/
def settle : Nat → Queue → Queue
  | 0, x => x
  | n + 1, x =>
    match SMap.look x.pend 0 with
    | none => x
    | some c => settle n { x with held := x.held ++ [c], tail := (x.tail + 1) % 4294967296,
                                  pend := (SMap.del x.pend 0).map (fun p => (p.1 - 1, p.2)) }

/-- The condition under which a write of a queue's push area is refused, the first that applies (R247); none: accepted. -/
def refusal (h : Hive) (x : Queue) (off : Nat) (len : Nat) : Option Nat :=
  let k := len / 64
  if x.cap == 0 then some Status.disabled
  else if len % 64 != 0 || k == 0 || decide (8 < k) || off % 64 != 0 || decide (0x800 ≤ off) then some Status.refused
  else if sequenced x && decide (0x800 < off + len) then some Status.refused
  else if sequenced x && (positions x off k).any (fun d => (SMap.look x.pend d).isSome) then some duplicate
  else if decide (x.cap < occupancy x + k) then some Status.quota
  else if decide (h.free < k) then some Status.poolFull
  else none

/-- The cells of an accepted write: number, 64 bytes, check-value nibble and place in the block (R240, R289). -/
def cells (h : Hive) (draw : Nat) (data : Bytes) (check : W32) : List Cell :=
  let k := data.length / 64
  ((takeCells h k draw []).zip (pieces 64 data)).zipIdx.map (fun p =>
    { idx := p.1.1, data := p.1.2, nibble := field check.toNat (4 * p.2 + 3) (4 * p.2), pos := p.2, size := k })

/-- A write to the push area of a queue (R247, R248): the state and the status, 0 when accepted. -/
def push (s : State) (n q off : Nat) (data : Bytes) (check : W32) : State × Nat :=
  let h := hive s n
  let x := queue h q
  match refusal h x off data.length with
  | some st => (setHive s n { h with refused := min 4294967295 (h.refused + 1) }, st)
  | none =>
    let k := data.length / 64
    let cs := cells h s.free data check
    let x1 := if sequenced x then
        settle 32 { x with pend := ((positions x off k).zip cs).foldl (fun m p => SMap.ins m p.1 p.2) x.pend }
      else { x with held := x.held ++ cs, tail := (x.tail + k) % 4294967296 }
    let h1 := { h with free := h.free - k, lowFree := min h.lowFree (h.free - k),
                       view := cs.foldl (fun m c => SMap.ins m c.idx c.data) h.view }
    (setHive { s with free := s.free + k } n (setQueue h1 q x1), 0)

/-! ## Reading (R249) -/

/-- The cells from CUR on, k of them. -/
def nextCells (x : Queue) (k : Nat) : List Cell := (x.held.drop (dist32 x.cur x.head)).take k

/-- A read of the take area (`move`) or the peek area: the state, the status and the cells. -/
def read (s : State) (n q len : Nat) (move : Bool) : State × Nat × List Cell :=
  let h := hive s n
  let x := queue h q
  let k := len / 64
  if x.cap == 0 then (s, Status.disabled, [])
  else if len % 64 != 0 || k == 0 || decide (8 < k) then (s, Status.refused, [])
  else if decide (dist32 x.tail x.cur < k) then (setHive s n { h with empty := min 4294967295 (h.empty + 1) }, emptyStatus, [])
  else
    let cs := nextCells x k
    (if move then setHive s n (setQueue h q { x with cur := (x.cur + k) % 4294967296 }) else s, 0, cs)

/-- Bytes of cells. -/
def bytesOf (cs : List Cell) : Bytes := cs.flatMap (·.data)

/-- The nibbles of cells, the first lowest. -/
def nibblesOf (cs : List Cell) : W32 := BitVec.ofNat 32 ((cs.zipIdx.map (fun p => p.1.nibble * 16 ^ p.2)).foldl (· + ·) 0)

/-- The nibbles of cells, one each. -/
def nibbleList (cs : List Cell) : List Nat := cs.map (·.nibble)

/-- Eight cells that arrived as one block (R289). -/
def wholeBlock (cs : List Cell) : Bool := cs.length == 8 && (cs.zipIdx.all (fun p => p.1.size == 8 && p.1.pos == p.2))

/-- The blocks of which all cells are among these (R289); the other cells cannot be verified. -/
def blocksOf (cs : List Cell) : List (List Cell) :=
  cs.zipIdx.filterMap (fun p =>
    let blk := (cs.drop p.2).take p.1.size
    if p.1.pos == 0 && blk.length == p.1.size && blk.zipIdx.all (fun b => b.1.pos == b.2 && b.1.size == p.1.size) then some blk else none)

/-- The blocks that do not agree with the nibbles their cells hold (R289, R290). -/
def failedBlocks (cs : List Cell) : List (List Cell) :=
  (blocksOf cs).filter (fun blk => nibblesOf blk != BitVec.ofNat 32 ((crc (bytesOf blk)).toNat % 16 ^ blk.length))

/-! ## Commands (R246) -/

/-- Cells from HEAD to MARK - 1 return to the free list. -/
def releaseQueue (h : Hive) (q : Nat) : Hive :=
  let x := queue h q
  let m := dist32 x.mark x.head
  freeCells (setQueue h q { x with held := x.held.drop m, head := x.mark }) m

/-- MARK = CUR. -/
def markQueue (h : Hive) (q : Nat) : Hive := let x := queue h q; setQueue h q { x with mark := x.cur }

/-- CUR = MARK. -/
def rewindQueue (h : Hive) (q : Nat) : Hive := let x := queue h q; setQueue h q { x with cur := x.mark }

/-- Every held and pending cell returns to the free list, and every pointer takes TAIL. -/
def resetQueue (h : Hive) (q : Nat) : Hive :=
  let x := queue h q
  freeCells (setQueue h q { x with held := [], pend := [], head := x.tail, mark := x.tail, cur := x.tail, stail := x.tail }) (occupancy x)

/-- A command of R246 with the rest of its word; none: refused. -/
def command (s : State) (n q cmd rsvd : Nat) : Option State :=
  let h := hive s n
  let step := stepRewind s (queue h q)
  if rsvd != 0 then none
  else match cmd with
    | 0x01 => if step then none else some (setHive s n (markQueue h q))
    | 0x02 => some (setHive s n (rewindQueue h q))
    | 0x03 => if step then none else some (setHive s n (releaseQueue h q))
    | 0x04 => if step then none else some (setHive s n (releaseQueue (markQueue h q) q))
    | 0x05 => some (setHive s n (resetQueue h q))
    | _ => none

/-- The answer to the master of a command or a record write: accepted or an error completion. -/
def answerTo (s : State) (r : Option State) : State :=
  match r with
  | some s1 => emit s1 (.answer 0 [])
  | none => emit s (.answer Status.refused [])

/-- A write to word 2 of a queue record (R245); none: refused. -/
def config (s : State) (n q : Nat) (v : W64) : Option State :=
  let h := hive s n
  let x := queue h q
  let mode := field v.toNat 23 16
  if occupancy x != 0 || decide (8 ≤ mode) || (bit mode 2 && !bit mode 1) then none
  else some (setHive s n (setQueue h q
    { x with cap := field v.toNat 15 0, mode := mode, owner := field v.toNat 31 24, mark := x.tail, stail := x.tail }))

/-! ## The window as it reads (R241, R242, R245) -/

/-- The 32 bytes of a queue record. -/
def recordBytes (x : Queue) : Bytes :=
  le 4 x.head ++ le 4 x.mark ++ le 4 x.cur ++ le 4 x.tail ++ le 2 x.cap ++ le 1 x.mode ++ le 1 x.owner ++ le 4 x.stail ++
    le 4 (ofBits (x.pend.map (·.1))) ++ zeros 4

/-- The 40 bytes of the pool status words. -/
def poolBytes (h : Hive) : Bytes := le 8 h.free ++ le 8 h.lowFree ++ le 8 h.ce ++ le 8 h.refused ++ le 8 h.empty

/-- The 64 stored bytes of a cell. -/
def cellBytes (h : Hive) (i : Nat) : Bytes := padTo 64 (SMap.val (zeros 64) h.view i)

/-! ## The step protocol (R250) -/

/-- Truncation: every cell from STAIL onward returns to the free list. -/
def truncate (h : Hive) (q : Nat) : Hive :=
  let x := queue h q
  let keep := dist32 x.stail x.head
  let gone := x.held.length - keep + x.pend.length
  freeCells (setQueue h q { x with held := x.held.take keep, pend := [], tail := x.stail }) gone

/-- One queue at a vote result: 1 commit, 2 replay, others nothing. -/
def queueResult (s : State) (h : Hive) (q r : Nat) : Hive :=
  let x := queue h q
  if !stepRewind s x then h
  else if r == 1 then
    let h1 := releaseQueue (markQueue h q) q
    let y := queue h1 q
    setQueue h1 q { y with stail := y.tail }
  else if r == 2 then
    let h1 := rewindQueue h q
    if stepTruncate s x then truncate h1 q else h1
  else h

/-- Every queue whose OWNER is a context, at that context's vote result. -/
def applyResult (s : State) (c r : Nat) : State :=
  { s with hives := SMap.mapVals (fun _ h =>
      (h.queues.filter (fun p => p.2.owner == c)).foldl (fun acc p => queueResult s acc p.1 r) h) s.hives }

/-! ## Codes (R239) -/

/-- A corrected word is written back and counted. -/
def countCe (s : State) (n : Nat) : State :=
  let h := hive s n
  addCorrected (setHive s n { h with ce := min 4294967295 (h.ce + 1) }) 1

/-- An uncorrectable word: class 0x04 names the cluster, the queue, the cell and the requester. -/
def cellError (s : State) (n q cell unit ctx : Nat) : State :=
  raise s { cls := 0x04, unit := unitCode 6 n, ctx := ctx, detail := detail [(40, le 2 unit), (42, le 2 q), (44, le 4 cell)] } 4

/-- A scrub read. -/
def scrub (s : State) (n q cell : Nat) (ecc : Ecc) : State :=
  match ecc with
  | .corrected => countCe s n
  | .uncorrectable => cellError s n q cell (unitCode 6 n) 255
  | _ => s

/-- The queue that holds a cell, 0 for a free one. -/
def queueOf (h : Hive) (cell : Nat) : Nat :=
  match h.queues.find? (fun q => q.2.held.any (fun c => c.idx == cell) || q.2.pend.any (fun p => p.2.idx == cell)) with
  | some q => q.1
  | none => 0

/-- Queue and cell that offset o names in a read from offset base: the cells of a port's queue follow one another from CUR, a record names
its queue, the view a cell. -/
def named (h : Hive) (base o : Nat) : Nat × Nat :=
  if base < 0x800000 then (base / 0x1000, match (nextCells (queue h (base / 0x1000)) 8)[(o - base) / 64]? with | some c => c.idx | none => 0)
  else if base < 0x810000 then ((o - 0x800000) / 32, 0)
  else (queueOf h ((o - 0xC00000) / 64), (o - 0xC00000) / 64)

/-- What the codes report as len bytes are read from an offset of a window: corrections are counted, and each word that cannot be
corrected is one error; true when there is one, and the read receives an error completion. -/
def reports (s : State) (n base len : Nat) (hits : List CodeHit) (unit ctx : Nat) : State × Bool :=
  hits.foldl (fun acc h => match Mem.locate h.addr, h.ecc with
    | .hive k o, .corrected => if k == n && decide (base ≤ o ∧ o < base + len) then (countCe acc.1 n, acc.2) else acc
    | .hive k o, .uncorrectable =>
      if k == n && decide (base ≤ o ∧ o < base + len) then
        let x := named (hive s n) base o
        (cellError acc.1 n x.1 x.2 unit ctx, true)
      else acc
    | _, _ => acc) (s, false)

/-- A read of the take or the peek area of a queue port (R243, R249), after the appends of its cycle (R251). -/
def portRead (s : State) (n q len : Nat) (move : Bool) (hits : List CodeHit) : State :=
  if !Order.appended s n q then s else
  let r := reports s n (0x1000 * q + (if move then 0x800 else 0xC00)) len hits (unitCode 9 0) 255
  if r.2 then emit r.1 (.cells Status.refused [] [])
  else
    let x := read r.1 n q len move
    emit x.1 (.cells x.2.1 (bytesOf x.2.2) (nibbleList x.2.2))

/-! ## Meanings -/

/-- HIVE_PUSH (R247, R248). -/
def execHivePush (n q off : Nat) (data : Bytes) (check : W32) (s : State) : Host.Outcome State Fault Refusal :=
  let r := push s n q off data check
  .next (emit r.1 (.answer r.2 []))

/-- HIVE_TAKE (R249). -/
def execHiveTake (n q : Nat) (x : PortRead) (s : State) : Host.Outcome State Fault Refusal := .next (portRead s n q x.len true x.hits)

/-- HIVE_PEEK (R249). -/
def execHivePeek (n q : Nat) (x : PortRead) (s : State) : Host.Outcome State Fault Refusal := .next (portRead s n q x.len false x.hits)

/-- QUEUE_CONFIG_WRITE (R245). -/
def execQueueConfigWrite (n q : Nat) (v : W64) (s : State) : Host.Outcome State Fault Refusal := .next (answerTo s (config s n q v))

/-- MARK (R246). -/
def execHiveMark (n q rsvd : Nat) (s : State) : Host.Outcome State Fault Refusal := .next (answerTo s (command s n q 0x01 rsvd))

/-- REWIND (R246). -/
def execRewind (n q rsvd : Nat) (s : State) : Host.Outcome State Fault Refusal := .next (answerTo s (command s n q 0x02 rsvd))

/-- RELEASE (R246). -/
def execRelease (n q rsvd : Nat) (s : State) : Host.Outcome State Fault Refusal := .next (answerTo s (command s n q 0x03 rsvd))

/-- ADVANCE (R246). -/
def execAdvance (n q rsvd : Nat) (s : State) : Host.Outcome State Fault Refusal := .next (answerTo s (command s n q 0x04 rsvd))

/-- RESET (R246). -/
def execHiveReset (n q rsvd : Nat) (s : State) : Host.Outcome State Fault Refusal := .next (answerTo s (command s n q 0x05 rsvd))

/-- HIVE_PATROL_SCRUB (R239). -/
def execHivePatrolScrub (n q cell : Nat) (ecc : Ecc) (s : State) : Host.Outcome State Fault Refusal := .next (scrub s n q cell ecc)

end Sys2Proof.Machine.HiveOps
end

