-- ==== Sys2Proof/Machine/RegMode.lean ====
section
/-! DEFINITION. Register mode of the vector engine (R151 to R155, R516): its registers, program, digest, and the instructions
that run in it. -/

namespace Sys2Proof.Machine.RegMode

open Bits Ops Numeric Operand VecMath

def core (s : State) (k : Nat) : RmCore := SMap.val {} s.rm k
def setCore (s : State) (k : Nat) (x : RmCore) : State := { s with rm := SMap.ins s.rm k x }

/-- The 256 lanes of a register; what it holds before the program writes it is open (R155). -/
def reg (x : RmCore) (v : Nat) : List W32 :=
  match SMap.look x.regs v with
  | some l => l
  | none => (List.range 256).map (Config.rmLane x.draw v)

def setReg (x : RmCore) (v : Nat) (l : List W32) : RmCore := { x with regs := SMap.ins x.regs v l }

/-- The 64 bits of an instruction word (R152) with a given code. -/
def encode (op : Nat) (w : RmWord) : W64 :=
  BitVec.ofNat 64 (op % 256 <<< 56 ||| (w.vd % 32) <<< 51 ||| (w.va % 32) <<< 46 ||| (w.vb % 32) <<< 41 ||| (w.vc % 32) <<< 36 |||
    (if w.ovf then 2 ^ 35 else 0) ||| (if w.int then 2 ^ 34 else 0) ||| (w.rsvd % 4) <<< 32 ||| w.imm.toNat)

/-- The program stops with the fail bit set (R153). -/
def stopFail (x : RmCore) : RmCore := { x with fail := true, halted := true, running := false, loop := none }

/-- The program counter after an instruction, and the loop being run (R153). -/
def nextPc (x : RmCore) : RmCore :=
  let p := x.pc + 1
  match x.loop with
  | some (first, len, left) =>
    if p == first + len then (if 1 < left then { x with pc := first, loop := some (first, len, left - 1) } else { x with pc := p, loop := none })
    else { x with pc := p }
  | none => { x with pc := p }

/-- A program runs. -/
def active (x : RmCore) : Bool := x.mode && x.running

/-- The word of an instruction stands at the program counter of a running program. -/
def stands (x : RmCore) (op : Nat) (w : RmWord) : Bool := active x && decide (x.pc < 2048) && x.program.getD x.pc 0 == encode op w

/-- An instruction runs when its word stands at the program counter of a running program; an effect of `none` is an illegal
code, address or reserved field, which stops the program (R153). A word that was never loaded is zero, which is no code; a program counter
past the 2,048 words stops the program in the same way (DESIGN CHOICE, notes/assumptions/31.md). -/
def run (s : State) (k op : Nat) (w : RmWord) (f : RmCore → Option RmCore) : State :=
  let x := core s k
  if active x && decide (2048 ≤ x.pc) then setCore s k (stopFail x)
  else if stands x op w then
    match (if w.rsvd % 4 != 0 then none else f x) with
    | some y => setCore s k (nextPc y)
    | none => setCore s k (stopFail x)
  else s

/-! ## Lane operations (R153) -/

/-- A lane as a value of the domain. -/
def lane (int : Bool) (c : W32) : Val := if int then ofInt (toSigned 32 c.toNat) else fp32.decode c.toNat

/-- A raw result as a lane. -/
def ofRaw : Raw → W32
  | .f32 c _ => BitVec.ofNat 32 c
  | .int x _ => BitVec.ofNat 32 (signed 32 x)
  | .bad => 0

/-- The codes with a float form and those with an integer form among 0x01 to 0x2C (R133). A code that has no form in the domain INT selects
is an illegal code (DESIGN CHOICE, notes/assumptions/31.md). -/
def floatCode (op : Nat) : Bool :=
  decide (1 ≤ op ∧ op ≤ 0x0D) || decide (0x10 ≤ op ∧ op ≤ 0x13) || decide (0x18 ≤ op ∧ op ≤ 0x24) || decide (0x28 ≤ op ∧ op ≤ 0x2C)
def intCode (op : Nat) : Bool :=
  decide (1 ≤ op ∧ op ≤ 3) || decide (6 ≤ op ∧ op ≤ 9) || decide (0x0A ≤ op ∧ op ≤ 0x0D) || decide (0x20 ≤ op ∧ op ≤ 0x23) ||
  op == 0x28 || decide (0x2A ≤ op ∧ op ≤ 0x2C)

/-- CVT: lanes converted to a format that is not MX and packed from byte 0 (R153, R95). -/
def convert (fmt : Nat) (ovf : Bool) (ls : List W32) : Option (List W32) :=
  if isMx fmt || decide (13 ≤ fmt) then none
  else
    let w := width fmt
    let n := ls.zipIdx.foldl (fun acc p => acc + ((fromF32 fmt ovf p.1.toNat false).code % 2 ^ w) <<< (w * p.2)) 0
    some ((List.range 256).map (fun l => BitVec.ofNat 32 (n >>> (32 * l))))

/-- RM_LANE_OP: a code of R133 from 0x01 to 0x2C, lane by lane, in the domain INT selects. SELECT takes a lane of VC as nonzero when any of its
bits is set, also -0; CVT takes IMM[31:4] as it comes (DESIGN CHOICE, notes/assumptions/31.md). -/
def laneOp (w : RmWord) (x : RmCore) : Option RmCore :=
  let op := w.op
  let a := reg x w.va
  let b := reg x w.vb
  let c := reg x w.vc
  if op == 0x0A then (convert (w.imm.toNat % 16) w.ovf a).map (setReg x w.vd)
  else if !(if w.int then intCode op else floatCode op) then none
  else
    let v := lane w.int
    let out :=
      if op == 0x0B then (a.zip (b.zip c)).map (fun p => ofRaw (moveVal w.int w.ovf (v (if p.2.2 != 0 then p.1 else p.2.1))))
      else if op == 0x0C then List.replicate 256 (ofRaw (moveVal w.int w.ovf (v w.imm)))
      else if op == 0x0D then (List.range 256).map (fun (l : Nat) => ofRaw (moveVal w.int w.ovf (ofInt l)))
      else if decide (0x20 ≤ op ∧ op ≤ 0x24) then (a.zip b).map (fun p => if compare' op (v p.1) (v p.2) then 1 else 0)
      else if decide (0x28 ≤ op) then
        (((reduce w.int op w.ovf (a.zipIdx.map (fun p => (v p.1, p.2)))).1.map ofRaw) ++ List.replicate 255 0)
      else (a.zip (b.zip c)).map (fun p => ofRaw (compute w.int op w.ovf (v p.1) (v p.2.1) (v p.2.2) (v w.imm)))
    some (setReg x w.vd out)

/-! ## The codes of register mode only (R153, R154) -/

/-- LDGEN: the generator of R114. -/
def ldgenOp (w : RmWord) (x : RmCore) : RmCore :=
  let y := setReg x w.vd ((List.range 256).map (fun l => srWord x.seed 0 w.imm (BitVec.ofNat 32 (256 * x.gens + l))))
  { y with gens := x.gens + 1 }

/-- Where an LD or ST window lies: an address of memory, or an offset of the scratchpad of a core without an active role. -/
inductive Window where
  | mem (a : Nat)
  | own (off : Nat)

/-- The 1,024 bytes at window base + IMM, when they lie in the core's scratchpad or its cluster's pantry (R153). -/
def window (s : State) (k : Nat) (x : RmCore) (imm : W32) : Option Window :=
  let a := x.win + imm.toNat
  if imm.toNat % 1024 != 0 || !Mem.inSram a 1024 then none
  else match Mem.locate a with
    | .pantry n _ => if n == k / 9 then some (.mem a) else none
    | .spad q o =>
      match logicalOf s k with
      | some l => if q == l then some (.mem a) else none
      | none => if q / 8 == k / 9 then some (.own o) else none
    | _ => none

/-- Lanes from 1,024 bytes, and back. -/
def lanesOf (b : Bytes) : List W32 := (List.range 256).map (fun l => BitVec.ofNat 32 (at' b (4 * l) 4))
def bytesOf (l : List W32) : Bytes := l.flatMap (fun w => le 4 w.toNat)

/-- The digest accumulator folded with a register (R154). -/
def fold (d : W64) (l : List W32) : W64 :=
  l.foldl (fun acc v => (acc.rotateLeft 5 ^^^ v.setWidth 64) * 0x9E3779B97F4A7C15#64) d

/-- The engine of a physical core as a requester. -/
def requester (s : State) (k : Nat) : Mem.Req := { unit := Report.unitCode 1 ((logicalOf s k).getD 0) }

/-- LD: a load error of the word read is raised under R150; `hits` is what the codes report (R224). -/
def ldOp (s0 : State) (k : Nat) (w : RmWord) (hits : List CodeHit) : State :=
  let s := if stands (core s0 k) 0x82 w then Mem.inject s0 hits (requester s0 k) else s0
  let x := core s k
  match window s k x w.imm with
  | some (.mem a) =>
    let b := Mem.bytesAt s a 1024
    run (if stands x 0x82 w then
          (Mem.load s a 1024 false (requester s k)).1 else s)
      k 0x82 w (fun y => some (setReg y w.vd (lanesOf b)))
  | some (.own o) =>
    run s k 0x82 w (fun y => some (setReg y w.vd (lanesOf ((List.range 1024).map (fun i => SMap.val 0 y.spad (o + i))))))
  | none => run s k 0x82 w (fun _ => none)

/-- ST. -/
def stOp (s0 : State) (k : Nat) (w : RmWord) (hits : List CodeHit) : State :=
  let s := if stands (core s0 k) 0x83 w then Mem.inject s0 hits (requester s0 k) else s0
  let x := core s k
  let b := bytesOf (reg x w.va)
  match window s k x w.imm with
  | some (.mem a) =>
    if stands x 0x83 w && w.rsvd % 4 == 0 then
      run (Mem.store' s a b (requester s k)) k 0x83 w some
    else run s k 0x83 w some
  | some (.own o) => run s k 0x83 w (fun y => some { y with spad := Mem.pokeCells y.spad o b })
  | none => run s k 0x83 w (fun _ => none)

/-- LOOP: the next IMM[27:16] words run IMM[15:0] times; with a count of 0 they are passed over. IMM[31:28] is not looked at (DESIGN CHOICE,
notes/assumptions/31.md). -/
def loopOp (w : RmWord) (x : RmCore) : Option RmCore :=
  let len := field w.imm.toNat 27 16
  let times := field w.imm.toNat 15 0
  if x.loop.isSome then none
  else if len == 0 then some x
  else if times == 0 then some { x with pc := x.pc + len }
  else some { x with loop := some (x.pc + 1, len, times) }

/-- HALT: the digest is reported and the program stops (R155). -/
def haltOp (s : State) (k : Nat) (w : RmWord) : State :=
  let x := core s k
  if stands x 0x88 w then
    if w.rsvd % 4 != 0 then setCore s k (stopFail x)
    else setCore s k { x with halted := true, running := false, digest := x.acc, loop := none }
  else s

/-- LOOP changes the counter itself, so the word after it is not a loop end. -/
def rmLoopOp (s : State) (k : Nat) (w : RmWord) : State :=
  let x := core s k
  if stands x 0x87 w then
    match (if w.rsvd % 4 != 0 then none else loopOp w x) with
    | some y => setCore s k { y with pc := y.pc + 1 }
    | none => setCore s k (stopFail x)
  else s

/-! ## VEC_RM_CTL (R151, R155, R516) -/

/-- The conditions of R151: the core has no active role, or has not yet been released after reset, no swap is moving a core onto it, and its
engine's stream operations have completed. -/
def mayEnter (s : State) (k : Nat) : Bool :=
  let toSpare := match SMap.look s.weevil.swaps (k / 9) with | some w => w.spare == k % 9 | none => false
  let idle := match logicalOf s k with | some q => (SMap.val [] s.vecq q : List VecOp).isEmpty | none => true
  ((logicalOf s k).isNone || s.dex.state == .bringup) && !toSpare && idle

/-- Enter register mode and start the program at word 0. -/
def enter (s : State) (k limit : Nat) : State :=
  let x := core s k
  setCore (drawn s) k { x with mode := true, limit := limit, fail := false, halted := false, regs := [], acc := 0, pc := 0, gens := 0,
                               loop := none, started := s.ns, running := true, draw := s.free }

/-- Leave register mode: the register contents are not kept. -/
def leave (x : RmCore) (limit : Nat) : RmCore := { x with mode := false, limit := limit, running := false, regs := [], loop := none }

/-- A write of VEC_RM_CTL, with whether it is accepted (R516). -/
def ctlWrite (s : State) (k : Nat) (v : W64) : State × Bool :=
  let x := core s k
  let limit := field v.toNat 63 40
  let want := bit v.toNat 0
  if limit == 0 || (x.mode && limit != x.limit) then (s, false)
  else if want then
    if x.mode then (s, true)
    else if mayEnter s k then (enter s k limit, true)
    else (setCore s k { x with limit := limit }, true)
  else (setCore s k (leave x limit), true)

/-- RM_MODE_SET: the Dexhorn controller loads the program memory and sets MODE. -/
def modeSet (s : State) (k : Nat) (v : W64) (program : List W64) : State :=
  if bit v.toNat 0 && decide (k < 72) then
    let x := core s k
    (ctlWrite (if x.mode then s else setCore s k { x with program := (program ++ x.program.drop program.length).take 2048 }) k v).1
  else s

/-- RM_MODE_CLEAR: the controller clears MODE. -/
def modeClear (s : State) (k : Nat) (v : W64) : State :=
  if !bit v.toNat 0 && decide (k < 72) then (ctlWrite s k v).1 else s

/-! ## Meanings -/

/-- RM_LANE_OP (R153): every code but those of register mode only, which have commands of their own. -/
def execRmLaneOp (k : Nat) (w : RmWord) (s : State) : Host.Outcome State Fault Refusal :=
  .next (if decide (0x80 ≤ w.op ∧ w.op ≤ 0x88) then s else run s k w.op w (laneOp w))

/-- LDI (R153). -/
def execLdi (k : Nat) (w : RmWord) (s : State) : Host.Outcome State Fault Refusal :=
  .next (run s k 0x80 w (fun x => some (setReg x w.vd (List.replicate 256 w.imm))))

/-- LDGEN (R153). -/
def execLdgen (k : Nat) (w : RmWord) (s : State) : Host.Outcome State Fault Refusal := .next (run s k 0x81 w (fun x => some (ldgenOp w x)))

/-- LD (R153). -/
def execLd (k : Nat) (w : RmMem) (s : State) : Host.Outcome State Fault Refusal := .next (ldOp s k w.word w.hits)

/-- ST (R153). -/
def execSt (k : Nat) (w : RmMem) (s : State) : Host.Outcome State Fault Refusal := .next (stOp s k w.word w.hits)

/-- RM_DIGEST (R154). -/
def execRmDigest (k : Nat) (w : RmWord) (s : State) : Host.Outcome State Fault Refusal :=
  .next (run s k 0x84 w (fun x => some { x with acc := fold x.acc (reg x w.va) }))

/-- CHKLO (R153). -/
def execChklo (k : Nat) (w : RmWord) (s : State) : Host.Outcome State Fault Refusal :=
  .next (run s k 0x85 w (fun x => some { x with fail := x.fail || x.acc.setWidth 32 != w.imm }))

/-- CHKHI (R153). -/
def execChkhi (k : Nat) (w : RmWord) (s : State) : Host.Outcome State Fault Refusal :=
  .next (run s k 0x86 w (fun x => some { x with fail := x.fail || (x.acc >>> 32).setWidth 32 != w.imm }))

/-- RM_LOOP (R153). -/
def execRmLoop (k : Nat) (w : RmWord) (s : State) : Host.Outcome State Fault Refusal := .next (rmLoopOp s k w)

/-- HALT (R155). -/
def execHalt (k : Nat) (w : RmWord) (s : State) : Host.Outcome State Fault Refusal := .next (haltOp s k w)

/-- RM_MODE_SET (R151, R516). -/
def execRmModeSet (k : Nat) (v : W64) (program : List W64) (s : State) : Host.Outcome State Fault Refusal := .next (modeSet s k v program)

/-- RM_MODE_CLEAR (R155, R516). -/
def execRmModeClear (k : Nat) (v : W64) (s : State) : Host.Outcome State Fault Refusal := .next (modeClear s k v)

end Sys2Proof.Machine.RegMode
end

