-- ==== Sys2Proof/Machine/Rings.lean ====
section
/-! DEFINITION. Ring pairs (R463 to R466, R475, R476): doorbells, the control register, stopping, coalescing. -/

namespace Sys2Proof.Machine.Rings

open Bits Ops

/-- A write of TAIL (R464, R465); a fenced module ignores it (R386). -/
def sqDb (s : State) (r tail : Nat) (ok : Bool) : State :=
  let x := ring s r
  if fenced s || !x.enable || x.err then s
  else if 2 ^ x.sqLog < dist32 tail x.sqHead then stopRing s r 1
  else fetch (setRing s r { x with tail := tail }) r ok

/-- A write of HEAD (R464, R465, R475). -/
def cqDb (s : State) (r head : Nat) (cqOk sqOk : Bool) : State :=
  let x := ring s r
  if fenced s || !x.enable || x.err then s
  else if 2147483648 ≤ dist32 x.written head then stopRing s r 2
  else fetch (flushHeld 64 (setRing s r { x with head := head }) r cqOk) r sqOk

/-- A descriptor of an earlier enabling of its ring. -/
def older (d : DescHead) : DescHead := { d with t := d.t + 4294967296 }

/-- ENABLE is set: the counts start again (R463). A descriptor still in progress from before keeps a count that no new one has, higher by
2^32 (DESIGN CHOICE, notes/assumptions/90.md). -/
def restart (x : Ring) : Ring :=
  { x with enable := true, tail := 0, head := 0, sqHead := 0, written := 0, err := false, nextStart := 0, held := [], overflow := false,
           unsignalled := 0, unsignalledAt := 0, inProg := x.inProg.map (fun p => { p with head := older p.head }) }

/-- What else holds the descriptors of a ring renumbers them alike: gated transfers, shard loads, deletions. -/
def renumber (s : State) (r : Nat) : State :=
  let e := fun (g : Egress) => if g.ring == r then { g with t := g.t + 4294967296 } else g
  let h := fun (d : DescHead) => if d.ring == r then older d else d
  let s1 := modCkpt s (fun k => { k with egress := k.egress.map e, outgoing := k.outgoing.map e, loads := SMap.mapVals (fun _ l => l.map (fun x => (h x.1, x.2))) k.loads })
  { s1 with ctxs := SMap.mapVals (fun _ x => { x with deleting := x.deleting.map h }) s1.ctxs }

/-- A ring whose unsignalled entries already reach COAL_CNT signals as soon as IRQ_EN is set (R476). -/
def settle (s : State) (r : Nat) : State :=
  let x := ring s r
  if x.enable && x.irqEn && decide (0 < x.unsignalled ∧ x.coalCnt ≤ x.unsignalled) then signal (setRing s r { x with unsignalled := 0 }) x.vector
  else s

/-- A write to HOST_RING_CTL (R463, R465): refused with a count of 0, or with a queue size out of range while
ENABLE is 0; while ENABLE is 1 the sizes keep their values, whatever is written. -/
def ctlWrite (s : State) (r : Nat) (v : Nat) : State × Nat :=
  let x := ring s r
  let cnt := field v 15 8
  let cl := field v 7 4
  let sl := field v 3 0
  if cnt == 0 || (!x.enable && decide (cl < 4 ∨ 12 < cl ∨ sl < 4 ∨ 12 < sl)) then (s, 3)
  else
    let y := { x with vector := field v 47 40, irqEn := bit v 39, coalUs := field v 31 16, coalCnt := cnt,
                      cqLog := if x.enable then x.cqLog else cl, sqLog := if x.enable then x.sqLog else sl }
    let z := if bit v 63 then (if x.enable then y else restart y) else hush { y with enable := false }
    let s1 := if bit v 63 && !x.enable then renumber s r else s
    (settle (setRing s1 r z) r, 0)

/-- HOST_RING_CTL as it reads. -/
def ctlRead (x : Ring) : Nat :=
  word [(63, 63, x.enable.toNat), (47, 40, x.vector), (39, 39, x.irqEn.toNat), (31, 16, x.coalUs), (15, 8, x.coalCnt), (7, 4, x.cqLog), (3, 0, x.sqLog)]

/-- HOST_RING_STAT as it reads. -/
def statRead (x : Ring) : Nat :=
  word [(63, 32, x.sqHead), (31, 16, x.lost), (15, 8, x.errCode), (1, 1, (!x.enable && x.inProg.isEmpty).toNat), (0, 0, x.err.toNat)]

/-- COALESCE_TIMEOUT (R476): COAL_US has passed since the first unsignalled entry. -/
def coalesce (s : State) (r : Nat) : State :=
  let x := ring s r
  if x.irqEn && s.host.secure && decide (0 < x.unsignalled) && x.coalUs != 0 && decide (x.unsignalledAt + 1000 * x.coalUs ≤ now s) then
    signal (setRing s r { x with unsignalled := 0 }) x.vector
  else s

/-! ## Meanings -/

/-- HOST_SQ_DB (R464). -/
def execHostSqDb (r : Nat) (tail : W32) (ok : Bool) (s : State) : Host.Outcome State Fault Refusal :=
  .next (if r < 128 then fromHost s (sqDb s r tail.toNat ok) else s)

/-- HOST_CQ_DB (R464). -/
def execHostCqDb (r : Nat) (head : CqHead) (s : State) : Host.Outcome State Fault Refusal :=
  .next (if r < 128 then fromHost s (cqDb s r head.head.toNat head.cqOk head.sqOk) else s)

/-- RING_ENABLE (R463): a write to HOST_RING_CTL with ENABLE set, answered. -/
def execRingEnable (r : Nat) (v : W64) (s : State) : Host.Outcome State Fault Refusal :=
  .next (if r < 128 && v.getLsbD 63 then fromHost s (let w := ctlWrite s r v.toNat; emit w.1 (.answer (hostStatus w.2) [])) else s)

/-- RING_DISABLE (R465): a write to HOST_RING_CTL with ENABLE clear, answered. -/
def execRingDisable (r : Nat) (v : W64) (s : State) : Host.Outcome State Fault Refusal :=
  .next (if r < 128 && !v.getLsbD 63 then fromHost s (let w := ctlWrite s r v.toNat; emit w.1 (.answer (hostStatus w.2) [])) else s)

/-- COALESCE_TIMEOUT (R476). -/
def execCoalesceTimeout (r : Nat) (s : State) : Host.Outcome State Fault Refusal := .next (if r < 128 then coalesce s r else s)

end Sys2Proof.Machine.Rings
end

