-- ==== Sys2Proof/Machine/Registers.lean ====
section
/-! DEFINITION. The set-up registers (R503 to R521): the value each offset reads as, and what a write changes or why it is
refused. -/

namespace Sys2Proof.Machine.Regs

open Bits Ops Report

/-! ## Reading -/

/-- MOD_ID (R506). -/
def modId (s : State) : Nat := word [(63, 48, 0x1F9E), (47, 32, 0x2400), (31, 24, s.dex.gen), (23, 16, 0x01), (13, 0, moduleId s)]

/-- RST_STAT (R398). -/
def rstStat (s : State) : Nat := word [(39, 32, s.dex.coldCycles), (31, 24, s.dex.lastCause), (23, 16, s.dex.lastClass), (7, 0, s.dex.gen)]

/-- Alarms in the last 24 hours of powered time (R455). -/
def recentAlarms (s : State) : Nat := (s.sec.alarmAt.filter (fun t => decide (s.dex.powered < t + 24 * Swaps.hour))).length

/-- SEC_STAT (R455). -/
def secStat (s : State) : Nat :=
  word [(63, 48, SMap.val 0 s.sec.svn 1), (47, 40, s.sec.alarms), (39, 32, min 255 (recentAlarms s)), (22, 14, s.sec.lastSource),
    (10, 8, s.sec.sessions.length), (2, 2, (s.ctxs.any (fun p => p.2.jobKey.isSome)).toNat), (1, 1, s.host.secure.toNat), (0, 0, s.sec.attested.toNat)]

/-- The governor's level: what the power rule asks for, never below the thermal floor (R500). -/
def govLevel (s : State) : Nat := max s.gov.level s.gov.floor

/-- PWR_STAT (R501): INPUT in W. -/
def pwrStat (s : State) : Nat :=
  word [(63, 48, s.gov.limit), (47, 32, s.gov.input / 10), (31, 16, s.gov.overCount), (10, 8, s.gov.floor), (2, 0, govLevel s)]

/-- HEALTH_CTL, HEALTH_POOL and HEALTH_STAT (R377 to R379). -/
def healthCtl (h : HealthRegs) : Nat :=
  word [(48, 48, h.probation.toNat), (41, 32, h.expel), (25, 16, h.prob), (9, 0, h.warn)]
def healthPool (h : HealthRegs) : Nat := word [(31, 16, h.floor), (15, 0, h.available)]
def healthStat (d : Dexhorn) : Nat :=
  word [(49, 40, d.standing), (35, 34, d.recommend), (33, 32, d.band), (9, 0, d.score)]

/-- Code of the fabric-time state (R507). -/
def timeCode : TimeState → Nat
  | .free => 0
  | .acquire => 1
  | .locked => 2
  | .holdover => 3

/-- FAB_TIME_STAT (R507). -/
def timeStat (t : FabTime) : Nat :=
  word [(63, 56, t.rootEpoch), (49, 36, t.rootId), (35, 31, t.parentPort), (30, 27, t.stratum), (26, 25, timeCode t.state), (15, 0, signed 16 t.theta)]

/-- FAB_PORT_STAT (R324). -/
def portStat (p : Port) : Nat :=
  word [(63, 56, p.epoch), (50, 46, p.peerPort), (45, 32, p.peer), (23, 16, p.cause), (15, 8, p.flaps), (3, 0, p.state)]

/-- A route table bank (R508). -/
def bank (s : State) (b : Nat) : Bank := if b == 0 then s.fabric.bank0 else s.fabric.bank1

/-- Entries packed into a word: `n` entries of `w` bits from entry `first`, the first one lowest. -/
def packed (d w n first : Nat) (m : SMap Nat) : Nat :=
  word ((List.range n).reverse.map (fun i => (w * i + (w - 1), w * i, SMap.val d m (first + i))))

/-- A word of a bank (R508). -/
def bankRead (b : Bank) (o : Nat) : Option Nat :=
  if o == 0 then some (word [(16, 16, b.valid.toNat), (15, 0, b.table)])
  else if o == 8 then some (word [(26, 0, b.portEn)])
  else if 0x10 ≤ o ∧ o < 0x28 then let w := (o - 0x10) / 8; some (packed 31 5 (min 12 (27 - 12 * w)) (12 * w) b.detour)
  else if 0x800 ≤ o ∧ o < 0x1000 then some (packed 0 4 16 (16 * ((o - 0x800) / 8)) b.dirs)
  else if 0x8000 ≤ o ∧ o < 0x10000 then some (SMap.val 0#64 b.mcast ((o - 0x8000) / 8)).toNat
  else none

/-- MEM_THERM (R512). -/
def therm (s : State) : Nat :=
  word ([3, 2, 1, 0].flatMap (fun i =>
    let t : StackTherm := SMap.val {} s.mem.stackTherm i
    [(16 * i + 15, 16 * i + 8, t.tth / 8), (16 * i + 3, 16 * i + 3, t.hot.toNat), (16 * i + 2, 16 * i, t.level)]))

/-- MEM_CH_CE (R512). -/
def chCe (s : State) (i : Nat) : Nat :=
  word [(63, 63, (SMap.val false s.dex.lostChannels i).toNat), (31, 0, (SMap.val {} s.mem.channels i : Channel).ce)]

/-- ARR_ROLE (R515). -/
def arrRole (s : State) (n : Nat) : Nat :=
  let r := Swaps.role s n
  word ([(44, 36, r.failed), (35, 32, r.spare)] ++ [7, 6, 5, 4, 3, 2, 1, 0].map (fun j => (4 * j + 3, 4 * j, r.map.getD j j)))

/-- Array counters of a physical core (R505). -/
def arrCounter (s : State) (k j : Nat) : Nat :=
  let a : ArrayPhys := SMap.val {} s.phys k
  if j == 7 then word [(6, 0, a.level)] else word [(47, 0, SMap.val 0 a.counters j)]

/-- The core is due and active, and its cluster has no spare that can be rotated (R520). -/
def unrotatable (s : State) (k : Nat) : Bool :=
  SMap.val false s.weevil.due k && (logicalOf s k).isSome && !Swaps.usableSpare s (k / 9) && !Swaps.spareTested s (k / 9)

/-- WEEVIL_STAT (R520). -/
def weevilStat (s : State) (k : Nat) : Nat :=
  let due := SMap.val false s.weevil.due k
  word [(35, 35, (unrotatable s k).toNat), (34, 34, (due && Swaps.deferred s k).toNat), (33, 33, due.toNat),
    (32, 32, (bit (Swaps.role s (k / 9)).failed (k % 9)).toNat), (31, 0, min 4294967295 (Swaps.age s k / 1000000000))]

/-- VEC_RM registers (R516). -/
def vecRm (x : RmCore) (j : Nat) : Option Nat :=
  match j with
  | 0 => some (word [(63, 40, x.limit), (2, 2, x.fail.toNat), (1, 1, x.halted.toNat), (0, 0, x.mode.toNat)])
  | 8 => some x.seed.toNat
  | 0x10 => some (word [(47, 10, x.win / 1024)])
  | 0x18 => some x.digest.toNat
  | _ => none

/-- Two ring numbers in a word (R517). -/
def ringNext (m : SMap Nat) (w : Nat) : Nat := word [(63, 32, SMap.val 0 m (2 * w + 1)), (31, 0, SMap.val 0 m (2 * w))]

/-- A word of a 256-bit mask. -/
def maskWord (m : BitVec 256) (w : Nat) : Nat := (m.toNat >>> (64 * w)) % 2 ^ 64

/-- A word of a REM_MCAST entry (R509): words past 64 hold nothing. -/
def mcastRead (s : State) (o : Nat) : Nat :=
  let g := o / 0x400
  let w := o % 0x400 / 8
  (SMap.val (if w == 0 then 0xFF0000#64 else 0#64) s.remote.mcast (128 * g + w)).toNat

/-- Registers below 0x08_0000 other than the rings: identity, health, time and the fabric. -/
def readLow (s : State) (o : Nat) : Option Nat :=
  if o == 0 then some (modId s)
  else if o == 8 then some (rstStat s)
  else if o == 0x10 then some (secStat s)
  else if o == 0x18 then some (pwrStat s)
  else if o == 0x20 then some (healthCtl s.health)
  else if o == 0x28 then some (healthPool s.health)
  else if o == 0x30 then some (healthStat s.dex)
  else if o == 0x30000 then some (s.ftime.count % 2 ^ 64)
  else if o == 0x30008 then some (timeStat s.ftime)
  else if 0x40000 ≤ o ∧ o < 0x40000 + 8 * 27 then some (portStat (port s ((o - 0x40000) / 8)))
  else if o == 0x40100 then some (word [(31, 0, s.fabric.swapDrop)])
  else if o == 0x40108 then some (word [(16, 16, s.fabric.activeBank), (15, 0, s.fabric.activeTable)])
  else if 0x50000 ≤ o ∧ o < 0x70000 then bankRead (bank s ((o - 0x50000) / 0x10000)) (o % 0x10000)
  else none

/-- Ring registers (R463). -/
def readRing (s : State) (o : Nat) : Option Nat :=
  let x := ring s ((o - 0x10000) / 0x40)
  match o % 0x40 with
  | 0 => some (word [(63, 12, x.sqBase / 4096)])
  | 8 => some (word [(63, 12, x.cqBase / 4096)])
  | 0x10 => some (Rings.ctlRead x)
  | 0x18 => some 0
  | 0x20 => some 0
  | 0x28 => some (Rings.statRead x)
  | _ => none

/-- Remote-operation and memory registers. -/
def readMid (s : State) (o : Nat) : Option Nat :=
  if o == 0x80000 then some (word [(26, 0, s.remote.opTimeout)])
  else if o == 0x80008 then some (word [(23, 0, s.remote.ordTimeout)])
  else if o == 0x80010 then some (word [(31, 0, s.remote.refused)])
  else if o == 0x80018 then some (word [(31, 0, s.remote.badHdr)])
  else if o == 0x80020 then some (word [(31, 0, s.remote.dup)])
  else if o == 0x80028 then some (word [(31, 0, s.remote.lateDrop)])
  else if o == 0x80030 then some (word [(31, 0, s.remote.lateArr)])
  else if o == 0x80038 then some (word [(16, 0, s.remote.ops.length)])
  else if o == 0x80040 then some (word [(18, 0, s.remote.tracks.length)])
  else if 0x81000 ≤ o ∧ o < 0x81800 then some (SMap.val 0#64 s.remote.win ((o - 0x81000) / 8)).toNat
  else if 0xA0000 ≤ o ∧ o < 0xC0000 then some (SMap.val 0#64 s.remote.map ((o - 0xA0000) / 8)).toNat
  else if o == 0xC0000 then some (word [(31, 0, s.mem.unmapped)])
  else if o == 0xC0008 then some (word [(7, 0, s.mem.scrubPeriod)])
  else if o == 0xC0010 then some (therm s)
  else if 0xC0020 ≤ o ∧ o < 0xC0040 then some (word [(31, 0, SMap.val 0 s.mem.ondie ((o - 0xC0020) / 8))])
  else if 0xC1000 ≤ o ∧ o < 0xC1400 then some (chCe s ((o - 0xC1000) / 8))
  else if 0xD0000 ≤ o ∧ o < 0xD2000 then
    let r := SMap.val (0, 0, 0) s.census ((o - 0xD0000) / 0x20)
    match o % 0x20 with
    | 0 => some (word [(47, 5, r.1 / 32)])
    | 8 => some (word [(23, 0, r.2.1)])
    | 0x10 => some (word [(31, 0, r.2.2)])
    | _ => none
  else none

/-- Core, engine, log and test registers. -/
def readHigh (s : State) (o : Nat) : Option Nat :=
  if o == 0xE0000 then some (word [(26, 0, s.quantum)])
  else if o == 0xE0008 then some (word [(26, 16, s.weevil.window), (3, 0, s.weevil.count)])
  else if 0xE0100 ≤ o ∧ o < 0xE0140 then some (arrRole s ((o - 0xE0100) / 8))
  else if 0xE1000 ≤ o ∧ o < 0xE1000 + 0x40 * 72 then some (arrCounter s ((o - 0xE1000) / 0x40) (o % 0x40 / 8))
  else if 0xF0000 ≤ o ∧ o < 0xF0000 + 0x20 * 72 then vecRm (RegMode.core s ((o - 0xF0000) / 0x20)) (o % 0x20)
  else if 0x100000 ≤ o ∧ o < 0x100200 then some (ringNext (SMap.val {} s.churns ((o - 0x100000) / 0x40) : Churn).next (o % 0x40 / 8))
  else if 0x100400 ≤ o ∧ o < 0x100480 then some (ringNext (SMap.val {} s.presses ((o - 0x100400) / 0x40) : Press).next (o % 0x40 / 8))
  else if 0x100800 ≤ o ∧ o < 0x100880 then some (SMap.val 0#64 s.dacc ((o - 0x100800) / 8)).toNat
  else if o == 0x110000 then some (word [(63, 6, s.err.base / 64)])
  else if o == 0x110008 then some (word [(20, 0, s.err.size)])
  else if o == 0x110010 then some (word [(31, 0, s.err.head)])
  else if o == 0x110018 then some (word [(31, 0, s.err.tail)])
  else if o == 0x110020 then some (word [(31, 0, s.err.lost)])
  else if o == 0x110028 then some (word [(47, 16, s.err.fired), (0, 0, s.err.drillEnable.toNat)])
  else if 0x110040 ≤ o ∧ o < 0x110060 then some (maskWord s.err.redMask ((o - 0x110040) / 8))
  else if 0x110060 ≤ o ∧ o < 0x110080 then some (maskWord s.err.weevilHold ((o - 0x110060) / 8))
  else if 0x110100 ≤ o ∧ o < 0x110100 + 8 * 72 then some (weevilStat s ((o - 0x110100) / 8))
  else if 0x400000 ≤ o ∧ o < 0x800000 then some (mcastRead s (o - 0x400000))
  else none

/-- The value of the register at an offset aligned to 8; none where the map lists none (R503). -/
def value (s : State) (o : Nat) : Option Nat :=
  if o < 0x10000 then readLow s o
  else if o < 0x12000 then readRing s o
  else if o < 0x80000 then readLow s o
  else if o < 0xE0000 then readMid s o
  else readHigh s o

/-- The offset lies in the MSI-X table or pending-bit array. -/
def isMsix (o : Nat) : Bool := decide (0x20000 ≤ o ∧ o < 0x21020)

/-- n bytes of the MSI-X table and pending-bit array. -/
def msixRead (s : State) (o n : Nat) : Bytes :=
  (List.range n).map (fun i =>
    let a := o + i - 0x20000
    if a < 0x1000 then msixByte s a else BitVec.ofNat 8 (s.host.pba.toNat >>> (8 * (a - 0x1000))))

/-- A read of the region (R14, R504): the bytes, or the status 2 UNMAPPED or 3 for an access that is not accepted. -/
def read (s : State) (o n : Nat) : Except Nat Bytes :=
  if isMsix o then
    if (n == 4 || n == 8) && o % n == 0 then .ok (msixRead s o n) else .error 3
  else match value s (o - o % 8) with
    | none => .error 2
    | some v => if n == 8 && o % 8 == 0 then .ok (le 8 v) else .error 3

/-! ## Writing -/

/-- The given fields of a written word; every bit outside them is reserved (R11). -/
def keep (fields : List (Nat × Nat)) (v : Nat) : W64 :=
  BitVec.ofNat 64 (word (fields.map (fun f => (f.1, f.2, field v f.1 f.2))))

/-- HEALTH_CTL (R377). -/
def healthWrite (s : State) (v : Nat) : State × Nat :=
  let e := field v 41 32
  let p := field v 25 16
  let w := field v 9 0
  if w < p ∧ p < e ∧ e ≤ 1000 then
    ({ s with health := { s.health with warn := w, prob := p, expel := e, probation := bit v 48 } }, 0)
  else (s, 3)

/-- A pending ROUTE_SWAP, or the one that runs, names a table (R313, R508). -/
def swapNames (s : State) (t : Nat) : Bool :=
  s.sched.any (fun p => p.2.entry.action == 6 && field p.2.entry.param.toNat 47 32 == t) ||
  (match s.fabric.swap with | some w => w.table == t && decide (w.stage < 2) | none => false)

/-- Spread the fields of a word over a map of entries. -/
def unpack (d w n first v : Nat) (m : SMap Nat) : SMap Nat :=
  (List.range n).foldl (fun acc i => SMap.put d acc (first + i) ((v >>> (w * i)) % 2 ^ w)) m

/-- One word of a bank (R508). -/
def bankSet (b : Bank) (o v : Nat) : Option Bank :=
  if o == 0 then some { b with table := v % 65536, valid := bit v 16 }
  else if o == 8 then some { b with portEn := v % 2 ^ 27 }
  else if 0x10 ≤ o ∧ o < 0x28 then
    let w := (o - 0x10) / 8
    some { b with detour := unpack 31 5 (min 12 (27 - 12 * w)) (12 * w) v b.detour }
  else if 0x800 ≤ o ∧ o < 0x1000 then some { b with dirs := unpack 0 4 16 (16 * ((o - 0x800) / 8)) v b.dirs }
  else if 0x8000 ≤ o ∧ o < 0x10000 then some { b with mcast := SMap.put 0#64 b.mcast ((o - 0x8000) / 8) (BitVec.ofNat 64 (v % 2 ^ 55)) }
  else none

/-- A write to a bank: refused while it is active or named by a pending swap (R508). -/
def bankWrite (s : State) (i o v : Nat) : State × Nat :=
  let b := bank s i
  match bankSet b o v with
  | none => (countUnmapped s, 2)
  | some c =>
    if s.fabric.activeBank == i || (b.valid && swapNames s b.table) then (s, 3)
    else (modFabric s (fun f => if i == 0 then { f with bank0 := c } else { f with bank1 := c }), 0)

/-- REM_OP_TIMEOUT and REM_ORD_TIMEOUT (R510). -/
def opTimeoutWrite (s : State) (v : Nat) : State × Nat :=
  let t := field v 26 0
  if t < 200 ∨ 100000 < t ∨ t < 2 * s.remote.ordTimeout then (s, 3) else (modRemote s (fun r => { r with opTimeout := t }), 0)
def ordTimeoutWrite (s : State) (v : Nat) : State × Nat :=
  let t := field v 23 0
  if t < 10 ∨ 10000 < t ∨ s.remote.opTimeout < 2 * t then (s, 3) else (modRemote s (fun r => { r with ordTimeout := t }), 0)

/-- CEN_BASE and CEN_COUNT (R513). -/
def censusWrite (s : State) (c : Nat) (isCount : Bool) (v : Nat) : State × Nat :=
  let r := SMap.val (0, 0, 0) s.census c
  let r1 := if isCount then (r.1, field v 23 0, r.2.2) else (field v 47 5 * 32, r.2.1, r.2.2)
  if (ctx? s c).isSome || !Mem.inDram r1.1 (32 * r1.2.1) then (s, 3) else ({ s with census := SMap.put (0, 0, 0) s.census c r1 }, 0)

/-- ARR_SWAP_CTL (R514). -/
def swapCtlWrite (s : State) (v : Nat) : State × Nat :=
  let w := field v 26 16
  let c := field v 3 0
  if w < 1 ∨ 1440 < w ∨ c < 1 then (s, 3) else (modWeevil s (fun x => { x with window := w, count := c }), 0)

/-- VEC_RM registers (R516). -/
def vecRmWrite (s : State) (k j : Nat) (v : W64) : State × Nat :=
  let x := RegMode.core s k
  match j with
  | 0 => let r := RegMode.ctlWrite s k v; (r.1, if r.2 then 0 else 3)
  | 8 => if x.mode then (s, 3) else (RegMode.setCore s k { x with seed := v }, 0)
  | 0x10 => if x.mode then (s, 3) else (RegMode.setCore s k { x with win := field v.toNat 47 10 * 1024 }, 0)
  | _ => (s, 3)

/-- ERR_LOG_BASE and ERR_LOG_SIZE (R518): HEAD and TAIL start again, and held records follow. -/
def logSetup (s : State) (isSize : Bool) (v : Nat) : State × Nat :=
  if isSize && decide (1048576 < field v 20 0) then (s, 3)
  else
    let s1 := modErr s (fun e =>
      if isSize then { e with size := field v 20 0, head := 0, tail := 0 } else { e with base := field v 63 6 * 64, head := 0, tail := 0 })
    (flushLog 256 s1, 0)

/-- ERR_LOG_TAIL (R518). -/
def logTail (s : State) (v : Nat) : State × Nat :=
  let t := field v 31 0
  if s.err.size < dist32 s.err.head t then (s, 3) else (flushLog 256 (modErr s (fun e => { e with tail := t })), 0)

/-- A word of a 256-bit mask replaced. -/
def setMask (m : BitVec 256) (w : Nat) (v : W64) : BitVec 256 :=
  let hole := BitVec.ofNat 256 ((2 ^ 64 - 1) * 2 ^ (64 * w))
  (m &&& ~~~ hole) ||| BitVec.ofNat 256 (v.toNat * 2 ^ (64 * w))

/-- A word of a REM_MCAST entry (R509). -/
def mcastWrite (s : State) (o v : Nat) : State × Nat :=
  let g := o / 0x400
  let w := o % 0x400 / 8
  if w == 0 then
    (modRemote s (fun r => { r with mcast := SMap.put 0xFF0000#64 r.mcast (128 * g) (keep [(23, 16), (8, 0)] v) }), 0)
  else if w ≤ 64 then
    (modRemote s (fun r => { r with mcast := SMap.put 0#64 r.mcast (128 * g + w) (keep [(61, 48), (45, 32), (29, 16), (13, 0)] v) }), 0)
  else (s, 0)

/-- Ring registers (R463, R464). -/
def ringWrite (s : State) (r j : Nat) (v : Nat) : State × Nat :=
  let x := ring s r
  match j with
  | 0 => (if x.enable then s else setRing s r { x with sqBase := field v 63 12 * 4096 }, 0)
  | 8 => (if x.enable then s else setRing s r { x with cqBase := field v 63 12 * 4096 }, 0)
  | 0x10 => Rings.ctlWrite s r v
  | 0x18 => (Rings.sqDb s r (field v 31 0) true, 0)
  | 0x20 => (Rings.cqDb s r (field v 31 0) true true, 0)
  | _ => (s, 3)

/-- Writes that a named row of the table does not stand for, or that it shares: by offset (R503). -/
def writeAt (s : State) (o : Nat) (v : W64) : State × Nat :=
  let n := v.toNat
  if o == 0x20 then healthWrite s n
  else if o == 0x28 then ({ s with health := { s.health with floor := field n 31 16, available := field n 15 0 } }, 0)
  else if 0x10000 ≤ o ∧ o < 0x12000 then ringWrite s ((o - 0x10000) / 0x40) (o % 0x40) n
  else if 0x50000 ≤ o ∧ o < 0x70000 then bankWrite s ((o - 0x50000) / 0x10000) (o % 0x10000) n
  else if o == 0x80000 then opTimeoutWrite s n
  else if o == 0x80008 then ordTimeoutWrite s n
  else if 0x81000 ≤ o ∧ o < 0x81800 then
    (modRemote s (fun r => { r with win := SMap.put 0#64 r.win ((o - 0x81000) / 8) (keep [(30, 16), (13, 0)] n) }), 0)
  else if 0xA0000 ≤ o ∧ o < 0xC0000 then
    (modRemote s (fun r => { r with map := SMap.put 0#64 r.map ((o - 0xA0000) / 8) (keep [(15, 15), (13, 0)] n) }), 0)
  else if o == 0xC0008 then
    if field n 7 0 < 1 ∨ 168 < field n 7 0 then (s, 3) else (modMem s (fun m => { m with scrubPeriod := field n 7 0 }), 0)
  else if 0xD0000 ≤ o ∧ o < 0xD2000 ∧ o % 0x20 < 0x10 then censusWrite s ((o - 0xD0000) / 0x20) (o % 0x20 == 8) n
  else if o == 0xE0000 then
    if field n 26 0 < 10 ∨ 100000 < field n 26 0 then (s, 3) else ({ s with quantum := field n 26 0 }, 0)
  else if o == 0xE0008 then swapCtlWrite s n
  else if 0xF0000 ≤ o ∧ o < 0xF0000 + 0x20 * 72 then vecRmWrite s ((o - 0xF0000) / 0x20) (o % 0x20) v
  else if o == 0x110000 then logSetup s false n
  else if o == 0x110008 then logSetup s true n
  else if o == 0x110018 then logTail s n
  else if o == 0x110028 then (modErr s (fun e => { e with drillEnable := bit n 0 }), 0)
  else if 0x110040 ≤ o ∧ o < 0x110060 then (modErr s (fun e => { e with redMask := setMask e.redMask ((o - 0x110040) / 8) v }), 0)
  else if 0x110060 ≤ o ∧ o < 0x110080 then (modErr s (fun e => { e with weevilHold := setMask e.weevilHold ((o - 0x110060) / 8) v }), 0)
  else if 0x400000 ≤ o ∧ o < 0x800000 then mcastWrite s (o - 0x400000) n
  else (s, 3)

/-- Unmasking a vector whose pending bit is set sends its message (R476). -/
def msixPending (s : State) (v : Nat) : State :=
  if s.host.pba.getLsbD v && !masked s v then
    emit (modHost s (fun h => { h with pba := h.pba &&& ~~~ (1#256 <<< v) })) (.msix v)
  else s

/-- A write to the MSI-X table; the pending-bit array is read-only (R504). -/
def msixWrite (s : State) (o : Nat) (data : Bytes) : State × Nat :=
  if o < 0x21000 then
    let a := o - 0x20000
    let t := (data.zipIdx).foldl (fun m p => SMap.put (if (a + p.2) % 16 = 12 then 1 else 0) m (a + p.2) p.1) s.host.msix
    (msixPending (modHost s (fun h => { h with msix := t })) (a / 16), 0)
  else (s, 3)

/-- A write to the region (R14, R504): status 0 accepted, 2 UNMAPPED, 3 refused. -/
def write (s : State) (o : Nat) (data : Bytes) : State × Nat :=
  let n := data.length
  if isMsix o then
    if (n == 4 || n == 8) && o % n == 0 then msixWrite s o data else (s, 3)
  else if (value s (o - o % 8)).isNone then (countUnmapped s, 2)
  else if n == 8 && o % 8 == 0 then writeAt s o (BitVec.ofNat 64 (ofLe data))
  else (s, 3)

/-! ## Meanings -/

/-- A host register write, answered with the status that the host sees; a fenced module serves none (R449, R504, R521). -/
def hostWrite (s : State) (ok : Bool) (f : State × Nat) : State := if ok then fromHost s (emit f.1 (.answer (hostStatus f.2) [])) else s

/-- RM_MODE_SET and RM_MODE_CLEAR stand in RegMode. ERR_LOG_SETUP_WRITE (R518): offset 0 is BASE, 8 is SIZE. -/
def execErrLogSetupWrite (off : Nat) (v : W64) (s : State) : Host.Outcome State Fault Refusal :=
  .next (hostWrite s (off == 0 || off == 8) (logSetup s (off == 8) v.toNat))

/-- ERR_LOG_TAIL_WRITE (R518). -/
def execErrLogTailWrite (v : W64) (s : State) : Host.Outcome State Fault Refusal := .next (hostWrite s true (logTail s v.toNat))

/-- HEALTH_CTL_WRITE (R377). -/
def execHealthCtlWrite (v : W64) (s : State) : Host.Outcome State Fault Refusal := .next (hostWrite s true (healthWrite s v.toNat))

/-- REM_TIMEOUT_WRITE (R510): offset 0 is REM_OP_TIMEOUT, 8 is REM_ORD_TIMEOUT. -/
def execRemTimeoutWrite (off : Nat) (v : W64) (s : State) : Host.Outcome State Fault Refusal :=
  .next (hostWrite s (off == 0 || off == 8) (if off == 0 then opTimeoutWrite s v.toNat else ordTimeoutWrite s v.toNat))

/-- CENSUS_REGISTER_WRITE (R513). -/
def execCensusRegisterWrite (ctx : Nat) (isCount : Bool) (v : W64) (s : State) : Host.Outcome State Fault Refusal :=
  .next (hostWrite s (decide (ctx < 256)) (censusWrite s ctx isCount v.toNat))

/-- ROUTE_BANK_WRITE (R508). -/
def execRouteBankWrite (b off : Nat) (v : W64) (s : State) : Host.Outcome State Fault Refusal :=
  .next (hostWrite s (decide (b < 2) && off % 8 == 0) (bankWrite s b off v.toNat))

/-- SETUP_REGISTER_WRITE (R504): a write of len bytes of v at an offset of the region. -/
def execSetupRegisterWrite (off len : Nat) (v : W64) (s : State) : Host.Outcome State Fault Refusal :=
  .next (hostWrite s (decide (off < 0x1000000)) (write s off (le len v.toNat)))

end Sys2Proof.Machine.Regs
end

