-- ==== Sys2Proof/Machine/Bus.lean ====
section
/-! DEFINITION. Reads and writes of the local address map by a master (R209 to R212): storage, the windows of the Churn, the
Press, the Hive and the flags, and the set-up registers, each under its own rules; and the host's direct access (R461, R462). -/

namespace Sys2Proof.Machine.Bus

open Bits Ops Report

/-- Who accesses, and how: the requester that records name, the acting party of a flag action, whether the write is one PUT or
PUTF of this module (the only path to a Churn, R181), whether it is one write of any master (which reaches a Press, R225), whether it comes
from a Press (R230), and the check value that travels with it. -/
structure Access where
  req : Mem.Req
  party : Party
  put : Bool
  whole : Bool
  press : Bool
  check : W32

/-- What a read answers: status of R271 (0 OK, 2 UNMAPPED, 3 REFUSED, 4 CHECK, 5 POISONED), the bytes, and the check value of a
whole Hive block. -/
structure Out where
  status : Nat
  data : Bytes := []
  check : Option W32 := none
  /-- R290, R478: the parts that a code or a check value fails, as offset and length; a part of a block lies outside what was read. -/
  bad : List (Nat × Nat) := []

/-- The access reaches the partner core of a redundant pair, whose scratchpad and flag window take no other master's writes
(R362). -/
def toPartner (s : State) (a : Nat) : Bool :=
  match Mem.locate a with
  | .spad q _ => isPartner s q
  | .flags q _ => isPartner s q
  | _ => false

/-! ## Writing -/

/-- A write of a Hive window (R241, R243, R245). -/
def hiveWrite (s : State) (n o : Nat) (data : Bytes) (x : Access) : State × Nat :=
  let len := data.length
  if o < 0x800000 then
    if o % 0x1000 < 0x800 then
      let r := HiveOps.push s n (o / 0x1000) (o % 0x1000) data x.check
      (r.1, if r.2 == 0 then 0 else 3)
    else (s, 3)
  else if o < 0x810000 then
    let q := (o - 0x800000) / 32
    let v := BitVec.ofNat 64 (ofLe data)
    let r := if len == 8 && o % 32 == 16 then HiveOps.config s n q v
      else if len == 8 && o % 32 == 24 then HiveOps.command s n q (field v.toNat 39 32) (field v.toNat 63 40)
      else none
    match r with
    | some s1 => (s1, 0)
    | none => (s, 3)
  else if o < 0x810028 ∨ 0xC00000 ≤ o then (s, 3)
  else (countUnmapped s, 2)

/-- A write of n bytes at an address, with its status: 0 OK, 2 UNMAPPED, 3 REFUSED. -/
def write (s : State) (a : Nat) (data : Bytes) (x : Access) : State × Nat :=
  if toPartner s a then (s, 3)
  else match Mem.locate a with
    | .churn n o => if x.put then ChurnOps.slotWrite s n o data else (s, 3)
    | .press d o => if x.whole then PressOps.slotWrite s d o data else (s, 3)
    | .flags q o => FlagWindow.write s q o data x.party
    | .hive n o => hiveWrite s n o data x
    | .regs o => Regs.write s o data
    | .unmapped => (countUnmapped s, 2)
    | _ => Mem.store s a data x.press x.req

/-! ## Reading -/

/-- A block of cells does not agree with its check value (R290): class 0x13 at the address of its first cell in the window (R241). -/
def hiveCheck (s : State) (n : Nat) (cs : List Cell) (q : Mem.Req) : State :=
  let cell := match cs with | c :: _ => c.idx | [] => 0
  raise s { cls := 0x13, unit := unitCode 6 n, ctx := q.ctx, stream := q.byte, op := q.op,
            addr := 0x700000000000 + n * 0x1000000 + 0xC00000 + 64 * cell,
            detail := detail [(40, le 2 q.unit), (44, le 4 (HiveOps.nibblesOf cs).toNat), (48, le 4 (crc (HiveOps.bytesOf cs)).toNat)] }
    (stepEffect s q.ctx)

/-- A read of a Hive window (R241, R243, R249); the port verifies what it takes (R289, R290). -/
def hiveRead (s : State) (n o len : Nat) (q : Mem.Req) : State × Out :=
  if o < 0x800000 then
    if o % 0x1000 < 0x800 then (s, { status := 3 })
    else
      let r := HiveOps.read s n (o / 0x1000) len (decide (o % 0x1000 < 0xC00))
      if r.2.1 == 0 then
        let cs := r.2.2
        let bad := HiveOps.failedBlocks cs
        (bad.foldl (fun acc b => hiveCheck acc n b q) r.1,
         { status := if bad.isEmpty then 0 else 4, data := HiveOps.bytesOf cs,
           check := if HiveOps.wholeBlock cs then some (HiveOps.nibblesOf cs) else none })
      else (r.1, { status := 3 })
  else
    let h := HiveOps.hive s n
    let bytes : Option Bytes :=
      if o + len ≤ 0x810000 then
        some ((List.range len).map (fun i => let b := o - 0x800000 + i; (HiveOps.recordBytes (HiveOps.queue h (b / 32))).getD (b % 32) 0))
      else if 0x810000 ≤ o ∧ o + len ≤ 0x810028 then some (((HiveOps.poolBytes h).drop (o - 0x810000)).take len)
      else if 0xC00000 ≤ o ∧ o + len ≤ 0x1000000 then
        some ((List.range len).map (fun i => let b := o - 0xC00000 + i; (HiveOps.cellBytes h (b / 64)).getD (b % 64) 0))
      else none
    match bytes with
    | some b => (s, { status := 0, data := b })
    | none => (countUnmapped s, { status := 2 })

/-- The parts of n bytes read from an address that a code or a check value fails (R290, R478). -/
def failing (a n : Nat) (r : Mem.Read) : List (Nat × Nat) :=
  let part := fun (size u : Nat) => (max a u - a, min (a + n) (u + size) - max a u)
  r.poisoned.map (part 64) ++ r.sram.map (part 8) ++ r.check.map (part 512)

/-- What a storage read answers: poison and uncorrectable words before a check failure (R217, R224, R290). -/
def storeRead (s : State) (a n : Nat) (q : Mem.Req) : State × Out :=
  let r := Mem.load s a n true q
  (r.1, if r.2.outside then { status := if Mem.unmapped a n then 2 else 3 }
        else if !r.2.sound then { status := 5, data := r.2.data, bad := failing a n r.2 }
        else if !r.2.check.isEmpty then { status := 4, data := r.2.data, bad := failing a n r.2 }
        else { status := 0, data := r.2.data })

/-- A read of n bytes at an address, which lie in one region of the map. -/
def readIn (s : State) (a n : Nat) (q : Mem.Req) : State × Out :=
  match Mem.locate a with
  | .churn k o => (s, { status := 0, data := (List.range n).map (fun i => ChurnOps.byteAt s k (o + i)) })
  | .press d o => (s, { status := 0, data := (List.range n).map (fun i => PressOps.byteAt s d (o + i)) })
  | .flags k o => match FlagWindow.read s k o n with
    | some b => (s, { status := 0, data := b })
    | none => if FlagWindow.mapped o then (s, { status := 3 }) else (countUnmapped s, { status := 2 })
  | .hive k o => hiveRead s k o n q
  | .regs o => match Regs.read s o n with
    | .ok b => (s, { status := 0, data := b })
    | .error 2 => (countUnmapped s, { status := 2 })
    | .error e => (s, { status := e })
  | .unmapped => (countUnmapped s, { status := 2 })
  | _ => storeRead s a n q

/-- A read that meets several regions is a read of each, in turn, until one fails (R209, R210); fuel bounds their number. -/
def readParts : Nat → State → Nat → Nat → Mem.Req → State × Out
  | 0, s, _, _, _ => (s, { status := 2 })
  | f + 1, s, a, n, q =>
    let k := Mem.regionEnd a - a
    if n ≤ k then readIn s a n q
    else
      let x := readIn s a k q
      if x.2.status != 0 then x
      else
        let y := readParts f x.1 (a + k) (n - k) q
        (y.1, { status := y.2.status, data := x.2.data ++ y.2.data })

/-- A read of n bytes at an address; one that meets an unmapped address reads nothing (R210). -/
def read (s : State) (a n : Nat) (q : Mem.Req) : State × Out :=
  if Mem.unmapped a n then (countUnmapped s, { status := 2 }) else readParts Mem.regions s a n q

/-! ## The host's direct access (R449, R461, R462, R386) -/

/-- The host port as requester, and the host as acting party. -/
def hostReq : Mem.Req := { unit := unitCode 11 0 }
def hostAccess (s : State) (data : Bytes) : Access :=
  { req := hostReq, party := FlagWindow.hostParty s, put := false, whole := true, press := false, check := crc data }

/-- HOST_MEMORY_WRITE: a posted write takes effect, in order of arrival; one that is not carried out completes with an Unsupported
Request status (R14, R210, R449). One to FLG_ACT takes its place among the flag actions of its cycle (R256). -/
def hostWrite (s0 : State) (a : Nat) (data : Bytes) (hits : List CodeHit) : State :=
  let s := Mem.inject s0 (if hostServed s0 then hits else []) hostReq
  if data.isEmpty || (Order.isFlagWrite (.hostMemoryWrite a { data := data }) && !Order.turn 3 s) then s0
  else if !hostServed s then (if s.host.linkUp && !fenced s then emit s (.hostRefused a 2) else s)
  else
    let r := write s a data (hostAccess s data)
    if r.2 == 0 then r.1 else emit r.1 (.hostRefused a (hostStatus r.2))

/-- HOST_MEMORY_READ, after the appends of its cycle where it reads a queue (R251), and last where it reads FLG_TRACE (R262): data, poisoned data, or Unsupported Request; `e` is what the codes report at the address. -/
def hostRead (s0 : State) (a n : Nat) (e : Ecc) : State :=
  if !Order.readable s0 a || (Order.meetsTrace a n && !Order.turn 9 s0) then s0
  else if !hostServed s0 then (if s0.host.linkUp && !fenced s0 then emit s0 (.hostRead a [] 2) else s0)
  else
    let s := Mem.inject s0 [⟨a, e⟩] hostReq
    let h := match Mem.locate a with
      | .hive k o => HiveOps.reports s k o n [⟨a, e⟩] (unitCode 11 0) 255
      | _ => (s, false)
    if h.2 then emit h.1 (.hostRead a [] 5)
    else let r := read h.1 a n hostReq; emit r.1 (.hostRead a r.2.data (if r.2.status == 3 then 2 else r.2.status))

/-! ## Meanings -/

/-- HOST_MEMORY_WRITE (R462). -/
def execHostMemoryWrite (addr : Nat) (data : HostData) (s : State) : Host.Outcome State Fault Refusal :=
  .next (hostWrite s addr data.data data.hits)

/-- HOST_MEMORY_READ (R461). -/
def execHostMemoryRead (addr len : Nat) (ecc : Ecc) (s : State) : Host.Outcome State Fault Refusal := .next (hostRead s addr len ecc)

end Sys2Proof.Machine.Bus
end

