-- ==== Sys2Proof/Machine/Tracker.lean ====
section
/-! DEFINITION. Requests at their destination (R271, R273, R277 to R281, R342, R384, R386): the ordering tracker, the writing of a
packet's bytes, the serving of read requests, held flag actions and their deadlines. -/

namespace Sys2Proof.Machine.Tracker

open Bits Ops Report

/-! ## Headers and late arrivals -/

def bump (x : Nat) : Nat := min 4294967295 (x + 1)

/-- A request of an earlier generation or of a replayed attempt is dropped, counted and recorded (R53, R342); while a port that a drill took
down has not come back, it is taken as late by it (R371; DEDUCED, notes/assumptions/71.md). -/
def lateRequest (s : State) (p : Pkt) (ctx : Nat) : State :=
  lateRecord (modRemote s (fun r => { r with lateDrop := bump r.lateDrop }))
    { cls := 0x23, unit := unitCode 9 0, ctx := ctx, stream := streamByte p.stream, aux := 3, detail := detail [(40, le 2 p.tag)] }
    (s.err.drilled.any (fun d => d.1 == 4))

/-- The record of an ordering fault (R279, R357): what the held flag is, NEXT and the map of missing places. -/
def faultRec (p : Pkt) (next map : Nat) : ErrRec :=
  { cls := 0x22, unit := unitCode 9 0, ctx := p.ctx, stream := streamByte p.stream, aux := p.rflag + p.rcore * 8192,
    detail := detail [(40, le 2 p.src), (42, le 1 p.unit), (43, le 1 p.osel), (44, le 2 p.group), (48, le 4 p.seq), (52, le 4 next), (56, le 8 map)] }

/-- A packet below DROP is dropped, counted and recorded (R279, R53). -/
def lateOrdered (s : State) (k : Nat) (p : Pkt) (next : Nat) : State :=
  lateRecord (modRemote s (fun r => { r with lateDrop := bump r.lateDrop })) (faultRec p next 0) (s.err.drilled.contains (3, k))

/-- The generation rule at a destination (R384): true when the packet is stale; an entry that is not valid is taken from it. -/
def peer (s : State) (p : Pkt) : Bool × State :=
  match SMap.look s.remote.peerGen p.src with
  | some g => (g != p.gen, s)
  | none => (false, modRemote s (fun r => { r with peerGen := SMap.ins r.peerGen p.src p.gen }))

/-- The packet belongs to an attempt that is being replayed, and its hold has not ended (R342). -/
def staleStep (s : State) (p : Pkt) : Bool :=
  s.remote.stale.any (fun x => x.1 == p.ctx && x.2.1 == p.stepTag && decide (now s < x.2.2))

/-! ## Tracker records (R278, R280) -/

def track? (s : State) (k : Nat) : Option Track := SMap.look s.remote.tracks k
def setTrack (s : State) (k : Nat) (t : Track) : State := modRemote s (fun r => { r with tracks := SMap.ins r.tracks k t })

/-- A record that holds nothing. -/
def emptyTrack (t : Track) : Bool := t.held.isEmpty && t.arrived.isEmpty

/-- The empty record unused longest. -/
def oldest (m : SMap Track) : Option Nat :=
  (m.foldl (fun (best : Option (Nat × Nat)) e =>
    if emptyTrack e.2 then (match best with
      | some b => if e.2.used < b.2 then some (e.1, e.2.used) else some b
      | none => some (e.1, e.2.used)) else best) none).map (·.1)

/-- Room for one more record, an empty one released when there is none (R280); none when there is no empty one. -/
def room (s : State) : Option State :=
  if s.remote.tracks.length < 262144 then some s
  else (oldest s.remote.tracks).map (fun k => modRemote s (fun r => { r with tracks := SMap.del r.tracks k }))

/-- NEXT moves past what has arrived; fuel bounds the steps. -/
def climb : Nat → Nat → List Nat → Nat × List Nat
  | 0, n, l => (n, l)
  | f + 1, n, l => if l.contains n then climb f ((n + 1) % 4294967296) (l.filter (· != n)) else (n, l)

/-- NEXT moves up to a number (R278). -/
def advanceTo (t : Track) (x : Nat) : Track :=
  if seqLt t.next x then { t with next := x, arrived := t.arrived.filter (fun a => !seqLt a x) } else t

/-- NEXT moves past every place that has arrived. -/
def ripen (t : Track) : Track :=
  let c := climb t.arrived.length t.next t.arrived
  { t with next := c.1, arrived := c.2 }

/-- Insert a held action in SEQ order. -/
def holdIn (h : Held) (l : List Held) : List Held := insertBy (fun a b => seqLt a.seq b.seq) h l

/-! ## What a packet does -/

/-- The acting party of a remote request (R262). -/
def party (p : Pkt) : Party := { module := p.src, core := p.unit, ctx := p.ctx, src := p.stream % 4 + FlagOps.srcKind 1 }

/-- The requester that records name at a destination. -/
def requester (p : Pkt) : Mem.Req := { unit := unitCode 9 0, ctx := p.ctx, stream := some p.stream }

/-- A status counted in REM_REFUSED (R271). -/
def countRefused (s : State) (st : Nat) : State :=
  if st == 2 || st == 3 then modRemote s (fun r => { r with refused := bump r.refused }) else s

/-- The class 0x13 error of a packet whose payload does not agree with PCHECK (R271, R290). -/
def checkError (s : State) (p : Pkt) : State :=
  raise s { cls := 0x13, unit := unitCode 9 0, ctx := if (ctx? s p.ctx).isSome then p.ctx else 255, stream := streamByte p.stream, addr := p.addr,
            detail := detail [(40, le 2 (unitCode 9 0)), (44, le 4 p.pcheck.toNat), (48, le 4 (crc p.payload).toNat)] }
    (stepEffect s p.ctx)

/-- The core under a swap whose memories a request addresses: the cluster's router stop holds it (R85). -/
def stopped (s : State) (a : Nat) : Option Nat :=
  match Mem.locate a with
  | .spad q _ => if FlagOps.swapping s q then some q else none
  | .flags q _ => if FlagOps.swapping s q then some q else none
  | _ => none

/-- The router stop of a core under a swap holds a request (R85). -/
def holdAt (s : State) (q : Nat) (p : Pkt) (hits : List CodeHit) : State := modFlags s (fun x => { x with held := x.held ++ [(q, .pkt p hits)] })

/-- The packet is the whole of one PUT or PUTF of its sender. The module's own port knows the size of each of its operations; of a peer's
operation only the LAST bit is seen (DESIGN CHOICE, notes/assumptions/37.md). -/
def wholePut (s : State) (p : Pkt) : Bool :=
  !p.chain && !p.mcast && p.last &&
  (p.src != moduleId s || (match SMap.look s.remote.ops p.tag with | some o => o.size == p.len | none => false))

/-- A whole PUT or PUTF of this module's own port; no other path leads to a Churn (R181). -/
def single (s : State) (p : Pkt) : Bool := p.src == moduleId s && wholePut s p

/-- The bytes of a WRITE or WRITE_F are written, or held on their way, with their status (R85, R271, R289, R290). -/
def writeData (s0 : State) (p : Pkt) (hits : List CodeHit := []) : State × Nat :=
  let s := Mem.inject s0 hits (requester p)
  if p.len == 0 then (s, 0)
  else if crc p.payload != p.pcheck then (checkError s p, 4)
  else
    let r := Bus.write s p.addr p.payload
      { req := requester p, party := party p, put := single s p, whole := wholePut s p, press := p.unit == 64 || p.unit == 65, check := p.pcheck }
    match r.2, stopped s p.addr with
    | 0, some q => (holdAt s q p [], 0)
    | _, _ => (countRefused r.1 r.2, r.2)

/-- Bytes that a response carries are one whole block, whose check value goes with them (R289): a block of storage, or eight cells of a Hive
that arrived as one. -/
def wholeBlock (a n : Nat) (x : Bus.Out) : Bool := x.check.isSome || (n == 512 && a % 512 == 0 && Mem.inStore a n)

/-- The pieces of a read request, each a READ_RSP, until one fails (R269, R271, R290); LAST marks the last packet of the operation, whose
last request carries it (R273). -/
def serve : List RemoteOps.Run → State → Pkt → State
  | [], s, _ => s
  | (a, _, n) :: rest, s, p =>
    let r := Bus.read s a n (requester p)
    if r.2.status == 0 then
      serve rest (sendPkt r.1 { response s p 5 0 with
        addr := a, len := n, last := rest.isEmpty && p.last, whole := wholeBlock a n r.2,
        pcheck := r.2.check.getD (crc r.2.data), payload := r.2.data }) p
    else answer (countRefused r.1 r.2.status) p r.2.status

/-- What the codes report as a read request reaches a Hive's window (R239): true for a word that cannot be corrected. -/
def hiveReports (s : State) (p : Pkt) (hits : List CodeHit) : State × Bool :=
  match Mem.locate p.addr with
  | .hive n o => HiveOps.reports s n o p.rlen hits (unitCode 9 0) (if (ctx? s p.ctx).isSome then p.ctx else 255)
  | _ => (s, false)

/-- A READ_REQ is served, or held on its way to a core under a swap (R85, R271); `hits` is what the codes report. -/
def readData (s0 : State) (p : Pkt) (hits : List CodeHit) : State :=
  match stopped s0 p.addr with
  | some q => holdAt s0 q p hits
  | none =>
  let s := Mem.inject s0 hits (requester p)
  if p.rlen == 0 || decide (16777216 < p.rlen) then answer (countRefused s 3) p 3
  else
    let h := hiveReports s p hits
    if h.2 then answer h.1 p 5 else serve (RemoteOps.cutRun (p.rlen / 512 + 2) (p.addr, p.addr, p.rlen)) h.1 p

/-- Flag actions whose places below have all arrived are taken, in order, then answered (R277, R278); the partner core of a redundant pair
refuses them (R362). Fuel bounds their number. -/
def retire : Nat → State → Nat → State
  | 0, s, _ => s
  | f + 1, s, k =>
    match track? s k with
    | none => s
    | some t =>
      match takeFirst (fun (h : Held) => seqLt h.seq t.next) t.held with
      | none => s
      | some (h, rest) =>
        let s0 := setTrack s k { t with held := rest }
        let refused := isPartner s h.pkt.rcore && h.pkt.fact != 0
        let st := if h.status == 0 && refused then 3 else h.status
        let s1 := if refused then countRefused s0 3 else FlagOps.arrive s0 h.pkt.rcore h.pkt.rflag h.pkt.fact (party h.pkt)
        retire f (answer s1 h.pkt st) k

/-- A packet that is neither late nor a copy is taken (R278). -/
def take (s : State) (k : Nat) (t : Track) (p : Pkt) (hits : List CodeHit) : State :=
  let d := if p.kind == 1 || p.kind == 2 then writeData s p hits else (s, 0)
  let t1 := { t with arrived := p.seq :: t.arrived, used := s.ns }
  let t2 := if isFlagged p then { t1 with held := holdIn { seq := p.seq, pkt := p, deadline := now s + 1000 * s.remote.ordTimeout, status := d.2 } t1.held } else t1
  let s1 := setTrack d.1 k (ripen t2)
  let s2 := if p.kind == 1 then answer s1 p d.2 else if p.kind == 4 then readData s1 p hits else s1
  retire 65 s2 k

/-- A place at or above NEXT lies below a dropped-below mark that a replay or an abort set ahead of NEXT (R342). -/
def marked (t : Track) (seq : Nat) : Bool := seqLt t.next t.drop && seqLt seq t.drop

/-- A request reaches the tracker (R278). -/
def onRequest (s : State) (k : Nat) (t0 : Track) (p : Pkt) (hits : List CodeHit) : State :=
  let t := { (if seqLt t0.next p.low then advanceTo t0 p.low else t0) with used := s.ns }
  if seqLt p.seq t.next || t.arrived.contains p.seq || marked t p.seq then
    if seqLt p.seq t.drop then lateOrdered (setTrack s k t) k p t.next
    else modRemote (setTrack s k t) (fun r => { r with dup := bump r.dup })
  else take s k t p hits

/-- A request packet addressed to this module (R271, R273, R384, R386, R428, R342, R280). -/
def deliver (s0 : State) (p : Pkt) (hits : List CodeHit := []) : State :=
  if RemoteOps.badFields p then RemoteOps.badHeader s0
  else
    let g := peer s0 p
    let s := g.2
    if g.1 then lateRequest s p 255
    else if fenced s then (if p.mcast then sendPkt s { response s p 7 8 with leaf := moduleId s } else answer s p 6)
    else if SMap.val false s.remote.reclaimed p.ctx then answer s p 6
    else if staleStep s p then lateRequest s p p.ctx
    else
      let k := trackKey p
      match track? s k with
      | some t => onRequest s k t p hits
      | none => match room s with
        | none => answer s p 1
        | some s1 => onRequest s1 k { next := p.low, drop := p.low, arrived := [], held := [], used := s.ns } p hits

/-- A packet that its own command delivers leaves the receive buffer it stood in (R300). -/
def landed (s : State) (p : Pkt) (hits : List CodeHit := []) : State := deliver (unloaded s p) p hits

/-- A packet is for this module (R273): its DST, or a multicast copy that the router delivers. -/
def forMe (s : State) (p : Pkt) : Bool := p.mcast || p.dst == moduleId s

/-- Any packet for this module takes effect. -/
def arrive (s : State) (p : Pkt) : State :=
  match p.kind with
  | 5 => RemoteOps.readRspIn s p
  | 6 => RemoteOps.ackIn s p
  | 7 => RemoteOps.errorIn s p
  | 0 => RemoteOps.badHeader s
  | k => if k ≤ 4 then deliver s p else RemoteOps.badHeader s

/-! ## Deadlines and the drop marks -/

/-- The map of places from NEXT to a held flag that have not arrived (R279). -/
def missing (t : Track) (seq : Nat) : Nat :=
  ofBits ((List.range (min 64 (dist32 seq t.next))).filter (fun i => !t.arrived.contains ((t.next + i) % 4294967296)))

/-- ORDERING_TIMEOUT (R278, R279), evaluated after the arrivals of its cycle (R52): the flag is not taken, its operation is answered
ORDERING, and the gaps become dropped places. While a port that a drill took down has not come back, the packets are taken as lost by it
(R371; DEDUCED, notes/assumptions/71.md). -/
def orderingTimeout (s : State) (k seq : Nat) : State :=
  match track? s k with
  | none => s
  | some t =>
    match takeFirst (fun (h : Held) => h.seq == seq) t.held with
    | none => s
    | some (h, rest) =>
      if now s < h.deadline || !Order.turn 5 s then s
      else
        let x := (seq + 1) % 4294967296
        let drill := s.err.drilled.any (fun d => d.1 == 4)
        let s1 := raise (if drill then modErr s (fun e => { e with drilled := (3, k) :: e.drilled }) else s)
          (faultRec h.pkt t.next (missing t seq)) (stepEffect s h.pkt.ctx) drill
        setTrack (answer s1 h.pkt 7) k (advanceTo { t with held := rest, drop := x } x)

/-- A replay or an abort at the destination (R342): the dropped-below mark of the context's records, and its stale step. -/
def dropMarks (s : State) (c tag till : Nat) : State :=
  modRemote s (fun r =>
    let m := SMap.mapVals (fun k (t : Track) => if (k / 2048) % 256 == c then { t with drop := (t.next + 64) % 4294967296 } else t) r.tracks
    { r with tracks := m, stale := (c, tag, till) :: r.stale.filter (fun x => decide (now s < x.2.2)) })

/-! ## Meanings -/

/-- WRITE (R278). -/
def execWrite (p : PktIn) (s : State) : Host.Outcome State Fault Refusal :=
  .next (if p.pkt.kind == 1 && forMe s p.pkt then landed s p.pkt p.hits else s)

/-- WRITE_F (R277). -/
def execWriteF (p : PktIn) (s : State) : Host.Outcome State Fault Refusal :=
  .next (if p.pkt.kind == 2 && forMe s p.pkt then landed s p.pkt p.hits else s)

/-- FLAG (R277). -/
def execFlagPkt (p : Pkt) (s : State) : Host.Outcome State Fault Refusal := .next (if p.kind == 3 && forMe s p then landed s p else s)

/-- READ_REQ (R267); `hits` is what the codes report. One to a queue follows the appends of its cycle (R251), one to FLG_TRACE is last (R262). -/
def execReadReq (p : Pkt) (hits : List CodeHit) (s : State) : Host.Outcome State Fault Refusal :=
  .next (if p.kind == 4 && forMe s p && Order.readable s p.addr && (!Order.meetsTrace p.addr p.rlen || Order.turn 9 s)
         then landed s p hits else s)

/-- ORDERING_TIMEOUT (R279). -/
def execOrderingTimeout (key seq : Nat) (s : State) : Host.Outcome State Fault Refusal := .next (orderingTimeout s key seq)

end Sys2Proof.Machine.Tracker
end

