-- ==== Sys2Proof/Machine/StepOps.lean ====
section
/-! DEFINITION. What a vote result does to a context (R171, R250, R259, R339, R342, R343): shared by the vote, its resolution after an
abort (R393) and the abort itself. -/

namespace Sys2Proof.Machine.StepOps

open Bits Ops Report

/-! ## Host descriptors and the egress gate (R343, R470, R471, R480) -/

/-- A COPY_OUT in the egress queue. -/
def gated (i : InProgress) : Bool := i.op == 0x0B && !i.sending && i.triggered.isSome

/-- Take a context's entries out of the egress queue, in issue order. -/
def takeEgress (s : State) (c : Nat) : List Egress × State :=
  (s.ckpt.egress.filter (fun e => e.ctx == c), modCkpt s (fun k => { k with egress := k.egress.filter (fun e => e.ctx != c) }))

/-- The gated egress of a context is sent, in issue order. -/
def sendEgress (s : State) (c : Nat) : State :=
  let g := takeEgress s c
  g.1.foldl (fun acc e => modProg acc e.ring e.t (fun i => { i with sending := true }))
    (modCkpt g.2 (fun k => { k with outgoing := k.outgoing ++ g.1 }))

/-- Committed egress of the context was issued before a transfer and is still being sent (R343). -/
def behindEgress (s : State) (c ring t : Nat) : Bool :=
  let l := s.ckpt.outgoing.filter (fun e => e.ctx == c && (inProg? s e.ring e.t).isSome)
  l.any (fun e => e.ring == ring && e.t == t) && !(match l with | e :: _ => e.ring == ring && e.t == t | [] => true)

/-- A transfer has ended: it is no egress on its way any more. -/
def egressDone (s : State) (ring t : Nat) : State :=
  modCkpt s (fun k => { k with outgoing := k.outgoing.filter (fun e => !(e.ring == ring && e.t == t)) })

/-- The gated egress of a context is discarded: its descriptors wait on their triggers again. -/
def returnEgress (s : State) (c : Nat) : State :=
  let g := takeEgress s c
  g.1.foldl (fun acc e => modProg acc e.ring e.t (fun i => { i with triggered := none })) g.2

/-- The gated egress of a context is discarded: its descriptors complete ABORTED. -/
def dropEgress (s : State) (c : Nat) : State := abortProg (takeEgress s c).2 c gated

/-- What a result does to the egress of its attempt (R343). -/
def egressResult (s : State) (c r : Nat) : State :=
  if r == 1 then sendEgress s c
  else if r == 2 then returnEgress s c
  else abortProg (dropEgress s c) c waiting

/-! ## Steps 1 to 5 of R339 -/

/-- The flag actions of R259. -/
def flagResult (s : State) (c r : Nat) : State :=
  if r == 1 then FlagOps.commitFlags s c
  else if r == 2 then FlagOps.restoreFlags s c
  else s

/-- Steps 1 to 5 of R339: the result is recorded, and queues, flags, streams and egress follow it. -/
def decided (s : State) (c r step tv : Nat) : State :=
  let s1 := modStep s c (fun t => { t with last := some (r, step, tv), released := t.released || r == 3 })
  let s2 := flagResult (HiveOps.applyResult s1 c r) c r
  egressResult (Slots.applyResult s2 c r) c r

/-! ## The next attempt (step 8 of R339, R333, R342) -/

/-- The records of the attempt are clear for the next one; events recorded after the verdict count there (R333). -/
def clearAttempt (t : StepState) (replay : Bool) : StepState :=
  { t with fail := if replay then t.failNext ||| 0x2000000#32 else t.failNext, failNext := 0, boundary := none, digestDone := false,
           confirmDone := false, confirmFrom := none, votes := [], contributed := false, isOpen := false }

/-- An attempt is open: census records are cleared (R121), and the streams of the context issue, where it is not aborted (R391). -/
def opened (s : State) (c : Nat) : State :=
  Operand.censusClear (modStep s c (fun t => { t with isOpen := true, everOpened := true, openedAt := now s, holdUntil := none })) c

/-- No step of the context follows: it was ended as under a STOP (R339, R427), or it is ENDED on every core once the results that wait
for a core's re-entry are counted (R171, R178). -/
def stepsOver (x : Ctx) : Bool :=
  x.step.released || (coresOf x).all (fun q => (Slots.applyHeld (onCore x q)).state == .ended)

/-- The next attempt of a context opens, unless no step follows or the context is aborted (R391). -/
def openAttempt (s : State) (c : Nat) : State :=
  match ctx? s c with
  | none => s
  | some x => if stepsOver x || x.step.aborted then s else opened s c

/-- The rules of R342 when a context's attempt is given up at a fabric time: at the source and at the destination. -/
def staleRules (s : State) (c t0 : Nat) : State :=
  match ctx? s c with
  | none => s
  | some x =>
    let hold := match x.step.setup with | some u => 1000 * u.replayHold | none => 0
    RemoteOps.settleOps (Tracker.dropMarks (RemoteOps.skipPairs s c) c (x.step.step % 65536) (t0 + hold))

end Sys2Proof.Machine.StepOps
end

