-- ==== Sys2Proof/Machine/Abort.lean ====
section
/-! DEFINITION. The error broadcast (R389 to R392): an ABORT's flit, its relay, what it does to a context, and QUIESCED. -/

namespace Sys2Proof.Machine.AbortOps

open Bits Ops Report StepOps

/-- The 64 bytes of an ABORT (R389). -/
def flit (a : AbortMsg) : Bytes :=
  layout 64 [(0, [0x43]), (1, le 1 a.ctx), (2, le 1 a.cause), (3, le 1 a.hops), (4, le 2 a.origin), (6, le 1 a.originGen),
    (7, le 1 (if a.reset then 1 else 0)), (8, le 2 a.sender), (16, le 8 a.time), (24, le 8 a.step)]

/-- RESET is set for these causes (R389). -/
def resetCause (c : Nat) : Bool := c == 1 || c == 2 || c == 6 || c == 8

/-- The context has contributed its verdict and has not received the result (R393). -/
def undecided (x : Ctx) : Bool := stepped x && x.step.contributed

/-! ## Applying an ABORT to a context (R391) -/

/-- Step 4: the context's queues, stepped flags and streams return to the opening of the attempt. -/
def returnToOpening (s : State) (c : Nat) : State :=
  let s1 := FlagOps.restoreFlags (HiveOps.applyResult s c 2) c
  modCtx s1 c (fun x => { x with cores := SMap.mapVals (fun _ (k : CoreCtx) =>
    if k.state == .ended then k else stopStreams (Slots.replayCore (Slots.applyHeld k))) x.cores })

/-- Step 6: FAULTED on every core; a switch in progress completes first (R178). -/
def enterFaulted (s : State) (c : Nat) : State :=
  modCtx s c (fun x =>
    let f := fun (_ : Nat) (k : CoreCtx) =>
      let k1 := stopStreams k
      if k.state == .entering || k.state == .leaving || k.state == .ended then { k1 with held := [] }
      else { k1 with state := .faulted, due := false, held := [] }
    { x with cores := SMap.mapVals f x.cores, step := { x.step with isOpen := false, holdUntil := none } })

/-- Steps 4 and 5 of R391 (a stepped context), then step 6. -/
def finish (s : State) (c : Nat) : State :=
  match ctx? s c with
  | none => s
  | some x => enterFaulted (if stepped x then staleRules (returnToOpening s c) c (now s) else s) c

/-- Steps 1 and 2: nothing of the context issues, and what is not committed is discarded. -/
def halt (s : State) (c : Nat) (keep : Bool) : State :=
  let s1 := modCtx s c (fun x =>
    { x with cores := SMap.mapVals (fun _ k => stopStreams k) x.cores, step := { x.step with dead := true } })
  let s2 := abortProg (PressOps.abort (ChurnOps.abort s1 c) c) c waiting
  if keep then s2 else dropEgress s2 c

/-- An ABORT is applied to a context, not already FAULTED by one. -/
def apply (s : State) (c cause origin ogen : Nat) : State :=
  match ctx? s c with
  | none => s
  | some x =>
    if x.step.aborted then s
    else
      let p := undecided x
      let s1 := modStep s c (fun t => { t with aborted := true, pending := p, quiesceDue := true,
                                               abortInfo := (cause, origin, ogen, x.step.step) })
      let s2 := halt s1 c p
      if p then enterFaulted s2 c else finish s2 c

/-- The module applies an ABORT to its context of the identifier, when the message concerns it (R391). -/
def applyHere (s : State) (a : AbortMsg) : State :=
  if mapsModule s a.ctx a.origin || a.origin == moduleId s || a.sender == moduleId s then apply s a.ctx a.cause a.origin a.originGen else s

/-! ## Raising and relaying (R389, R390) -/

/-- This module raises an ABORT for a context: sent on every UP port, and applied here. -/
def broadcast (s : State) (c cause origin ogen : Nat) : State :=
  let a : AbortMsg := { ctx := c, cause := cause, hops := 12, origin := origin, originGen := ogen, reset := resetCause cause,
                        sender := moduleId s, time := now s, step := match ctx? s c with | some x => x.step.step | none => 0 }
  applyHere (sendControls s (upPorts s) (flit a)) a

/-- An ABORT about this module itself. -/
def broadcastOwn (s : State) (c cause : Nat) : State := broadcast s c cause (moduleId s) s.dex.gen

/-- One ABORT for each defined context (R385 step 3, R39, R453). -/
def broadcastAll (s : State) (cause : Nat) : State := (s.ctxs.map (·.1)).foldl (fun acc c => broadcastOwn acc c cause) s

/-- The key of a message is in the seen table, for 1 ms (R390). -/
def seenBy (s : State) (a : AbortMsg) : Bool :=
  s.fabric.seen.any (fun k => k.1 == a.sender && k.2.1 == a.ctx && k.2.2.1 == a.time && decide (now s < k.2.2.2 + 1000000))

/-- An ABORT arrives on a port that carries control flits: recorded, relayed, and applied (R384, R390, R391). -/
def receive (s : State) (p : Nat) (a : AbortMsg) : State :=
  if !isUp s p || seenBy s a then s
  else
    let s1 := modFabric s (fun f => { f with seen := ((a.sender, a.ctx, a.time, now s) :: f.seen).take 1024 })
    let s2 := if a.hops == 0 then s1
      else sendControls s1 ((upPorts s1).filter (· != p)) (flit { a with hops := a.hops - 1 })
    let s3 := if a.reset then modRemote s2 (fun r => { r with peerGen := SMap.ins r.peerGen a.origin ((a.originGen + 1) % 256) }) else s2
    applyHere s3 a

/-- A key of the seen table has been held for 1 ms (R390). -/
def seenExpiry (s : State) (i : Nat) : State :=
  match s.fabric.seen[i]? with
  | some k => if k.2.2.2 + 1000000 ≤ now s then modFabric s (fun f => { f with seen := f.seen.eraseIdx i }) else s
  | none => s

/-! ## QUIESCED (R392) -/

/-- Every operation of the context on the module has completed or retired. -/
def quiet (s : State) (c : Nat) (x : Ctx) : Bool :=
  Issue.allIdle x && !s.remote.ops.any (fun o => o.2.ctx == c) &&
  !s.churns.any (fun k => k.2.run.any (fun u => u.desc.ctx == c)) && !s.presses.any (fun k => k.2.runs.any (fun u => u.desc.ctx == c))

/-- The QUIESCED entry. -/
def quiescedBody (t : StepState) : List (Nat × Bytes) :=
  let l := t.last.getD (0, 0, 0)
  [(16, le 1 t.abortInfo.1), (17, le 1 l.1), (18, le 1 (if t.pending then 1 else 0)), (20, le 2 t.abortInfo.2.1), (22, le 1 t.abortInfo.2.2.1),
   (24, le 8 t.abortInfo.2.2.2), (32, le 8 l.2.1), (40, le 8 l.2.2)]

/-- QUIESCED: posted once for each ABORT applied (R392); a module in its own reset sequence posts none (R399). -/
def quiesced (s : State) (c : Nat) : State :=
  match ctx? s c with
  | none => s
  | some x =>
    if x.step.quiesceDue && quiet s c x && !fenced s then
      postCtx (modStep s c (fun t => { t with quiesceDue := false })) c { kind := Status.kQuiesced, body := quiescedBody x.step }
    else s

/-! ## Meanings -/

/-- ABORT (R391). -/
def execAbortMsg (p : Nat) (a : AbortMsg) (s : State) : Host.Outcome State Fault Refusal := .next (receive s p a)

/-- ABORT_SEEN_EXPIRY (R390). -/
def execAbortSeenExpiry (idx : Nat) (s : State) : Host.Outcome State Fault Refusal := .next (seenExpiry s idx)

/-- QUIESCED (R392). -/
def execQuiesced (ctx : Nat) (s : State) : Host.Outcome State Fault Refusal := .next (quiesced s ctx)

end Sys2Proof.Machine.AbortOps
end

