-- ==== Sys2Proof/Machine/Desc.lean ====
section
/-! DEFINITION. Host descriptors (R467 to R469, R386): when one starts, running one at once, and keeping one in progress. -/

namespace Sys2Proof.Machine.Desc

open Bits Ops

/-- The descriptor starts now (R468): it is the next of its ring in SQ order, fetched, with fewer than 32 in progress; one that is not
a data descriptor waits for the earlier ones that are not, and FENCE waits for all. None starts while the host link takes no memory
request (R449). -/
def starts (s : State) (d : DescHead) (data : Bool) : Bool :=
  let x := ring s d.ring
  hostReady s && decide (d.ring < 128) && x.enable && !x.err && d.t == x.nextStart && d.t != x.sqHead && decide (x.inProg.length < 32) &&
    (data || x.inProg.all (fun i => i.data)) && (!d.fence || x.inProg.isEmpty)

/-- The descriptor is in progress. -/
def register (s : State) (d : DescHead) (i : InProgress) : State :=
  modRing s d.ring (fun x => { x with nextStart := (x.nextStart + 1) % 4294967296, inProg := x.inProg ++ [i] })

/-- The header breaks the layout of every opcode, or its OPCODE is none of R469. -/
def badCode (d : DescHead) : Bool := d.bad || d.badOp

/-- The header breaks the layout of an opcode that requires a context (R469). -/
def badHead (d : DescHead) : Bool := badCode d || decide (255 ≤ d.ctx)

/-- The status of a body that could not be read, or came poisoned (R478). -/
def bodyStatus (d : DescHead) : Option Nat := if d.fault then some Status.hostFault else if d.poisoned then some Status.poisoned else none

/-- A descriptor of an opcode, in progress. -/
def entry (d : DescHead) (op : Nat) (data : Bool) : InProgress := { head := d, data := data, op := op }

/-- Run a descriptor that completes at once: its effect, its status and its body. A fenced module completes it FENCED (R386). -/
def atOnce (s : State) (d : DescHead) (op : Nat) (data : Bool) (f : State → State × Nat × List (Nat × Bytes)) : State :=
  if starts s d data then
    let s1 := register s d (entry d op data)
    if fenced s then endDesc s1 d.ring d.t Status.fenced []
    else let r := f s1; endDesc r.1 d.ring d.t r.2.1 r.2.2
  else s

/-- Run a descriptor that stays in progress when its checks give no status: `f` gives the status that ends it, or the state in which
it runs on. -/
def lasting (s : State) (d : DescHead) (i : InProgress) (f : State → State × Option Nat) : State :=
  if starts s d i.data then
    let s1 := register s d i
    if fenced s then endDesc s1 d.ring d.t Status.fenced []
    else
      let r := f s1
      match r.2 with
      | some st => endDesc r.1 d.ring d.t st []
      | none => r.1
  else s

end Sys2Proof.Machine.Desc
end

