-- ==== Sys2Proof/Machine/Digest.lean ====
section
/-! DEFINITION. Digests and derived secrets (R414, R415, R438, R442, R443, R445, R446, R450, R451): byte strings that SHA3-512 covers. -/

namespace Sys2Proof.Machine.Digest

open Bits Ops

/-- A digest as bytes, byte 0 first. -/
def bytesOf (d : BitVec 512) : Bytes := le 64 d.toNat

/-- SHA3-512 as bytes. -/
def sha (b : Bytes) : Bytes := bytesOf (Config.sha3 b)

/-- Bytes 0 to 31 of a digest as a key. -/
def keyOf (b : Bytes) : BitVec 256 := BitVec.ofNat 256 (ofLe ((sha b).take 32))

/-- The BODY_DIGEST of the running image of a TYPE (R436). -/
def body (s : State) (type : Nat) : BitVec 512 := (SMap.look s.sec.body type).getD (Config.bodyDigest type)

/-- The SVN of the running image of a TYPE. -/
def svn (s : State) (type : Nat) : Nat := SMap.val 0 s.sec.svn type

/-- FW_DIGEST (R438). -/
def firmware (s : State) : Bytes := sha (bytesOf (body s 1) ++ bytesOf (body s 2) ++ bytesOf (body s 3))

/-- The labels of the key derivations (R440). -/
def labelId : Bytes := [0x4B, 0x45, 0x4C, 0x48, 0x45, 0x58, 0x4F, 0x2D, 0x49, 0x44]
def labelDev : Bytes := [0x4B, 0x45, 0x4C, 0x48, 0x45, 0x58, 0x4F, 0x2D, 0x44, 0x45, 0x56]

/-- The key-generation seed of the device key, the same at every bring-up (R440). -/
def deviceSeed : BitVec 256 := keyOf (labelDev ++ le 32 Config.rootSecret.toNat)

/-- The key-generation seed of the identity key of the running firmware (R440). -/
def identitySeed (s : State) : BitVec 256 := keyOf (labelId ++ le 32 Config.rootSecret.toNat ++ firmware s)

/-- The identity key that the controller holds, by its seed. -/
def identityKey (s : State) : BitVec 256 := s.sec.identity.getD 0

/-- The hardware revision "A" (R2). -/
def revision : Bytes := [0x41]

/-- What the identity certificate carries (R441): FW_DIGEST, the SVN of each image and the revision "A". -/
def identity (s : State) : Bytes := firmware s ++ [1, 2, 3].flatMap (fun t => le 2 (svn s t)) ++ revision

/-- The digest of Rilelyn's root certificate, against which the module verifies chains, and the boot ROM, which holds it with the public
key that verifies firmware (R435, R441, R442). -/
def rootDigest : Bytes := sha Config.rootCertificate
def rom : Bytes := Config.romCode ++ rootDigest ++ padTo 2592 Config.firmwareKey

/-- The public key of a seed (R442: 2,592 bytes). -/
def publicKey (seed : BitVec 256) : Bytes := padTo 2592 (Config.publicKey seed)

/-- The module's certificate chain (R441): root, product, device and identity. -/
def chain (s : State) : Bytes :=
  Config.rootCertificate ++ Config.productCertificate ++ Config.deviceCertificate (publicKey deviceSeed) ++
    Config.identityCertificate deviceSeed (publicKey (identityKey s)) (identity s)

/-- SHA3-512 of the plan (R445, R450). -/
def plan (s : State) : Bytes := sha (match s.dex.plan with | some p => p.text | none => [])

/-- A signature of the module over a digest (R442). -/
def sign (s : State) (d : BitVec 512) : Bytes × State := (padTo 4627 (Config.signature (identityKey s) d s.free), drawn s)

/-- 32 bytes of the random source (R443). -/
def random (s : State) : BitVec 256 × State := (Config.random s.free, drawn s)

/-! ## The configuration digest (R450, R451) -/

/-- The entries folded under R47, in order of INSTANT and then of ENTRY_ID. -/
def folded (s : State) (c : Nat) : List SchedEntry :=
  let l := (s.sched.map (fun p => p.2.entry)).filter (fun e => e.scope == 1 && e.ctx == c && e.action != 8)
  sortBy (fun a b => decide (a.instant < b.instant ∨ (a.instant = b.instant ∧ a.id < b.id))) l

def entryBytes (e : SchedEntry) : Bytes := le 8 e.instant ++ le 1 e.action ++ le 1 e.align ++ le 2 e.id ++ le 16 e.param.toNat

/-- The step set-up's part. -/
def setupBytes : Option StepSetupBody → Bytes
  | some u => le 1 (if u.censusStop then 1 else 0) ++ le 1 u.replayLimit ++ le 2 u.modules ++ le 4 u.replayHold ++ le 4 u.stepDeadline
  | none => zeros 12

/-- KIND and LENGTH of each region. -/
def regionBytes (l : List Region) : Bytes := l.flatMap (fun r => le 1 r.kind ++ le 8 r.length)

/-- The checkpoint block's part. -/
def blockBytes : Option CkptBlock → Bytes
  | some b => bytesOf b.jobDigest ++ le 2 b.shards ++ le 1 b.replicas ++ le 1 b.regions.length ++ regionBytes b.regions
  | none => zeros 68

/-- The rank map's part. -/
def rankBytes (s : State) (c : Nat) : Bytes :=
  let w := (SMap.val 0#64 s.remote.win c).toNat
  let cnt := field w 30 16
  let base := field w 13 0
  le 2 cnt ++ (List.range cnt).flatMap (fun r =>
    let e := (SMap.val 0#64 s.remote.map (base + r)).toNat
    le 2 (field e 13 0 + (if bit e 15 then 32768 else 0)))

def labelConf : Bytes := [0x4B, 0x45, 0x4C, 0x48, 0x45, 0x58, 0x4F, 0x2D, 0x43, 0x4F, 0x4E, 0x46]
def labelJob : Bytes := [0x4B, 0x45, 0x4C, 0x48, 0x45, 0x58, 0x4F, 0x2D, 0x4A, 0x4F, 0x42, 0x43, 0x48, 0x4B]
def labelShard : Bytes := [0x4B, 0x45, 0x4C, 0x48, 0x45, 0x58, 0x4F, 0x2D, 0x53, 0x48, 0x41, 0x52, 0x44]
def labelPsk : Bytes := [0x4B, 0x45, 0x4C, 0x48, 0x45, 0x58, 0x4F, 0x2D, 0x50, 0x53, 0x4B]

/-- The job key's part. -/
def jobBytes : Option (BitVec 256) → Bytes
  | some k => (sha (labelJob ++ le 32 k.toNat)).take 32
  | none => zeros 32

/-- The bytes of a context's configuration digest. -/
def configBytes (s : State) (c : Nat) (x : Ctx) : Bytes :=
  labelConf ++ le 1 1 ++ [1, 2, 3].flatMap (fun t => le 2 (svn s t)) ++ firmware s ++ plan s ++ le 2 s.fabric.activeTable ++
    le 1 c ++ le 1 x.fields.kind ++ le 1 x.fields.stepped ++ setupBytes x.step.setup ++ blockBytes x.ckpt ++ rankBytes s c ++ jobBytes x.jobKey ++
    le 2 (folded s c).length ++ (folded s c).flatMap entryBytes

/-- The truncated digest (R451). -/
def truncated (s : State) (c : Nat) (x : Ctx) : W64 := BitVec.ofNat 64 (ofLe ((sha (configBytes s c x)).take 8))

end Sys2Proof.Machine.Digest
end

