-- ==== Sys2Proof/Machine/Checkpoint.lean ====
section
/-! DEFINITION. Checkpoints, snapshots, reclaim and restore (R408 to R430): the checkpoint block, what an entry that fires at a boundary
does, the shard writer, the commit record, shard loads, and a module's release. -/

namespace Sys2Proof.Machine.Ckpts

open Bits Ops Report

/-- The shard writer and the step logic as requesters. -/
def req (c : Nat) : Mem.Req := { unit := unitCode 11 0, ctx := c }

/-! ## The checkpoint block (R408 to R410) -/

/-- A region table entry with whether it meets R410. -/
def region (b : Bytes) : Region × Bool :=
  let r : Region := { even := at' b 0 6, odd := at' b 6 6, kind := at' b 12 1, length := at' b 16 8 }
  (r, decide (r.kind ≤ 2) && at' b 13 3 == 0 && at' b 24 8 == 0 && r.length % 64 == 0 && (r.kind != 1 || r.length % 320 == 0) &&
      r.even % 64 == 0 && r.odd % 64 == 0 && Mem.inStore r.even r.length && Mem.inStore r.odd r.length)

/-- A region table of n entries at an address, when it lies in memory and every entry meets R410. -/
def table (s : State) (a n : Nat) : Option (List Region) :=
  if n == 0 then some []
  else if Mem.inStore a (32 * n) then
    let l := (List.range n).map (fun i => region (Mem.bytesAt s (a + 32 * i) 32))
    if l.all (·.2) then some (l.map (·.1)) else none
  else none

/-- The block's fixed fields meet R409. -/
def headOk (b : Bytes) : Bool :=
  decide (1 ≤ at' b 66 2 ∧ at' b 66 2 ≤ 16384 ∧ at' b 64 2 < at' b 66 2 ∧ 1 ≤ at' b 69 1 ∧ at' b 68 1 < at' b 69 1 ∧ at' b 70 1 < 2 ∧
    1 ≤ at' b 71 1 ∧ at' b 71 1 ≤ 64 ∧ at' b 78 1 ≤ 64 ∧ at' b 79 1 % 4 ≠ 3 ∧ at' b 86 2 < 8192) &&
  at' b 88 6 % 64 == 0 && (at' b 70 1 == 1 || at' b 94 6 == 0) && at' b 100 4 == 0 && (b.drop 144).all (· == 0)

/-- The checkpoint block at an address, when it meets R409 and R410. -/
def block (s : State) (a : Nat) : Option CkptBlock :=
  if !Mem.inDram a 256 then none
  else
    let b := Mem.bytesAt s a 256
    if !headOk b then none
    else match table s (at' b 72 6) (at' b 71 1), table s (at' b 80 6) (at' b 78 1) with
      | some rs, some ss => some
          { jobDigest := BitVec.ofNat 512 (at' b 0 64), shard := at' b 64 2, shards := at' b 66 2, replica := at' b 68 1, replicas := at' b 69 1,
            root := at' b 70 1 == 1, regions := rs, snapRegions := ss, fact := at' b 79 1 % 4, fcore := at' b 79 1 / 4, flag := at' b 86 2,
            notice := at' b 88 6, manifest := at' b 94 6, hostSlot0 := at' b 104 8, hostSlot1 := at' b 112 8, hostCap := at' b 120 8,
            snapHost := at' b 128 8, snapCap := at' b 136 8 }
      | _, _ => none

/-- The shard writer holds work of a context. -/
def writing (s : State) (c : Nat) : Bool := s.ckpt.items.any (fun i => i.ctx == c)

/-- CKPT_SETUP (R408). -/
def setup (s0 : State) (c a : Nat) : State × Nat :=
  let s := (Mem.load s0 a 256 false (req c)).1
  match block s a with
  | none => (s, Status.badDesc)
  | some b =>
    if (ctx? s c).isNone then (s, Status.noContext)
    else if writing s c then (s, Status.busy)
    else (modCtx s c (fun x => { x with ckpt := some b }), Status.ok)

/-! ## Firing at a committed boundary (R411, R425 to R427, R430) -/

/-- Put an item at the end of the writer's queue; an item that finds it empty begins at once (R412). -/
def enqueue (s : State) (i : WriterItem) : State :=
  modCkpt s (fun w => { w with items := w.items ++ [i], itemAt := if w.items.isEmpty then s.ns else w.itemAt })

/-- CHECKPOINT of a context at the boundary of step k: its firing status. -/
def fireCheckpoint (s : State) (c k : Nat) (param : Nat) : State × Nat :=
  match (ctx? s c).bind (·.ckpt) with
  | none => (s, Status.noSetup)
  | some _ =>
    let slot := param % 2
    if field param 7 1 != 0 || decide (3 < field param 11 8) || field param 127 12 != 0 then (s, Status.badParam)
    else if s.ckpt.items.any (fun i => i.ctx == c && !i.snapshot && i.slot == slot) then (s, Status.slotBusy)
    else if 8 ≤ s.ckpt.items.length then (s, Status.writerFull)
    else
      let i : WriterItem := { ctx := c, snapshot := false, slot := slot, format := field param 11 8, step := k, dest := 0, stage := 0 }
      (enqueue s i, Status.ok)

/-- PARAM of a SNAPSHOT breaks its layout (R425). -/
def badSnapshot (param : Nat) : Bool :=
  decide (3 < field param 19 16) || field param 31 20 != 0 || field param 127 80 != 0 ||
  (if field param 15 0 == 65535 then field param 79 32 != 0 else field param 79 32 % 64 != 0 || !Mem.inDram (field param 79 32) 64)

/-- SNAPSHOT. -/
def fireSnapshot (s : State) (c k : Nat) (param : Nat) : State × Nat :=
  match ctx? s c with
  | none => (s, Status.noSetup)
  | some x =>
    match x.ckpt with
    | none => (s, Status.noSetup)
    | some b =>
      let dest := field param 15 0
      let modules := match x.step.setup with | some u => u.modules | none => 0
      if b.snapRegions.isEmpty then (s, Status.noSetup)
      else if badSnapshot param then (s, Status.badParam)
      else if dest != 65535 && (decide (dest < modules) || (rankMap s c dest).isNone) then (s, Status.badDest)
      else if 8 ≤ s.ckpt.items.length then (s, Status.writerFull)
      else
        let i : WriterItem := { ctx := c, snapshot := true, slot := 0, format := field param 19 16, step := k,
                                dest := dest, stage := field param 79 32 }
        (enqueue s i, Status.ok)

/-- The context ends as under a STOP result (R44, R171, R427). -/
def endContext (s : State) (c : Nat) : State :=
  let s1 := modStep s c (fun t => { t with isOpen := false, holdUntil := none, released := true })
  Slots.stopAll (abortProg (StepOps.dropEgress s1 c) c waiting) c

/-- RECLAIM: `taken` says that a CHECKPOINT of the context has fired ACCEPTED at this boundary. -/
def fireReclaim (s : State) (c : Nat) (param : Nat) (taken : Bool) : State × Nat :=
  if field param 15 14 != 0 || field param 127 30 != 0 then (s, Status.badParam)
  else match rankMap s c (field param 29 16) with
    | none => (s, Status.noRank)
    | some m =>
      if field param 13 0 == 0x3FFF && !taken then (s, Status.noCheckpoint)
      else
        let s1 := endContext s c
        if m == moduleId s then
          (modRemote (modCkpt s1 (fun w => { w with releases := w.releases ++ [(c, none)] })) (fun r =>
            { r with reclaimed := SMap.ins r.reclaimed c true }), Status.ok)
        else (s1, Status.ok)

/-! ## The file of a writer item (R413 to R415) -/

/-- The format code a FORMAT names, and its bytes per element. -/
def narrowFmt (f : Nat) : Numeric.Fmt := match f with | 1 => Numeric.bf16 | 2 => Numeric.e4m3 | _ => Numeric.e5m2
def narrowBytes (f : Nat) : Nat := if f == 1 then 2 else 1

/-- Where a region is read for a step. -/
def regionAddr (r : Region) (k : Nat) : Nat := if k % 2 == 0 then r.even else r.odd

/-- Bytes of an element of a KIND, and its format. -/
def kindBytes (k : Nat) : Nat := if k == 1 then 5 else 4
def kindFmt (k : Nat) : Numeric.Fmt := if k == 1 then Numeric.x40 else Numeric.fp32

/-- A region's bytes in the payload. -/
def packRegion (s : State) (k f : Nat) (r : Region) : Bytes :=
  let raw := Mem.bytesAt s (regionAddr r k) r.length
  if r.kind == 0 || f == 0 then raw
  else (pieces (kindBytes r.kind) raw).flatMap (fun b =>
    le (narrowBytes f) (Numeric.encode (narrowFmt f) false ((kindFmt r.kind).decode (ofLe b))).1)

/-- Bytes a region takes in the payload. -/
def packLen (f : Nat) (r : Region) : Nat :=
  if r.kind == 0 || f == 0 then r.length else r.length / kindBytes r.kind * narrowBytes f

/-- A region's stored bytes from its payload: narrowed elements are widened exactly (R421). -/
def unpackRegion (f : Nat) (r : Region) (b : Bytes) : Bytes :=
  if r.kind == 0 || f == 0 then b
  else (pieces (narrowBytes f) b).flatMap (fun e =>
    le (kindBytes r.kind) (Numeric.encode (kindFmt r.kind) false ((narrowFmt f).decode (ofLe e))).1)

/-- REGION_DIGEST (R414). -/
def regionDigest (rs : List Region) : Bytes := (Digest.sha (Digest.regionBytes rs)).take 32

/-- The 256-byte header (R414). -/
def header (s : State) (b : CkptBlock) (kind format slot step regions dest len : Nat) (nonce : BitVec 256) (rd manifest : Bytes) : Bytes :=
  layout 256 [(0, [0x4B, 0x58, 0x53, 0x48]), (4, [1]), (5, le 1 kind), (6, le 1 format), (7, le 1 slot), (8, le 8 step), (16, le 2 b.shard),
    (18, le 2 b.shards), (20, le 1 b.replica), (21, le 1 b.replicas), (22, le 2 (moduleId s)), (24, le 1 s.dex.gen), (25, le 1 regions),
    (26, le 2 dest), (32, le 8 len), (40, le 32 nonce.toNat), (72, Digest.bytesOf b.jobDigest), (136, rd), (168, manifest)]

/-- Bytes of a file whose ciphertext has a length. -/
def fileLen (payload : Nat) : Nat := 256 + 64 * ceilDiv (payload + 16) 64 + 4672

/-- The key of a file (R415). -/
def fileKey (job nonce : BitVec 256) : BitVec 256 := Digest.keyOf (Digest.labelShard ++ le 32 job.toNat ++ le 32 nonce.toNat)

/-- A finished file and its shard digest. -/
def file (s : State) (b : CkptBlock) (i : WriterItem) (rs : List Region) (job : BitVec 256) : Bytes × BitVec 512 × State :=
  let n := Digest.random s
  let payload := rs.flatMap (packRegion s i.step i.format)
  let h := header s b (if i.snapshot then 2 else 1) i.format i.slot i.step rs.length (if i.dest == 65535 then 0 else i.dest) payload.length n.1 (regionDigest rs) []
  let c := Config.gcmSeal (fileKey job n.1) 0 h payload
  let cipher := padTo payload.length c.1
  let d := Config.sha3 (h ++ cipher ++ le 16 c.2.toNat)
  let sg := Digest.sign n.2 d
  (h ++ padMul 64 (cipher ++ le 16 c.2.toNat) ++ padMul 64 sg.1, d, sg.2)

/-! ## Finishing an item (R412, R416, R432) -/

/-- The first region block that fails, with what reading it raises (R290, R217): CHECK for a check value, FAULT for poison. -/
def readRegions (s : State) (i : WriterItem) (rs : List Region) : State × Nat :=
  rs.foldl (fun (acc : State × Nat) r =>
    if acc.2 != 0 then acc
    else
      let m := Mem.load acc.1 (regionAddr r i.step) r.length true (req i.ctx)
      (m.1, if !m.2.sound || m.2.outside then 4 else if !m.2.check.isEmpty then 3 else 0)) (s, 0)

/-- Notice status of an outcome given from outside. -/
def outcomeStatus (o : WriterOutcome) : Nat := match o with | .done => 0 | .check => 3 | .fault => 4 | .fenced => 5

/-- The least time of an item that writes its file, in ns (R418): its bytes at 200 GB/s in and 100 GB/s out, and 1 ms for signing. -/
def itemNs (b : CkptBlock) (i : WriterItem) : Nat :=
  let rs := if i.snapshot then b.snapRegions else b.regions
  max (ceilDiv ((rs.map (fun r => r.length)).foldl (· + ·) 0) 200) (ceilDiv (fileLen ((rs.map (packLen i.format)).foldl (· + ·) 0)) 100) + 1000000

/-- What the item gives: the state after its reads and its file, the notice's D, status and file length. -/
def produce (s : State) (b : CkptBlock) (i : WriterItem) (job : Option (BitVec 256)) (o : WriterOutcome) : State × Bytes × Nat × Nat :=
  let rs := if i.snapshot then b.snapRegions else b.regions
  let dest := if i.snapshot then (if i.dest == 65535 then some b.snapHost else none) else some (if i.slot == 0 then b.hostSlot0 else b.hostSlot1)
  let cap := if i.snapshot then b.snapCap else b.hostCap
  let len := fileLen ((rs.map (packLen i.format)).foldl (· + ·) 0)
  let fail := fun (t : State) (st : Nat) => (t, zeros 64, st, 0)
  if !i.snapshot && i.step % b.replicas != b.replica then fail s 2
  else if fenced s then fail s 5
  else if outcomeStatus o != 0 then fail s (outcomeStatus o)
  else if i.cut then fail s 4
  else if cap < len then fail s 6
  else match job with
    | none => fail s 4
    | some k =>
      let r := readRegions s i rs
      if r.2 != 0 then fail r.1 r.2
      else match dest with
        | some a =>
          if !hostReady s then fail r.1 4
          else let f := file r.1 b i rs k; (emit f.2.2 (.hostWrite a f.1 []), Digest.bytesOf f.2.1, 1, len)
        | none =>
          let f := file r.1 b i rs k
          let w := Mem.store f.2.2 i.stage f.1 false (req i.ctx)
          if w.2 == 0 then (w.1, Digest.bytesOf f.2.1, 1, len) else fail w.1 4

/-- The shard notice (R416). -/
def notice (b : CkptBlock) (i : WriterItem) (d : Bytes) (st len : Nat) : Bytes :=
  layout 128 [(0, d), (64, le 8 i.step), (72, le 2 b.shard), (74, le 1 i.slot), (75, le 1 st), (80, le 8 len)]

/-- The first item of the queue ends: notice, flag, completion, in that order (R416); the next one begins (R412). -/
def finishItem (s : State) (o : WriterOutcome) : State :=
  match s.ckpt.items with
  | [] => s
  | i :: rest =>
    let s0 := modCkpt s (fun w => { w with items := rest, itemAt := s.ns })
    match ctx? s i.ctx with
    | none => s0
    | some x => match x.ckpt with
      | none => s0
      | some b =>
        let p := produce s0 b i x.jobKey o
        let n := notice b i p.2.1 p.2.2.1 p.2.2.2
        let s1 := (Mem.store p.1 b.notice n false (req i.ctx)).1
        let s2 := FlagOps.arrive s1 b.fcore b.flag b.fact { module := moduleId s, core := 0, ctx := i.ctx, src := FlagOps.srcKind 4 }
        postCtx s2 i.ctx { kind := Status.kShard, body := [(16, p.2.1), (80, le 8 i.step), (88, le 2 b.shard), (90, le 1 i.slot),
                                                            (91, le 1 p.2.2.1), (96, le 8 p.2.2.2)] }

/-- The first item would end with its file written (status 1), and the least time of that since it began has not passed (R418). An
item that writes no file ends when it is found so. -/
def early (s : State) (o : WriterOutcome) : Bool :=
  match s.ckpt.items with
  | [] => false
  | i :: _ => match ctx? s i.ctx with
    | none => false
    | some x => match x.ckpt with
      | none => false
      | some b => decide (s.ns < s.ckpt.itemAt + itemNs b i) && (produce s b i x.jobKey o).2.2.1 == 1

/-- WRITER_ITEM_FINISH: the first item ends, once its time has passed (R418); the codes report as its regions are read (R216, R224). -/
def itemFinish (s : State) (x : WriterEnd) : State :=
  if early s x.outcome then s
  else finishItem (Mem.inject s x.hits (req ((s.ckpt.items.map (·.ctx)).headD 255))) x.outcome

/-! ## The commit record (R420) -/

/-- The manifest entry of a shard agrees with the descriptor. -/
def entryOk (s : State) (b : CkptBlock) (slot step i : Nat) : Bool :=
  let a := b.manifest + 128 * i
  Mem.inStore a 128 && Mem.word s (a + 75) 1 == 1 && Mem.word s (a + 64) 8 == step && Mem.word s (a + 74) 1 == slot && Mem.word s (a + 72) 2 == i

/-- CKPT_COMMIT: the status and the first failing index. A record formed from entries that fail their codes leaves poisoned, and says so
(R290, R478). -/
def commit (s0 : State) (c slot step host : Nat) : State × Nat × List (Nat × Bytes) :=
  if 1 < slot then (s0, Status.badDesc, [])
  else match ctx? s0 c with
  | none => (s0, Status.noContext, [])
  | some x =>
    match x.ckpt with
    | none => (s0, Status.notRoot, [])
    | some b =>
      if !b.root then (s0, Status.notRoot, [])
      else
        let m := Mem.load s0 b.manifest (128 * b.shards) true (req c)
        let s := m.1
        match (List.range b.shards).find? (fun i => !entryOk s b slot step i) with
        | some i => (s, Status.incomplete, [(16, le 4 i)])
        | none =>
          let md := Digest.sha ((List.range b.shards).flatMap (fun i => Mem.bytesAt s (b.manifest + 128 * i) 64))
          let h := header s b 3 0 slot step b.regions.length 0 0 0 (regionDigest b.regions) md
          let sg := Digest.sign s (Config.sha3 h)
          let r := h ++ padMul 64 sg.1
          (emit sg.2 (.hostWrite host r (if m.2.sound && m.2.check.isEmpty then [] else [(0, r.length)])),
           if !m.2.check.isEmpty then Status.check else if !m.2.sound then Status.poisoned else Status.ok, [])

/-! ## Shard loads (R421, R422) -/

/-- The body of a shard load breaks its layout. -/
def badLoad (d : DescHead) (x : LoadBody) : Bool :=
  x.bad || x.ctx != d.ctx || (x.partialLoad && (x.bytes % 64 != 0 || x.dest % 64 != 0 || !Mem.inStore x.dest x.bytes))

/-- The checks that precede the first byte written, in order (R421). -/
def loadCheck (b : CkptBlock) (x : LoadBody) : Option Nat :=
  let h := padTo 256 x.header
  let kind := at' h 5 1
  if at' h 0 4 != 0x4853584B || at' h 4 1 != 1 || !(kind == 1 || kind == 2) || x.length != fileLen (at' h 32 8) then some Status.badFormat
  else if at' h 72 64 != b.jobDigest.toNat then some Status.wrongJob
  else if at' h 8 8 != x.step then some Status.wrongStep
  else if !x.partialLoad && (at' h 16 2 != b.shard || at' h 18 2 != b.shards || at' h 21 1 != b.replicas) then some Status.wrongShard
  else if !x.partialLoad && (h.drop 136).take 32 != regionDigest b.regions then some Status.wrongLayout
  else if at' h 6 1 != 0 && !x.acceptNarrow then some Status.narrow
  else none

/-- SHARD_LOAD: the status that ends it, or none while it runs. -/
def load (s : State) (d : DescHead) (x : LoadBody) : State × Option Nat :=
  if Desc.badHead d then (s, some Status.badDesc)
  else if (Desc.bodyStatus d).isSome then (s, Desc.bodyStatus d)
  else if badLoad d x then (s, some Status.badDesc)
  else match ctx? s d.ctx with
    | none => (s, some Status.noContext)
    | some c =>
      if c.step.isOpen then (s, some Status.busy)
      else match c.ckpt with
        | none => (s, some Status.noSetup)
        | some b =>
          let s1 := modCtx s d.ctx (fun y => { y with unrestored := true })
          match loadCheck b x with
          | some st => (s1, some st)
          | none => (modCkpt s1 (fun w => { w with loads := SMap.ins w.loads d.ctx (SMap.val [] w.loads d.ctx ++ [(d, x)]) }), none)

/-- Write the regions of a full load from its plaintext (R421). -/
def writeRegions : List Region → State → Nat → Nat → Nat → Bytes → State
  | [], s, _, _, _, _ => s
  | r :: rest, s, c, k, f, b =>
    let n := packLen f r
    writeRegions rest (Mem.store s (regionAddr r k) (unpackRegion f r (b.take n)) false (req c)).1 c k f (b.drop n)

/-- The 64-byte accesses of a region whose stored bytes come from a part of the payload that came poisoned (R478): `at0` is where the
region's payload begins, `offsets` are the poisoned 64-byte accesses of the ciphertext. -/
def poisonedUnits (a : Nat) (f : Nat) (r : Region) (at0 : Nat) (offsets : List Nat) : List Nat :=
  let kb := if r.kind == 0 || f == 0 then 1 else kindBytes r.kind
  let nb := if r.kind == 0 || f == 0 then 1 else narrowBytes f
  (Mem.unitsOf 64 a r.length).filter (fun u =>
    let lo := at0 + (64 * u - a) / kb * nb
    let hi := at0 + ((64 * u - a + 63) / kb + 1) * nb
    offsets.any (fun o => decide (o < hi ∧ lo < o + 64)))

/-- Mark accesses of DRAM as poisoned. -/
def markUnits (s : State) (us : List Nat) : State := us.foldl (fun acc u => if Mem.inDram (64 * u) 64 then Mem.poisonAll acc (64 * u) 64 else acc) s

/-- Mark what a load has written from poisoned data (R478). -/
def markRegions : List Region → State → Nat → Nat → Nat → List Nat → State
  | [], s, _, _, _, _ => s
  | r :: rest, s, k, f, at0, offsets =>
    markRegions rest (markUnits s (poisonedUnits (regionAddr r k) f r at0 offsets)) k f (at0 + packLen f r) offsets

/-- The plaintext of a load's ciphertext, written where the load puts it (R421); what came poisoned is marked (R478). -/
def writeLoad (s : State) (c : Nat) (b : CkptBlock) (job : BitVec 256) (x : LoadBody) (cipher : Bytes) (offsets : List Nat) : State :=
  let h := padTo 256 x.header
  let nonce : BitVec 256 := BitVec.ofNat 256 (at' h 40 32)
  let plain := padTo (at' h 32 8) (Config.gcmOpen (fileKey job nonce) 0 h cipher)
  if x.partialLoad then
    let s1 := (Mem.store s x.dest ((plain.drop x.offset).take x.bytes) false (req c)).1
    markUnits s1 (poisonedUnits x.dest 0 { even := 0, odd := 0, kind := 0, length := x.bytes } x.offset offsets)
  else markRegions b.regions (writeRegions b.regions s c (at' h 8 8) (at' h 6 1) plain) (at' h 8 8) (at' h 6 1) 0 offsets

/-- SHARD_LOAD_COMPLETE (R421, R422, R447, R478): the earliest load of the context in progress ends (DESIGN CHOICE,
notes/assumptions/58.md). -/
def loadComplete (s0 : State) (c : Nat) (e : LoadEnd) : State :=
  match SMap.val [] s0.ckpt.loads c with
  | [] => s0
  | (d, x) :: rest =>
    let s := Mem.inject s0 e.hits (req c)
    let s1 := modCkpt s (fun w => { w with loads := if rest.isEmpty then SMap.del w.loads c else SMap.ins w.loads c rest })
    let done := fun (t : State) (st : Nat) => endDesc t d.ring d.t st []
    let into := fun (cipher : Bytes) (offsets : List Nat) (f : State → State) =>
      match ctx? s c with
      | none => done s1 Status.aborted
      | some y => match y.ckpt, y.jobKey with
        | some b, some job => f (writeLoad s1 c b job x cipher offsets)
        | _, _ => done s1 Status.badTag
    match e.result with
    | .hostFault => done s1 Status.hostFault
    | .poisoned cipher offsets => into cipher offsets (fun t => done t Status.poisoned)
    | .opened cipher tagOk sigOk => into cipher [] (fun t =>
        if !tagOk then done t Status.badTag
        else if !sigOk then done t Status.badSignature
        else done (modCtx t c (fun z => { z with unrestored := false })) Status.ok)

/-! ## Release (R428) -/

/-- Post RELEASED (R428, R473, R497). -/
def released (s : State) (c : Nat) (skipped : Bool) : State :=
  let s1 := modCkpt s (fun w => { w with releases := w.releases.filter (fun r => r.1 != c) })
  let b := le 1 (if skipped then 1 else 0)
  notify (postCtx s1 c { kind := Status.kReleased, body := [(16, b)] }) 3 (le 1 c ++ b)

/-- The descriptors that follow each other in the slots of a ring from its next number on. -/
def queuedFrom (slots : SMap Bytes) (r next : Nat) : List Bytes :=
  ((List.range 64).map (fun i => ((next + i) % 4294967296, SMap.look slots (64 * r + (next + i) % 64)))).takeWhile
    (fun p => match p.2 with | some b => at' b 0 4 == p.1 | none => false) |>.filterMap (·.2)

/-- Work of a context that has not run: a descriptor in a ring of a Churn or a Press, and a COPY_OUT that is being sent. -/
def pendingWork (s : State) (c : Nat) : Bool :=
  s.churns.any (fun k => (List.range 16).any (fun r => (queuedFrom k.2.slots r (ChurnOps.nextOf k.2 r)).any (fun b => (ChurnOps.parse b).ctx == c))) ||
  s.presses.any (fun k => (List.range 16).any (fun r => (queuedFrom k.2.slots r (PressOps.nextOf k.2 r)).any (fun b => (PressOps.parse b).ctx == c))) ||
  (allProg s).any (fun p => p.2.op == 0x0B && p.2.sending && p.2.head.ctx == c)

/-- RELEASE_SELF: once the writer and the operations of the context are done, its job key is erased; the wipe begins, or is skipped
while another context is defined. A context deleted meanwhile is released all the same. -/
def releaseSelf (s : State) (c : Nat) : State :=
  let quiet := match ctx? s c with
    | some x => AbortOps.quiet s c x && !pendingWork s c
    | none => !pendingWork s c
  if s.ckpt.releases.contains (c, none) && !writing s c && quiet then
      let s1 := modCtx s c (fun y => { y with jobKey := none })
      if s.ctxs.all (fun p => p.1 == c) then
        modCkpt s1 (fun w => { w with releases := w.releases.map (fun r => if r == (c, none) then (c, some (now s)) else r) })
      else released s1 c true
  else s

/-- The wipe: DRAM as R219 leaves it; scratchpad, pantry, the Hive, the flags and the scheduled-action table as package reset does. -/
def wipe (s : State) : State :=
  { s with
    mem := { s.mem with cells := [], poison := [], press := [], badCheck := [], badWord := [] },
    hives := [], flags := {}, sched := [], rm := SMap.mapVals (fun _ (k : RmCore) => { k with spad := [] }) s.rm }

/-- WIPE_DONE. -/
def wipeDone (s : State) : State :=
  match s.ckpt.releases.find? (fun r => r.2.isSome) with
  | some (c, _) => released (wipe s) c false
  | none => s

/-! ## Meanings -/

/-- CKPT_SETUP (R408). -/
def execCkptSetup (d : DescHead) (a : Nat) (s : State) : Host.Outcome State Fault Refusal :=
  .next (Desc.atOnce s d 7 false (fun t => if Desc.badHead d then (t, Status.badDesc, []) else let r := setup t d.ctx a; (r.1, r.2, [])))

/-- CKPT_COMMIT (R420). -/
def execCkptCommit (d : DescHead) (slot step host : Nat) (s : State) : Host.Outcome State Fault Refusal :=
  .next (Desc.atOnce s d 8 false (fun t => if Desc.badHead d then (t, Status.badDesc, []) else commit t d.ctx slot step host))

/-- SHARD_LOAD (R421). -/
def execShardLoad (d : DescHead) (x : LoadBody) (s : State) : Host.Outcome State Fault Refusal :=
  .next (Desc.lasting s d (Desc.entry d 9 false) (fun t => load t d x))

/-- SHARD_LOAD_COMPLETE (R421). -/
def execShardLoadComplete (ctx : Nat) (r : LoadEnd) (s : State) : Host.Outcome State Fault Refusal := .next (loadComplete s ctx r)

/-- WRITER_ITEM_FINISH (R416). -/
def execWriterItemFinish (o : WriterEnd) (s : State) : Host.Outcome State Fault Refusal := .next (itemFinish s o)

/-- RELEASE_SELF (R428). -/
def execReleaseSelf (ctx : Nat) (s : State) : Host.Outcome State Fault Refusal := .next (releaseSelf s ctx)

/-- WIPE_DONE (R428). -/
def execWipeDone (s : State) : Host.Outcome State Fault Refusal := .next (wipeDone s)

end Sys2Proof.Machine.Ckpts
end

