-- ==== Sys2Proof/Machine/Reset.lean ====
section
/-! DEFINITION. The reset sequence (R382, R385, R387), its assertion, and the escalations of R397. -/

namespace Sys2Proof.Machine.ResetOps

open Bits Ops Report

/-- The drain ends (R385, R387): incomplete operations are abandoned and one ABORT goes out for each context. -/
def endDrain (s : State) (q : ResetSeq) : State :=
  AbortOps.broadcastAll { RemoteOps.abandon s with resetSeq := some { q with stage := 2, ta := now s } } q.cause

/-- DRAIN_END: every outbound operation answered, or 100 µs past Td. -/
def drainEnd (s : State) : State :=
  match s.resetSeq with
  | some q => if Order.turn 5 s && q.stage == 1 && (!RemoteOps.draining s || decide (q.td + 100000 ≤ now s)) then endDrain s q else s
  | none => s

/-- A flit of an ABORT (R389). -/
def isAbort (f : QueuedFlit) : Bool := f.buf == 13 && f.data.headD 0 == 0x43

/-- Every ABORT has left every UP port, or 10 µs have passed since the end of the drain (R385 step 4). -/
def abortsLeft (s : State) (q : ResetSeq) : Bool :=
  (upPorts s).all (fun p => (port s p).outq.all (fun f => !isAbort f)) || decide (q.ta + 10000 ≤ now s)

/-- The package reset is asserted (R381, R383) and bring-up begins; a failed module ends in FAILED (R354). -/
def assertReset (s : State) (failed : Bool) : State :=
  let s1 := notify (packageReset s s.dex.lastCause s.dex.lastClass) 1 (le 1 2)
  if failed then declareFailed s1 else s1

/-- Every UP port announces the link going down (R318, R385 step 4, R488 step 2). -/
def announceDown (s : State) : State := sendControls s (upPorts s) Config.downFlit

/-- RESET_ASSERT. -/
def resetAssert (s : State) : State :=
  match s.resetSeq with
  | some q => if q.stage == 2 && s.dex.state == .ready && abortsLeft s q then assertReset (announceDown s) q.failed else s
  | none => s

/-! ## Escalation (R397) -/

/-- Class 0x23 subcause 5, before the Dexhorn controller resets or power-cycles the package. -/
def watchdog (s : State) : State := addEvent (record s (fill s { cls := 0x23, unit := unitCode 13 0, aux := 5 } 4 false)) 300

/-- The package is reset in a removal whose first step has not ended in time (R488 step 1, R397): no ABORT and no announcement is sent, the
generation stays (R488), and the sequence goes on with its third step (DEDUCED, notes/assumptions/64.md). -/
def removalReset (s : State) : State :=
  let t := freshPackage s
  { t with dex := { s.dex with removal := s.dex.removal.map (fun r => { r with step := 3 }) }, sec := eraseSecrets s.sec }

/-- RESET_SEQUENCE_TIMEOUT: steps 1 to 3 have not ended 150 µs past Td. No ABORT is sent and no link is announced down, so that the peers
find the loss under R394. -/
def sequenceTimeout (s : State) : State :=
  match s.resetSeq with
  | some q =>
    if q.stage == 1 && decide (q.td + 150000 ≤ now s) then
      match s.dex.state with
      | .ready => assertReset (watchdog s) q.failed
      | .removing => removalReset (watchdog s)
      | .off | .standby | .bringup | .safe | .failed => s
    else s
  | none => s

/-- The rails are removed for a cold power cycle (R397). -/
def coldCycle (s : State) (cause cls : Nat) : State :=
  let s1 := modDex (railsOff s .bringup) (fun d => { d with phase := 1, coldCycle := 1, coldAt := s.ns, coldCycles := min 255 (d.coldCycles + 1),
                                                            lastCause := cause, lastClass := cls })
  if s.dex.state == .bringup then s1 else notify s1 1 (le 1 2)

/-- READY_TIMEOUT: 13 s past the reset assertion. -/
def readyTimeout (s : State) : State :=
  if s.dex.state == .bringup && s.dex.coldCycle == 0 && decide (s.dex.assertedAt + 13000000000 ≤ s.ns) then coldCycle (watchdog s) 1 0x23 else s

/-- COLD_CYCLE_OFF_END: after 1 s the rails return, which is the reset assertion, and the generation increases (R383, R484). -/
def offEnd (s : State) : State :=
  if s.dex.state == .bringup && s.dex.coldCycle == 1 && decide (s.dex.coldAt + 1000000000 ≤ s.ns) then assertion s 2 else s

/-- COLD_CYCLE_READY_TIMEOUT: 19 s past the rails' return the module is declared failed. -/
def coldTimeout (s : State) : State :=
  if s.dex.state == .bringup && s.dex.coldCycle == 2 && decide (s.dex.assertedAt + 19000000000 ≤ s.ns) then
    raise s { cls := 0x23, unit := unitCode 13 0, aux := 5 } 5
  else s

/-! ## Meanings -/

/-- RESET_SEQUENCE (R354, R382, R385): an error of a class whose effect is module fault or module failed, found where no other command
finds it, is raised and starts the sequence. -/
def execResetSequence (t : Trigger) (s : State) : Host.Outcome State Fault Refusal :=
  .next (raise s { cls := t.cls, unit := unitCode 13 0 } (if t.failed then 5 else 4))

/-- DRAIN_END (R387). -/
def execDrainEnd (s : State) : Host.Outcome State Fault Refusal := .next (drainEnd s)

/-- RESET_ASSERT (R385). -/
def execResetAssert (s : State) : Host.Outcome State Fault Refusal := .next (resetAssert s)

/-- RESET_SEQUENCE_TIMEOUT (R397). -/
def execResetSequenceTimeout (s : State) : Host.Outcome State Fault Refusal := .next (sequenceTimeout s)

/-- READY_TIMEOUT (R397). -/
def execReadyTimeout (s : State) : Host.Outcome State Fault Refusal := .next (readyTimeout s)

/-- COLD_CYCLE_OFF_END (R397). -/
def execColdCycleOffEnd (s : State) : Host.Outcome State Fault Refusal := .next (offEnd s)

/-- COLD_CYCLE_READY_TIMEOUT (R397). -/
def execColdCycleReadyTimeout (s : State) : Host.Outcome State Fault Refusal := .next (coldTimeout s)

end Sys2Proof.Machine.ResetOps
end

