-- ==== Sys2Proof/Machine/Alarm.lean ====
section
/-! DEFINITION. The security alarm (R438, R452 to R456). -/

namespace Sys2Proof.Machine.Alarm

open Bits Ops Report

/-- Every key but the link keys is erased (R453 step 1, R456): identity, sessions, pre-shared keys, job keys, IDE keys; exchanges are
abandoned, and staged images are discarded. -/
def eraseKeys (s : State) : State :=
  let s1 := modSec s (fun x => { x with identity := none, negotiated := 0, attested := false, sessions := [], psks := [], kem := none, staged := [] })
  let s2 := modHost s1 (fun h => { h with secure := false, ideKeys := [], ideOn := [], ideGo := [] })
  let s3 := modFabric s2 (fun f => { f with ports := SMap.mapVals (fun _ (p : Port) => { p with rekeys := [] }) f.ports })
  { s3 with ctxs := SMap.mapVals (fun _ (x : Ctx) => { x with jobKey := none }) s3.ctxs }

/-- Shard writer items end with FAULT (R453 step 1). -/
def endItems (s : State) : State := s.ckpt.items.foldl (fun acc _ => Ckpts.finishItem acc .fault) s

/-- Alarms in the last 24 hours of powered time. -/
def recent (s : State) : Nat := (s.sec.alarmAt.filter (fun t => decide (s.dex.powered < t + 86400000000000))).length

/-- Count an alarm with its sources (R454, R455). -/
def count (s : State) (bits : Nat) : State :=
  modSec s (fun x => { x with alarms := min 255 (x.alarms + 1), alarmAt := s.dex.powered :: x.alarmAt, lastSource := bits % 512,
                              alarmSince := some bits })

/-- The class 0x50 record: the controller's copy, its non-volatile record and the subscriber now, the host log once the host link
serves again (R453 step 5, R497). -/
def recordAlarm (s : State) (bits effect : Nat) : State :=
  let r := fill s { cls := 0x50, unit := unitCode 14 0, detail := detail [(40, le 4 bits)] } effect false
  notify (modDex s (fun d => { d with records := addCopy d.records r, nvRecords := d.nvRecords ++ [r],
                                      alarmLog := d.alarmLog ++ [r] })) 4 (recBytes r)

/-- The reset sequence of an alarm (R453 steps 2 to 4): a drain of zero length, and one ABORT with CAUSE 6 for each context. -/
def sequence (s : State) (failed : Bool) : State :=
  let q : ResetSeq := { td := now s, stage := 1, cause := 6, failed := failed || s.resetSeq.any (fun r => r.failed), ta := 0 }
  let s1 := modDex s (fun d => { d with lastCause := 5, lastClass := 0x50 })
  let s2 := if fenced s then { s1 with resetSeq := some q } else fence s1 q
  ResetOps.endDrain s2 q

/-- SECURITY_ALARM (R453, R454, R456, R502). -/
def alarm (s : State) (bits : Nat) : State :=
  if s.dex.state == .off || bits == 0 then s
  else
    let s1 := count (eraseKeys (endItems s)) bits
    let third := decide (3 ≤ recent s1)
    let s2 := recordAlarm s1 bits (if third then 5 else 6)
    match s.dex.state with
    | .ready => sequence s2 third
    | .bringup => if third then declareFailed s2 else packageReset s2 5 0x50
    | .removing => modDex s2 (fun d => { d with removal := d.removal.map (fun r => { r with failed := r.failed || third }) })
    | .standby | .safe => if third then declareFailed s2 else s2
    | .off | .failed => s2

/-- ALARM_PERSIST_CHECK (R454): 1 s after the reset assertion, or after the rails' return. -/
def persist (s : State) (active : Bool) : State :=
  match s.sec.alarmSince with
  | none => s
  | some bits =>
    if s.dex.state == .bringup && s.dex.coldCycle != 1 && decide (s.dex.assertedAt + 1000000000 ≤ s.ns) then
      if !active then modSec s (fun x => { x with alarmSince := none })
      else if s.dex.coldCycle == 0 then ResetOps.coldCycle s 5 0x50
      else declareFailed (recordAlarm s bits 5)
    else s

/-- FIRMWARE_REVERIFY (R438, R452): the Dexhorn image, and the sequencer and Weevil images. -/
def reverify (s : State) (dexhornOk imagesOk : Bool) : State :=
  if s.dex.state == .bringup || s.dex.state == .ready || s.dex.state == .removing then
    alarm s ((if dexhornOk then 0 else 128) + (if imagesOk then 0 else 256))
  else s

/-! ## Meanings -/

/-- SECURITY_ALARM (R453). -/
def execSecurityAlarm (source : Nat) (s : State) : Host.Outcome State Fault Refusal := .next (alarm s (source % 512))

/-- ALARM_PERSIST_CHECK (R454). -/
def execAlarmPersistCheck (active : Bool) (s : State) : Host.Outcome State Fault Refusal := .next (persist s active)

/-- FIRMWARE_REVERIFY (R438). -/
def execFirmwareReverify (dexhornOk imagesOk : Bool) (s : State) : Host.Outcome State Fault Refusal := .next (reverify s dexhornOk imagesOk)

end Sys2Proof.Machine.Alarm
end

