-- ==== Sys2Proof/Machine/Array.lean ====
section
/-! DEFINITION. The matrix array (R54 to R81): the issue of a pass, its feeding, its arithmetic with the accumulation window
(R97 to R108), the checksum comparison, the write-out with its census, and the Cicada (R73). -/

namespace Sys2Proof.Machine.Array

open Bits Ops Report Numeric Operand Issue Cicada

/-! ## Operands of the array -/

/-- An array operand: its value and its exponent with the block scale's (R98). -/
structure Opd where
  v : Val
  ex : Int
deriving DecidableEq, Repr

/-- Exponent of an element code: unbiased, emin for a subnormal (R90). -/
def expOfCode (f : Fmt) (c : Nat) : Int :=
  let x := (c >>> f.fb) % 2 ^ f.eb
  (max x 1 : Int) - f.bias

/-- An operand from an element code and its block's scale byte (127 for formats without scales). -/
def opd (fmt code sb : Nat) : Opd :=
  let v := elemVal fmt code
  let ex := match fmtOf fmt with | some f => expOfCode f code | none => 0
  if isMx fmt then ⟨scaled sb v, ex + (sb : Int) - 127⟩ else ⟨v, ex⟩

/-- Formats of one byte or less that mix freely, with scale 1 for a plain FP8 operand (R57). -/
def eightBit (f : Nat) : Bool := decide (3 ≤ f ∧ f ≤ 8)

/-- A format pair the array multiplies (R57). -/
def pairOk (w x : Nat) : Bool :=
  (eightBit w && eightBit x) || (w == x && (w == 10 || w == 9 || w == 11 || w == 1 || w == 2))

/-- The 4-bit formats (R58). -/
def four (w : Nat) : Bool := w == 9 || w == 11

/-- Integer pairs. -/
def integer (w : Nat) : Bool := w == 10 || w == 11

/-- Issue interval of a pass (R57). -/
def interval (w : Nat) : Nat := if w == 1 || w == 2 then 2 else 1

/-- Reduction depth of a pass (R57). -/
def depth (w : Nat) (read : Bool) : Nat := if four w && !read then 256 else 128

/-- Accumulator entries a pass uses (R58, R165). -/
def entries (half : Bool) (m : Nat) : Nat := if half then 2 * m else m

/-- Code of element (r, j) of a tile: 128 columns packed row by row. -/
def tileCode (t : Tile) (r j : Nat) : Nat :=
  let w := width t.desc.format
  let o := j * w
  let rb := 16 * w
  (at' t.data (rb * r + o / 8) 2 >>> (o % 8)) % 2 ^ w

/-- Weight (r, j) of a tile as an operand; its scale is that of rows 32 b to 32 b + 31 of its column (R59), which the scale
array holds at 128 b + j. -/
def weight (t : Tile) (r j : Nat) : Opd :=
  if t.bad.contains (256 * r + j) then ⟨.nan, 0⟩
  else opd t.desc.format (tileCode t r j) (at' t.scales (128 * (r / 32) + j) 1)

/-- Row of the tile that reduction index k or output lane l of half h names (R55, R58): the weight of product k of lane l. -/
def lanesWeight (t : Tile) (read half : Bool) (h l k : Nat) : Opd :=
  if read then weight t (if half then 2 * l + h else l) k else weight t k l

/-- Element k of an activation vector. -/
def activation (s : State) (x : StreamDesc) (v k : Nat) : Opd :=
  if elemBad s x v k then ⟨.nan, 0⟩
  else opd x.format (elemCode s x v k) (scaleByte s x v k)

/-! ## One chunk (R97 to R105) -/

/-- A product: its exact value or special result, and its exponent (R98). -/
def product (a b : Opd) : Res × Int := (mul a.v b.v, a.ex + b.ex)

/-- A chunk sum: its value, whether a product was truncated, and the exact sum of its products. -/
structure Chunk where
  sum : Res
  lost : Bool
  exact : Exact
deriving DecidableEq, Repr

/-- A product truncated toward zero to a multiple of 2^low, in units of 2^low (R100), and whether it lost bits. -/
def cut (low : Int) (m : Nat) (e : Int) : Nat × Bool :=
  if low ≤ e then (m <<< (e - low).toNat, false)
  else let k := (low - e).toNat; (m >>> k, m % 2 ^ k != 0)

/-- Invert a bit of a 96-bit two's complement window. -/
def flip96 (bitNo : Nat) (x : Int) : Int :=
  let u := (x % (2 ^ 96 : Int)).toNat ^^^ 2 ^ (bitNo % 96)
  toSigned 96 u

/-- The special sum of a chunk with non-finite products (R105), none when every product is finite. -/
def specialSum (ps : List (Res × Int)) : Option Res :=
  if ps.any (fun p => p.1 == .nan) then some .nan
  else
    let pos := ps.any (fun p => p.1 == .inf false)
    let neg := ps.any (fun p => p.1 == .inf true)
    if pos && neg then some .nan else if pos then some (.inf false) else if neg then some (.inf true) else none

/-- The largest exponent of the nonzero products (R99). -/
def topExp (ps : List (Res × Int)) : Int :=
  (ps.foldl (fun (acc : Option Int) p => match p.1 with
    | .num _ m _ _ => if m == 0 then acc else match acc with | none => some p.2 | some a => some (max a p.2)
    | _ => acc) none).getD 0

/-- The sum of one chunk of exact products (R99, R100, R102): integer sums are exact, others go through the window. `flip`
inverts one bit of the window. -/
def chunkSum (int : Bool) (ps : List (Res × Int)) (flip : Option Nat) : Chunk :=
  match specialSum ps with
  | some r => ⟨r, false, Exact.zero⟩
  | none =>
    let top := topExp ps
    let low : Int := if int then 0 else top - 86
    let step := fun (acc : Int × Bool × Exact) (p : Res × Int) => match p.1 with
      | .num n m e _ =>
        let c := if int then (m, false) else cut low m e
        (acc.1 + (if n then -(c.1 : Int) else c.1), acc.2.1 || c.2, acc.2.2.add (toExact n m e))
      | _ => acc
    let r := ps.foldl step (0, false, Exact.zero)
    let total := match flip with | some b => flip96 b r.1 | none => r.1
    let diff : Exact := ⟨total - r.1, low⟩
    ⟨(Exact.mk total low).res, r.2.1, r.2.2.add diff⟩

/-- Chunk size of a code (R97). -/
def chunkSize (code : Nat) : Nat := if code == 0 then 32 else if code == 1 then 64 else 128

/-- A list cut into chunks of n; fuel bounds their number. -/
def chunksAux {α : Type} (n : Nat) : Nat → List α → List (List α)
  | 0, _ => []
  | k + 1, l => if l.isEmpty then [] else l.take n :: chunksAux n k (l.drop n)

/-! ## Promotion (R106, R107) -/

/-- An accumulator total with what it carries. -/
structure Total where
  code : W32
  sat : Bool
  bad : Bool
deriving DecidableEq, Repr

def Total.zero : Total := ⟨0, false, false⟩

/-- The sum of a total and a chunk sum as a result (R106). -/
def addRes (t : Val) (c : Res) : Res :=
  match c with
  | .nan => .nan
  | .inf n => match t with | .nan => .nan | .inf m => if n == m then .inf n else .nan | _ => .inf n
  | .num n m e _ => add t (.fin n m e)

/-- Promote one chunk sum into a total (R106, R107). A chunk without a number makes an integer total bad (R217). -/
def promote (int ieee : Bool) (t : Total) (c : Res) : Total :=
  if int then
    match c with
    | .num n m e _ =>
      let x := clampInt 12 (toSigned 32 t.code.toNat + toInt n m e)
      ⟨BitVec.ofNat 32 (signed 32 x.1), t.sat || x.2, t.bad⟩
    | _ => ⟨0, t.sat, true⟩
  else
    let r := toF32 ieee (addRes (fp32.decode t.code.toNat) c)
    ⟨BitVec.ofNat 32 r.1, t.sat || r.2, t.bad⟩

/-! ## The check of a vector (R76, R77) -/

/-- p = 2^61 - 1. -/
def p61 : Nat := 2 ^ 61 - 1

/-- The residue of k · 2^e (R76). -/
def residue (x : Exact) : Nat := ((x.k % (p61 : Int)).toNat * 2 ^ (x.e % 61).toNat) % p61

def exactVal (v : Val) : Exact := match v with | .fin n m e => toExact n m e | _ => Exact.zero

/-- Round a nonnegative exact number upward to FP32 (R77): infinity above the largest finite value. -/
def upF32 (x : Exact) : Nat :=
  let mag := roundMag fp32 x.k.natAbs x.e false
  let c := min mag (fp32.maxCode + 1)
  match fp32.decode c with
  | .fin _ m e => if (toExact false m e).lt x then c + 1 else c
  | _ => c

/-- The exact value of an FP32 code. -/
def f32Exact (c : Nat) : Exact := exactVal (fp32.decode c)

/-- The sum of some weights, exact; a weight that is not finite adds nothing. -/
def sumOf (l : List Opd) : Exact := l.foldl (fun (a : Exact) w => a.add (exactVal w.v)) Exact.zero

/-- The sum of their magnitudes. -/
def magOf (l : List Opd) : Exact := l.foldl (fun (a : Exact) w => let e := exactVal w.v; a.add ⟨e.k.natAbs, e.e⟩) Exact.zero

/-- The content of a checksum cell for some weights (R74, R77): the residue of their sum, or the sum rounded to FP32. -/
def cellOf (bound : Bool) (l : List Opd) : Nat :=
  if bound then (encode fp32 false (sumOf l).val).1 else residue (sumOf l)

/-- Every element of a tile is finite. -/
def allFinite (l : List Opd) : Bool := l.all (fun o => isFinite o.v)

/-- The weights of a row of a tile, and of a column: of its even or odd rows in the 4-bit formats. -/
def rowOf (t : Tile) (r : Nat) : List Opd := (List.range 128).map (weight t r)
def colOf (t : Tile) (j : Nat) : List Opd := (List.range t.desc.rows).map (fun r => weight t r j)
def halfOf (t : Tile) (j h : Nat) : List Opd := (List.range 128).map (fun i => weight t (2 * i + h) j)

/-- The checksum weights that the loader writes for a tile (R74, R77). -/
def checksums (t : Tile) : Checksums :=
  let bound := interval t.desc.format == 2
  let cols := (List.range t.desc.rows).map (rowOf t)
  let rows := if four t.desc.format then (List.range 128).flatMap (fun j => [halfOf t j 0, halfOf t j 1]) else (List.range 128).map (colOf t)
  { cols := cols.map (cellOf bound), rows := rows.map (cellOf bound),
    colMags := if bound then cols.map (fun l => upF32 (magOf l)) else [],
    rowMags := if bound then rows.map (fun l => upF32 (magOf l)) else [],
    corner := residue (cols.foldl (fun (a : Exact) l => a.add (sumOf l)) Exact.zero) }

/-- The loader writes the checksum cells of a tile (R74). -/
def withSums (t : Tile) : Tile :=
  { t with sums := checksums t, finite := (List.range t.desc.rows).all (fun r => allFinite (rowOf t r)) }

/-- The checksum cells that a half-pass of a reading uses, by reduction index (R74). -/
def cellsFor (read half : Bool) (h : Nat) (cols rows : List Nat) : List Nat :=
  if !read then cols
  else if half then (List.range 128).map (fun j => rows.getD (2 * j + h) 0)
  else rows

/-- The check of one vector in an exact class (R76): a mismatch. `cells` are the checksum cells by reduction index; `sums` are the exact
contributions of the lanes; a drill inverts bit 0 of C. -/
def mismatchExact (xs : List Opd) (cells : List Nat) (sums : List Exact) (drill : Bool) : Bool :=
  let c := (xs.zip cells).foldl (fun acc p => (acc + residue (exactVal p.1.v) * p.2) % p61) 0
  let c1 := if drill then c ^^^ 1 else c
  let sv := sums.foldl (fun a x => (a + residue x) % p61) 0
  sv != c1

/-- The check of one bf16 or FP16 vector (R77): a mismatch. `ci` and `ai` are the checksum cells, `ys` the lanes' contributions. An
infinite a_i or A(v) makes the bound infinite, and nothing lies beyond it. -/
def mismatchBound (xs : List Opd) (ci ai : List Nat) (ys : List Exact) : Bool :=
  let prods := (xs.zip ci).map (fun p => product p.1 ⟨fp32.decode p.2, expOfCode fp32 p.2⟩)
  let cv := (chunkSum false prods none).sum
  let c := match cv with | .num n m e _ => toExact n m e | _ => Exact.zero
  let a := (xs.zip ai).foldl (fun (acc : Exact) p =>
    let e := exactVal p.1.v; acc.add ((Exact.mk e.k.natAbs e.e).mul (f32Exact p.2))) Exact.zero
  let av := upF32 a
  let tau := ((f32Exact av).mul ⟨1, -16⟩).add ⟨1, -126⟩
  let sv := ys.foldl (fun acc y =>
    (toF32 false (add (fp32.decode acc) (fp32.decode (encode fp32 false y.val).1))).1) 0
  let d := (f32Exact sv).add c.neg
  !(decide (fp32.maxCode < av) || ai.any (fun x => decide (fp32.maxCode < x))) && tau.lt ⟨d.k.natAbs, d.e⟩

/-! ## One vector of a pass -/

/-- The accumulator key of lane l of an entry (R64). -/
def accKey (l entry : Nat) : Nat := 1024 * l + entry

/-- A lane's total before the pass (R106): +0 in overwrite mode. -/
def oldTotal (k : ArrayCore) (w : PassWord) (l entry : Nat) : Total :=
  if w.acc then ⟨SMap.val 0 k.acc (accKey l entry), SMap.val false k.accSat (accKey l entry), SMap.val false k.accBad (accKey l entry)⟩
  else Total.zero

/-- The codes of the accumulator file find an uncorrectable error in the entry that a vector adds to in a lane (R368). -/
def entryBad (p : PassOp) (hw : Option ArrayFault) (v l : Nat) : Bool :=
  match hw with | some f => f.store && p.word.acc && f.vec == v && f.lane == l | none => false

/-- A total read from such an entry (R150). -/
def corrupted (int : Bool) : Total := if int then ⟨0, false, true⟩ else ⟨BitVec.ofNat 32 fp32.nanCode, false, false⟩

/-- What a lane gives for one vector: its total, its exact contribution, the contribution as promoted, and how many chunks
lost bits (R104; not counted in bf16 and FP16, R103). -/
structure Lane where
  total : Total
  exact : Exact
  contrib : Exact
  lost : Nat

/-- One lane of one vector (R97 to R107). -/
def lane (int : Bool) (w : PassWord) (xs : List Opd) (ws : List Opd) (t0 : Total) (flip : Option Nat) : Lane :=
  let ps := (xs.zip ws).map (fun p => product p.1 p.2)
  let cs := chunksAux (chunkSize w.chunk) ps.length ps
  let sums := cs.zipIdx.map (fun c => chunkSum int c.1 (if c.2 == 0 then flip else none))
  { total := sums.foldl (fun t c => promote int w.ovf t c.sum) t0,
    exact := sums.foldl (fun a c => a.add c.exact) Exact.zero,
    contrib := sums.foldl (fun a c => match c.sum with | .num n m e _ => a.add (toExact n m e) | _ => a) Exact.zero,
    lost := (sums.filter (·.lost)).length }

/-- The result of one vector of one half-pass: its lanes, whether its check was skipped, whether it mismatched. -/
structure Vec where
  lanes : List Lane
  skipped : Bool
  mismatch : Bool

/-- A finite total became infinite or NaN (R78). -/
def spoilt (t0 t1 : Total) : Bool := isFinite (fp32.decode t0.code.toNat) && !isFinite (fp32.decode t1.code.toNat)

/-- One vector of one half-pass (R55, R58, R76 to R78). In the exact classes a non-finite output from finite inputs is a mismatch. -/
def vector (s : State) (k : ArrayCore) (p : PassOp) (h v : Nat) (hw : Option ArrayFault) (drill : Bool) : Vec :=
  let int := integer p.tile.desc.format
  let n := depth p.tile.desc.format p.word.read
  let xs := (List.range n).map (activation s p.x v)
  let ws := fun l => (List.range n).map (lanesWeight p.tile p.word.read p.half h l)
  let entry := p.word.entry + h * p.m + v
  let flip := fun l => match hw with
    | some f => if !f.drain && !f.load && !f.store && f.vec == v && f.lane == l && h == 0 then some f.bit else none
    | none => none
  let bound := interval p.tile.desc.format == 2
  let lanes := (List.range 128).map (fun l =>
    let r := lane int p.word xs (ws l) (if h == 0 && entryBad p hw v l then corrupted int else oldTotal k p.word l entry) (flip l)
    if bound then { r with lost := 0 } else r)
  let cells := cellsFor p.word.read p.half h
  let skip := !allFinite xs || !p.tile.finite
  let newly := !int && lanes.zipIdx.any (fun r => spoilt (oldTotal k p.word r.2 entry) r.1.total)
  let mis := if skip then false
    else if bound then
      drill || mismatchBound xs (cells p.tile.sums.cols p.tile.sums.rows) (cells p.tile.sums.colMags p.tile.sums.rowMags) (lanes.map (·.contrib))
    else newly || mismatchExact xs (cells p.tile.sums.cols p.tile.sums.rows) (lanes.map (·.exact)) drill
  { lanes := lanes, skipped := skip, mismatch := mis }

/-! ## Issue (R56 to R63, R163 to R165) -/

def arrayOf (s : State) (q : Nat) : ArrayCore := SMap.val {} s.arrays q
def setArray (s : State) (q : Nat) (a : ArrayCore) : State := { s with arrays := SMap.ins s.arrays q a }
/-- The weight descriptor is legal for a load (R58, R165). -/
def weightOk (d : StreamDesc) : Bool :=
  wfDesc d && d.kind == 0 && d.inner == 128 && d.rows == (if four d.format then 256 else 128) &&
  Mem.inStore (dataRange d).1 ((dataRange d).2 - (dataRange d).1) &&
  (if isMx d.format then Mem.inStore d.scale (d.rows * 4) else true)

/-- The activation descriptor is legal (R56, R165). -/
def activationOk (d : StreamDesc) (n : Nat) (half : Bool) : Bool :=
  wfDesc d && d.kind == 0 && d.inner == n && decide (d.rows ≤ (if half then 512 else 1024)) &&
  Mem.inSram (dataRange d).1 ((dataRange d).2 - (dataRange d).1) &&
  (if isMx d.format then Mem.inSram d.scale (d.rows * (d.inner / 32)) else true)

/-- The output format fits the totals (R109). -/
def outputFormat (int : Bool) (f : Nat) : Bool :=
  if int then f == 12 || f == 10 || decide (f ≤ 9) else decide (f ≤ 9)

/-- The output descriptor is legal (R109, R165). -/
def outputOk (d : StreamDesc) (int half : Bool) (m : Nat) : Bool :=
  wfDesc d && d.kind == 0 && d.rows == m && d.inner == (if half then 256 else 128) && outputFormat int d.format &&
  Mem.inStore (dataRange d).1 ((dataRange d).2 - (dataRange d).1) &&
  (if isMx d.format then Mem.inStore d.scale (d.rows * (d.inner / 32)) else true)

/-- The descriptor of the tile a pass uses: WDESC, or the tile its context last loaded on the core (R165). -/
def tileDesc (s : State) (r : Runner) (q : Nat) (w : PassWord) : Option StreamDesc :=
  if w.neww then descAt s r.x q w.wdesc else r.k.tile

/-- The descriptors a pass issues with, when it is legal (R163 to R165): tile, activations and output. -/
def legalPass (s : State) (r : Runner) (q : Nat) (w : PassWord) : Option (StreamDesc × StreamDesc × StreamDesc) :=
  match tileDesc s r q w, descAt s r.x q w.xdesc, descAt s r.x q w.odesc with
  | some t, some x, some o =>
    let half := four t.format && w.read
    let m := x.rows
    let last := w.entry + entries half m
    if w.aop == 0 && w.rsvd == 0 && decide (w.chunk ≤ 2) && decide (w.fact ≤ 2) && weightOk t && pairOk t.format x.format &&
       activationOk x (depth t.format w.read) half && (!w.last || outputOk o (integer t.format) half m) &&
       decide (last ≤ 1024) && decide (r.x.fields.accBase ≤ w.entry) &&
       decide (last ≤ r.x.fields.accBase + r.x.fields.accCount)
    then some (t, x, o) else none
  | _, _, _ => none

/-- Load a tile from its descriptor (R60): bytes, scales, the elements that a bad access left unusable, and the checksum weights (R74).
The bytes are read whole when the pass is issued (DESIGN CHOICE, notes/assumptions/83.md). -/
def loadTile (s : State) (c q : Nat) (stream : Option Nat) (d : StreamDesc) (index : Nat) : State × Tile :=
  let rows := List.range d.rows
  let rb := rowBytes d
  let rq : Mem.Req := { unit := unitCode 0 q, ctx := c, stream := stream, op := opField 1 0 }
  let data := rows.flatMap (fun r => Mem.bytesAt s (d.base + r * d.stride) rb)
  let sc := if isMx d.format then Mem.bytesAt s d.scale (d.rows * 4) else []
  let hit := fun (a n : Nat) => Mem.anyMarked s.mem.badWord 8 a n || Mem.anyMarked s.mem.poison 64 a n
  let bad := rows.flatMap (fun r => (List.range 128).filterMap (fun j =>
    if hit (elemSpan d r j).1 (elemSpan d r j).2 || (isMx d.format && hit (d.scale + 128 * (r / 32) + j) 1) then some (256 * r + j) else none))
  (loadAll s d rq, withSums { ctx := c, desc := d, index := index, data := data, scales := sc, bad := bad })

/-- The tile a pass runs with (R60, R165): loaded anew, or the active tile when it is still the context's own. -/
def tileFor (s : State) (c q stream : Nat) (w : PassWord) (d : StreamDesc) : State × Tile :=
  let a := arrayOf s q
  let t := match a.passes.reverse with | p :: _ => p.tile | [] => a.active
  if !w.neww && t.ctx == c && t.desc == d then (s, t) else loadTile s c q (some stream) d w.tile

/-- A weight load takes 128 cycles, one a row, in eighths; DRAM delivers its rows within its shares (R60, R220, R499). -/
def loadRows : Nat := 8 * 128

/-- With the 6 cycles more of the checksum weights (R60). -/
def loadWhole : Nat := loadRows + 8 * 6

/-- A load goes on for n cycles at a rate in eighths: what is left of them after the last row goes to the checksum weights. -/
def loadOn (rate n loaded : Nat) : Nat :=
  if loaded < loadRows then
    let u := loaded + rate * n
    if u ≤ loadRows then u else min loadWhole (loadRows + (u - loadRows) * 8 / rate)
  else min loadWhole (loaded + 8 * n)

/-- Cycles pass for the weights of a pass that loads. -/
def loads (s : State) (n : Nat) (p : PassOp) : PassOp := { p with loaded := loadOn (servedNow s p.tile.desc.base) n p.loaded }

/-- Cycles pass: the weights of the pass that feeds next are loading, from the cycle in which the pass before it began to feed (R62). -/
def tick (s : State) (n : Nat) : State :=
  { s with arrays := SMap.mapVals (fun _ (a : ArrayCore) => { a with passes := updFirst (fun p => p.fed.isNone) (loads s n) a.passes }) s.arrays }

/-- The reload of a context's active weight tile as it enters a slot again (R176). -/
def reload (s : State) (c q : Nat) : State :=
  match ctx? s c with
  | none => s
  | some x => match (onCore x q).tile with
    | none => s
    | some d =>
      let l := loadTile s c q none d (onCore x q).tileIndex
      setArray l.1 q { arrayOf l.1 q with active := l.2, shadow := l.2 }

/-- The Cicada of a physical core ramps up if it must, as a pass is issued there (R73). -/
def rampUp (s : State) (k : Nat) : State :=
  let ph := physAt s k
  if ph.level < 64 && ph.ramp != 1 then setPhys s k { ph with ramp := 1, rampAt := cycle s } else s

/-- A pass is issued: the Cicada ramps up if it must, that of a redundant pair's partner with it, and the array holds the pass (R63, R73,
R362). -/
def hold (s : State) (q : Nat) (p : PassOp) : State :=
  let s1 := rampUp s (physOf s q)
  let s2 := if Pairs.redundant s p.ctx then rampUp s1 (physOf s (q + 1)) else s1
  let a := arrayOf s2 q
  setArray s2 q { a with passes := a.passes ++ [p], shadow := p.tile }

/-- The descriptors a pass names. -/
def passDescs (w : PassWord) : List Nat := (if w.neww then [w.wdesc] else []) ++ [w.xdesc, w.odesc]

/-- PASS (R56 to R64, R163 to R165). `hits` are what the codes report as its weights are read. -/
def pass (s : State) (i : Issuer) (w : PassWord) (hits : List CodeHit) : State :=
  issue s i (.pass w) (fun r =>
    let q := i.core
    match legalPass s r q w with
    | none => rejectRead s i r 1 w.aop (passDescs w)
    | some (t, x, o) =>
      let rq : Mem.Req := { unit := unitCode 0 q, ctx := r.c, stream := some i.stream, op := opField 1 0 }
      let s0 := descRead (Mem.inject (noted s i) hits rq) r.x q (passDescs w) rq
      let lt := tileFor s0 r.c q i.stream w t
      let p : PassOp := { ctx := r.c, slot := i.slot, stream := i.stream, serial := r.t.serial, pc := r.t.pc, word := w, tile := lt.2, x := x,
                          o := o, m := x.rows, half := four t.format && w.read, fed := none }
      let s1 := hold lt.1 q p
      let s2 := if w.neww then modCore s1 r.c q (fun k => { k with tile := some t, tileIndex := w.tile }) else s1
      launched s2 r.c i)

/-! ## Feeding (R60 to R62, R73) -/

/-- The pass whose first vector enters next. -/
def nextFeed (l : List PassOp) : Option PassOp := l.find? (fun p => p.fed.isNone)

/-- The weights of a pass stand ready in the shadow registers, or it needs no load (R60, R62). -/
def weightsReady (a : ArrayCore) (p : PassOp) : Bool := !(p.word.neww || a.active != p.tile) || decide (loadWhole ≤ p.loaded)

/-- Cycle before which the first vector may not enter after the last one of the pass before (R62). -/
def earliest (a : ArrayCore) (p : PassOp) : Nat :=
  match a.lastEnter with
  | none => 0
  | some (c, read, iv) => if read == p.word.read then c + iv else c + 255

/-- The Cicada of the core stands at level 64 (R73), and in a redundant pair that of the partner too. -/
def fullLevel (s : State) (q c : Nat) : Bool :=
  (physAt s (physOf s q)).level == 64 && (!Pairs.redundant s c || (physAt s (physOf s (q + 1))).level == 64)

/-- Vectors a pass feeds: both half-passes of a 4-bit Wᵀ pass (R58, R66). -/
def vectors (p : PassOp) : Nat := if p.half then 2 * p.m else p.m

/-- PASS_FEED_START: the first vector of the next pass enters the array (R61, R62), once its weights are ready, the Cicada stands at
level 64 (R73), and no context switch holds the array or waits for the pass in progress (R56, R176). -/
def feedStart (s : State) (q : Nat) : State :=
  let a := arrayOf s q
  match nextFeed a.passes with
  | none => s
  | some p =>
    if fullLevel s q p.ctx && weightsReady a p && decide (earliest a p ≤ cycle s) && !switching s q && !Slots.switchReady s q then
      let iv := interval p.tile.desc.format
      let lastIn := cycle s + iv * (vectors p - 1)
      setArray s q { a with
        passes := updFirst (fun x => x.fed.isNone) (fun x => { x with fed := some (cycle s) }) a.passes,
        active := p.tile, lastEnter := some (lastIn, p.word.read, iv) }
    else s

/-! ## Completion (R66, R76 to R80, R106 to R111, R118, R165) -/

/-- Cycle before which a pass has not written its last element (R66). -/
def doneAt (p : PassOp) : Nat :=
  p.fed.getD 0 + 268 + interval p.tile.desc.format * (vectors p - 1)

/-- The vectors of a pass in order, half-pass by half-pass, with the drill applied to the first vector that is checked. -/
def runVectors (s : State) (a : ArrayCore) (p : PassOp) (hw : Option ArrayFault) : List (Nat × Nat × Vec) :=
  let idx := (List.range (if p.half then 2 else 1)).flatMap (fun h => (List.range p.m).map (fun v => (h, v)))
  (idx.foldl (fun (acc : Bool × List (Nat × Nat × Vec)) hv =>
    let r := vector s a p hv.1 hv.2 hw acc.1
    (acc.1 && r.skipped, acc.2 ++ [(hv.1, hv.2, r)])) (a.flipArmed, [])).2

/-- Write a vector's totals into the accumulator file. -/
def putTotals (a : ArrayCore) (entry : Nat) (lanes : List Lane) : ArrayCore :=
  lanes.zipIdx.foldl (fun acc p =>
    let k := accKey p.2 entry
    { acc with acc := SMap.put 0 acc.acc k p.1.total.code, accSat := SMap.put false acc.accSat k p.1.total.sat,
               accBad := SMap.put false acc.accBad k p.1.total.bad }) a

/-- The result element of a total (R109, R110). -/
def outElem (int ieee : Bool) (fmt : Nat) (t : Total) : Elem :=
  if int then (if t.bad then badElem fmt else fromInt fmt ieee (toSigned 32 t.code.toNat) t.sat)
  else fromF32 fmt ieee t.code.toNat t.sat

/-- The FP32 code of a total, for an MX write-out. -/
def totalF32 (int ieee : Bool) (t : Total) : Nat × Bool :=
  if int then (if t.bad then (fp32.nanCode, t.sat) else ((encode fp32 ieee (ofInt (toSigned 32 t.code.toNat))).1, t.sat))
  else (t.code.toNat, t.sat)

/-- The totals of output vector v in output order (R58). -/
def outTotals (a : ArrayCore) (p : PassOp) (v : Nat) : List Total :=
  let get := fun (l e : Nat) =>
    (⟨SMap.val 0 a.acc (accKey l e), SMap.val false a.accSat (accKey l e), SMap.val false a.accBad (accKey l e)⟩ : Total)
  if p.half then (List.range 256).map (fun j => get (j / 2) (p.word.entry + (j % 2) * p.m + v))
  else (List.range 128).map (fun l => get l (p.word.entry + v))

/-- Write out one row: bytes and counts (R109 to R111, R118). -/
def outRow (s : State) (p : PassOp) (a : ArrayCore) (acc : SMap Byte × Count) (v : Nat) : SMap Byte × Count :=
  let int := integer p.tile.desc.format
  let ts := outTotals a p v
  if isMx p.o.format then
    let blocks := chunksAux 32 ts.length ts
    blocks.zipIdx.foldl (fun acc b =>
      let r := fromBlock p.o.format (b.1.map (totalF32 int p.word.ovf))
      let ov := r.2.zipIdx.foldl (fun m e => putElem s p.o m v (32 * b.2 + e.2) e.1.code) acc.1
      (putScale p.o ov v b.2 r.1, r.2.foldl Count.add acc.2)) acc
  else
    ts.zipIdx.foldl (fun acc t =>
      let e := outElem int p.word.ovf p.o.format t.1
      (putElem s p.o acc.1 v t.2 e.code, acc.2.add e)) acc

/-- The whole write-out of a pass with LAST: bytes and counts. -/
def writeOut (s : State) (p : PassOp) (a : ArrayCore) : SMap Byte × Count :=
  (List.range p.m).foldl (outRow s p a) ([], {})

/-- The array after the arithmetic of a pass: totals, and the tile's flags (R108). A tile is known by its first entry, and a pass that
overwrites is its first: it finds the flags cleared, whatever the passes before it left (DESIGN CHOICE, notes/assumptions/82.md). -/
def afterPass (a : ArrayCore) (p : PassOp) (vs : List (Nat × Nat × Vec)) : ArrayCore :=
  let a1 := vs.foldl (fun acc r => putTotals acc (p.word.entry + r.1 * p.m + r.2.1) r.2.2.lanes) a
  let sat := vs.any (fun r => r.2.2.lanes.any (fun l => l.total.sat))
  let loss := vs.any (fun r => r.2.2.lanes.any (fun l => decide (0 < l.lost)))
  let was := fun (m : SMap Bool) => p.word.acc && SMap.val false m p.word.entry
  { a1 with tileSat := SMap.put false a1.tileSat p.word.entry (sat || was a1.tileSat),
            tileLoss := SMap.put false a1.tileLoss p.word.entry (loss || was a1.tileLoss),
            flipArmed := a.flipArmed && vs.all (fun r => r.2.2.skipped) }

/-- The vector and entry a class 0x10 record names. -/
def firstMismatch (vs : List (Nat × Nat × Vec)) : Option (Nat × Nat) :=
  (vs.find? (fun r => r.2.2.mismatch)).map (fun r => (r.1, r.2.1))

/-- The class 0x10 record of a pass (R80, R357). -/
def record10 (s : State) (q : Nat) (p : PassOp) (h v count flags : Nat) : ErrRec :=
  { cls := 0x10, unit := unitCode 0 q, ctx := p.ctx, stream := streamByte p.stream, op := opField 1 0,
    addr := if p.word.last then p.o.base + v * p.o.stride else 0, aux := p.pc,
    detail := detail [(40, le 1 (physOf s q)), (41, le 1 ((if p.word.read then 1 else 0) + flags)), (42, le 2 p.word.tile),
      (44, le 4 p.o.tensor), (48, le 2 v), (50, le 2 count), (52, le 2 (p.word.entry + h * p.m + v))] }

/-- The error of a pass counts toward the replacement of its core (R84); drills do not (R372). -/
def countError (s : State) (q : Nat) (p : PassOp) : State := Swaps.countError s q p.ctx p.word.tile

/-- The error of a bad accumulator entry (R150, R368): class 0x03, which counts toward the marking of its physical core. The manual gives
its record no address, so it names the array, the lane as the bank and the entry as the word (DESIGN CHOICE, notes/assumptions/84.md). -/
def entryError (s : State) (q : Nat) (p : PassOp) (f : ArrayFault) : State :=
  raise (modDex s (fun d => { d with sramNow := physOf s q :: d.sramNow }))
    { cls := 0x03, unit := unitCode 0 q, ctx := p.ctx, stream := streamByte p.stream, op := opField 1 0,
      detail := detail [(40, le 2 (unitCode 0 q)), (42, le 2 f.lane), (44, le 4 (p.word.entry + f.vec))] } 4

/-- The vector whose check an armed drill inverts: the first one that is checked (R370). -/
def drilled (vs : List (Nat × Nat × Vec)) : Option (Nat × Nat) := (vs.find? (fun r => !r.2.2.skipped)).map (fun r => (r.1, r.2.1))

/-- The DETAIL flags of a load check and of a drain comparison that failed (R75, R79, R357). -/
def unitFlags (hw : Option ArrayFault) : Nat :=
  match hw with | some f => (if f.load then 2 else 0) + (if f.drain then 4 else 0) | none => 0

/-- What a class 0x10 record of a pass names: its first mismatching vector, or the vector of the unit that failed (R80). -/
def errorAt (vs : List (Nat × Nat × Vec)) (hw : Option ArrayFault) : Option (Nat × Nat) :=
  match firstMismatch vs with
  | some x => some x
  | none => if unitFlags hw == 0 then none else some (0, match hw with | some f => if f.drain then f.vec else 0 | none => 0)

/-- A pass has a real error of class 0x10: one that is there without the drill (R380). -/
def realError (s : State) (a : ArrayCore) (p : PassOp) (vs : List (Nat × Nat × Vec)) (hw : Option ArrayFault) : Bool :=
  unitFlags hw != 0 || vs.any (fun r => r.2.2.mismatch &&
    (!(a.flipArmed && drilled vs == some (r.1, r.2.1)) || (vector s a p r.1 r.2.1 hw false).mismatch))

/-- Raise the array's errors of a pass (R75, R79, R80): one record of class 0x10, which carries DRILL when the first mismatching vector was
the drilled one; a real error counts toward the replacement whether or not it is the one recorded (R380). -/
def raiseErrors (s : State) (q : Nat) (a : ArrayCore) (p : PassOp) (vs : List (Nat × Nat × Vec)) (hw : Option ArrayFault) : State :=
  let count := (vs.filter (fun r => r.2.2.mismatch)).length
  let s1 := match hw with
    | some f => if entryBad p hw f.vec f.lane then entryError s q p f else s
    | none => s
  match errorAt vs hw with
  | none => s1
  | some (h, v) =>
    let drill := a.flipArmed && firstMismatch vs == drilled vs && (drilled vs).isSome
    let s2 := raise s1 (record10 s q p h v count (unitFlags hw)) (stepEffect s p.ctx) drill
    if realError s a p vs hw then countError s2 q p else s2

/-- The pass as a redundant pair's comparator names it (R363). -/
def site (q : Nat) (p : PassOp) : Pairs.Site :=
  { unit := unitCode 0 q, q := q, ctx := p.ctx, stream := p.stream, op := opField 1 0, pc := p.pc, tensor := p.o.tensor }

/-- The stall-origin cycles of a pass (R70, R72, R505): at least what it ended late by; how many more there were is a free value. -/
def countStalls (s : State) (k : Nat) (p : PassOp) : State :=
  bump (drawn s) k 4 (cycle s - doneAt p + Config.stallCycles s.free)

/-- An array's part in a pass that ends: its vectors, and the array after it. -/
structure Ended where
  vs : List (Nat × Nat × Vec)
  after : ArrayCore

/-- The arithmetic of a pass in the array of a core, with the faults met there (R97 to R108). -/
def ranOn (s : State) (a : ArrayCore) (p : PassOp) (hw : Option ArrayFault) : Ended :=
  let vs := runVectors s a p hw
  ⟨vs, afterPass a p vs⟩

/-- The tile has lost bits of the window (R104, R108). -/
def lossOf (a : ArrayCore) (p : PassOp) : Bool := SMap.val false a.tileLoss p.word.entry

/-- The array of a core ends a pass: its accumulators, its counters (R505) and its errors. -/
def endOn (s : State) (q : Nat) (p : PassOp) (e : Ended) (hw : Option ArrayFault) : State :=
  let k := physOf s q
  let a := arrayOf s q
  let skips := (e.vs.filter (fun r => r.2.2.skipped)).length
  let mis := (e.vs.filter (fun r => r.2.2.mismatch)).length
  let lost := e.vs.foldl (fun n r => r.2.2.lanes.foldl (fun m l => m + l.lost) n) 0
  let s1 := setArray s q e.after
  let s2 := bump (bump (bump (bump (bump s1 k 0 1) k 1 (e.vs.length - skips)) k 2 skips) k 3 mis) k 6 lost
  raiseErrors (countStalls s2 k p) q a p e.vs hw

/-- The write-out of a pass with LAST (R109 to R111, R118), which a redundant pair's comparator takes from both cores (R363). -/
def writePass (s : State) (q : Nat) (p : PassOp) (other : Option ArrayCore) (pair : Option PairFault) (r : Mem.Req) : State :=
  let a := arrayOf s q
  let w := writeOut s p a
  let x := match other with
    | some b => Pairs.output s (site q p) w.1 (writeOut s p b).1 pair
    | none => (s, w.1)
  censusAdd (Mem.storeMap x.1 x.2 r) p.ctx p.o.tensor w.2 (lossOf a p) p.word.ovf r

/-- PASS_COMPLETE (R66, R76 to R80, R106 to R111, R118, R165): the pass that has fed longest finishes. Its activations are read here,
all at once (DESIGN CHOICE, notes/assumptions/83.md). In a redundant pair the partner's array runs the pass on its own accumulators,
with its own checks (R362, R363). -/
def passComplete (s : State) (q : Nat) (hw : PassFaults) (hits : List CodeHit) : State :=
  match (arrayOf s q).passes with
  | [] => s
  | p :: rest =>
    if Order.turn 4 s && nextToComplete s q (4 * p.slot + p.stream, p.serial) && p.fed.isSome && decide (doneAt p ≤ cycle s) then
      let rq : Mem.Req := { unit := unitCode 0 q, ctx := p.ctx, stream := some p.stream, op := opField 1 0 }
      let s0 := Mem.inject s hits rq
      let a := arrayOf s0 q
      let own := ranOn s0 { a with passes := rest } p hw.array
      let other := if Pairs.redundant s p.ctx then some (ranOn s0 (arrayOf s0 (q + 1)) p hw.partner) else none
      let s1 := endOn (loadAll s0 p.x rq) q p own hw.array
      let s2 := match other with | some e => endOn s1 (q + 1) p e hw.partner | none => s1
      let s3 := if p.word.last then writePass s2 q p (other.map (·.after)) hw.pair rq else s2
      let poisoned := anyBad s0 p.x || !p.tile.bad.isEmpty
      let s4 := if poisoned then setFail s3 p.ctx 3 else s3
      let y := Pairs.action s4 (site q p) p.word.fact p.word.flag hw.pair
      let s5 := complete y.1 p.ctx q p.stream
        (flagBit (SMap.val false own.after.tileSat p.word.entry) bSaturated ||| flagBit (lossOf own.after p) bWindowLoss |||
          flagBit ((firstMismatch own.vs).isSome) bMismatch)
        p.word.fact y.2
      Swaps.atPass s5 q (Swaps.dueAtPass s q)
    else s

/-! ## The Cicada (R73) -/

/-- CICADA_RAMP_DOWN_START: after 2,048 consecutive gap cycles the level starts to fall. -/
def rampDownStart (s : State) (k : Nat) : State :=
  let a := physAt s k
  if inGap s k && a.ramp == 0 && decide (0 < a.level) && decide (2048 ≤ a.gapRun) then
    setPhys s k { a with ramp := 2, rampAt := cycle s }
  else s

/-- CICADA_LEVEL_STEP: one level step every 40 cycles, up to 64 or down to 0. -/
def levelStep (s : State) (k : Nat) : State :=
  let a := physAt s k
  if decide (a.rampAt + 40 ≤ cycle s) then
    if a.ramp == 1 && decide (a.level < 64) then
      setPhys s k { a with level := a.level + 1, rampAt := a.rampAt + 40, ramp := if a.level + 1 == 64 then 0 else 1 }
    else if a.ramp == 2 && decide (0 < a.level) then
      setPhys s k { a with level := a.level - 1, rampAt := a.rampAt + 40, ramp := if a.level == 1 then 0 else 2 }
    else s
  else s

/-! ## Meanings -/

/-- PASS (R164, R165). -/
def execPass (i : Issuer) (w : PassCmd) (s : State) : Host.Outcome State Fault Refusal := .next (pass s i w.word w.hits)

/-- PASS_FEED_START (R61, R62). -/
def execPassFeedStart (core : Nat) (s : State) : Host.Outcome State Fault Refusal := .next (feedStart s core)

/-- PASS_COMPLETE (R165). -/
def execPassComplete (core : Nat) (hw : PassFaults) (hits : List CodeHit) (s : State) : Host.Outcome State Fault Refusal :=
  .next (passComplete s core hw hits)

/-- CICADA_RAMP_DOWN_START (R73). -/
def execCicadaRampDownStart (k : Nat) (s : State) : Host.Outcome State Fault Refusal := .next (rampDownStart s k)

/-- CICADA_LEVEL_STEP (R73). -/
def execCicadaLevelStep (k : Nat) (s : State) : Host.Outcome State Fault Refusal := .next (levelStep s k)

end Sys2Proof.Machine.Array
end

