-- ==== Sys2Proof/Machine/Clock.lean ====
section
/-! DEFINITION. The fabric-time unit (R31 to R40) and the passing of time: fireflies, parents, holdover, the backup root, and one
nanosecond of the module's clocks. -/

namespace Sys2Proof.Machine.Clock

open Bits Ops Report

/-! ## Fireflies (R35) -/

/-- STRATUM as a module sends it (R35): 14 in HOLDOVER, 15 in FREE and ACQUIRE. -/
def sentStratum (t : FabTime) : Nat :=
  match t.state with
  | .locked => t.stratum
  | .holdover => 14
  | _ => 15

/-- The flit of a firefly (R35). -/
def fireflyFlit (t : FabTime) (l : FfLink) (tx : Nat) : Bytes :=
  let e := match l.last with | some f => (f.tTx, l.rxAt) | none => (0, 0)
  layout 64 [(0, le 2 t.rootId), (2, le 1 (sentStratum t)), (3, le 1 t.rootEpoch), (4, le 4 l.seqTx), (8, le 8 tx), (16, le 8 e.1), (24, le 8 e.2)]

/-- 4 µs have passed since the last firefly of a link, or it has sent none. -/
def sendDue (s : State) (l : FfLink) : Bool := match l.sentAt with | some a => decide (a + 4000 ≤ s.ns) | none => true

/-- FIREFLY_SEND (R35): on a port that is UP, one every 4 µs. Its T_TX is written anew as its frame leaves (Link.frameSend). -/
def send (s : State) (p : Nat) : State :=
  let l := SMap.val {} s.ftime.links p
  if isUp s p && sendDue s l then
    let s1 := sendFirefly s p (fireflyFlit s.ftime l (now s))
    modTime s1 (fun t => { t with links := SMap.ins t.links p { l with seqTx := (l.seqTx + 1) % 4294967296, sentAt := some s.ns } })
  else s

/-! ## Leaving LOCKED (R39) -/

/-- The module returns to FREE: class 0x23 subcause 1, and one ABORT with CAUSE 5 for each defined context. -/
def lose (s : State) : State :=
  let s1 := modTime s (fun t => { t with state := .free, rate := 0, stratum := 15, parentPort := 31, goodRun := 0, acquired := false, newEpoch := false })
  AbortOps.broadcastAll (raise s1 { cls := 0x23, unit := unitCode 12 0, aux := 1 } 7) 5

/-! ## Parents (R37, R38) -/

/-- The module is the root of the time tree. -/
def isRoot (s : State) : Bool := s.ftime.state == .locked && s.ftime.stratum == 0

/-- The firefly names a parent that may be chosen. -/
def usableFf (f : FireflyMsg) : Bool := decide (f.stratum < 14)

/-- The neighbours that follow the module's own root and epoch, with the port and STRATUM of each: those heard within 100 µs. -/
def candidates (s : State) : List (Nat × Nat) :=
  s.ftime.links.filterMap (fun e => match e.2.last with
    | some f => if isUp s e.1 && usableFf f && f.rootId == s.ftime.rootId && f.rootEpoch == s.ftime.rootEpoch && decide (s.ns < e.2.heard + 100000)
        then some (e.1, f.stratum) else none
    | none => none)

/-- The lowest STRATUM, ties to the lowest module identifier. -/
def best (s : State) (l : List (Nat × Nat)) : Option (Nat × Nat) :=
  l.foldl (fun (b : Option (Nat × Nat)) c => match b with
    | none => some c
    | some d => if c.2 < d.2 ∨ (c.2 = d.2 ∧ (port s c.1).peer < (port s d.1).peer) then some c else some d) none

/-- Choose a parent again: freely without one, and to a STRATUM below its own in LOCKED. -/
def choose (s : State) : State :=
  let t := s.ftime
  if t.state == .free || isRoot s then s
  else
    let cs := candidates s
    let ok := if t.state == .locked && t.parentPort != 31 then cs.filter (fun c => c.1 == t.parentPort || decide (c.2 < t.stratum)) else cs
    match best s ok with
    | some (p, st) =>
      if p == t.parentPort then modTime s (fun x => { x with stratum := if x.state == .locked then st + 1 else x.stratum })
      else modTime s (fun x => { x with parentPort := p, stratum := if x.state == .locked then st + 1 else x.stratum, goodRun := 0 })
    | none => s

/-- The offset and the delay of a round trip (R36), with the link's asymmetry subtracted from the delay towards the follower. -/
def theta (asym : Int) (t1 t2 t3 t4 : Nat) : Int := (((t2 : Int) - t1 - asym) - ((t4 : Int) - t3)).tdiv 2
def delta (asym : Int) (t1 t2 t3 t4 : Nat) : Int := (((t2 : Int) - t1 - asym) + ((t4 : Int) - t3)).tdiv 2

/-- The rate word that removes an offset over 64 fireflies, within 200 ppm (R32, R36). -/
def steer (th : Int) : Int := max (-13) (min 13 ((-th * 65536).tdiv 256000))

/-- The count is set (R34, R38). The age of a link's keys goes on as before: what the count gains or loses, so does the start of every
port's key epoch (R323; DESIGN CHOICE, notes/assumptions/78.md). -/
def setCount (s : State) (v : Nat) : State :=
  let d := (v : Int) - now s
  modFabric (modTime s (fun t => { t with count := v, frac := 0 })) (fun f => { f with
    ports := SMap.mapVals (fun _ (x : Port) => { x with epochAt := x.epochAt + d }) f.ports })

/-- What one offset against the parent does (R36, R38, R39): the parent's firefly `prev` that arrived at `t2` on the own clock, and its
firefly `f` that echoes the own answer. The last offset is kept within 16 bits (R507); in HOLDOVER the rate word stays (R38). -/
def measure (s0 : State) (f : FireflyMsg) (prev : FireflyMsg) (t2 : Nat) (asym : Int) : State :=
  let th := theta asym prev.tTx t2 f.tEcho f.tEchoRx
  let dl := delta asym prev.tTx t2 f.tEcho f.tEchoRx
  let s := modTime s0 (fun x => { x with theta := max (-32767) (min 32767 th) })
  let t := s.ftime
  if t.state == .acquire && !t.acquired then
    modTime (setCount s ((f.tTx : Int) + dl).toNat) (fun x => { x with acquired := true, goodRun := 0 })
  else if (t.state == .locked || t.state == .holdover) && decide (64 < th.natAbs) then lose s
  else
    let run := if th.natAbs ≤ 4 then t.goodRun + 1 else 0
    let lock := decide (16 ≤ run) && (t.state == .acquire || t.state == .holdover)
    modTime s (fun x => { x with rate := if x.state == .holdover && !lock then x.rate else steer th, goodRun := run,
                                 state := if lock then .locked else x.state, stratum := if lock then f.stratum + 1 else x.stratum })

/-- A higher epoch is taken from any firefly, and a module in FREE takes the root of a usable one (R37, R38, R40). Epochs are compared
as numbers, and a LOCKED module that has no parent in the new epoch yet sends STRATUM 15 (DESIGN CHOICE, notes/assumptions/78.md). -/
def follow (s : State) (p : Nat) (f : FireflyMsg) : State :=
  let t := s.ftime
  if t.state == .free then
    if usableFf f then
      modTime s (fun x => { x with state := .acquire, rootId := f.rootId, rootEpoch := f.rootEpoch, parentPort := p, goodRun := 0, acquired := false })
    else s
  else if t.rootEpoch < f.rootEpoch then
    modTime s (fun x => { x with rootId := f.rootId, rootEpoch := f.rootEpoch, parentPort := 31, newEpoch := true,
                                 usableAt := if isRoot s then s.ns else x.usableAt,
                                 stratum := if x.state != .locked then x.stratum else if usableFf f then f.stratum + 1 else 15 })
  else s

/-- The firefly came from the plan's time root. -/
def fromRoot (s : State) (p : Nat) : Bool := match s.dex.plan with | some x => (port s p).peer == x.timeRoot | none => false

/-- FIREFLY (R36 to R40). -/
def firefly (s : State) (p : Nat) (f : FireflyMsg) : State :=
  if !isUp s p then s
  else
    let l := SMap.val {} s.ftime.links p
    let s1 := modTime s (fun t => { t with links := SMap.ins t.links p { l with last := some f, heard := s.ns, rxAt := now s, rootedAt := if f.stratum < 15 then some s.ns else l.rootedAt },
                                           newEpoch := t.newEpoch || (t.state == .holdover && decide (t.rootEpoch < f.rootEpoch)),
                                           rootHeard := if fromRoot s p then s.ns else t.rootHeard })
    let s2 := choose (follow s1 p f)
    if s2.ftime.parentPort == p && usableFf f && f.rootId == s2.ftime.rootId && f.rootEpoch == s2.ftime.rootEpoch then
      let s3 := modTime s2 (fun t => { t with usableAt := s.ns })
      match l.last with
      | some prev => if f.tEcho == 0 then s3 else measure s3 f prev l.rxAt l.asym
      | none => s3
    else s2

/-! ## Holdover and the backup root (R38 to R40) -/

/-- HOLDOVER_ENTRY: no usable parent for 100 µs. -/
def holdoverEntry (s : State) : State :=
  if Order.turn 5 s && s.ftime.state == .locked && !isRoot s && decide (s.ftime.usableAt + 100000 ≤ s.ns) then
    modTime s (fun t => { t with state := .holdover, stratum := 14, holdSince := s.ns, newEpoch := false, goodRun := 0 })
  else s

/-- HOLDOVER_LIMIT: 5 ms of HOLDOVER. -/
def holdoverLimit (s : State) : State :=
  if Order.turn 5 s && s.ftime.state == .holdover && decide (s.ftime.holdSince + 5000000 ≤ s.ns) then lose s else s

/-- EPOCH_WAIT_EXPIRY: 1 ms of HOLDOVER without a higher epoch. -/
def epochWait (s : State) : State :=
  if Order.turn 5 s && s.ftime.state == .holdover && decide (s.ftime.holdSince + 1000000 ≤ s.ns) && !s.ftime.newEpoch then lose s else s

/-- The module is the plan's backup root. -/
def isBackup (s : State) : Bool := match s.dex.plan with | some p => p.backupRoot == p.module | none => false

/-- BACKUP_ROOT_TAKEOVER: the time root has not been heard for 50 µs. From LOCKED or HOLDOVER only, with the epoch modulo 256 and the
rate word as it stands (DESIGN CHOICE, notes/assumptions/78.md). -/
def takeover (s : State) : State :=
  if Order.turn 5 s && isBackup s && (s.ftime.state == .locked || s.ftime.state == .holdover) && !isRoot s && decide (s.ftime.rootHeard + 50000 ≤ s.ns) then
    modTime s (fun t => { t with state := .locked, stratum := 0, rootId := moduleId s, rootEpoch := (t.rootEpoch + 1) % 256, parentPort := 31 })
  else s

/-! ## The passing of time (R32, R365) -/

/-- The package has power and its time clock runs: not while a cold power cycle holds the rails off (R365, R397). -/
def running (s : State) : Bool := (s.dex.state == .bringup && s.dex.coldCycle != 1) || s.dex.state == .ready || s.dex.state == .removing

/-- Units of 2^-16 ns that the rate offset of the time root adds at this tick, and what it leaves over (R34); no other module, and none in
FREE (R38), is steered by it. -/
def offset (t : FabTime) : Int × Int :=
  let x := t.steerAcc + t.steerPpm * 65536
  if t.state == .locked && t.stratum == 0 then (x.fdiv 1000000, x.fmod 1000000) else (0, t.steerAcc)

/-- One tick of the time clock: the copy rises by one nanosecond and the rate word, in units of 2^-16 ns. -/
def advance (t : FabTime) : FabTime :=
  let o := offset t
  let x := t.count * 65536 + t.frac + (max 1 (65536 + t.rate + o.1)).toNat
  { t with count := (x / 65536) % 18446744073709551616, frac := x % 65536, steerAcc := o.2 }

/-- One nanosecond passes: what the module does on an empty queue of commands. -/
def tick (s : State) : State :=
  let s1 := { s with ns := s.ns + 1 }
  if running s then modDex (modTime s1 advance) (fun d => { d with powered := d.powered + 1 }) else s1

/-! ## Meanings -/

/-- FIREFLY_SEND (R35). -/
def execFireflySend (p : Nat) (s : State) : Host.Outcome State Fault Refusal := .next (if p < 27 then send s p else s)

/-- FIREFLY (R36). -/
def execFirefly (p : Nat) (f : FireflyMsg) (s : State) : Host.Outcome State Fault Refusal := .next (if p < 27 then firefly s p f else s)

/-- HOLDOVER_ENTRY (R38). -/
def execHoldoverEntry (s : State) : Host.Outcome State Fault Refusal := .next (holdoverEntry s)

/-- HOLDOVER_LIMIT (R39). -/
def execHoldoverLimit (s : State) : Host.Outcome State Fault Refusal := .next (holdoverLimit s)

/-- EPOCH_WAIT_EXPIRY (R39). -/
def execEpochWaitExpiry (s : State) : Host.Outcome State Fault Refusal := .next (epochWait s)

/-- BACKUP_ROOT_TAKEOVER (R40). -/
def execBackupRootTakeover (s : State) : Host.Outcome State Fault Refusal := .next (takeover s)

end Sys2Proof.Machine.Clock
end

