-- ==== Sys2Proof/Machine/Contexts.lean ====
section
/-! DEFINITION. Time-slicing of the context slots (R173 to R178): quantum expiry, the switch and its completion. -/

namespace Sys2Proof.Machine.Contexts

open Bits Ops Report Issue

/-- The contexts of a core that may be made due and are not, in slot order (R173, R175, R178). -/
def candidates (s : State) (q : Nat) : List (Nat × CoreCtx) :=
  (List.range 4).filterMap (fun sl => do
    let c ← ctxInSlot s q sl
    let x ← ctx? s c
    let k := onCore x q
    if Slots.leaves x q && !k.due then some (c, k) else none)

/-- The one of them with the longest present residency, ties to the lower slot (R174). -/
def longest (s : State) (q : Nat) : Option (Nat × CoreCtx) :=
  (candidates s q).foldl (fun best p => match best with
    | none => some p
    | some b => if p.2.enteredAt < b.2.enteredAt then some p else best) none

/-- The quantum of a context has run its time. -/
def timeUp (s : State) (k : CoreCtx) : Bool := decide (k.quantumAt + 1000 * k.quantum ≤ now s)

/-- Every unpinned resident context whose accumulator range meets that of a starved one becomes due, and the starved one is to take
the slot they leave (R174). -/
def evict (s : State) (q : Nat) (w : Nat × Ctx) : State :=
  (Slots.holders s q).foldl (fun acc h =>
    if Slots.accMeet h.2 w.2 && Slots.leaves h.2 q then Slots.makeDue acc h.1 q else acc)
    (modCore s w.1 q (fun k => { k with clearing := true }))

/-- Waiting contexts that are not eligible count one quantum passed over (R174). -/
def passOver (s : State) (q : Nat) (out : Nat) : State :=
  (Slots.waiters s q).foldl (fun acc w =>
    if Slots.eligible s q (some out) w.2 then acc else modCore acc w.1 q (fun k => { k with passedOver := k.passedOver + 1 })) s

/-- A resident context has yielded in this cycle: it leaves, and no expiry is evaluated (R173). -/
def yielding (s : State) (q : Nat) : Bool :=
  (Slots.holders s q).any (fun h => (onCore h.2 q).due && (onCore h.2 q).yielded == some (now s))

/-- The quanta that have run their time end: each has expired, and the next one begins (R173, R514). Where that of the longest residency is
among them, the waiting contexts that it passes over count one (R174). -/
def endQuanta (s : State) (q : Nat) : State :=
  let s1 := ((candidates s q).filter (fun p => timeUp s p.2)).foldl (fun acc p =>
    modCore acc p.1 q (fun k => { k with expired := true, quantumAt := now s, quantum := s.quantum })) s
  match longest s q with
  | some (c, k) => if timeUp s k then passOver s1 q c else s1
  | none => s1

/-- The expiry for which a context leaves: its own quantum's, or else that of the first context whose quantum has expired. -/
def consumed (s : State) (q c : Nat) : Option Nat :=
  let l := ((candidates s q).filter (fun p => p.2.expired)).map (·.1)
  if l.contains c then some c else l.head?

/-- QUANTUM_EXPIRY: the quanta whose time is up expire. For an expired quantum the context with the longest residency becomes due as soon
as a waiting context is eligible for its slot, at this expiry or later (R173, R174); a context that has been passed over for four
quanta has the contexts that meet its range switched out at the next one. Not during a swap, whose time is not charged (R178); after
the issues of its cycle, so that a context that yields in it leaves first (R173). How expiries count where several contexts are resident
is the model's choice (DESIGN CHOICE, notes/assumptions/80.md). -/
def quantumExpiry (s : State) (q : Nat) : State :=
  if FlagOps.paused s q || yielding s q || !Order.turn 8 s then s
  else
    let s1 := endQuanta s q
    let ended := (candidates s q).any (fun p => timeUp s p.2)
    match (if ended && (Slots.clearing s q).isNone then Slots.starved s q else none) with
    | some w => evict s1 q w
    | none => match longest s1 q with
      | none => s1
      | some (c, _) => match consumed s1 q c with
        | none => s1
        | some e => if Slots.mayLeave s1 c q then Slots.makeDue (modCore s1 e q (fun k => { k with expired := false })) c q else s1

/-- Residency is charged to the waits of a context that leaves (R177). -/
def chargeWaits (s : State) (k : CoreCtx) : CoreCtx :=
  mapStreams k (fun t => { t with wait := t.wait.map (fun w => { w with used := w.used + (now s - w.since) }) })

/-- A pass is in progress in the array of a core: its first vector has entered, and it has not completed (R56, R63). -/
def feeding (s : State) (q : Nat) : Bool := (Cicada.passesOf s q).any (fun p => p.fed.isSome)

/-- CONTEXT_SWITCH: a due context whose operations have completed is saved and leaves; the waiting context that may enter takes
the slot and is restored (R173, R176). It waits for a swap in progress (R178) and for the pass in progress (R56); a context that is being
deleted is not saved (R178). A due context for whose slot no waiting context is eligible any more is no longer due: the manual does
not say what becomes of it (DESIGN CHOICE, notes/assumptions/80.md). -/
def contextSwitch (s : State) (q : Nat) (cmd : SlotCmd) : State :=
  let slot := cmd.slot
  match ctxInSlot s q slot with
  | none => s
  | some c => match ctx? s c with
    | none => s
    | some x =>
      let k := onCore x q
      if k.state == .resident && k.due && idle k && !FlagOps.paused s q && !feeding s q && x.deleting.isNone then
        let next := Slots.incoming s q (some c)
        if next.isNone && !Slots.cleared s q x then modCore s c q (fun k => { k with due := false, yielded := none })
        else
          let s1 := Slots.save (Mem.inject s cmd.hits { unit := unitCode 2 q, ctx := c }) c q cmd.pair
          let s2 := modCore s1 c q (fun k =>
            { chargeWaits s k with state := .leaving, slot := none, due := false, yielded := none, waitingSince := now s, passedOver := 0 })
          match next with
          | some d => modCore s2 d q (fun k => { k with state := .entering, slot := some slot })
          | none => s2
      else s

/-- The contexts that were leaving now wait (R172); one whose job was aborted meanwhile enters FAULTED (R178). -/
def leave (s : State) (q : Nat) : State :=
  { s with ctxs := SMap.mapVals (fun _ (x : Ctx) => { x with cores := SMap.mapVals (fun i (k : CoreCtx) =>
      if i == q && k.state == .leaving then { k with state := if x.step.aborted then .faulted else .waiting } else k) x.cores }) s.ctxs }

/-- SWITCH_COMPLETE: the incoming context is RESIDENT, a held vote result applied first (R178), and waiting contexts take slots
that stayed free; a swap that waited for the switch begins. -/
def switchComplete (s0 : State) (q : Nat) (cmd : SlotCmd) : State :=
  let slot := cmd.slot
  let s := Mem.inject s0 cmd.hits { unit := unitCode 2 q, ctx := (ctxInSlot s0 q slot).getD 255 }
  let entering := match ctxInSlot s q slot with
    | some c => match ctx? s c with | some x => if (onCore x q).state == .entering then some c else none | none => none
    | none => none
  let s1 := leave s q
  let s2 := match entering with
    | some c =>
      match ctx? s1 c with
      | some x =>
        if x.step.aborted then modCore s1 c q (fun k => { stopStreams k with state := .faulted })
        else Slots.becomeResident (Array.reload s1 c q) c q slot
      | none => s1
    | none => s1
  Swaps.atSwitchEnd (Slots.fill s2 q) q

/-! ## Meanings -/

/-- QUANTUM_EXPIRY (R174). -/
def execQuantumExpiry (core : Nat) (s : State) : Host.Outcome State Fault Refusal := .next (quantumExpiry s core)

/-- CONTEXT_SWITCH (R176). -/
def execContextSwitch (core : Nat) (slot : SlotCmd) (s : State) : Host.Outcome State Fault Refusal := .next (contextSwitch s core slot)

/-- SWITCH_COMPLETE (R176). -/
def execSwitchComplete (core : Nat) (slot : SlotCmd) (s : State) : Host.Outcome State Fault Refusal := .next (switchComplete s core slot)

end Sys2Proof.Machine.Contexts
end

