-- ==== Sys2Proof/Machine/Control.lean ====
section
/-! DEFINITION. Control instructions (R169 to R171, R173): counters, branches, YIELD, MARK, WAITDONE, STEPEND and END. -/

namespace Sys2Proof.Machine.Control

open Bits Ops Report Issue

/-- No field of a control word is reserved (R163, R169). -/
def legal (w : CtlWord) : Bool := w.rsvd == 0 && decide (w.cond ≤ 4) && decide (w.ctr ≤ 15)

/-- The issue of a legal control word of a code; others take the response of R163. `body` runs in the state in which it has taken its
issue slot. -/
def control (s : State) (i : Issuer) (cop : Nat) (w : CtlWord) (body : State → Runner → State) : State :=
  issue s i (.ctl cop w) (fun r => if legal w then body (noted s i) r else reject s i r 5 cop)

/-- The condition COND of BRC on a counter and IMM (R169). -/
def holds (cond : Nat) (c imm : W32) : Bool :=
  match cond with
  | 0 => c == imm
  | 1 => c != imm
  | 2 => BitVec.slt c imm
  | 3 => !BitVec.slt c imm
  | _ => true

/-- The stream continues at a word. -/
def goTo (s : State) (c : Nat) (i : Issuer) (pc : Nat) : State := modStream s c i.core i.stream (fun t => { t with pc := pc })

/-- Branch to TARGET or on to the next word. -/
def branch (s : State) (c : Nat) (i : Issuer) (taken : Bool) (w : CtlWord) : State :=
  if taken then goTo s c i w.target else advance s c i

/-- A counter written by an instruction: the count of an earlier compress no longer reaches it (R160). -/
def writeCounter (s : State) (c q n : Nat) (v : W32) : State :=
  let s1 := setCounter s c q n v
  { s1 with vecq := SMap.mapVals (fun core l => if core == q then l.map (fun op =>
      if op.ctx == c && (op.code == 0x30 || op.code == 0x31) && op.word.ctr == n then { op with ctrDead := true } else op) else l) s1.vecq }

/-- NOP. -/
def nop (s : State) (i : Issuer) (w : CtlWord) : State := control s i 0 w (fun s r => advance s r.c i)

/-- SETC. -/
def setc (s : State) (i : Issuer) (w : CtlWord) : State :=
  control s i 1 w (fun s r => advance (writeCounter s r.c i.core w.ctr w.imm) r.c i)

/-- ADDC: it reads its counter, so it waits for an earlier compress that writes it (R160). -/
def addc (s : State) (i : Issuer) (w : CtlWord) : State :=
  control s i 2 w (fun s r => advance (writeCounter s r.c i.core w.ctr (counter r.k w.ctr + w.imm)) r.c i)

/-- BRC. -/
def brc (s : State) (i : Issuer) (w : CtlWord) : State :=
  control s i 3 w (fun s r => branch s r.c i (holds w.cond (counter r.k w.ctr) w.imm) w)

/-- LOOP: decrement, then branch while the counter is not zero. -/
def loopCtr (s : State) (i : Issuer) (w : CtlWord) : State :=
  control s i 4 w (fun s r =>
    let v := counter r.k w.ctr - 1
    branch (writeCounter s r.c i.core w.ctr v) r.c i (v != 0) w)

/-- BRS: blocked while an earlier operation of the stream has not completed; CLR clears the tested bits (R170). -/
def brs (s : State) (i : Issuer) (w : CtlWord) : State :=
  control s i 5 w (fun s r =>
    let mask : BitVec 8 := w.imm.setWidth 8
    let taken := r.t.status &&& mask != 0
    let s1 := if w.clr then modStream s r.c i.core i.stream (fun t => { t with status := t.status &&& ~~~mask }) else s
    branch s1 r.c i taken w)

/-- YIELD: the context is offered, and due when a waiting context may take its slot (R173). -/
def yield' (s : State) (i : Issuer) (w : CtlWord) : State :=
  control s i 6 w (fun s r =>
    let s1 := advance s r.c i
    if Slots.mayLeave s r.c i.core then
      Slots.makeDue (modCore s1 r.c i.core (fun k => { k with yielded := some (now s) })) r.c i.core else s1)

/-- MARK: fabric time into an even counter and the next. -/
def mark (s : State) (i : Issuer) (w : CtlWord) : State :=
  issue s i (.ctl 7 w) (fun r =>
    if !legal w || w.ctr % 2 != 0 then reject s i r 5 7
    else
      let t := BitVec.ofNat 64 (now s)
      let s1 := writeCounter (noted s i) r.c i.core w.ctr (t.setWidth 32)
      advance (writeCounter s1 r.c i.core (w.ctr + 1) ((t >>> 32).setWidth 32)) r.c i)

/-- WAITDONE: blocked while an earlier operation of the stream has not completed. -/
def waitdone (s : State) (i : Issuer) (w : CtlWord) : State := control s i 8 w (fun s r => advance s r.c i)

/-- STEPEND: illegal without the step protocol; it issues once every earlier operation has completed, and the stream waits at
the word after it (R163, R171). -/
def stepend (s : State) (i : Issuer) (w : CtlWord) : State :=
  issue s i (.ctl 9 w) (fun r =>
    if !legal w || !stepped r.x then reject s i r 5 9
    else modStream (noted s i) r.c i.core i.stream (fun t => { t with pc := t.pc + 1, run := .atStepEnd }))

/-- END: the stream ends, and with the last one of a context without a step protocol the core (R172). -/
def endStream (s : State) (i : Issuer) (w : CtlWord) : State :=
  control s i 10 w (fun s r =>
    Slots.streamEnd (modStream s r.c i.core i.stream (fun t => { t with pc := t.pc + 1, run := .ended, endedNow := true })) r.c i.core)

/-! ## Meanings -/

/-- NOP (R169). -/
def execNop (i : Issuer) (w : CtlWord) (s : State) : Host.Outcome State Fault Refusal := .next (nop s i w)

/-- SETC (R169). -/
def execSetc (i : Issuer) (w : CtlWord) (s : State) : Host.Outcome State Fault Refusal := .next (setc s i w)

/-- ADDC (R169). -/
def execAddc (i : Issuer) (w : CtlWord) (s : State) : Host.Outcome State Fault Refusal := .next (addc s i w)

/-- BRC (R169). -/
def execBrc (i : Issuer) (w : CtlWord) (s : State) : Host.Outcome State Fault Refusal := .next (brc s i w)

/-- LOOP (R169). -/
def execLoopCtr (i : Issuer) (w : CtlWord) (s : State) : Host.Outcome State Fault Refusal := .next (loopCtr s i w)

/-- BRS (R169, R170). -/
def execBrs (i : Issuer) (w : CtlWord) (s : State) : Host.Outcome State Fault Refusal := .next (brs s i w)

/-- YIELD (R173). -/
def execYield (i : Issuer) (w : CtlWord) (s : State) : Host.Outcome State Fault Refusal := .next (yield' s i w)

/-- MARK (R169). -/
def execMarkTime (i : Issuer) (w : CtlWord) (s : State) : Host.Outcome State Fault Refusal := .next (mark s i w)

/-- WAITDONE (R169). -/
def execWaitdone (i : Issuer) (w : CtlWord) (s : State) : Host.Outcome State Fault Refusal := .next (waitdone s i w)

/-- STEPEND (R171). -/
def execStepend (i : Issuer) (w : CtlWord) (s : State) : Host.Outcome State Fault Refusal := .next (stepend s i w)

/-- END (R169). -/
def execEndStream (i : Issuer) (w : CtlWord) (s : State) : Host.Outcome State Fault Refusal := .next (endStream s i w)

end Sys2Proof.Machine.Control
end

