-- ==== Sys2Proof/Machine/Coding.lean ====
section
/-! DEFINITION. The line code of a frame (R297): symbols of 9 bits, the four lanes, and the systematic Reed-Solomon code RS(256,236) over
GF(2^9) with x^9 + x^4 + 1 and the roots alpha^0 to alpha^19. The order of bits within a symbol and of symbols within a codeword is
DEDUCED (notes/assumptions/88.md). -/

namespace Sys2Proof.Machine.Coding

open Bits

/-- A product with alpha. -/
def timesAlpha (a : Nat) : Nat := let y := 2 * a; if 512 ≤ y then y ^^^ 529 else y

/-- A product in GF(2^9). -/
def times (a b : Nat) : Nat :=
  ((List.range 9).foldl (fun (x : Nat × Nat) i => (if bit b i then x.1 ^^^ x.2 else x.1, timesAlpha x.2)) (0, a)).1

/-- The first n powers of alpha, from alpha^0. -/
def powers : Nat → Nat → List Nat
  | 0, _ => []
  | n + 1, a => a :: powers n (timesAlpha a)

/-- Addition of polynomials of one length. -/
def plus (f g : List Nat) : List Nat := List.zipWith (fun a b => a ^^^ b) f g

/-- A polynomial, highest coefficient first, times (x - r). -/
def timesRoot (f : List Nat) (r : Nat) : List Nat := plus (f ++ [0]) (0 :: f.map (times r))

/-- The generator, highest coefficient first. -/
def generator : List Nat := (powers 20 1).foldl timesRoot [1]

/-- The remainder register after one more data symbol. -/
def feed (reg : List Nat) (d : Nat) : List Nat :=
  let fb := d ^^^ reg.headD 0
  plus (reg.drop 1 ++ [0]) ((generator.drop 1).map (times fb))

/-- The 20 parity symbols of a lane's data. -/
def parity (data : List Nat) : List Nat := data.foldl feed (List.replicate 20 0)

/-- The symbols of a sealed frame: its bits, least significant of each byte first, cut into groups of 9. -/
def symbols (b : Bytes) : List Nat := (List.range 944).map (fun k => (ofLe b / 2 ^ (9 * k)) % 512)

/-- What each lane carries: symbol k goes to lane k mod 4, and parity follows the data. -/
def lanes (b : Bytes) : List (List Nat) :=
  let x := (symbols b).zipIdx
  (List.range 4).map (fun j => let d := (x.filter (fun y => y.2 % 4 == j)).map (·.1); d ++ parity d)

/-- The value of a polynomial, highest coefficient first. -/
def value (f : List Nat) (r : Nat) : Nat := f.foldl (fun acc c => times acc r ^^^ c) 0

/-- A codeword has no more symbols in error than the code corrects. -/
def corrects (n : Nat) : Bool := decide (n ≤ 10)

/-- Symbols corrected in a frame, by the symbols in error on each lane. -/
def corrected (errors : List Nat) : Nat := (errors.filter corrects).sum

end Sys2Proof.Machine.Coding
end

