-- ==== Sys2Proof/Machine/Link.lean ====
section
/-! DEFINITION. Fabric ports (R294 to R303, R314 to R324, R337, R394, R395): frames, states, discovery, keys, and the loss of a port. -/

namespace Sys2Proof.Machine.Link

open Bits Ops Report

/-! ## Plan, neighbours, contexts of a port -/

/-- The plan's entry for a port (R314). -/
def planned (s : State) (p : Nat) : Option PlanPort := match s.dex.plan with | some x => SMap.look x.ports p | none => none

/-- The contexts whose required mask holds a port (R314). -/
def requiring (s : State) (p : Nat) : List Nat := (s.ctxs.map (·.1)).filter (fun c => (requiredPorts s c).contains p)

/-- A port is in a context's vote tree (R328). -/
def treePort (x : Ctx) (p : Nat) : Bool :=
  match x.step.setup with
  | some u => u.parent == p || bit u.children p
  | none => false

/-- DETAIL of a port's class 0x30 or 0x32 (R357). -/
def portDetail (p cause peer : Nat) : Bytes := detail [(40, le 1 p), (41, le 1 cause), (42, le 2 peer)]

/-- Raise class 0x30 or 0x32 for a port, and set the FAIL bit of each stepped context whose required mask holds it (R316, R318, R333). -/
def portError (s : State) (cls p cause peer : Nat) : State :=
  let cs := (requiring s p).filter (fun c => ((ctx? s c).map stepped).getD false)
  let s1 := raise s { cls := cls, unit := unitCode 10 p, aux := cause, detail := portDetail p cause peer }
    (if cls == 0x32 || !cs.isEmpty then 1 else 0) (s.err.drilled.contains (2, p))
  cs.foldl (fun acc c => setFail acc c (if cls == 0x30 then 6 else 8)) s1

/-! ## Leaving UP (R318, R324, R337, R394, R395) -/

/-- The liveness probe of a lost neighbour (R394): an 8-byte read of its identity register. -/
def probe (s : State) (m : Nat) : State :=
  if s.remote.probes.any (fun x => x.1 == m) || !s.ctxs.any (fun c => mapsModule s c.1 m) then s
  else
    let p : Pkt := { dst := m, src := moduleId s, kind := 4, unit := 127, ctx := 255, gen := s.dex.gen, addr := 0x7F0000000000, rlen := 8, last := true }
    RemoteOps.submit (modRemote s (fun r => { r with probes := r.probes ++ [(m, now s + 200000, none)] })) (pairKey false m 255 127 0) [(p, none)]

/-- A port without frames: nothing of its link is kept (R318). -/
def cleared (x : Port) (st cause : Nat) (ns : Nat) : Port :=
  { state := st, cause := cause, flaps := x.flaps, peer := x.peer, peerPort := x.peerPort, downAt := ns, corrected := x.corrected,
    dropArmed := x.dropArmed, badAt := [], warned := x.warned }

/-- The vote-tree and isolation rules for a context when a port leaves UP (R337, R395). -/
def contextLoss (s : State) (p c : Nat) : State :=
  match ctx? s c with
  | none => s
  | some x =>
    let s1 := if treePort x p && AbortOps.undecided x && !x.step.aborted then AbortOps.broadcastOwn s c 3 else s
    let req := requiredPorts s1 c
    if req.contains p && req.all (fun q => !isUp s1 q) then AbortOps.apply s1 c 7 (moduleId s1) s1.dex.gen else s1

/-- A port leaves UP for DOWN (R318): its flits are lost, class 0x30 unless it was PEER_FENCED, and what follows from it. -/
def leaveUp (s : State) (p cause : Nat) : State :=
  let x := port s p
  let s1 := setPort s p { cleared x 1 cause s.ns with flaps := min 255 (x.flaps + 1) }
  let s2 := modFabric (freeOrigins s1 x.outq) (fun f => { f with router := f.router.filter (fun h => h.inPort != some p) })
  let s3 := if x.state == 7 then s2 else portError s2 0x30 p cause x.peer
  let s4 := (s3.ctxs.map (·.1)).foldl (fun acc c => contextLoss acc p c) s3
  match planned s p with
  | some n => if (cause == 1 || cause == 2 || cause == 8 || cause == 9) && !x.warned && x.state != 7 then probe s4 n.peer else s4
  | none => s4

/-- A port of any state goes DOWN or, unplanned, OFF: from UP under R318, from an unfinished discovery under R316. -/
def down (s : State) (p cause : Nat) : State :=
  let x := port s p
  if isUp s p then leaveUp s p cause
  else if decide (2 ≤ x.state ∧ x.state ≤ 4) then
    if (planned s p).isSome then portError (setPort s p (cleared x 1 cause s.ns)) 0x30 p cause x.peer
    else setPort s p (cleared x 0 cause s.ns)
  else s

/-- A port is refused (R316): DISABLED, with class 0x32. -/
def refuse (s : State) (p cause : Nat) : State :=
  let x := port s p
  portError (setPort s p (cleared x 6 cause s.ns)) 0x32 p cause x.peer

/-! ## Discovery (R315, R316, R320, R441) -/

/-- A message of the exchange leaves on a port, signed over the digest of `covered` (R320, R442). -/
def handshake (s : State) (p : Nat) (b covered : Bytes) : State :=
  let g := Digest.sign s (Config.sha3 covered)
  emit g.2 (.handshake p b g.1)

/-- This module's HELLO: its identifier, the port, revision A, its generation and a fresh nonce. -/
def ownHello (s : State) (p : Nat) : Bytes × State :=
  let r := Digest.random s
  (Config.helloMessage (moduleId s) p 1 s.dex.gen r.1, r.2)

/-- The HELLO that a peer has sent. -/
def helloBytes (h : HelloMsg) : Bytes := Config.helloMessage h.module h.port h.revision h.gen h.nonce

/-- Training begins (R315). -/
def train (s : State) (p : Nat) : State :=
  modPort s p (fun x => { cleared x 2 x.cause x.downAt with chainOk := false, warned := false })

/-- PORT_RETRY (R315): a planned port that is DOWN trains again after 100 ms. -/
def retry (s : State) (p : Nat) : State :=
  let x := port s p
  if x.state == 1 && (planned s p).isSome && decide (x.downAt + 100000000 ≤ s.ns) then train s p else s

/-- The asymmetry that training has measured is kept for the fireflies of the link (R36). -/
def measured (s : State) (p : Nat) (asym : Int) : State :=
  modTime s (fun t => { t with links := SMap.upd {} t.links p (fun (l : FfLink) => { l with asym := asym }) })

/-- TRAINING_COMPLETE (R316): the port sends its chain (R441) and then its signed HELLO, or goes down. -/
def trained (s : State) (p : Nat) (r : Train) : State :=
  if (port s p).state != 2 then s
  else match r with
    | .trained asym =>
      let m := ownHello (measured s p asym) p
      handshake (emit (modPort m.2 p (fun x => { x with state := 3, transcript := m.1 })) (.handshake p (Digest.chain s) [])) p m.1 m.1
    | .noSignal => down s p 1
    | .failed => down s p 2

/-- CERTIFICATE_CHAIN (R441, R456): the outcome of verifying the peer's chain; a verified device chain is kept. -/
def chain (s : State) (p : Nat) (digest : BitVec 512) (good : Bool) : State :=
  if (port s p).state != 3 then s
  else
    let known := s.fabric.chains.contains digest
    let s1 := modPort s p (fun x => { x with chainOk := good })
    if good && !known then modFabric s1 (fun f => { f with chains := digest :: f.chains }) else s1

/-- This module is the initiator on a port (R320). -/
def initiator (s : State) (x : Port) : Bool := decide (moduleId s < x.peer)

/-- The two HELLOs of an exchange in order, that of the lower identifier first (DEDUCED, notes/assumptions/89.md). -/
def hellos (s : State) (p : Nat) (own : Bytes) (h : HelloMsg) : Bytes :=
  if initiator s (port s p) then own ++ helloBytes h else helloBytes h ++ own

/-- HELLO (R316, R320, R384): the rows of R316 after training, in order. -/
def hello (s : State) (p : Nat) (h : HelloMsg) : State :=
  if (port s p).state != 3 then s
  else
    let s1 := modPort s p (fun x => { x with peer := h.module, peerPort := h.port })
    if !h.sigOk || !(port s p).chainOk then refuse s1 p 5
    else
      let s2 := modRemote s1 (fun r => { r with peerGen := SMap.ins r.peerGen h.module h.gen })
      if h.revision != 1 then refuse s2 p 4
      else match planned s p with
        | none => refuse s2 p 6
        | some n =>
          if n.peer != h.module then refuse s2 p 3
          else if n.peerPort != h.port then refuse s2 p 7
          else
            let s3 := modPort s2 p (fun x => { x with state := 4, keyingAt := now s, transcript := hellos s2 p x.transcript h })
            if initiator s3 (port s3 p) then
              let k := Config.kemKey s3.free
              let s4 := modPort (drawn s3) p (fun x => { x with rekeys := [⟨0, 0, k, none, none⟩], transcript := x.transcript ++ k })
              handshake s4 p k (port s4 p).transcript
            else s3

/-! ## Keys (R320, R321, R322) -/

/-- A digest as bytes. -/
def digestBytes (d : BitVec 512) : Bytes := le 64 d.toNat

/-- Key and salt of a direction (R321). -/
def linkKey (ss : BitVec 256) (transcript : Bytes) (epoch d : Nat) : BitVec 256 × W32 :=
  let label : Bytes := [0x48, 0x55, 0x41, 0x42, 0x45, 0x4E, 0x2D, 0x4C, 0x49, 0x4E, 0x4B]
  let b := digestBytes (Config.sha3 (label ++ le 32 ss.toNat ++ digestBytes (Config.sha3 transcript) ++ le 1 epoch ++ le 1 d))
  (BitVec.ofNat 256 (ofLe (b.take 32)), BitVec.ofNat 32 (ofLe ((b.drop 32).take 4)))

/-- The keys of both directions of an epoch. -/
def linkKeys (pub ct transcript : Bytes) (epoch : Nat) : List (BitVec 256 × W32) :=
  let ss := Config.kemSecret pub ct
  [linkKey ss transcript epoch 0, linkKey ss transcript epoch 1]

/-- The link enters key epoch 0 and the port is UP, usable after the next table swap (R316, R319, R320). -/
def enterUp (s : State) (p : Nat) (keys : List (BitVec 256 × W32)) : State :=
  modPort (modErr s (fun e => { e with drilled := e.drilled.filter (· != (4, p)) })) p
    (fun x => { cleared x 5 x.cause x.downAt with keys := keys, epochAt := now s, upAt := now s, warned := false })

/-- KEYING_ENCAP_KEY at the responder (R320): the ciphertext goes back, and the link is keyed. -/
def encapKey (s : State) (p : Nat) (key : Bytes) (sigOk : Bool) : State :=
  let x := port s p
  if x.state != 4 || initiator s x then s
  else if !sigOk then down s p 2
  else
    let ct := Config.kemCipher key s.free
    let h := x.transcript ++ key ++ ct
    enterUp (handshake (drawn s) p ct h) p (linkKeys key ct h 0)

/-- KEYING_CIPHERTEXT at the initiator (R320). -/
def ciphertext (s : State) (p : Nat) (ct : Bytes) (sigOk : Bool) : State :=
  let x := port s p
  if x.state != 4 || !initiator s x then s
  else if !sigOk then down s p 2
  else
    let pub := match x.rekeys with | r :: _ => r.pub | [] => []
    enterUp s p (linkKeys pub ct (x.transcript ++ ct) 0)

/-- KEYING_TIMEOUT (R316): 2 ms, after the arrivals of its cycle (R52). -/
def keyingTimeout (s : State) (p : Nat) : State :=
  let x := port s p
  if x.state == 4 && decide (x.keyingAt + 2000000 ≤ now s) && Order.turn 5 s then down s p 2 else s

/-! ## In-epoch rekeying (R322, R323) -/

/-- The messages of a rekey exchange that carry the key and the ciphertext. -/
def rekeyKey (instant epoch : Nat) (key : Bytes) : Bytes := Config.rekeyMessage 0 instant epoch key
def rekeyCipher (instant epoch : Nat) (ct : Bytes) : Bytes := Config.rekeyMessage 1 instant epoch ct

/-- The keys of a rekey exchange: H covers its two messages (R322). -/
def rekeyKeys (instant epoch : Nat) (key ct : Bytes) : List (BitVec 256 × W32) :=
  linkKeys key ct (rekeyKey instant epoch key ++ rekeyCipher instant epoch ct) epoch

/-- The initiator starts the exchange of one entry on one port. -/
def rekeyStart (s : State) (instant epoch p : Nat) : State :=
  let x := port s p
  if isUp s p && initiator s x then
    let k := Config.kemKey s.free
    sendControl (modPort (drawn s) p (fun y => { y with rekeys := y.rekeys.filter (fun r => !(r.instant == instant && r.epoch == epoch)) ++
      [⟨instant, epoch, k, none, none⟩] })) p (rekeyKey instant epoch k)
  else s

/-- A REKEY entry has been accepted (R322). -/
def rekeyAccepted (s : State) (e : SchedEntry) : State :=
  (setBits 27 e.param.toNat).foldl (fun acc p => rekeyStart acc e.instant (field e.param.toNat 39 32) p) s

/-- A pending REKEY entry for the same INSTANT and epoch that names a port. -/
def rekeyPending (s : State) (instant epoch p : Nat) : Bool :=
  s.sched.any (fun q => q.2.entry.action == 7 && q.2.entry.instant == instant && field q.2.entry.param.toNat 39 32 == epoch &&
    bit q.2.entry.param.toNat p)

def isRekey (instant epoch : Nat) (r : Rekey) : Bool := r.instant == instant && r.epoch == epoch

/-- REKEY_EXCHANGE_MSG (R322). -/
def rekeyMsg (s : State) (p : Nat) (m : RekeyMsg) : State :=
  let x := port s p
  if !isUp s p then s
  else match m with
    | .encapKey instant epoch key =>
      if initiator s x then s
      else if rekeyPending s instant epoch p then
        let ct := Config.kemCipher key s.free
        sendControl (modPort (drawn s) p (fun y => { y with rekeys := y.rekeys.filter (fun r => !isRekey instant epoch r) ++
          [⟨instant, epoch, key, some (rekeyKeys instant epoch key ct), none⟩] })) p (rekeyCipher instant epoch ct)
      else sendControl s p (Config.rekeyMessage 2 instant epoch [])
    | .cipher instant epoch ct =>
      modPort s p (fun y => { y with rekeys := y.rekeys.map (fun r =>
        if isRekey instant epoch r && initiator s x then { r with keys := some (rekeyKeys instant epoch r.pub ct), retryAt := none } else r) })
    | .notScheduled instant epoch =>
      modPort s p (fun y => { y with rekeys := y.rekeys.map (fun r =>
        if isRekey instant epoch r && r.keys.isNone then { r with retryAt := some (now s + 10000) } else r) })

/-- REKEY_RETRY (R322): every 10 µs until INSTANT - 20 µs. -/
def rekeyRetry (s : State) (p : Nat) : State :=
  let due := fun (r : Rekey) => match r.retryAt with | some t => decide (t ≤ now s ∧ now s + 20000 ≤ r.instant) | none => false
  if isUp s p then ((port s p).rekeys.filter due).foldl (fun acc r => rekeyStart acc r.instant r.epoch p) s else s

/-- A REKEY fires on a port (R322, R323): the new epoch, or down with cause 10. -/
def rekeyFire (s : State) (instant epoch p : Nat) : State :=
  let x := port s p
  if !isUp s p then s
  else match (x.rekeys.find? (isRekey instant epoch)).bind (·.keys) with
    | some k => setPort s p { x with keys := k, epoch := epoch, epochAt := instant, grace := some ⟨x.epoch, x.keys, instant + 10000⟩, txCounter := 0,
                                     rekeys := x.rekeys.filter (fun r => !isRekey instant epoch r) }
    | none => down s p 10

/-- KEY_GRACE_END (R322). -/
def graceEnd (s : State) (p : Nat) : State :=
  match (port s p).grace with
  | some g => if g.till ≤ now s then modPort s p (fun x => { x with grace := none }) else s
  | none => s

/-- KEY_AGE_LIMIT (R323): an epoch 48 hours old. -/
def keyAge (s : State) (p : Nat) : State :=
  if isUp s p && decide ((port s p).epochAt + 172800000000000 ≤ (now s : Int)) then down s p 10 else s

/-! ## Frames (R294 to R298, R300, R303) -/

/-- Flits of a buffer at the far end of a port (R300). -/
def capOf (p buf : Nat) : Nat :=
  if buf == 13 then 16
  else if buf % 3 == 1 then (if p < 15 then 256 else if p < 23 then 384 else 1536)
  else 16

/-- The channel of a buffer (R300): 0 request, 1 response, 2 transit, 3 control. -/
def channelOf (buf : Nat) : Nat := if buf ≤ 3 then 0 else if buf ≤ 6 then 1 else if buf ≤ 12 then 2 else 3

/-- The buffers of a channel. -/
def buffersOf (ch : Nat) : List Nat :=
  match ch with
  | 0 => [1, 2, 3]
  | 1 => [4, 5, 6]
  | 2 => [7, 8, 9, 10, 11, 12]
  | _ => [13]

/-- A credit is held for a buffer at the far end. -/
def credit (p : Nat) (x : Port) (buf : Nat) : Bool := decide (SMap.val 0 x.used buf < capOf p buf)

/-- A copied flit may leave on a port: every branch that has still to send it has a credit for it (R309). -/
def copyReady (s : State) (p : Nat) (f : QueuedFlit) : Bool :=
  match f.copy with
  | none => true
  | some c => s.fabric.ports.all (fun r => r.1 == p ||
      (match r.2.outq.find? (fun g => g.copy == some c) with | some g => credit r.1 r.2 g.buf | none => true))

/-- The next flit of a buffer may leave: it passes `fits`, and its credit is held. -/
def ready (fits : QueuedFlit → Bool) (p : Nat) (x : Port) (buf : Nat) : Bool :=
  match x.outq.find? (fun f => f.buf == buf) with
  | some f => fits f && credit p x buf
  | none => false

/-- A list turned so that it begins after its k-th element. -/
def turned {α : Type} (l : List α) (k : Nat) : List α := l.drop ((k + 1) % (l.length + 1)) ++ l.take ((k + 1) % (l.length + 1))

/-- The last class served of each channel, packed in `rotate` above the last channel served. -/
def lastClass (r ch : Nat) : Nat := (r / (4 * 8 ^ ch)) % 8

/-- The buffer a channel serves next: its classes in rotation (R303). -/
def pick (fits : QueuedFlit → Bool) (p : Nat) (x : Port) (ch : Nat) : Option Nat :=
  (turned (buffersOf ch) (lastClass x.rotate ch)).find? (ready fits p x)

/-- The place of a buffer among its channel's. -/
def placeOf (buf : Nat) : Nat := (buffersOf (channelOf buf)).findIdx (· == buf)

/-- `rotate` after a choice in rotation. -/
def rotated (r buf : Nat) : Nat :=
  let ch := channelOf buf
  let unit := 4 * 8 ^ ch
  (r / 4) * 4 + ch + unit * placeOf buf - unit * lastClass r ch

/-- The buffer that the next slot takes (R303). -/
def arbitrate (fits : QueuedFlit → Bool) (p : Nat) (x : Port) : Option Nat :=
  let control := (x.slots64.filter (· == 1)).length
  let transit := (x.slots64.filter (· == 2)).length
  if control < 4 && (pick fits p x 3).isSome then pick fits p x 3
  else if transit < 16 && (pick fits p x 2).isSome then pick fits p x 2
  else (turned [0, 1, 2, 3] (x.rotate % 4)).findSome? (pick fits p x)

/-- Fill slots with flits; fuel is the number of slots. -/
def fillSlots (fits : QueuedFlit → Bool) : Nat → Nat → Port → List QueuedFlit → Port × List QueuedFlit
  | 0, _, x, acc => (x, acc.reverse)
  | n + 1, p, x, acc =>
    match arbitrate fits p x with
    | none => fillSlots fits n p { x with slots64 := (0 :: x.slots64).take 64 } ({ buf := 0, data := zeros 64 } :: acc)
    | some b =>
      match takeFirst (fun (f : QueuedFlit) => f.buf == b) x.outq with
      | none => (x, acc.reverse)
      | some (f, rest) =>
        let mark := if b == 13 then 1 else if channelOf b == 2 then 2 else 0
        fillSlots fits n p { x with outq := rest, used := SMap.ins x.used b (SMap.val 0 x.used b + 1), rotate := rotated x.rotate b,
                                    slots64 := (mark :: x.slots64).take 64 } (f :: acc)

/-- The header of a frame (R295). -/
def frameHeader (f : Frame) : Bytes :=
  layout 22 [(0, le 1 f.epoch), (1, le 1 (if f.retryReq then 1 else 0)), (2, le 2 f.counter),
    (4, le 8 ((f.flits.zipIdx).foldl (fun acc x => acc + x.1.buf * 16 ^ x.2) 0)),
    (12, le 6 ((f.credits.zipIdx).foldl (fun acc x => acc + (x.1.1 * 256 + x.1.2) * 4096 ^ x.2) 0)), (18, le 4 f.ack)]

/-- A frame sealed and sent (R296): the IV is the salt and then the counter. -/
def sealFrame (s : State) (p d : Nat) (f : Frame) : State :=
  let k := (port s p).keys.getD d (0, 0)
  let iv : BitVec 96 := BitVec.ofNat 96 (k.2.toNat + 2 ^ 32 * f.counter)
  let c := Config.gcmSeal k.1 iv (frameHeader f) (f.flits.flatMap (·.data))
  emit s (.frame p (frameHeader f) c.1 c.2 (Coding.lanes (frameHeader f ++ c.1 ++ le 16 c.2.toNat)))

/-- Frames kept for resending (R298). -/
def replayCap (p : Nat) : Nat := if p < 23 then 32 else 128

/-- The four CREDIT entries of a frame, of at most 255 flits each, and what is still owed (R295). -/
def creditEntries (l : List (Nat × Nat)) : List (Nat × Nat) × List (Nat × Nat) :=
  ((l.take 4).map (fun e => (e.1, min 255 e.2)), l.drop 4 ++ ((l.take 4).map (fun e => (e.1, e.2 - 255))).filter (fun e => e.2 != 0))

/-- The TAGs of the module's own requests whose header flit waits on a port or is not acknowledged (R371). -/
def ownTags (x : Port) : List Nat := x.outq.filterMap (·.tag) ++ x.replay.flatMap (·.tags)

/-- The bytes of a flit as its frame leaves: a firefly carries the fabric time of that moment (R35). -/
def leaving (t : Nat) (f : QueuedFlit) : Bytes := if f.firefly then f.data.take 8 ++ le 8 t ++ f.data.drop 16 else f.data

/-- The resend that the next new frame asks for (R298): one frame carries RETRY_REQ for each bad frame, those after it acknowledge again
(R295). -/
def asked (x : Port) : Option (Nat × Nat) := if x.askRetry then x.rxRetry else none

/-- FRAME_SEND (R294, R298): a resend that is due, else a new frame while the replay buffer has room. -/
def frameSend (s : State) (p : Nat) : State :=
  let x := port s p
  if !isUp s p then s
  else match x.txRetry with
    | some c =>
      match x.replay.dropWhile (fun f => f.counter % 4294967296 != c) with
      | [] => setPort s p { x with txRetry := none }
      | f :: rest => emit (setPort s p { x with txRetry := rest.head?.map (fun g => g.counter % 4294967296) }) (.resend p f.counter)
    | none =>
      if replayCap p ≤ x.replay.length then s
      else
        let g := fillSlots (copyReady s p) 16 p x []
        let o := creditEntries x.owed
        let f : Frame := { counter := x.txCounter, epoch := x.epoch, retryReq := (asked x).isSome,
                           ack := match asked x with | some r => r.2 % 4294967296 | none => (x.rxCounter + 4294967295) % 4294967296,
                           credits := o.1, flits := g.2.map (fun q => { buf := q.buf, data := leaving (now s) q }), tags := g.2.filterMap (·.tag) }
        let y := { g.1 with txCounter := (x.txCounter + 1) % 18446744073709551616, askRetry := false, owed := o.2, replay := x.replay ++ [f] }
        sealFrame (freeOrigins (setPort s p y) g.2) p (if initiator s x then 0 else 1) f

/-- The frame a resend begins at, when one is bad: the one already asked for, else the next in order, which is the first of a new epoch
where the frame is of another epoch (R298). -/
def resendFrom (x : Port) (f : FrameIn) : Nat × Nat :=
  match x.rxRetry with
  | some r => r
  | none => if f.epoch == x.rxEpoch then (x.rxEpoch, x.rxCounter) else (f.epoch, 0)

/-- A bad frame (R298): a resend is asked for, and the port goes down at 64 within 1 ms, or at 3 tag failures within 1 s. -/
def badFrame (s : State) (p : Nat) (f : FrameIn) (tag : Bool) : State :=
  let x := port s p
  let bad := s.ns :: x.badAt.filter (fun t => decide (s.ns < t + 1000000))
  let tags := if tag then s.ns :: x.tagFailAt.filter (fun t => decide (s.ns < t + 1000000000)) else x.tagFailAt
  let s1 := setPort s p { x with rxRetry := some (resendFrom x f), askRetry := true, badAt := bad, tagFailAt := tags }
  if 3 ≤ tags.length then down s1 p 9 else if 64 ≤ bad.length then down s1 p 8 else s1

/-- Flits of a frame that enter a buffer. -/
def countIn (fs : List Flit) (b : Nat) : Nat := (fs.filter (fun f => f.buf == b)).length

/-- The receive buffers 1 to 12 with the flits of a frame. -/
def receive (m : SMap Nat) (fs : List Flit) : SMap Nat :=
  (List.range 12).foldl (fun acc i => SMap.put 0 acc (i + 1) (SMap.val 0 acc (i + 1) + countIn fs (i + 1))) m

/-- A good frame in order: credits, acknowledgement or retry, and its flits; a control flit is consumed as it arrives (R301), so that its
credit is owed at once. -/
def goodFrame (x : Port) (f : FrameIn) : Port :=
  let used := f.credits.foldl (fun m e => if e.1 == 0 then m else SMap.ins m e.1 (SMap.val 0 m e.1 - e.2)) x.used
  let after := x.replay.dropWhile (fun g => g.counter % 4294967296 != f.ackOrRetry)
  { x with rxCounter := f.counter + 1, rxEpoch := f.epoch, rxRetry := none, askRetry := false, used := used, rxHeld := receive x.rxHeld f.flits,
           owed := addOwed x.owed 13 (countIn f.flits 13),
           txRetry := if f.retryReq then some f.ackOrRetry else x.txRetry,
           replay := if f.retryReq then (if after.isEmpty then x.replay else after) else (if after.isEmpty then x.replay else after.drop 1) }

/-- The epoch of a frame names a key that is held (R322, R323). -/
def epochHeld (x : Port) (t e : Nat) : Bool :=
  e == x.epoch || (match x.grace with | some g => e == g.epoch && decide (t < g.till) | none => false)

/-- The frame is the one expected: the start of the resend that was asked for, else the next one in its epoch (R298). -/
def expected (x : Port) (f : FrameIn) : Bool :=
  match x.rxRetry with
  | some r => f.epoch == r.1 && f.counter == r.2
  | none => if f.epoch == x.rxEpoch then f.counter == x.rxCounter else f.counter == 0

/-- FRAME_RECEIVE (R297, R298). -/
def frameReceive (s : State) (p : Nat) (f : FrameIn) : State :=
  if !isUp s p then s
  else
    let s1 := modPort s p (fun x => { x with corrected := x.corrected + Coding.corrected f.errors })
    let x := port s1 p
    if !f.errors.all Coding.corrects then badFrame s1 p f false
    else if !epochHeld x (now s1) f.epoch || !f.tagOk then badFrame s1 p f true
    else if expected x f then setPort s1 p (goodFrame x f)
    else s1

/-! ## Events on a port -/

/-- PORT_SIGNAL_LOSS (R318): loss of signal or lock, or a management command. -/
def signalLoss (s : State) (p cause : Nat) : State := down s p (if cause == 2 || cause == 12 then cause else 1)

/-- LINK_DOWN_ANNOUNCE (R318). -/
def announced (s : State) (p : Nat) : State :=
  if isUp s p then down (modPort s p (fun x => { x with warned := true })) p 11 else s

/-- FENCE_NOTICE (R310): the port enters PEER_FENCED. -/
def fenceNotice (s : State) (p : Nat) : State :=
  if (port s p).state == 5 then modPort s p (fun x => { x with state := 7, warned := true }) else s

/-- PROBE_OUTCOME (R394): decided 200 µs after the probe was sent. -/
def probeOutcome (s : State) (m : Nat) : State :=
  match s.remote.probes.find? (fun x => x.1 == m) with
  | none => s
  | some (_, t, answer) =>
    if now s < t || !Order.turn 5 s then s
    else
      let k := pairKey false m 255 127 0
      let s1 := modRemote s (fun r => { r with probes := r.probes.filter (fun x => x.1 != m) })
      let s2 := setPair s1 k { pair s1 k with window := [], waiting := [] }
      if answer == some 0 then s2
      else ((s2.ctxs.map (·.1)).filter (fun c => mapsModule s2 c m)).foldl
        (fun acc c => AbortOps.broadcast acc c 2 m (SMap.val 0 acc.remote.peerGen m)) s2

/-! ## Meanings -/

def valid (p : Nat) : Bool := decide (p < 27)

/-- PORT_SIGNAL_LOSS (R318). -/
def execPortSignalLoss (p cause : Nat) (s : State) : Host.Outcome State Fault Refusal := .next (if valid p then signalLoss s p cause else s)

/-- PROBE_OUTCOME (R394). -/
def execProbeOutcome (m : Nat) (s : State) : Host.Outcome State Fault Refusal := .next (probeOutcome s m)

/-- PORT_RETRY (R315). -/
def execPortRetry (p : Nat) (s : State) : Host.Outcome State Fault Refusal := .next (if valid p then retry s p else s)

/-- TRAINING_COMPLETE (R316). -/
def execTrainingComplete (p : Nat) (r : Train) (s : State) : Host.Outcome State Fault Refusal := .next (if valid p then trained s p r else s)

/-- CERTIFICATE_CHAIN (R441). -/
def execCertificateChain (p : Nat) (digest : BitVec 512) (good : Bool) (s : State) : Host.Outcome State Fault Refusal :=
  .next (if valid p then chain s p digest good else s)

/-- HELLO (R320). -/
def execHello (p : Nat) (h : HelloMsg) (s : State) : Host.Outcome State Fault Refusal := .next (if valid p then hello s p h else s)

/-- KEYING_ENCAP_KEY (R320). -/
def execKeyingEncapKey (p : Nat) (key : Bytes) (sigOk : Bool) (s : State) : Host.Outcome State Fault Refusal :=
  .next (if valid p then encapKey s p key sigOk else s)

/-- KEYING_CIPHERTEXT (R320). -/
def execKeyingCiphertext (p : Nat) (ct : Bytes) (sigOk : Bool) (s : State) : Host.Outcome State Fault Refusal :=
  .next (if valid p then ciphertext s p ct sigOk else s)

/-- KEYING_TIMEOUT (R316). -/
def execKeyingTimeout (p : Nat) (s : State) : Host.Outcome State Fault Refusal := .next (if valid p then keyingTimeout s p else s)

/-- LINK_DOWN_ANNOUNCE (R318). -/
def execLinkDownAnnounce (p : Nat) (s : State) : Host.Outcome State Fault Refusal := .next (if valid p then announced s p else s)

/-- FENCE_NOTICE (R310). -/
def execFenceNotice (p : Nat) (s : State) : Host.Outcome State Fault Refusal := .next (if valid p then fenceNotice s p else s)

/-- REKEY_EXCHANGE_MSG (R322). -/
def execRekeyExchangeMsg (p : Nat) (m : RekeyMsg) (s : State) : Host.Outcome State Fault Refusal := .next (if valid p then rekeyMsg s p m else s)

/-- REKEY_RETRY (R322). -/
def execRekeyRetry (p : Nat) (s : State) : Host.Outcome State Fault Refusal := .next (if valid p then rekeyRetry s p else s)

/-- KEY_GRACE_END (R322). -/
def execKeyGraceEnd (p : Nat) (s : State) : Host.Outcome State Fault Refusal := .next (if valid p then graceEnd s p else s)

/-- KEY_AGE_LIMIT (R323). -/
def execKeyAgeLimit (p : Nat) (s : State) : Host.Outcome State Fault Refusal := .next (if valid p then keyAge s p else s)

/-- FRAME_SEND (R294). -/
def execFrameSend (p : Nat) (s : State) : Host.Outcome State Fault Refusal := .next (if valid p then frameSend s p else s)

/-- FRAME_RECEIVE (R298). -/
def execFrameReceive (p : Nat) (f : FrameIn) (s : State) : Host.Outcome State Fault Refusal := .next (if valid p then frameReceive s p f else s)

end Sys2Proof.Machine.Link
end

