-- ==== Sys2Proof/Machine/Fabric.lean ====
section
/-! DEFINITION. The module's router (R299 to R313): wiring, productive hops, escape routes, detours, multicast copies, blocked packets, and
the windows of a table swap. -/

namespace Sys2Proof.Machine.Router

open Bits Ops Report

/-! ## Wiring (R299) -/

/-- Rack X, rack Y, comb and position of a module identifier. -/
def mx (m : Nat) : Nat := field m 13 11
def my (m : Nat) : Nat := field m 10 8
def comb (m : Nat) : Nat := field m 7 4
def pos (m : Nat) : Nat := field m 3 0

/-- The identifier of coordinates. -/
def ident (x y c p : Nat) : Nat := x * 2048 + y * 256 + c * 16 + p

/-- Ring lengths of the plan, 1 without a plan. -/
def ringX (s : State) : Nat := match s.dex.plan with | some p => max 1 p.nx | none => 1
def ringY (s : State) : Nat := match s.dex.plan with | some p => max 1 p.ny | none => 1

/-- The module that the wiring rules put on a port of a module. -/
def neighbour (s : State) (m p : Nat) : Nat :=
  if p < 15 then ident (mx m) (my m) (comb m) (if p < pos m then p else p + 1)
  else if p < 23 then ident (mx m) (my m) (if p - 15 < comb m then p - 15 else p - 14) (pos m)
  else if p == 23 then ident ((mx m + 1) % ringX s) (my m) (comb m) (pos m)
  else if p == 24 then ident ((mx m + ringX s - 1) % ringX s) (my m) (comb m) (pos m)
  else if p == 25 then ident (mx m) ((my m + 1) % ringY s) (comb m) (pos m)
  else ident (mx m) ((my m + ringY s - 1) % ringY s) (comb m) (pos m)

/-! ## Hops (R304, R306, R308) -/

/-- The active bank. -/
def active (s : State) : Bank := if s.fabric.activeBank == 0 then s.fabric.bank0 else s.fabric.bank1

/-- A port that routing may use: UP, in PORT_EN, and usable since a swap (R308, R319). -/
def usable (s : State) (p : Nat) : Bool := isUp s p && bit (active s).portEn p && (port s p).usable

/-- The directions that the table permits between the racks of SRC and DST (R308). -/
def permitted (s : State) (p : Pkt) : Nat := SMap.val 0 (active s).dirs (64 * field p.src 13 8 + field p.dst 13 8)

/-- The productive directions of a ring: one that is permitted; where both are, the shorter, and both on a tie (R304, R306). -/
def ringDirs (n here there : Nat) (plus minus : Bool) : Bool × Bool :=
  if here == there then (false, false)
  else
    let f := (there + n - here % n) % n
    if plus && minus then (decide (2 * f ≤ n), decide (n ≤ 2 * f)) else (plus, minus)

/-- The productive hop in comb, and in position. -/
def combPort (here there : Nat) : Nat := if here < there then 15 + there - 1 else 15 + there
def posPort (here there : Nat) : Nat := if here < there then there - 1 else there

/-- Productive ports of a packet at this module, ascending (R304). -/
def productive (s : State) (p : Pkt) : List Nat :=
  let m := moduleId s
  let d := permitted s p
  let x := ringDirs (ringX s) (mx m) (mx p.dst) (bit d 0) (bit d 1)
  let y := ringDirs (ringY s) (my m) (my p.dst) (bit d 2) (bit d 3)
  (if pos m != pos p.dst then [posPort (pos m) (pos p.dst)] else []) ++ (if comb m != comb p.dst then [combPort (comb m) (comb p.dst)] else []) ++
  (if x.1 then [23] else []) ++ (if x.2 then [24] else []) ++ (if y.1 then [25] else []) ++ (if y.2 then [26] else [])

/-- The escape hop: X, then Y, then comb, then position; + on a tie (R306). -/
def escapePort (s : State) (p : Pkt) : Option Nat :=
  let m := moduleId s
  let d := permitted s p
  let x := ringDirs (ringX s) (mx m) (mx p.dst) (bit d 0) (bit d 1)
  let y := ringDirs (ringY s) (my m) (my p.dst) (bit d 2) (bit d 3)
  if mx m != mx p.dst then (if x.1 then some 23 else if x.2 then some 24 else none)
  else if my m != my p.dst then (if y.1 then some 25 else if y.2 then some 26 else none)
  else if comb m != comb p.dst then some (combPort (comb m) (comb p.dst))
  else if pos m != pos p.dst then some (posPort (pos m) (pos p.dst))
  else none

/-- A global port and its dimension: 0 X, 1 Y, 2 rack, 3 board. -/
def dimension (p : Nat) : Nat := if p < 15 then 3 else if p < 23 then 2 else if p < 25 then 0 else 1

/-- The hop crosses a ring's wrap link (R306). -/
def wraps (s : State) (p : Nat) : Bool :=
  let m := moduleId s
  (p == 23 && mx m + 1 == ringX s) || (p == 24 && mx m == 0) || (p == 25 && my m + 1 == ringY s) || (p == 26 && my m == 0)

/-- The escape class of a hop (R306): E1 on and after the wrap link, until the dimension changes. -/
def escapeClass (s : State) (inPort : Option Nat) (cls : RouteClass) (p : Nat) : RouteClass :=
  if wraps s p then .e1
  else if cls == .e1 && (match inPort with | some q => dimension q == dimension p | none => false) then .e1
  else .e0

/-! ## Buffers (R300, R301) -/

/-- The buffer a packet takes on its next hop. -/
def bufferOf (p : Pkt) (inPort : Option Nat) (cls : RouteClass) : Nat :=
  (if isResponse p then 4 else 1) + (if inPort.isSome then 6 else 0) + (match cls with | .adaptive => 0 | .e0 => 1 | .e1 => 2)

/-- Credits held for a buffer of a port. -/
def free (s : State) (p buf : Nat) : Nat := Link.capOf p buf - SMap.val 0 (port s p).used buf

/-- There is room for a header flit: a credit, and no other packet holds the class (R302). -/
def room (s : State) (p buf : Nat) : Bool := decide (0 < free s p buf) && !(port s p).outq.any (fun f => f.buf == buf)

/-! ## What the router does with a packet -/

/-- Where a packet goes next. -/
inductive Hop where
  | go (port : Nat) (cls : RouteClass)
  | wait (port : Nat)
  | fenced (beyond : Nat)
deriving DecidableEq, Repr

/-- The port with the most free adaptive credits among several, ties to the lowest (R305). -/
def widest (s : State) (buf : Nat) : List Nat → Option Nat
  | [] => none
  | p :: r => match widest s buf r with
    | some q => if free s p buf < free s q buf then some q else some p
    | none => some p

/-- The next hop in the adaptive class (R304, R305, R308, R311). -/
def adaptiveHop (s : State) (inPort : Option Nat) (p : Pkt) : Hop :=
  let prods := productive s p
  let buf := bufferOf p inPort .adaptive
  match prods.filter (usable s) with
  | q :: qs => match widest s buf ((q :: qs).filter (fun x => room s x buf)) with
    | some x => .go x .adaptive
    | none => .wait q
  | [] => match (prods.map (fun x => SMap.val 31 (active s).detour x)).filter (fun x => x != 31 && usable s x) with
    | q :: _ => if room s q buf then .go q .adaptive else .wait q
    | [] => .fenced (match prods with | x :: _ => neighbour s (moduleId s) x | [] => p.dst)

/-- The next hop in the escape class (R306, R311). -/
def escapeHop (s : State) (inPort : Option Nat) (cls : RouteClass) (p : Pkt) : Hop :=
  match escapePort s p with
  | none => .fenced p.dst
  | some q =>
    if !usable s q then .fenced (neighbour s (moduleId s) q)
    else
      let c := escapeClass s inPort cls q
      if room s q (bufferOf p inPort c) then .go q c else .wait q

/-- The receive buffer in which a packet stands on the port it came by: that of its kind's channel when it left its source on that hop,
of transit otherwise (R300, R301). The SRC of a FENCED answer names the module beyond (R311), not the one that it left: it stands in its
kind's channel where that holds its flits. -/
def arrivalBuf (s : State) (q : Nat) (cls : RouteClass) (p : Pkt) : Nat :=
  let own := bufferOf p none cls
  let first := if p.kind == 7 && p.status == 6 then decide ((flits p).length ≤ SMap.val 0 (port s q).rxHeld own)
    else neighbour s (moduleId s) q == p.src
  if first then own else bufferOf p (some q) cls

/-- A packet leaves the receive buffer it stood in: it is consumed here, or discarded. -/
def consumed (s : State) (inPort : Option Nat) (cls : RouteClass) (p : Pkt) : State :=
  match inPort with
  | some q => freed s q (arrivalBuf s q cls p) (flits p).length
  | none => s

/-- The flits of a packet as they wait on a port: `origin` is the receive buffer they occupy until they leave, `copy` the number of the
first of them where they are copies. -/
def queued (s : State) (inPort : Option Nat) (p : Pkt) (buf : Nat) (origin : Option (Nat × Nat)) (copy : Option Nat) : List QueuedFlit :=
  (flits p).zipIdx.map (fun f =>
    { buf := buf, data := f.1, origin := origin, copy := copy.map (· + f.2),
      tag := if f.2 == 0 && inPort.isNone && !isResponse p && p.src == moduleId s then some p.tag else none })

/-- Put a packet's flits on a port; a PACKET_DROP drill that waits there discards a request packet (R302, R370). -/
def putOut (s : State) (inPort : Option Nat) (p : Pkt) (q : Nat) (cls : RouteClass) (origin : Option (Nat × Nat)) (copy : Option Nat) : State :=
  let fs := queued s inPort p (bufferOf p inPort cls) origin copy
  if (port s q).dropArmed && !isResponse p then
    let s1 := modPort (freeOrigins s fs) q (fun x => { x with dropArmed := false })
    if p.src == moduleId s then modErr s1 (fun e => { e with drilled := (0, p.tag) :: e.drilled }) else s1
  else emit (modPort s q (fun x => { x with outq := x.outq ++ fs })) (.packet q p)

/-- The router answers FENCED for a request (R299, R311): the answer names the module beyond the unusable hop. A response is lost. -/
def answerFenced (s : State) (p : Pkt) (beyond : Nat) : State :=
  if isResponse p then s else sendPkt s { response s p 7 6 with src := beyond }

/-- Hold a packet in the router (R305). -/
def holdPkt (s : State) (inPort : Option Nat) (cls : RouteClass) (p : Pkt) (q : Nat) : State :=
  modFabric s (fun f => { f with router := f.router ++ [{ pkt := p, inPort := inPort, cls := cls, port := q, since := s.ns }] })

/-- Where a packet's flits stand until they leave. -/
def originOf (s : State) (inPort : Option Nat) (cls : RouteClass) (p : Pkt) : Option (Nat × Nat) :=
  inPort.map (fun q => (q, arrivalBuf s q cls p))

/-- Act on a hop; none: the packet waits. -/
def follow (s : State) (inPort : Option Nat) (cls : RouteClass) (p : Pkt) (h : Hop) : Option State :=
  match h with
  | .go q c => some (putOut s inPort p q c (originOf s inPort cls p) none)
  | .wait _ => none
  | .fenced m => some (answerFenced (consumed s inPort cls p) p m)

/-! ## Multicast (R283, R309, R310) -/

/-- A branch to a fenced leaf, which is pruned (R310). -/
def pruned (s : State) (leafMask q : Nat) : Bool := (port s q).state == 7 && bit leafMask q

/-- One branch of a multicast packet: PRUNED for a fenced leaf, FENCED for an unusable hop, else a copy, numbered from `copy`; the first
copy's flits hold the receive buffer. -/
def branch (s : State) (inPort : Option Nat) (cls : RouteClass) (p : Pkt) (leafMask copy : Nat) (first : Option Nat) (q : Nat) : State :=
  if pruned s leafMask q then sendPkt s { response s p 7 8 with leaf := (port s q).peer }
  else if usable s q then
    putOut s inPort p q (escapeClass s inPort cls q) (if first == some q then originOf s inPort cls p else none) (some copy)
  else answerFenced s p (neighbour s (moduleId s) q)

/-- A branch that would be copied has room. -/
def branchReady (s : State) (inPort : Option Nat) (cls : RouteClass) (p : Pkt) (q : Nat) : Bool :=
  !usable s q || room s q (bufferOf p inPort (escapeClass s inPort cls q))

/-- A multicast packet is copied to the OUT ports of its group and delivered where LOCAL is set, once every branch has room; none: it
waits. -/
def multicast (s : State) (inPort : Option Nat) (cls : RouteClass) (p : Pkt) : Option State :=
  let e := (SMap.val 0#64 (active s).mcast p.group).toNat
  let outs := setBits 27 (field e 27 1)
  let leafMask := field e 54 28
  if outs.all (branchReady s inPort cls p) then
    let first := outs.find? (fun q => !pruned s leafMask q && usable s q)
    let s1 := modFabric (if first.isSome then s else consumed s inPort cls p) (fun f => { f with copies := f.copies + (flits p).length })
    let s2 := outs.foldl (fun acc q => branch acc inPort cls p leafMask s.fabric.copies first q) s1
    some (if bit e 0 then Tracker.arrive s2 p else s2)
  else none

/-! ## Forwarding (R301, R305, R312) -/

/-- The class a packet is routed in: CHAIN and MPUT packets are injected in the escape class (R305). -/
def classAt (inPort : Option Nat) (cls : RouteClass) (p : Pkt) : RouteClass :=
  match inPort with
  | none => if !isResponse p && (p.chain || p.mcast) then .e0 else .adaptive
  | some _ => cls

/-- Route a packet that the router has; none: it waits. -/
def route (s : State) (inPort : Option Nat) (cls : RouteClass) (p : Pkt) : Option State :=
  if p.mcast && !isResponse p then multicast s inPort cls p
  else if p.dst == moduleId s then some (Tracker.arrive (consumed s inPort cls p) p)
  else if inPort.isNone && decide (8 < comb p.dst) then some (answerFenced s p p.dst)
  else if cls == .adaptive then follow s inPort cls p (adaptiveHop s inPort p)
  else follow s inPort cls p (escapeHop s inPort cls p)

/-- A packet of an escape class stands behind an earlier one of the same buffer that the router holds (R306). -/
def behind (l : List RouterHeld) (inPort : Option Nat) (cls : RouteClass) (p : Pkt) : Bool :=
  cls != .adaptive && l.any (fun h => h.inPort == inPort && h.cls == cls && isResponse h.pkt == isResponse p)

/-- The port a waiting packet is held for: that of its next hop. -/
def waitsFor (s : State) (inPort : Option Nat) (cls : RouteClass) (p : Pkt) : Nat :=
  match (if cls == .adaptive then adaptiveHop s inPort p else escapeHop s inPort cls p) with
  | .go q _ => q
  | .wait q => q
  | .fenced _ => 31

/-- A packet that reaches the router is routed, or held behind those before it. -/
def enter (s : State) (inPort : Option Nat) (cls : RouteClass) (p : Pkt) : State :=
  let held := holdPkt s inPort cls p (waitsFor s inPort cls p)
  if behind s.fabric.router inPort cls p then held else (route s inPort cls p).getD held

/-- A packet that the router holds tries again; it keeps its place and its time while it waits (R305, R306). -/
def again (s : State) (i : Nat) (h : RouterHeld) : State :=
  if behind (s.fabric.router.take i) h.inPort h.cls h.pkt then s
  else (route (modFabric s (fun f => { f with router := f.router.eraseIdx i })) h.inPort h.cls h.pkt).getD s

/-- An escape-class packet is injected after those of its channel handed over before it (R306). -/
def injectable (s : State) (p : Pkt) : Bool :=
  classAt none .adaptive p == .adaptive ||
  (match s.fabric.inject.find? (fun x => classAt none .adaptive x != .adaptive && isResponse x == isResponse p) with
   | some x => x == p
   | none => true)

/-- Injection of the packet's channel has stopped for a table swap (R312), or the module is fenced and sends no request of its own that it
had not sent (R387). -/
def stopped (s : State) (p : Pkt) : Bool := if isResponse p then s.fabric.rspStopped else s.fabric.reqStopped || fenced s

/-- PACKET_FORWARD: a packet held by the router tries again, one handed to it is injected, or one arrives on a port. -/
def forward (s : State) (inPort : Option Nat) (cls : RouteClass) (p : Pkt) : State :=
  match s.fabric.router.zipIdx.find? (fun h => h.1.inPort == inPort && h.1.pkt == p) with
  | some h => again s h.2 h.1
  | none =>
    match inPort with
    | none =>
      if stopped s p || !injectable s p then s
      else match takeFirst (fun (x : Pkt) => x == p) s.fabric.inject with
        | some (_, rest) => enter (modFabric s (fun f => { f with inject := rest })) none (classAt none cls p) p
        | none => s
    | some q => if isUp s q && decide (q < 27) then enter s inPort cls p else s

/-- ESCAPE_FALLBACK (R305): a packet blocked for 64 slots, and still so, moves to its escape route as soon as that has room. -/
def fallback (s : State) (i : Nat) : State :=
  match s.fabric.router[i]? with
  | none => s
  | some h =>
    if h.cls == .adaptive && decide (h.since + 64 ≤ s.ns) then
      match adaptiveHop s h.inPort h.pkt, escapeHop s h.inPort .e0 h.pkt with
      | .wait _, .go q c =>
        putOut (modFabric s (fun f => { f with router := f.router.eraseIdx i })) h.inPort h.pkt q c (originOf s h.inPort h.cls h.pkt) none
      | _, _ => s
    else s

/-! ## Table swaps (R312, R313, R319) -/

/-- A class 0x32 error that concerns every stepped context of the module (R333). -/
def swapError (s : State) (sub count : Nat) : State :=
  let s1 := raise s { cls := 0x32, unit := unitCode 10 0, aux := sub, detail := if sub == 14 then detail [(44, le 4 count)] else [] } 1
  ((s.ctxs.filter (fun c => stepped c.2)).map (·.1)).foldl (fun acc c => setFail acc c 8) s1

/-- ROUTE_SWAP fires: requests stop being injected. -/
def swapStart (s : State) (e : SchedEntry) : State :=
  let w : SwapWindow := ⟨e.instant, field e.param.toNat 31 0, field e.param.toNat 47 32, 0⟩
  modFabric s (fun f => { f with reqStopped := true, swap := some w })

/-- ROUTE_SWAP_RESPONSE_STOP: INSTANT + W/4. -/
def responseStop (s : State) : State :=
  match s.fabric.swap with
  | some w =>
    if w.stage == 0 && decide (w.instant + w.window / 4 ≤ now s) then
      let w1 := { w with stage := 1 }
      modFabric s (fun f => { f with rspStopped := true, swap := some w1 })
    else s
  | none => s

/-- The bank that carries a TABLE_ID, if any. -/
def bankWith (s : State) (t : Nat) : Option Nat :=
  if s.fabric.bank0.valid && s.fabric.bank0.table == t then some 0
  else if s.fabric.bank1.valid && s.fabric.bank1.table == t then some 1
  else none

/-- The flits of packets that wait on a port, control flits apart. -/
def packetFlits (x : Port) : List QueuedFlit := x.outq.filter (fun f => f.buf != 13)

/-- What tells the packets apart that wait on a port: none for one that waits only there, the number of its last copied flit otherwise. -/
def packetsOn (x : Port) : List (Option Nat) :=
  (List.range 12).filterMap (fun b => ((packetFlits x).filter (fun f => f.buf == b + 1)).getLast?.map (·.copy))

/-- Packets that the router holds: those it has not routed, and those whose flits wait on a port. -/
def heldCount (s : State) : Nat :=
  let l := s.fabric.ports.flatMap (fun r => packetsOn r.2)
  s.fabric.router.length + (l.filter (·.isNone)).length + (l.filter (·.isSome)).eraseDups.length

/-- Every packet that the router holds is discarded, and its receive buffers are free (R312). -/
def discard (s : State) : State :=
  let gone := s.fabric.ports.flatMap (fun r => packetFlits r.2)
  let s1 := s.fabric.router.foldl (fun acc h => consumed acc h.inPort h.cls h.pkt) s
  freeOrigins (modFabric s1 (fun f => { f with router := [], ports := SMap.mapVals (fun _ (x : Port) =>
    { x with outq := x.outq.filter (fun g => g.buf == 13) }) f.ports }) ) gone

/-- ROUTE_SWAP_ACTIVATE: INSTANT + W/2. The named bank becomes active, held packets are discarded, and the ports that had reached UP by
the swap's INSTANT become usable (R319, R325). -/
def activate (s : State) : State :=
  match s.fabric.swap with
  | none => s
  | some w =>
    if w.stage == 1 && decide (w.instant + w.window / 2 ≤ now s) then
      let n := heldCount s
      let w1 := { w with stage := 2 }
      let s1 := modFabric (discard s) (fun f => { f with swap := some w1, swapDrop := min 4294967295 (f.swapDrop + n) })
      let s2 := if n == 0 then s1 else swapError s1 14 n
      match bankWith s w.table with
      | some b =>
        let ports := SMap.mapVals (fun _ (x : Port) => { x with usable := x.usable || ((x.state == 5 || x.state == 7) && decide (x.upAt ≤ w.instant)) }) s2.fabric.ports
        modFabric s2 (fun f => { f with activeBank := b, activeTable := w.table, ports := ports })
      | none => swapError s2 15 0
    else s

/-- ROUTE_SWAP_RESUME: INSTANT + W. -/
def resume (s : State) : State :=
  match s.fabric.swap with
  | some w => if w.stage == 2 && decide (w.instant + w.window ≤ now s) then
      modFabric s (fun f => { f with reqStopped := false, rspStopped := false, swap := none }) else s
  | none => s

/-! ## Meanings -/

/-- PACKET_FORWARD (R305). -/
def execPacketForward (inPort : Option Nat) (cls : RouteClass) (p : Pkt) (s : State) : Host.Outcome State Fault Refusal :=
  .next (forward s inPort cls p)

/-- ESCAPE_FALLBACK (R305). -/
def execEscapeFallback (idx : Nat) (s : State) : Host.Outcome State Fault Refusal := .next (fallback s idx)

/-- ROUTE_SWAP_RESPONSE_STOP (R312). -/
def execRouteSwapResponseStop (s : State) : Host.Outcome State Fault Refusal := .next (responseStop s)

/-- ROUTE_SWAP_ACTIVATE (R313). -/
def execRouteSwapActivate (s : State) : Host.Outcome State Fault Refusal := .next (activate s)

/-- ROUTE_SWAP_RESUME (R312). -/
def execRouteSwapResume (s : State) : Host.Outcome State Fault Refusal := .next (resume s)

end Sys2Proof.Machine.Router
end

