-- ==== Sys2Proof/Machine/FlagCtl.lean ====
section
/-! DEFINITION. Flag waits and flag actions of the streams (R168, R255 to R257, R177, R53). -/

namespace Sys2Proof.Machine.FlagCtl

open Bits Ops Report Issue

/-- The wait a flag word asks for. -/
def waitOf (s : State) (consuming : Bool) (w : FlagWord) : WaitState :=
  { consume := consuming, flag := w.flag, count := w.nfl + 1, timeout := w.timeout, used := 0, since := now s }

/-- WAITS and WAITC: the stream passes at once, in its turn, when every named flag is set, and is blocked otherwise (R161, R168). -/
def wait (s : State) (i : Issuer) (consuming : Bool) (w : FlagWord) : State :=
  fetched s i (.flag (if consuming then 1 else 0) w) (fun r =>
    let x := waitOf s consuming w
    if !legalFlag w then (if myTurn s i then reject s i r 4 (if consuming then 1 else 0) else s)
    else if !FlagOps.met s i.core x then modStream s r.c i.core i.stream (fun t => { t with wait := some x })
    else if myTurn s i then FlagOps.passWait (noted s i) r.c i.core i.stream x
    else s)

/-- One action on consecutive flags, in ascending order, with no wait evaluated in between (R168). -/
def actAll (f : State → Nat → State) : Nat → State → Nat → State
  | 0, s, _ => s
  | n + 1, s, k => actAll f n (f s k) (k + 1)

/-- SET and CLEAR: each named flag in ascending order (R168, R256). -/
def action (s : State) (i : Issuer) (set : Bool) (w : FlagWord) (pair : Option PairFault) : State :=
  issue s i (.flag (if set then 2 else 3) w) (fun r =>
    if legalFlag w then
      let p := FlagOps.streamParty s i.core r.c i.stream
      let one := fun (acc : State) (f : Nat) =>
        let s1 := FlagOps.late (FlagOps.noteIssue acc i.core f) i.core f
        if set then FlagOps.setFlag s1 i.core f p else FlagOps.clearFlag s1 i.core f p
      let x := Pairs.field (noted s i) { unit := unitCode 2 i.core, q := i.core, ctx := r.c, stream := i.stream,
                                         op := opField 4 (if set then 2 else 3), pc := r.t.pc } 0 13 w.flag pair
      actAll one (w.nfl + 1) (advance x.1 r.c i) (min x.2 (8191 - w.nfl))
    else reject s i r 4 (if set then 2 else 3))

/-- The stream an issuer names, blocked on a wait in a slot that is RESIDENT. -/
def waiting (s : State) (i : Issuer) : Option (Nat × Ctx × StreamState × WaitState) :=
  match ctxInSlot s i.core i.slot with
  | none => none
  | some c => match ctx? s c with
    | none => none
    | some x =>
      let k := onCore x i.core
      let t := streamOf k i.stream
      if k.state == .resident && !k.due then t.wait.map (fun w => (c, x, t, w)) else none

/-- WAIT_SATISFIED: a stream whose wait is met passes it, in its turn (R161, R256, R257). -/
def satisfied (s : State) (i : Issuer) : State := if unblocked s i && myTurn s i then passPending s i else s

/-- The first named flag that is not set. -/
def firstUnset (s : State) (q : Nat) (w : WaitState) : Nat :=
  match (List.range w.count).find? (fun i => !FlagOps.value s q (w.flag + i)) with | some i => w.flag + i | none => w.flag

/-- The deadline of a wait in resident time has passed (R168, R177). -/
def overdue (s : State) (w : WaitState) : Bool :=
  w.timeout != 0 && decide (1000 * w.timeout ≤ w.used + (now s - w.since))

/-- WAIT_TIMEOUT: class 0x23 subcause 2, the context enters FAULTED, and its flags take note of the timeout (R53, R168). A wait
whose flags are all set by then does not time out (R52, R258). -/
def timeout (s : State) (i : Issuer) : State :=
  match waiting s i with
  | some (c, _, t, w) =>
    if FlagOps.met s i.core w || !Order.turn 5 s then s
    else if overdue s w then
      let f := firstUnset s i.core w
      let rec' : ErrRec :=
        { cls := 0x23, unit := unitCode 2 i.core, ctx := c, stream := streamByte i.stream, op := opField 4 (if w.consume then 1 else 0),
          aux := 2, detail := detail [(40, le 2 f), (44, le 4 t.pc)] }
      let keys := (List.range w.count).map (fun j => FlagOps.key i.core (w.flag + j))
      let s1 := raise s rec' 2 (drilledNow s)
      let s2 := modFlags s1 (fun x => { x with late := keys.foldl (fun m k => SMap.ins m k true) x.late })
      let s3 := modErr s2 (fun e => { e with drilled :=
        (if drilledNow s then keys.map (fun k => (5, k)) else []) ++ e.drilled.filter (fun d => !(d.1 == 5 && keys.contains d.2)) })
      faultCore s3 c i.core
    else s
  | none => s

/-! ## Meanings -/

/-- WAITS (R168). -/
def execWaits (i : Issuer) (w : FlagWord) (s : State) : Host.Outcome State Fault Refusal := .next (wait s i false w)

/-- WAITC (R168). -/
def execWaitc (i : Issuer) (w : FlagWord) (s : State) : Host.Outcome State Fault Refusal := .next (wait s i true w)

/-- WAIT_SATISFIED (R257). -/
def execWaitSatisfied (i : Issuer) (s : State) : Host.Outcome State Fault Refusal := .next (satisfied s i)

/-- WAIT_TIMEOUT (R168). -/
def execWaitTimeout (i : Issuer) (s : State) : Host.Outcome State Fault Refusal := .next (timeout s i)

/-- SET (R168). -/
def execSetFlags (i : Issuer) (w : FlagCmd) (s : State) : Host.Outcome State Fault Refusal := .next (action s i true w.word w.pair)

/-- CLEAR (R168). -/
def execClearFlags (i : Issuer) (w : FlagCmd) (s : State) : Host.Outcome State Fault Refusal := .next (action s i false w.word w.pair)

end Sys2Proof.Machine.FlagCtl
end

