-- ==== Sys2Proof/Machine/KnownAnswer.lean ====
section
/-! DEFINITION. The Weevil's known-answer tests and failed cores (R88, R365 to R368). -/

namespace Sys2Proof.Machine.Weevils

open Bits Ops Report Swaps

/-- The physical core is marked failed in its cluster. -/
def isFailed (s : State) (k : Nat) : Bool := bit (role s (k / 9)).failed (k % 9)

/-- Fewer than eight working physical cores are left in a cluster (R368). -/
def short (r : Role) : Bool := decide (2 ≤ (setBits 9 r.failed).length)

/-- A physical core is marked failed (R88, R368): an active one is to be replaced; a cluster without eight working cores makes the
module failed. -/
def markFailed (s : State) (k cls : Nat) : State :=
  if isFailed s k then s
  else
    let n := k / 9
    let p := k % 9
    let r := role s n
    let r1 := { r with failed := r.failed ||| 2 ^ p, spare := if r.spare == p then 15 else r.spare }
    let s1 := setRole s n r1
    if short r1 then trigger s1 1 1 cls true
    else match logicalOf s k with
      | some q => modDex (modWeevil s1 (fun w => { w with dueReplace := SMap.ins w.dueReplace q true })) (fun d => { d with decided := d.decided ++ [q] })
      | none => s1

/-- Apply the replacements decided and not carried out, as a bring-up does before self-test (R88). -/
def applyDecided (s : State) : State :=
  let one := fun (acc : State) (q : Nat) =>
    let n := q / 8
    let r := role acc n
    if decide (r.spare < 9) && !bit r.failed r.spare then setRole acc n (swapped r ⟨q % 8, r.spare, 0, false⟩) else acc
  let s1 := s.dex.decided.foldl one s
  modDex s1 (fun d => { d with decided := [] })

/-- The class 0x03 errors of the last reset (R368): a core with such a reset within the 24 hours before is marked failed. -/
def strikes (s : State) : State :=
  let one := fun (acc : State) (k : Nat) =>
    let again := match SMap.look acc.dex.sramResets k with | some t => decide (acc.dex.powered < t + 24 * hour) | none => false
    let s1 := modDex acc (fun d => { d with sramResets := SMap.ins d.sramResets k d.powered })
    if again then markFailed s1 k 0x03 else s1
  modDex (s.dex.sramNow.eraseDups.foldl one s) (fun d => { d with sramNow := [] })

/-- WEEVIL_DUE (R366): an active core is due; the spare is tested in place. -/
def due (s : State) (k : Nat) : State :=
  if s.dex.state == .ready && decide (k < 72) && decide (4 * hour ≤ age s k) && !isFailed s k then
    if (logicalOf s k).isSome then modWeevil s (fun w => { w with due := SMap.ins w.due k true })
    else if (role s (k / 9)).spare == k % 9 then modWeevil s (fun w => { w with
      testing := SMap.ins w.testing k true, testFrom := SMap.ins w.testFrom k s.ns })
    else s
  else s

/-- A test fails (R367): class 0x12, or class 0x23 subcause 6 where a program hit its limit; the core is marked failed. -/
def failTest (s : State) (k : Nat) (r : TestResult) (limit : Bool) : State :=
  let unit := unitCode 14 0
  let e : ErrRec := if limit then { cls := 0x23, unit := unit, aux := 6 }
    else { cls := 0x12, unit := unit, aux := r.kernel,
           detail := detail [(40, le 1 k), (41, le 1 r.phase), (44, le 4 (SMap.val 0 s.sec.svn 3)), (48, le 8 r.digest.toNat)] }
  markFailed (raise s e 3) k e.cls

/-- A test has run for longer than the 300 ms it may take (R367). -/
def overran (s : State) (k : Nat) : Bool := decide (SMap.val 0 s.weevil.testFrom k + 300000000 < s.ns)

/-- WEEVIL_TEST_DONE (R365, R367): a passed test sets the core's age to zero. One that failed a check, whose register-mode program has its
fail bit set, or that took more than 300 ms fails. The firmware of its second phase is not the manual's, so the command names how the
test ended (DESIGN CHOICE, notes/assumptions/87.md). -/
def testDone (s : State) (k : Nat) (r : TestResult) : State :=
  if SMap.val false s.weevil.testing k then
    let s1 := modWeevil (rest s k) (fun w => { w with
      testing := SMap.del w.testing k, testFrom := SMap.del w.testFrom k, due := SMap.del w.due k })
    if r.pass && !(RegMode.core s k).fail && !overran s k then
      modWeevil s1 (fun w => { w with passedAt := SMap.ins w.passedAt k s.dex.powered, overdue := SMap.del w.overdue k })
    else failTest s1 k r (r.limit || overran s k)
  else s

/-- The core is under a known-answer test: the Weevil's, or the bring-up self-test's (R365, R367). -/
def underTest (s : State) (k : Nat) : Bool := SMap.val false s.weevil.testing k || (s.dex.state == .bringup && s.dex.phase == 5)

/-- RM_PROGRAM_LIMIT (R153, R367): a program that has not halted within its limit is stopped with the fail bit set; under a test, that fails
the test. -/
def programLimit (s : State) (k : Nat) : State :=
  let x := RegMode.core s k
  if x.mode && x.running && decide (x.started + 1000 * x.limit ≤ s.ns) then
    let s1 := RegMode.setCore s k (RegMode.stopFail x)
    if underTest s k && !isFailed s k then
      failTest (modWeevil s1 (fun w => { w with testing := SMap.del w.testing k, testFrom := SMap.del w.testFrom k, due := SMap.del w.due k })) k
        ⟨false, 1, 0, 0, true⟩ true
    else s1
  else s

/-! ## Meanings -/

/-- WEEVIL_DUE (R366). -/
def execWeevilDue (k : Nat) (s : State) : Host.Outcome State Fault Refusal := .next (due s k)

/-- WEEVIL_TEST_DONE (R367). -/
def execWeevilTestDone (k : Nat) (r : TestResult) (s : State) : Host.Outcome State Fault Refusal := .next (testDone s k r)

end Sys2Proof.Machine.Weevils

/-- RM_PROGRAM_LIMIT (R153, R367). -/
def Sys2Proof.Machine.RegMode.execRmProgramLimit (k : Nat) (s : Sys2Proof.Machine.State) :
    Host.Outcome Sys2Proof.Machine.State Sys2Proof.Machine.Fault Sys2Proof.Machine.Refusal :=
  .next (Sys2Proof.Machine.Weevils.programLimit s k)
end

