-- ==== Sys2Proof/Machine/Sensors.lean ====
section
/-! DEFINITION. Sensors, scrubs and the health score (R216, R219 to R221, R224, R369, R373 to R375, R524, R528). -/

namespace Sys2Proof.Machine.Sensors

open Bits Ops Report

/-- The package has its rails (R481). -/
def powered (s : State) : Bool := s.dex.state == .bringup || s.dex.state == .ready || s.dex.state == .removing

/-- Sensor numbers of UNIT kind 0xE: dies from 0, stacks from 2, rails from 6. -/
def sensorUnit (i : Nat) : Nat := unitCode 14 i

/-- DETAIL of class 0x40 (R357): kind, index, temperature and threshold, in units of 0.125 °C. -/
def thermalDetail (kind i : Nat) (temp : Int) (limit : Nat) : Bytes :=
  detail [(40, le 1 kind), (41, le 1 i), (42, le 2 (signed 16 temp)), (44, le 2 limit)]

/-- DETAIL of class 0x41 (R357): rail, measured and limit in mV, duration in µs. -/
def voltageDetail (rail mv limit us : Nat) : Bytes := detail [(40, le 1 rail), (42, le 2 mv), (44, le 2 limit), (46, le 2 us)]

/-! ## Stack temperature (R220, R221, R369) -/

/-- Temperatures at which a level is entered and left, from the threshold. -/
def enterAt (tth lvl : Nat) : Int := (tth : Int) + 16 * ((lvl : Int) - 1)
def leaveAt (tth lvl : Nat) : Int := enterAt tth lvl - 16

/-- The level after one sample: at most one step, and 4 throughout an excursion. -/
def nextLevel (tth lvl : Nat) (temp : Int) (hot : Bool) : Nat :=
  if hot then 4
  else if lvl < 4 ∧ enterAt tth (lvl + 1) ≤ temp then lvl + 1
  else if 0 < lvl ∧ temp < leaveAt tth lvl then lvl - 1
  else lvl

/-- DRAM_STACK_TEMP_SAMPLE: a threshold outside 85 °C to 99 °C is replaced by 95 °C; 105 °C begins an excursion, 103 °C ends it. -/
def stackSample (s : State) (i : Nat) (temp : Int) (tth : Nat) : State :=
  let t : StackTherm := SMap.val {} s.mem.stackTherm i
  let bad := decide (tth < 680 ∨ 792 < tth)
  let th := if bad then 760 else tth
  let hot := if t.hot then decide (824 ≤ temp) else decide (840 ≤ temp)
  let t1 : StackTherm := { tth := th, level := nextLevel th t.level temp hot, hot := hot,
                           hotAt := if 840 ≤ temp then some (t.hotAt.getD (now s)) else none, temp := temp, replaced := t.replaced || bad }
  let s1 := modMem s (fun m => { m with stackTherm := SMap.ins m.stackTherm i t1 })
  let s2 := if bad && !t.replaced then raise s1 { cls := 0x40, unit := unitCode 8 (32 * i), detail := thermalDetail 1 i temp th } 0 else s1
  if hot && !t.hot then raise s2 { cls := 0x40, unit := unitCode 8 (32 * i), detail := thermalDetail 1 i temp th } 0 else s2

/-- STACK_HOT_PERSIST: at or above 105 °C for 1 s. -/
def stackPersist (s : State) (i : Nat) : State :=
  let t : StackTherm := SMap.val {} s.mem.stackTherm i
  match t.hotAt with
  | some a => if a + 1000000000 ≤ now s then
      raise (modMem s (fun m => { m with stackTherm := SMap.ins m.stackTherm i { t with hotAt := none } }))
        { cls := 0x40, unit := sensorUnit (2 + i), detail := thermalDetail 1 i t.temp t.tth } 4
    else s
  | none => s

/-! ## Dies and core rails (R369, R452, R526, R528) -/

/-- A die reaches its fault limit, 115 °C: a module fault once per excursion, which ends below 112 °C. -/
def dieSample (s : State) (d : Nat) (temp : Int) : State :=
  let hot := SMap.val false s.power.dieHot d
  let now' := if hot then decide (896 ≤ temp) else decide (920 ≤ temp)
  let s1 := modPower s (fun p => { p with dieHot := SMap.ins p.dieHot d now' })
  if now' && !hot then raise s1 { cls := 0x40, unit := sensorUnit d, detail := thermalDetail 0 d temp 920 } 4 else s1

/-- A core rail lies outside 75 % to 125 % of its set point of 700 mV (R452). -/
def glitch (mv : Nat) : Bool := decide (mv < 525 ∨ 875 < mv)

/-- A droop event of a core rail: below 679 mV for 1 µs to 10 µs. It is a health event; its record is written once per rail per second. -/
def droop (s : State) (d mv lenNs : Nat) : State :=
  if decide (1000 ≤ lenNs ∧ lenNs ≤ 10000 ∧ mv < 679) && !glitch mv then
    let rail := 4 + d
    let s1 := addEvent (modPower s (fun p => { p with droops := SMap.upd 0 p.droops rail (· + 1) })) 10
    let quiet := match SMap.look s.power.droopAt rail with | some t => decide (now s < t + 1000000000) | none => false
    if quiet then s1
    else raise (modPower s1 (fun p => { p with droopAt := SMap.ins p.droopAt rail (now s) }))
      { cls := 0x41, unit := sensorUnit (6 + rail), detail := voltageDetail rail mv 679 (lenNs / 1000) } 0
  else s

/-- The alarm sources a sample shows (R452): core voltage glitch, cold, hot. -/
def sources (x : SensorData) : Nat :=
  (if (x.vcore.zip x.droopNs).any (fun r => glitch r.1 && decide (2 ≤ r.2)) then 8 else 0) + (if x.tdie.any (fun t => decide (t < -320)) then 32 else 0) +
  (if x.tdie.any (fun t => decide (1080 < t)) then 64 else 0)

/-- The telemetry block (R495). -/
def telemetry (s : State) (x : SensorData) : Bytes :=
  layout 64 [(0, le 2 x.vin), (2, le 2 x.iin), (4, le 2 s.gov.input), (6, le 2 s.gov.limit), (8, le 1 (Regs.govLevel s)), (9, le 1 (stateCode s.dex.state)),
    (10, le 1 (Regs.timeCode s.ftime.state)), (11, le 1 s.dex.gen), (12, (List.range 2).flatMap (fun i => le 2 (signed 16 (x.tdie.getD i 0)))),
    (16, (List.range 4).flatMap (fun i => le 2 (signed 16 (x.tstack.getD i 0)))), (24, (List.range 2).flatMap (fun i => le 2 (x.vcore.getD i 0))),
    (28, le 2 s.dex.score), (30, le 1 s.dex.band), (32, le 4 (ofBits (upPorts s))), (36, le 4 s.gov.throttled), (40, le 8 (now s))]

/-- SENSOR_SAMPLE: telemetry is refreshed (R495), and with the package powered the conditions of R369 are tested. -/
def sample (s : State) (x : SensorData) : State :=
  if s.dex.state == .off then s
  else
    let s1 := modPower s (fun p => { p with sample := x, telemetry := telemetry s x })
    if !powered s then s1
    else
      let s2 := x.tdie.zipIdx.foldl (fun acc r => dieSample acc r.2 r.1) s1
      let s3 := (x.vcore.zip x.droopNs).zipIdx.foldl (fun acc r => droop acc r.2 r.1.1 r.1.2) s2
      Alarm.alarm s3 (sources x)

/-- RAIL_LOW_PERSIST: a core rail below its operating minimum for more than 10 µs; a glitch of R452 raises the alarm alone. -/
def railLow (s : State) (rail mv us : Nat) : State :=
  if powered s && (rail == 4 || rail == 5) && decide (10 < us ∧ mv < 679) then
    if glitch mv then Alarm.alarm s 8
    else raise s { cls := 0x41, unit := sensorUnit (6 + rail), detail := voltageDetail rail mv 679 us } 4
  else s

/-! ## Scrubs and polls (R216, R219, R224) -/

/-- DRAM_PATROL_SCRUB: corrected data is written back; an access that cannot be corrected, or is poisoned, is uncorrectable; a channel whose
commands fail their parity check three times in a row is lost (R218). -/
def dramScrub (s : State) (a : Nat) (e : Ecc) : State :=
  let q : Mem.Req := { unit := unitCode 8 (Mem.channelOf a) }
  if !Mem.inDram a 1 then s
  else if e == .uncorrectable || SMap.val false s.mem.poison (a / 64) then Mem.uncorrectable s (64 * (a / 64)) true q
  else if e == .corrected then Mem.corrected s (64 * (a / 64)) true false q
  else if e == .parity then Mem.loseChannel s (Mem.channelOf a) (64 * (a / 64)) true q 0
  else s

/-- SRAM_PATROL_SCRUB: a corrected word of a scratchpad, a pantry or the flag store is written back and counted (R224, R252). -/
def sramScrub (s : State) (a : Nat) (e : Ecc) : State :=
  let q : Mem.Req := { unit := Mem.unitOf a }
  match Mem.locate a with
  | .spad _ _ | .pantry _ _ | .flags _ _ =>
    if e == .uncorrectable || SMap.val false s.mem.badWord (a / 8) then Mem.badSram s (8 * (a / 8)) q
    else if e == .corrected then Mem.countCorrected s a true q
    else s
  | _ => s

/-- ONDIE_CE_POLL: the stack's own corrections since the last poll. -/
def ondiePoll (s : State) (i count : Nat) : State :=
  addCorrected (modMem s (fun m => { m with ondie := SMap.ins m.ondie i (min 4294967295 (SMap.val 0 m.ondie i + count)) })) count

/-! ## The health score (R373 to R375, R379) -/

/-- Fraction bits of the score's arithmetic. -/
def one : Nat := 2 ^ 128

/-- The natural logarithm of 2, in units of 2^-128. -/
def ln2 : Nat := 235865763225513294137944142764154484399

/-- e^-t, in units of 2^-128: the Taylor series with n terms left, from the k-th. -/
def expNeg (t : Nat) : Nat → Nat → Int → Int
  | 0, _, _ => 0
  | n + 1, k, term => term + expNeg t n (k + 1) (-(term * t) / ((one * (k + 1) : Nat) : Int))

/-- 2^-(age / 6 h) in units of 2^-128: exact at whole multiples of 6 hours, and otherwise within 2^-120. -/
def decay (age : Nat) : Nat :=
  let h := 21600000000000
  if age % h = 0 then one / 2 ^ (age / h) else (expNeg (age % h * ln2 / h) 48 0 one).toNat / 2 ^ (age / h)

/-- The sum of the standing weights: a cluster with a failed core, and a core reported unreplaceable. -/
def standing (s : State) : Nat :=
  100 * ((List.range 8).filter (fun n => (Swaps.role s n).failed != 0)).length + 400 * s.dex.unreplaceable.length

/-- The score. -/
def score (s : State) : Nat :=
  min 1000 ((s.dex.events.foldl (fun acc e => acc + e.2 * decay (s.dex.powered - e.1)) (standing s * one)) / one)

/-- Each full hour by which a working core's age exceeds 5 hours is an event of weight 20, once. -/
def overdue (s : State) : State :=
  (List.range 72).foldl (fun acc k =>
    let h := (Swaps.age acc k - 5 * Swaps.hour) / Swaps.hour
    let seen := SMap.val 0 acc.weevil.overdue k
    if Weevils.isFailed acc k || decide (h ≤ seen) then acc
    else
      let s1 := modWeevil acc (fun w => { w with overdue := SMap.ins w.overdue k h })
      (List.range (h - seen)).foldl (fun a _ => addEvent a 20) s1) s

/-- A band stays until the score falls 50 below its threshold (R374). -/
def inBand (sc th : Nat) (held : Bool) : Bool := decide (th ≤ sc) || (held && decide (th < sc + 50))

def band (h : HealthRegs) (old sc : Nat) : Nat :=
  if inBand sc h.expel (decide (3 ≤ old)) then 3
  else if inBand sc h.prob (decide (2 ≤ old)) then 2
  else if inBand sc h.warn (decide (1 ≤ old)) then 1
  else 0

/-- The recommendation (R375). -/
def recommend (h : HealthRegs) (b : Nat) : Nat := if b == 3 && decide (h.available < h.floor) then 2 else b

/-- The rings that are the host ring of a defined context (R466). -/
def hostRings (s : State) : List Nat := (s.ctxs.map (fun p => p.2.ring)).eraseDups

/-- HEALTH_SCORE_UPDATE: the score, its band and the recommendation; a change of band is posted and reported. -/
def update (s0 : State) : State :=
  if s0.dex.state == .off then s0
  else
    let s := if s0.dex.state == .ready then overdue s0 else s0
    let sc := score s
    let b := band s.health s.dex.band sc
    let r := recommend s.health b
    let s1 := modDex s (fun d => { d with score := sc, band := b, recommend := r, standing := min 1023 (standing s) })
    if b == s.dex.band then s1
    else
      let body := [(16, le 1 b), (17, le 1 r), (18, le 2 sc)]
      let s2 := (hostRings s1).foldl (fun acc q => postCq acc q false { kind := Status.kBand, body := body }) s1
      notify s2 2 (le 1 b ++ le 1 r ++ le 2 sc)

/-- NV_RECORD_FLUSH (R373). -/
def flush (s : State) : State := if s.dex.state == .off then s else modDex s (fun d => { d with nvEvents := d.events })

/-! ## Meanings -/

/-- SENSOR_SAMPLE (R369, R495). -/
def execSensorSample (x : SensorData) (s : State) : Host.Outcome State Fault Refusal := .next (sample s x)

/-- STACK_HOT_PERSIST (R369). -/
def execStackHotPersist (stack : Nat) (s : State) : Host.Outcome State Fault Refusal := .next (if stack < 4 then stackPersist s stack else s)

/-- RAIL_LOW_PERSIST (R369). -/
def execRailLowPersist (rail mv us : Nat) (s : State) : Host.Outcome State Fault Refusal := .next (railLow s rail mv us)

/-- DRAM_STACK_TEMP_SAMPLE (R220, R221). -/
def execDramStackTempSample (stack : Nat) (temp : Int) (tth : Nat) (s : State) : Host.Outcome State Fault Refusal :=
  .next (if stack < 4 then stackSample s stack temp tth else s)

/-- DRAM_PATROL_SCRUB (R219). -/
def execDramPatrolScrub (addr : Nat) (ecc : Ecc) (s : State) : Host.Outcome State Fault Refusal := .next (dramScrub s addr ecc)

/-- SRAM_PATROL_SCRUB (R224). -/
def execSramPatrolScrub (addr : Nat) (ecc : Ecc) (s : State) : Host.Outcome State Fault Refusal := .next (sramScrub s addr ecc)

/-- ONDIE_CE_POLL (R216). -/
def execOndieCePoll (stack count : Nat) (s : State) : Host.Outcome State Fault Refusal := .next (if stack < 4 then ondiePoll s stack count else s)

/-- HEALTH_SCORE_UPDATE (R373). -/
def execHealthScoreUpdate (s : State) : Host.Outcome State Fault Refusal := .next (update s)

/-- NV_RECORD_FLUSH (R373). -/
def execNvRecordFlush (s : State) : Host.Outcome State Fault Refusal := .next (flush s)

end Sys2Proof.Machine.Sensors
end

