-- ==== Sys2Proof/Machine/Governing.lean ====
section
/-! DEFINITION. The power governor (R498 to R501). -/

namespace Sys2Proof.Machine.Governors

open Bits Ops Report

/-- GOVERNOR_SAMPLE: input power in units of 0.1 W. -/
def sample (s : State) (w : Nat) : State :=
  if Sensors.powered s then modGov s (fun g => { g with sum := g.sum + w, samples := g.samples + 1 }) else s

/-- The level the power rule asks for after a period, with the count of low periods (R500). -/
def power (g : Governor) : Nat × Nat :=
  if g.limit * 10 * g.samples < g.sum then (min 7 (g.level + 1), 0)
  else if 0 < g.samples ∧ g.sum < (g.limit - 25) * 10 * g.samples then
    if 10 ≤ g.below + 1 ∧ 0 < g.level then (g.level - 1, 0) else (g.level, min 10 (g.below + 1))
  else (g.level, 0)

/-- GOVERNING_PERIOD_END (R499, R500): LEVEL moves, OVER counts a period at level 7 above the limit, and a new limit takes effect. -/
def periodEnd (s : State) : State :=
  if Sensors.powered s && decide (s.gov.periodAt + 100000 ≤ s.ns) then
    modGov s (fun g =>
      let p := power g
      let lvl := max g.level g.floor
      { g with level := p.1, below := p.2, input := g.sum / max 1 g.samples, sum := 0, samples := 0, periodAt := s.ns,
               overCount := if lvl == 7 && decide (g.limit * 10 * g.samples < g.sum) then min 65535 (g.overCount + 1) else g.overCount,
               throttled := if 0 < lvl then min 4294967295 (g.throttled + 1) else g.throttled,
               limit := g.newLimit.getD g.limit, newLimit := none })
  else s

/-- THERMAL_FLOOR_STEP (R500, R528): up by 1 every 1 ms while a die is at 100 °C or above, down by 1 every 10 ms while every die is at
97 °C or below. -/
def floorStep (s : State) : State :=
  let t := s.power.sample.tdie
  if !Sensors.powered s || t.isEmpty then s
  else if t.any (fun x => decide (800 ≤ x)) then
    if s.gov.floorAt + 1000000 ≤ s.ns then modGov s (fun g => { g with floor := min 7 (g.floor + 1), floorAt := s.ns }) else s
  else if t.all (fun x => decide (x ≤ 776)) && decide (s.gov.floorAt + 10000000 ≤ s.ns) then
    modGov s (fun g => { g with floor := g.floor - 1, floorAt := s.ns })
  else s

/-! ## Meanings -/

/-- GOVERNOR_SAMPLE (R498). -/
def execGovernorSample (watts10 : Nat) (s : State) : Host.Outcome State Fault Refusal := .next (sample s watts10)

/-- GOVERNING_PERIOD_END (R500). -/
def execGoverningPeriodEnd (s : State) : Host.Outcome State Fault Refusal := .next (periodEnd s)

/-- THERMAL_FLOOR_STEP (R500). -/
def execThermalFloorStep (s : State) : Host.Outcome State Fault Refusal := .next (floorStep s)

end Sys2Proof.Machine.Governors
end

