-- ==== Sys2Proof/Machine/Sched.lean ====
section
/-! DEFINITION. The scheduled-action table (R42 to R50, R537) and the actions its entries fire: START, ROUTE_SWAP, REKEY and DRILL at
an instant; DRILL, SNAPSHOT, CHECKPOINT, RECLAIM and STOP at a committed boundary. -/

namespace Sys2Proof.Machine.Sched

open Bits Ops Report

/-! ## Writing and cancelling (R43 to R46) -/

/-- ACTION, ALIGN and SCOPE are permitted together, and a ROUTE_SWAP window is in range (R44, R45). -/
def permitted (e : SchedEntry) : Bool :=
  match e.action with
  | 1 => e.align == 0 && e.scope == 1
  | 2 => e.align == 1 && e.scope == 1
  | 3 => e.align == 1 && e.scope == 1
  | 4 => e.align == 1 && e.scope == 1
  | 5 => e.align == 1 && e.scope == 1
  | 6 => e.align == 0 && e.scope == 0 && decide (40000 ≤ field e.param.toNat 31 0 ∧ field e.param.toNat 31 0 ≤ 200000)
  | 7 => e.align == 0 && e.scope == 0
  | 8 => decide (e.align < 2) && e.scope == e.align
  | _ => false

/-- The table slot that holds a pending ENTRY_ID. -/
def find (s : State) (id : Nat) : Option (Nat × SchedSlot) := List.find? (fun p => p.2.entry.id == id) s.sched

/-- The lowest free table slot. -/
def freeSlot (s : State) : Nat := ((List.range 256).find? (fun i => (SMap.look s.sched i).isNone)).getD 0

/-- A write (R46): its status, and the table with the entry added when it is ACCEPTED. The exchange of a REKEY starts (R322). -/
def write (s : State) (e : SchedEntry) (ring : Option Nat) : State × Nat :=
  if s.ftime.state != .locked then (s, Status.notLocked)
  else if e.bad || !permitted e || (find s e.id).isSome then (s, Status.badEntry)
  else if e.instant < now s + 100000 then (s, Status.late)
  else if 256 ≤ s.sched.length then (s, Status.full)
  else
    let s1 := { s with sched := SMap.ins s.sched (freeSlot s) { entry := e, ring := ring } }
    (if e.action == 7 then Link.rekeyAccepted s1 e else s1, Status.ok)

/-- A cancellation (R46). -/
def cancel (s : State) (id : Nat) : State × Nat :=
  if s.ftime.state == .free || s.ftime.state == .acquire then (s, Status.notLocked)
  else match find s id with
    | none => (s, Status.noEntry)
    | some p =>
      if now s + 50000 < p.2.entry.instant then ({ s with sched := SMap.del s.sched p.1 }, Status.cancelled) else (s, Status.tooLate)

/-! ## Firing (R48 to R50) -/

/-- Report a firing: on the ring the descriptor named, or to the subscriber of management (R49, R496, R497). -/
def report (s : State) (x : SchedSlot) (status time : Nat) : State :=
  let body : List (Nat × Bytes) := [(16, le 2 x.entry.id), (18, le 1 x.entry.action), (24, le 8 time)]
  match x.ring with
  | some r => postCq s r false { kind := Status.kFiring, status := status, ctx := if x.entry.scope == 1 then x.entry.ctx else 255, body := body }
  | none => notify s 5 (le 1 status ++ le 2 x.entry.id ++ le 1 x.entry.action ++ le 8 time)

/-- Fire an entry: it leaves the table, has its effect, and its status is reported with the time of firing. -/
def fire (s : State) (slot : Nat) (x : SchedSlot) (time : Nat) (effect : State → State × Nat) : State :=
  let r := effect { s with sched := SMap.del s.sched slot }
  report r.1 x r.2 time

/-- Rank of an action among those that fire together (R50). -/
def rank (action : Nat) : Nat :=
  match action with
  | 7 => 0
  | 6 => 1
  | 8 => 2
  | 1 => 3
  | 4 => 4
  | 3 => 5
  | 5 => 6
  | _ => 7

/-- Scheduled actions fire in LOCKED and HOLDOVER (R38, R39). -/
def fires (s : State) : Bool := s.ftime.state == .locked || s.ftime.state == .holdover

/-- The entry fires at an instant that has come (R48). -/
def reached (s : State) (x : SchedSlot) : Bool := x.entry.align == 0 && decide (x.entry.instant ≤ now s)

/-- Of two entries that are due, one goes before the other: it was due in an earlier cycle, or in the same cycle it comes first in the
order of R50, or in the lower slot. -/
def before (s : State) (a b : Nat × SchedSlot) : Bool :=
  let i := a.2.dueAt.getD s.ns
  let j := b.2.dueAt.getD s.ns
  decide (i < j) ||
  (i == j && (decide (rank a.2.entry.action < rank b.2.entry.action) ||
    (a.2.entry.action == b.2.entry.action && decide (a.1 < b.1))))

/-- The entry is due at its instant, no other due entry goes before it, and no arrival or timeout of the cycle is still to come (R48,
R50, R52). -/
def due (s : State) (p : Nat × SchedSlot) : Bool :=
  fires s && Order.turn 6 s && reached s p.2 && !s.sched.any (fun q => reached s q.2 && before s q p)

/-- At the end of a cycle: the entries that are due keep the cycle in which they first were (R48); while none fires, none is due. -/
def markDue (s : State) : State :=
  { s with sched := SMap.mapVals (fun _ (x : SchedSlot) =>
      if fires s && reached s x then { x with dueAt := some (x.dueAt.getD s.ns) } else { x with dueAt := none }) s.sched }

/-- Fire the due entry of an ENTRY_ID when it is of the kind asked for. -/
def fireId (s : State) (id : Nat) (kind : SchedEntry → Bool) (effect : SchedEntry → State → State × Nat) : State :=
  match find s id with
  | some p => if due s p && kind p.2.entry then fire s p.1 p.2 (now s) (effect p.2.entry) else s
  | none => s

/-! ## Actions at an instant -/

/-- START (R537): ACCEPTED, the first step opens, also that of a context aborted before it, whose streams stay stopped (R391). -/
def start (e : SchedEntry) (s : State) : State × Nat :=
  if field e.param.toNat 127 64 != 0 then (s, Status.badParam)
  else match ctx? s e.ctx with
    | none => (s, Status.noContext)
    | some x =>
      if !stepped x || x.step.setup.isNone then (s, Status.noSetup)
      else if x.step.everOpened then (s, Status.busy)
      else if x.unrestored then (s, Status.noRestore)
      else if !(requiredPorts s e.ctx).all (fun p => (port s p).state == 5) then (s, Status.noLink)
      else
        let s1 := modStep s e.ctx (fun t => { t with step := field e.param.toNat 63 0, first := true, failures := 0, fail := 0, failNext := 0 })
        (StepOps.opened s1 e.ctx, Status.ok)

/-- ROUTE_SWAP (R312). -/
def swap (e : SchedEntry) (s : State) : State × Nat := (Router.swapStart s e, Status.ok)

/-- REKEY (R322). -/
def rekey (e : SchedEntry) (s : State) : State × Nat :=
  ((setBits 27 e.param.toNat).foldl (fun acc p => Link.rekeyFire acc e.instant (field e.param.toNat 39 32) p) s, Status.ok)

/-! ## Drills (R370 to R372) -/

/-- Kind and target of a drill. -/
def drillKind (e : SchedEntry) : Nat := field e.param.toNat 7 0
def drillTarget (e : SchedEntry) : Nat := field e.param.toNat 31 16

/-- The kind is one of the six and its target is in range. -/
def drillOk (e : SchedEntry) : Bool :=
  match drillKind e with
  | 1 => decide (drillTarget e < 64)
  | 2 => decide (drillTarget e < 64)
  | 3 => decide (drillTarget e < 27)
  | 4 => true
  | 5 => decide (drillTarget e < 27)
  | 6 => decide (drillTarget e < 128)
  | _ => false

/-- FIRED of ERR_DRILL_CTL (R518). -/
def count (s : State) : State := modErr s (fun e => { e with fired := min 4294967295 (e.fired + 1) })

/-- The effect of each kind on a target. -/
def flipChecksum (q : Nat) (s : State) : State :=
  count { s with arrays := SMap.upd {} s.arrays q (fun (a : ArrayCore) => { a with flipArmed := true }) }

def flipBlock (q : Nat) (s : State) : State := count (modMem s (fun m => { m with flipCheck := SMap.ins m.flipCheck q true }))

/-- The port leaves UP with cause 12; what follows from it at this module carries DRILL (R371): its class 0x30, the timeouts of
operations whose packets it loses, and the ordering faults until it is UP again. -/
def loseLink (p : Nat) (s : State) : State :=
  if isUp s p then
    let marks := (2, p) :: (4, p) :: (Link.ownTags (port s p)).map (fun t => (0, t))
    let s1 := Link.down (modErr (count s) (fun e => { e with drilled := marks ++ e.drilled })) p 12
    modErr s1 (fun e => { e with drilled := e.drilled.filter (· != (2, p)) })
  else s

def resetModule (s : State) : State := raise (count s) { cls := 0x23, unit := unitCode 13 0, aux := 7 } 4 true

def dropPacket (p : Nat) (s : State) : State := count (modPort s p (fun x => { x with dropArmed := true }))

def correctRead (i : Nat) (s : State) : State :=
  count (modMem s (fun m => { m with channels := SMap.upd {} m.channels i (fun (c : Channel) => { c with drill := true }) }))

/-- A drill fires with its effect, DISABLED or BAD_KIND. -/
def drill (e : SchedEntry) (s : State) : State × Nat :=
  if !s.err.drillEnable then (s, Status.disabled)
  else if !drillOk e then (s, Status.badKind)
  else
    let t := drillTarget e
    (match drillKind e with
      | 1 => flipChecksum t s
      | 2 => flipBlock t s
      | 3 => loseLink t s
      | 4 => resetModule s
      | 5 => dropPacket t s
      | _ => correctRead t s, Status.ok)

/-- A DRILL entry of a kind; a reserved kind belongs to none of them and fires under any. -/
def isDrill (k : Nat) (e : SchedEntry) : Bool :=
  e.action == 8 && (drillKind e == k || drillKind e == 0 || decide (6 < drillKind e))

/-! ## Actions at a boundary (R48, R50) -/

/-- The effect of an entry that binds to the commit of a step; `taken` as in fireReclaim. -/
def boundaryEffect (c k : Nat) (e : SchedEntry) (taken : Bool) (s : State) : State × Nat :=
  match e.action with
  | 2 => (Ckpts.endContext s c, Status.ok)
  | 3 => Ckpts.fireCheckpoint s c k e.param.toNat
  | 4 => Ckpts.fireSnapshot s c k e.param.toNat
  | 5 => Ckpts.fireReclaim s c e.param.toNat taken
  | _ => drill e s

/-- The entries that bind to a commit with vote instant Tv, in order. -/
def bound (s : State) (c tv : Nat) : List (Nat × SchedSlot) :=
  let l : List (Nat × SchedSlot) := s.sched.filter (fun p => p.2.entry.align == 1 && p.2.entry.ctx == c && decide (p.2.entry.instant ≤ tv))
  sortBy (fun a b => decide (rank a.2.entry.action < rank b.2.entry.action ∨ (a.2.entry.action = b.2.entry.action ∧ a.1 < b.1))) l

/-- Fire them. -/
def fireBoundary (s : State) (c k tv : Nat) : State :=
  if fires s then
    ((bound s c tv).foldl (fun (acc : State × Bool) p =>
      let r := boundaryEffect c k p.2.entry acc.2 { acc.1 with sched := SMap.del acc.1.sched p.1 }
      (report r.1 p.2 r.2 tv, acc.2 || (p.2.entry.action == 3 && r.2 == Status.ok))) (s, false)).1
  else s

/-- ENTRY_EXPIRED (R49): 60 s past its INSTANT an entry with ALIGN 1 is removed. -/
def expire (s : State) (id : Nat) : State :=
  match find s id with
  | some p =>
    if fires s && Order.turn 5 s && p.2.entry.align == 1 && decide (p.2.entry.instant + 60000000000 ≤ now s) then
      fire s p.1 p.2 (now s) (fun t => (t, Status.expired))
    else s
  | none => s

/-! ## Meanings -/

/-- SCHED_WRITE (R46, R469). -/
def execSchedWrite (d : DescHead) (fireRing : Nat) (e : SchedEntry) (s : State) : Host.Outcome State Fault Refusal :=
  .next (Desc.atOnce s d 0x05 false (fun t =>
    if Desc.badCode d || d.ctx != 255 || e.bad || decide (128 ≤ fireRing) then (t, Status.badDesc, [])
    else let r := write t e (some fireRing); (r.1, r.2, [])))

/-- SCHED_CANCEL (R46, R469). -/
def execSchedCancel (d : DescHead) (id : Nat) (s : State) : Host.Outcome State Fault Refusal :=
  .next (Desc.atOnce s d 0x06 false (fun t =>
    if Desc.badCode d || d.ctx != 255 then (t, Status.badDesc, []) else let r := cancel t id; (r.1, r.2, [])))

/-- START (R537). -/
def execStartEntry (id : Nat) (s : State) : Host.Outcome State Fault Refusal := .next (fireId s id (fun e => e.action == 1) start)

/-- ROUTE_SWAP (R312). -/
def execRouteSwap (id : Nat) (s : State) : Host.Outcome State Fault Refusal := .next (fireId s id (fun e => e.action == 6) swap)

/-- REKEY (R322). -/
def execRekey (id : Nat) (s : State) : Host.Outcome State Fault Refusal := .next (fireId s id (fun e => e.action == 7) rekey)

/-- CHECKSUM_FLIP (R370). -/
def execChecksumFlip (id : Nat) (s : State) : Host.Outcome State Fault Refusal := .next (fireId s id (isDrill 1) drill)

/-- CHECK_FLIP (R370). -/
def execCheckFlip (id : Nat) (s : State) : Host.Outcome State Fault Refusal := .next (fireId s id (isDrill 2) drill)

/-- LINK_LOSS (R370). -/
def execLinkLoss (id : Nat) (s : State) : Host.Outcome State Fault Refusal := .next (fireId s id (isDrill 3) drill)

/-- MODULE_RESET (R370). -/
def execModuleReset (id : Nat) (s : State) : Host.Outcome State Fault Refusal := .next (fireId s id (isDrill 4) drill)

/-- PACKET_DROP (R370). -/
def execPacketDrop (id : Nat) (s : State) : Host.Outcome State Fault Refusal := .next (fireId s id (isDrill 5) drill)

/-- DRAM_CE (R370). -/
def execDramCe (id : Nat) (s : State) : Host.Outcome State Fault Refusal := .next (fireId s id (isDrill 6) drill)

/-- ENTRY_EXPIRED (R49). -/
def execEntryExpired (id : Nat) (s : State) : Host.Outcome State Fault Refusal := .next (expire s id)

end Sys2Proof.Machine.Sched
end

