-- ==== Sys2Proof/Machine/Vote.lean ====
section
/-! DEFINITION. The step vote (R326 to R343, R348, R451, R538): the step boundary, the verdict word, its combination up the tree, the
root's decision and the application of the result. -/

namespace Sys2Proof.Machine.Vote

open Bits Ops Report

/-! ## Messages (R332) -/

/-- The flit of a VOTE_UP. -/
def upFlit (v : VoteUpMsg) : Bytes :=
  layout 64 [(0, [0x41]), (1, le 1 v.ctx), (4, le 4 v.count), (8, le 8 v.stepMin), (16, le 8 v.stepMax), (24, le 4 v.fail.toNat),
    (28, le 4 v.nonfinite), (32, le 4 v.saturated), (40, le 8 v.digMin), (48, le 8 v.digMax), (56, le 8 v.loss.toNat)]

/-- The flit of a VOTE_DOWN. -/
def downFlit (v : VoteDownMsg) : Bytes :=
  layout 64 [(0, [0x42]), (1, le 1 v.ctx), (2, le 1 v.result), (3, le 1 v.replays), (4, le 4 v.count), (8, le 8 v.step), (16, le 8 v.tv),
    (24, le 4 v.fail.toNat), (28, le 4 v.nonfinite), (32, le 4 v.saturated), (40, le 8 v.digMin), (48, le 8 v.digMax), (56, le 8 v.loss.toNat)]

/-- The combination of two verdicts (R334). -/
def combine (a b : VoteUpMsg) : VoteUpMsg :=
  { ctx := a.ctx, count := (a.count + b.count) % 4294967296, stepMin := min a.stepMin b.stepMin, stepMax := max a.stepMax b.stepMax,
    fail := a.fail ||| b.fail, nonfinite := min 4294967295 (a.nonfinite + b.nonfinite), saturated := min 4294967295 (a.saturated + b.saturated),
    digMin := min a.digMin b.digMin, digMax := max a.digMax b.digMax, loss := a.loss + b.loss }

/-- The children of a context, as ports. -/
def children (u : StepSetupBody) : List Nat := setBits 27 u.children

/-- Send a control flit on those of the ports that are UP. -/
def sendTree (s : State) (ps : List Nat) (b : Bytes) : State := sendControls s (ps.filter (isUp s)) b

/-- The step report (R340, R473). -/
def report (s : State) (v : VoteDownMsg) : State :=
  postCtx s v.ctx { kind := Status.kStep, body :=
    [(16, le 1 v.result), (17, le 1 v.replays), (24, le 8 v.step), (32, le 8 v.tv), (40, le 4 v.fail.toNat), (44, le 4 v.nonfinite),
     (48, le 4 v.saturated), (56, le 8 v.digMin), (64, le 8 v.digMax), (72, le 8 v.loss.toNat)] }

/-! ## Applying the result (R339, R342) -/

/-- Step 8: the next attempt after a commit, the replay after its hold, nothing after a stop. -/
def next (s : State) (c r tv : Nat) : State :=
  if r == 1 then
    StepOps.openAttempt (modStep s c (fun t =>
      { StepOps.clearAttempt t false with step := (t.step + 1) % 18446744073709551616, first := false, failures := 0 })) c
  else if r == 2 then
    modStep (StepOps.staleRules s c tv) c (fun t =>
      { StepOps.clearAttempt t true with holdUntil := some (tv + 1000 * (match t.setup with | some u => u.replayHold | none => 0)) })
  else modStep s c (fun t => StepOps.clearAttempt t false)

/-- A result is applied, as one sequence. -/
def apply (s : State) (v : VoteDownMsg) : State :=
  let s1 := StepOps.decided (report s v) v.ctx v.result v.step v.tv
  let s2 := if v.result == 1 then Sched.fireBoundary s1 v.ctx v.step v.tv else s1
  next (Swaps.atBoundary s2) v.ctx v.result v.tv

/-! ## Contributing (R331, R334, R335) -/

/-- This module's own verdict word. -/
def own (c : Nat) (t : StepState) : VoteUpMsg :=
  { ctx := c, count := 1, stepMin := t.step, stepMax := t.step, fail := t.fail, nonfinite := t.nonfinite, saturated := t.saturated,
    digMin := t.digest.toNat, digMax := t.digest.toNat, loss := t.loss }

/-- The combination with those of the children. -/
def combined (c : Nat) (t : StepState) : VoteUpMsg := t.votes.foldl (fun acc p => combine acc p.2) (own c t)

/-- The row of R335 that decides a vote: RESULT and the count of failed votes; `mismatch` is the second row. -/
def mismatch (u : StepSetupBody) (v : VoteUpMsg) : Bool := v.stepMin != v.stepMax || v.count != u.modules

def decide' (u : StepSetupBody) (failures : Nat) (v : VoteUpMsg) : Nat × Nat :=
  if v.fail.getLsbD 16 then (3, failures)
  else if mismatch u v then (3, failures)
  else if v.fail.extractLsb' 0 11 != 0 || v.digMin != v.digMax then (if u.replayLimit < failures + 1 then 3 else 2, failures + 1)
  else if u.censusStop && v.nonfinite != 0 then (3, failures)
  else (1, failures)

/-- The root decides: class 0x32 for a step or count mismatch, VOTE_DOWN to its children, and the result applied here. -/
def decide (s : State) (c : Nat) (u : StepSetupBody) (t : StepState) (v : VoteUpMsg) : State :=
  let d := decide' u t.failures v
  let s1 := modStep s c (fun y => { y with contributed := true, failures := d.2 })
  let s2 := if !v.fail.getLsbD 16 && mismatch u v then raise s1 { cls := 0x32, unit := unitCode 13 0, ctx := c, aux := 16 } 1 else s1
  let m : VoteDownMsg := { ctx := c, result := d.1, replays := d.2, count := v.count, step := v.stepMax, tv := now s, fail := v.fail,
                           nonfinite := v.nonfinite, saturated := v.saturated, digMin := v.digMin, digMax := v.digMax, loss := v.loss }
  apply (sendTree s2 (children u) (downFlit m)) m

/-- The confirmation record at CONF_ADDR (R347): its STEP and STATUS. -/
def confirmation (s : State) (u : StepSetupBody) : Nat × Nat := (Mem.word s u.confAddr 8, Mem.word s (u.confAddr + 16) 1)

/-- The wait for the confirmation record ends when one of step k - 1 or later is there (R331, R348). -/
def checkConfirm (s : State) (c : Nat) (u : StepSetupBody) (t : StepState) : State :=
  let r := confirmation s u
  if t.step ≤ r.1 + 1 then
    let s1 := modStep s c (fun y => { y with confirmDone := true })
    if r.2 == 1 then s1 else if r.2 == 3 then setFail s1 c 24 else setFail s1 c 9
  else if u.confirmWait == 0 then setFail (modStep s c (fun y => { y with confirmDone := true })) c 24
  else s

/-- Go on with the order of R331: wait for the record, then for every child, then contribute. A fenced module goes no further (R386). -/
def progress (s0 : State) (c : Nat) : State :=
  match ctx? s0 c with
  | none => s0
  | some x0 =>
    match x0.step.setup with
    | none => s0
    | some u =>
      if x0.step.boundary.isNone || !x0.step.digestDone || x0.step.contributed || x0.step.aborted || fenced s0 then s0
      else
        let s := if x0.step.confirmDone then s0
          else checkConfirm (modStep s0 c (fun t => { t with confirmFrom := t.confirmFrom.orElse (fun _ => some (now s0)) })) c u x0.step
        match ctx? s c with
        | none => s
        | some x =>
          let t := x.step
          if !t.confirmDone || !(children u).all (fun p => (SMap.look t.votes p).isSome) then s
          else
            let v := combined c t
            if u.root then decide s c u t v
            else sendTree (modStep s c (fun y => { y with contributed := true })) [u.parent] (upFlit v)

/-! ## The boundary (R171, R331) -/

/-- Every stream of the context waits at STEPEND or has ended; a core that has still to apply an earlier result on its re-entry has
not run its part of the step (R178). -/
def atEnd (x : Ctx) : Bool :=
  (coresOf x).all (fun q => (onCore x q).held.isEmpty &&
    (onCore x q).streams.all (fun t => !t.2.present || t.2.run == .atStepEnd || t.2.run == .ended))

/-- The context is FAULTED by its program on some core, one outside CORES among them (R255, R331). -/
def faulted (x : Ctx) : Bool := x.cores.any (fun k => k.2.programFault)

/-- The context has reached its step boundary. -/
def reached (s : State) (c : Nat) (x : Ctx) : Bool :=
  stepped x && x.step.isOpen && !x.step.aborted && x.step.boundary.isNone && (if faulted x then AbortOps.quiet s c x else atEnd x)

/-- STEP_BOUNDARY: steps 1 to 4 of R331. -/
def boundary (s : State) (c : Nat) : State :=
  match ctx? s c with
  | none => s
  | some x =>
    match x.step.setup with
    | none => s
    | some u =>
      if fenced s || !reached s c x then s
      else
        let r := Mem.load s u.lossAddr 8 false { unit := unitCode 13 0, ctx := c }
        let sums := Operand.censusSum r.1 c
        let waits := !x.step.first && u.buddy != 65535
        modStep r.1 c (fun t => { t with boundary := some (now s), loss := BitVec.ofNat 64 (ofLe r.2.data), nonfinite := sums.1, saturated := sums.2,
                                         digest := Digest.truncated s c x, confirmDone := !waits })

/-- CONFIG_DIGEST_RETURN (R451). -/
def digestReturn (s : State) (c : Nat) : State :=
  match ctx? s c with
  | none => s
  | some x =>
    match x.step.boundary with
    | some b =>
      if !x.step.digestDone && !x.step.aborted && Nat.ble (now s) (b + 50000) then progress (modStep s c (fun t => { t with digestDone := true })) c else s
    | none => s

/-- DIGEST_TIMEOUT (R451): 50 µs after the boundary. -/
def digestTimeout (s : State) (c : Nat) : State :=
  match ctx? s c with
  | none => s
  | some x =>
    match x.step.boundary with
    | none => s
    | some b =>
      if !x.step.digestDone && !x.step.aborted && b + 50000 ≤ now s && Order.turn 5 s then
        progress (setFail (modStep (drawn s) c (fun t => { t with digestDone := true, digest := Config.lateDigest s.free })) c 8) c
      else s

/-- CONFIRM_WAIT_EXPIRY (R348). A record that is there in the same cycle ends the wait as an arrival (R52). -/
def confirmExpiry (s0 : State) (c : Nat) : State :=
  let s := progress s0 c
  match ctx? s c with
  | none => s
  | some x =>
    match x.step.setup, x.step.confirmFrom with
    | some u, some f =>
      if !x.step.confirmDone && !x.step.aborted && f + 1000 * u.confirmWait ≤ now s && Order.turn 5 s then
        progress (setFail (modStep s c (fun t => { t with confirmDone := true })) c 24) c
      else s
    | _, _ => s

/-! ## Messages of the vote (R334, R336, R538, R386) -/

/-- VOTE_UP. -/
def voteUp (s : State) (p : Nat) (v : VoteUpMsg) : State :=
  match ctx? s v.ctx with
  | none => s
  | some x =>
    match x.step.setup with
    | none => s
    | some u =>
      if isUp s p && !fenced s && (children u).contains p && stepped x && !x.step.aborted && !x.step.contributed &&
         (SMap.look x.step.votes p).isNone then
        progress (modStep s v.ctx (fun t => { t with votes := SMap.ins t.votes p v })) v.ctx
      else s

/-- VOTE_DOWN: forwarded, then applied. -/
def voteDown (s : State) (p : Nat) (v : VoteDownMsg) : State :=
  match ctx? s v.ctx with
  | none => s
  | some x =>
    match x.step.setup with
    | none => s
    | some u =>
      if isUp s p && !fenced s && p == u.parent && !u.root && stepped x && !x.step.aborted && x.step.contributed &&
         (v.result == 1 || v.result == 2 || v.result == 3) && v.step == x.step.step then
        apply (sendTree s (children u) (downFlit v)) v
      else s

/-- REPLAY_HOLD_END (R342). -/
def holdEnd (s : State) (c : Nat) : State :=
  match ctx? s c with
  | none => s
  | some x =>
    match x.step.holdUntil with
    | some t => if t ≤ now s then StepOps.openAttempt s c else s
    | none => s

/-- STEP_DEADLINE (R338). -/
def deadline (s : State) (c : Nat) : State :=
  match ctx? s c with
  | none => s
  | some x =>
    match x.step.setup with
    | none => s
    | some u =>
      if u.stepDeadline != 0 && x.step.isOpen && !x.step.aborted && Nat.ble (x.step.openedAt + 1000000 * u.stepDeadline) (now s) && Order.turn 5 s then
        AbortOps.broadcastOwn (raise s { cls := 0x23, unit := unitCode 13 0, ctx := c, aux := 4 } 7 (drilledNow s)) c 4
      else s

/-- What an idle nanosecond does: clocks run, and a context that waits for its confirmation record looks for it. -/
def tick (s : State) : State :=
  ((s.ctxs.filter (fun p => p.2.step.confirmFrom.isSome)).map (·.1)).foldl progress (Clock.tick s)

/-! ## Meanings -/

/-- STEP_BOUNDARY (R331). -/
def execStepBoundary (ctx : Nat) (s : State) : Host.Outcome State Fault Refusal := .next (boundary s ctx)

/-- CONFIRM_WAIT_EXPIRY (R348). -/
def execConfirmWaitExpiry (ctx : Nat) (s : State) : Host.Outcome State Fault Refusal := .next (confirmExpiry s ctx)

/-- DIGEST_TIMEOUT (R451). -/
def execDigestTimeout (ctx : Nat) (s : State) : Host.Outcome State Fault Refusal := .next (digestTimeout s ctx)

/-- CONFIG_DIGEST_RETURN (R451). -/
def execConfigDigestReturn (ctx : Nat) (s : State) : Host.Outcome State Fault Refusal := .next (digestReturn s ctx)

/-- VOTE_UP (R334, R538). -/
def execVoteUp (p : Nat) (v : VoteUpMsg) (s : State) : Host.Outcome State Fault Refusal := .next (voteUp s p v)

/-- VOTE_DOWN (R336, R339, R538). -/
def execVoteDown (p : Nat) (v : VoteDownMsg) (s : State) : Host.Outcome State Fault Refusal := .next (voteDown s p v)

/-- REPLAY_HOLD_END (R342). -/
def execReplayHoldEnd (ctx : Nat) (s : State) : Host.Outcome State Fault Refusal := .next (holdEnd s ctx)

/-- STEP_DEADLINE (R338). -/
def execStepDeadline (ctx : Nat) (s : State) : Host.Outcome State Fault Refusal := .next (deadline s ctx)

end Sys2Proof.Machine.Vote
end

