-- ==== Sys2Proof/Machine/HostDesc.lean ====
section
/-! DEFINITION. The host's descriptors for contexts, steps, copies and work (R156, R178, R327, R393, R469 to R471, R480). -/

namespace Sys2Proof.Machine.HostDesc

open Bits Ops Report

/-! ## CTX_DEFINE (R156, R157, R172, R175, R361, R376) -/

/-- A definition breaks the table of R156. -/
def badDefine (x : CtxFields) : Bool :=
  decide (1 < x.kind ∨ 1 < x.stepped ∨ 1 < x.pinned ∨ x.accCount < 1 ∨ 1024 < x.accBase + x.accCount ∨ 0x600000 ≤ x.descBase) || x.cores == 0 ||
  !Mem.inDram x.entryTable 2048 || !Mem.inDram x.saveBase (64 * (4096 + 512 * x.accCount))

/-- A redundant definition uses an odd core, or an even core whose partner another context uses (R361). -/
def badPairs (s : State) (x : CtxFields) : Bool :=
  (setBits 64 x.cores.toNat).any (fun q => q % 2 == 1 || s.ctxs.any (fun p => usesCore p.2 (q + 1)))

/-- Fewer than three other contexts are pinned on each of its cores (R175). -/
def mayPin (s : State) (x : CtxFields) : Bool :=
  (setBits 64 x.cores.toNat).all (fun q => decide ((s.ctxs.filter (fun p => p.2.pinned && usesCore p.2 q)).length < 3))

/-- The streams of a core: those with a nonzero entry; a serving context has no B or U stream (R156, R157). -/
def streamsOf (table : Bytes) (kind q : Nat) : SMap StreamState :=
  (List.range 4).map (fun t =>
    (t, { present := at' table (8 * (4 * q + t)) 8 != 0 && (kind == 0 || t == 0 || t == 3) }))

/-- The context as its definition leaves it, before it takes any slot. -/
def fresh (s : State) (d : DescHead) (x : CtxFields) (table : Bytes) (pin red : Bool) : Ctx :=
  let core : Nat → CoreCtx := fun q => { waitingSince := now s, streams := streamsOf table x.kind q }
  { fields := x, pinned := pin, ring := d.ring, order := s.defined, redundant := red,
    cores := (setBits 64 x.cores.toNat).map (fun q => (q, core q)) }

/-- A new context, defined after every earlier one; modules stop answering FENCED for a reclaimed one (R428). -/
def enter (s : State) (c : Nat) (y : Ctx) : State :=
  modRemote { s with ctxs := SMap.ins s.ctxs c y, defined := s.defined + 1, gone := s.gone.filter (· != c) } (fun m => { m with reclaimed := [] })

/-- The context is created, and enters free slots (R172). -/
def create (s : State) (d : DescHead) (x : CtxFields) (red : Bool) : State × Nat × List (Nat × Bytes) :=
  let pin := x.pinned == 1 && mayPin s x
  let r := Mem.load s x.entryTable 2048 false { unit := unitCode 11 0, ctx := d.ctx }
  let y := fresh r.1 d x r.2.data pin red
  ((coresOf y).foldl Slots.fill (enter r.1 d.ctx y), Status.ok, [(16, le 1 (if x.pinned == 1 && !pin then 1 else 0))])

/-- A definition of the same identifier on a lower ring waits in the same cycle: it is served first (R480). -/
def lowerFirst (s : State) (d : DescHead) : Bool :=
  s.pending.any (fun c => match c with
    | .ctxDefine e _ => e.ctx == d.ctx && decide (e.ring < d.ring) && Desc.starts s e false
    | _ => false)

/-- CTX_DEFINE. On probation a context that is not redundant is refused (R376). -/
def define (s : State) (d : DescHead) (x : CtxFields) : State × Nat × List (Nat × Bytes) :=
  let red := s.err.redMask.getLsbD d.ctx
  if Desc.badHead d || badDefine x then (s, Status.badDesc, [])
  else if (ctx? s d.ctx).isSome then (s, Status.refused, [])
  else if (red && badPairs s x) || (!red && s.health.probation) then (s, Status.refused, [])
  else create s d x red

/-! ## CTX_DELETE (R178, R393, R480) -/

/-- The deletion may finish: the context's operations have completed, and no switch of it is in progress. -/
def gone (s : State) (c : Nat) (x : Ctx) : Bool :=
  AbortOps.quiet s c x && (SMap.val [] s.ckpt.loads c).isEmpty &&
  x.cores.all (fun k => k.2.state != .leaving && k.2.state != .entering)

/-- The deletion finishes: the context and its job key are gone, its slots are free, and its descriptor completes. One that was faulted or
aborted, also during its deletion, still counts as such at the Churns until it is defined again (R204). -/
def finishDelete (s : State) (c : Nat) : State :=
  match ctx? s c with
  | none => s
  | some x => match x.deleting with
    | none => s
    | some d =>
      if gone s c x then
        let s1 := { s with ctxs := SMap.del s.ctxs c, gone := if x.step.dead then c :: s.gone else s.gone }
        endDesc ((coresOf x).foldl Slots.fill s1) d.ring d.t Status.ok []
      else s

/-- The streams of the context stop, and its waiting descriptors complete ABORTED; a PENDING context is UNDECIDED (R393). -/
def beginDelete (s : State) (d : DescHead) (x : Ctx) : State :=
  let s1 := modCtx s d.ctx (fun y => { y with deleting := some d, cores := SMap.mapVals (fun _ k => stopStreams k) y.cores })
  let s2 := abortProg (StepOps.dropEgress s1 d.ctx) d.ctx waiting
  let s3 := if x.step.pending then modStep (AbortOps.finish s2 d.ctx) d.ctx (fun t => { t with pending := false }) else s2
  finishDelete s3 d.ctx

/-- CTX_DELETE: the status that ends it, or none while it runs. -/
def delete (s : State) (d : DescHead) : State × Option Nat :=
  if Desc.badHead d then (s, some Status.badDesc)
  else match ctx? s d.ctx with
    | none => (s, some Status.noContext)
    | some x => if x.deleting.isSome then (s, some Status.refused) else (beginDelete s d x, none)

/-! ## STEP_SETUP (R327) -/

/-- The body breaks the table of R327. -/
def badSetup (d : DescHead) (x : StepSetupBody) : Bool :=
  x.bad || x.ctx != d.ctx ||
  decide (x.replayLimit < 1 ∨ 15 < x.replayLimit ∨ (26 < x.parent ∧ x.parent ≠ 31) ∨ 2 ^ 27 ≤ x.children ∨ x.modules < 1 ∨ 9216 < x.modules ∨
          x.replayHold < 20 ∨ 10000 < x.replayHold ∨ 10000000 < x.confirmWait ∨ 3600000 < x.stepDeadline ∨ x.confAddr % 64 ≠ 0 ∨
          x.lossAddr % 8 ≠ 0) ||
  (x.root != (x.parent == 31)) || !Mem.inStore x.confAddr 32 || !Mem.inStore x.lossAddr 8

/-- STEP_SETUP: the state and the status. -/
def stepSetup (s : State) (d : DescHead) (x : StepSetupBody) : State × Nat × List (Nat × Bytes) :=
  if Desc.badHead d then (s, Status.badDesc, [])
  else if (Desc.bodyStatus d).isSome then (s, (Desc.bodyStatus d).getD 0, [])
  else if badSetup d x then (s, Status.badDesc, [])
  else match ctx? s d.ctx with
    | none => (s, Status.noContext, [])
    | some c =>
      if !stepped c then (s, Status.refused, [])
      else if c.step.isOpen || c.step.holdUntil.isSome then (s, Status.busy, [])
      else (modStep s d.ctx (fun t => { t with setup := some x }), Status.ok, [])

/-! ## STEP_RESOLVE (R393) -/

/-- A commit of the context's streams that its abort has stopped: step-open addresses and counter copies move on (R171). -/
def commitStopped (k : CoreCtx) : CoreCtx :=
  let k1 := mapStreams k (fun t => { t with stepOpen := t.pc, endedNow := false })
  { k1 with copies := k1.counters }

/-- COMMIT: steps 1 to 5 of R339, then R391 from step 4. -/
def resolveCommit (s : State) (c : Nat) (x : ResolveBody) : State :=
  let s1 := modCtx s c (fun y => { y with cores := SMap.mapVals (fun _ k => commitStopped k) y.cores })
  AbortOps.finish (StepOps.decided s1 c 1 x.step x.tv) c

/-- UNDECIDED: the kept egress is discarded, then R391 from step 4. -/
def resolveUndecided (s : State) (c : Nat) : State := AbortOps.finish (StepOps.dropEgress s c) c

/-- STEP_RESOLVE: the state and the status. -/
def stepResolve (s : State) (d : DescHead) (x : ResolveBody) : State × Nat × List (Nat × Bytes) :=
  if Desc.badHead d then (s, Status.badDesc, [])
  else if (Desc.bodyStatus d).isSome then (s, (Desc.bodyStatus d).getD 0, [])
  else if x.bad || x.ctx != d.ctx || !(x.result == 1 || x.result == 2) then (s, Status.badDesc, [])
  else match ctx? s d.ctx with
    | none => (s, Status.noContext, [])
    | some c =>
      if x.step != c.step.step then (s, Status.badDesc, [])
      else if !c.step.pending then (s, Status.refused, [])
      else
        let s1 := if x.result == 1 then resolveCommit s d.ctx x else resolveUndecided s d.ctx
        (modStep s1 d.ctx (fun t => { t with pending := false }), Status.ok, [])

/-! ## COPY_IN and COPY_OUT (R343, R470, R478) -/

/-- The Hive queue whose push area a local address is, as pool and queue (R241). -/
def pushArea (a : Nat) : Option (Nat × Nat) :=
  match Mem.locate a with
  | .hive n o => if o < 0x800000 ∧ o % 0x1000 < 0x800 then some (n, o / 0x1000) else none
  | _ => none

/-- A COPY_IN to a queue may run: its address is the push area of a queue that is not sequenced, and its length whole cells. -/
def queueOk (s : State) (x : CopyFields) : Bool :=
  match pushArea x.localAddr with
  | some (n, q) => x.length % 64 == 0 && !HiveOps.sequenced (HiveOps.queue (HiveOps.hive s n) q)
  | none => false

/-- The length of a copy is out of range. -/
def badLength (x : CopyFields) : Bool := decide (x.length < 1 ∨ 4294967296 < x.length)

/-- COPY_IN: the status that ends it, or none while it moves. -/
def copyIn (s : State) (d : DescHead) (x : CopyFields) : State × Option Nat :=
  if Desc.badCode d || d.ctx != 255 || badLength x || (x.queue && !queueOk s x) then (s, some Status.badDesc) else (s, none)

/-- COPY_OUT: the status that ends it, or none while it waits for its trigger or moves. -/
def copyOut (s : State) (d : DescHead) (x : CopyFields) : State × Option Nat :=
  if Desc.badCode d || x.queue || badLength x || decide (64 ≤ x.trigCore ∨ 8192 ≤ x.trigFlag ∨ 255 < d.ctx) then (s, some Status.badDesc)
  else
    let go := if x.trigEn then s else modProg s d.ring d.t (fun i => { i with sending := true })
    if d.ctx == 255 then (go, none)
    else match ctx? s d.ctx with
      | none => (s, some Status.noContext)
      | some c =>
        if stepped c && !x.trigEn then (s, some Status.badDesc)
        else if dead s d.ctx then (s, some Status.aborted)
        else (go, none)

/-- COPY_OUT_TRIGGER: the trigger flag of a waiting COPY_OUT is set. It is consumed, and the transfer is sent, or waits in the egress
queue of the attempt when its context is stepped; with that queue full, nothing is consumed. -/
def trigger (s : State) (r t : Nat) : State :=
  match inProg? s r t with
  | none => s
  | some i =>
    let x := i.copy
    if fenced s || i.op != 0x0B || !waiting i || !FlagOps.value s x.trigCore x.trigFlag then s
    else
      let clear := fun (w : State) => FlagOps.arrive w x.trigCore x.trigFlag 2 (FlagWindow.hostParty w)
      match ctx? s i.head.ctx with
      | some c =>
        if stepped c then
          if 1024 ≤ s.ckpt.egress.length then s
          else
            let s1 := modProg (clear s) r t (fun j => { j with triggered := some c.step.step })
            modCkpt s1 (fun k => { k with egress := k.egress ++ [{ ctx := i.head.ctx, step := c.step.step, ring := r, t := t }] })
        else modProg (clear s) r t (fun j => { j with sending := true })
      | none => modProg (clear s) r t (fun j => { j with sending := true })

/-- Append pieces of at most 512 bytes to a queue, until one is refused: the bytes appended and the status. -/
def pushAll : List Bytes → State → Nat → Nat → Nat → State × Nat × Nat
  | [], s, _, _, done => (s, done, Status.ok)
  | b :: rest, s, n, q, done =>
    let r := HiveOps.push s n q 0 b (crc b)
    if r.2 == 0 then pushAll rest r.1 n q (done + b.length) else (r.1, done, r.2)

/-- Write what a COPY_IN has read: the state and the status. -/
def place (s : State) (a : Nat) (data : Bytes) : State × Nat :=
  let r := Bus.write s a data (Bus.hostAccess s data)
  (r.1, if r.2 == 0 then Status.ok else Status.refused)

/-- Mark the accesses of DRAM that came poisoned (R478). -/
def poisonAt (s : State) (a n : Nat) (offsets : List Nat) : State :=
  offsets.foldl (fun acc o => if o < n && Mem.inDram a n then Mem.poisonAll acc (a + o) 1 else acc) s

/-- The end of a COPY_IN. -/
def copyInEnd (s : State) (r t : Nat) (x : CopyFields) (res : CopyResult) : State :=
  let appended := fun (n : Nat) => if x.queue then [(16, le 8 n)] else []
  match res, pushArea x.localAddr with
  | .written, _ => s
  | .read data, some (n, q) =>
    if data.length != x.length then s
    else if x.queue then let p := pushAll (pieces 512 data) s n q 0; endDesc p.1 r t p.2.2 (appended p.2.1)
    else let p := place s x.localAddr data; endDesc p.1 r t p.2 []
  | .read data, none => if data.length != x.length then s else let p := place s x.localAddr data; endDesc p.1 r t p.2 []
  | .readPoisoned data offsets, _ =>
    if data.length != x.length then s
    else if x.queue then endDesc s r t Status.poisoned (appended 0)
    else
      let p := place s x.localAddr data
      endDesc (poisonAt p.1 x.localAddr data.length offsets) r t (if p.2 == 0 then Status.poisoned else p.2) []
  | .hostFault moved, some (n, q) =>
    if x.length < moved.length then s
    else if x.queue then let p := pushAll (pieces 512 moved) s n q 0; endDesc p.1 r t Status.hostFault (appended p.2.1)
    else endDesc (place s x.localAddr moved).1 r t Status.hostFault []
  | .hostFault moved, none =>
    if x.length < moved.length then s
    else endDesc (if moved.isEmpty then s else (place s x.localAddr moved).1) r t Status.hostFault []

/-- The end of a COPY_OUT: its data leaves, poisoned where a code or a check value failed (R290, R478). -/
def copyOutEnd (s : State) (r t : Nat) (i : InProgress) (res : CopyResult) : State :=
  let step := (i.triggered.getD 0)
  let body := [(16, le 8 step)]
  match res with
  | .written =>
    let o := Bus.read s i.copy.localAddr i.copy.length { unit := unitCode 11 0, ctx := i.head.ctx }
    let st := match o.2.status with | 0 => Status.ok | 4 => Status.check | 5 => Status.poisoned | _ => Status.refused
    let w := if st == Status.refused then o.1 else emit o.1 (.hostWrite i.copy.hostAddr o.2.data o.2.bad)
    endDesc w r t st body
  | .hostFault _ => endDesc s r t Status.hostFault body
  | _ => s

/-- COPY_TRANSFER_END, while the host link takes memory requests (R449). -/
def transferEnd (s0 : State) (r t : Nat) (x : CopyEnd) : State :=
  match inProg? s0 r t with
  | none => s0
  | some i =>
    let res := x.result
    let s := Mem.inject s0 x.hits { unit := unitCode 11 0, ctx := i.head.ctx }
    if !hostReady s0 then s0
    else if i.op == 0x0A then copyInEnd s r t i.copy res
    else if i.op == 0x0B && i.sending && !StepOps.behindEgress s i.head.ctx r t then copyOutEnd (StepOps.egressDone s r t) r t i res
    else s0

/-! ## WORK (R471) -/

/-- WORK: the start flag is set; the status that ends it, or none while it waits. -/
def work (s : State) (d : DescHead) (x : WorkFields) : State × Option Nat :=
  if Desc.badHead d || decide (64 ≤ x.startCore ∨ 64 ≤ x.doneCore ∨ 8192 ≤ x.startFlag ∨ 8192 ≤ x.doneFlag) then (s, some Status.badDesc)
  else match ctx? s d.ctx with
    | none => (s, some Status.noContext)
    | some c =>
      if stepped c then (s, some Status.badDesc)
      else if dead s d.ctx then (s, some Status.aborted)
      else
        let s1 := modProg s d.ring d.t (fun i => { i with deadline := if x.timeout == 0 then none else some (now s + 1000 * x.timeout) })
        (FlagOps.arrive s1 x.startCore x.startFlag 1 (FlagWindow.hostParty s), none)

/-- WORK_DONE: the done flag is set; it is cleared, and the descriptor reports the status bits of its work. -/
def workDone (s : State) (r t : Nat) : State :=
  match inProg? s r t with
  | none => s
  | some i =>
    if fenced s || i.op != 0x0C || !FlagOps.value s i.work.doneCore i.work.doneFlag then s
    else
      endDesc (FlagOps.arrive s i.work.doneCore i.work.doneFlag 2 (FlagWindow.hostParty s)) r t Status.ok
        [(16, le 1 (field i.bits.toNat 5 0))]

/-- WORK_TIMEOUT. A done flag set in the same cycle completes it normally (R52). -/
def workTimeout (s : State) (r t : Nat) : State :=
  match inProg? s r t with
  | none => s
  | some i => match i.deadline with
    | none => s
    | some e =>
      if fenced s || i.op != 0x0C || now s < e || !Order.turn 5 s then s
      else if FlagOps.value s i.work.doneCore i.work.doneFlag then workDone s r t
      else endDesc s r t Status.timeout []

/-! ## Meanings -/

/-- CTX_DEFINE (R156). -/
def execCtxDefine (d : DescHead) (x : CtxFields) (s : State) : Host.Outcome State Fault Refusal :=
  .next (if lowerFirst s d then s else Desc.atOnce s d 1 false (fun t => define t d x))

/-- CTX_DELETE (R178). -/
def execCtxDelete (d : DescHead) (s : State) : Host.Outcome State Fault Refusal :=
  .next (Desc.lasting s d (Desc.entry d 2 false) (fun t => delete t d))

/-- STEP_SETUP (R327). -/
def execStepSetup (d : DescHead) (x : StepSetupBody) (s : State) : Host.Outcome State Fault Refusal :=
  .next (Desc.atOnce s d 3 false (fun t => stepSetup t d x))

/-- STEP_RESOLVE (R393). -/
def execStepResolve (d : DescHead) (x : ResolveBody) (s : State) : Host.Outcome State Fault Refusal :=
  .next (Desc.atOnce s d 4 false (fun t => stepResolve t d x))

/-- COPY_IN (R470). -/
def execCopyIn (d : DescHead) (x : CopyFields) (s : State) : Host.Outcome State Fault Refusal :=
  .next (Desc.lasting s d { Desc.entry d 0x0A true with copy := x } (fun t => copyIn t d x))

/-- COPY_OUT (R470). -/
def execCopyOut (d : DescHead) (x : CopyFields) (s : State) : Host.Outcome State Fault Refusal :=
  .next (Desc.lasting s d { Desc.entry d 0x0B true with copy := x } (fun t => copyOut t d x))

/-- COPY_OUT_TRIGGER (R470). -/
def execCopyOutTrigger (r t : Nat) (s : State) : Host.Outcome State Fault Refusal := .next (trigger s r t)

/-- COPY_TRANSFER_END (R470). -/
def execCopyTransferEnd (r t : Nat) (x : CopyEnd) (s : State) : Host.Outcome State Fault Refusal := .next (transferEnd s r t x)

/-- WORK (R471). -/
def execWork (d : DescHead) (x : WorkFields) (s : State) : Host.Outcome State Fault Refusal :=
  .next (Desc.lasting s d { Desc.entry d 0x0C true with work := x } (fun t => work t d x))

/-- WORK_DONE (R471). -/
def execWorkDone (r t : Nat) (s : State) : Host.Outcome State Fault Refusal := .next (workDone s r t)

/-- WORK_TIMEOUT (R471). -/
def execWorkTimeout (r t : Nat) (s : State) : Host.Outcome State Fault Refusal := .next (workTimeout s r t)

/-- HOST_NOP (R469): the row also carries an OPCODE that is none of R469, which no command of its own has; it is BAD_DESC, and no data
descriptor. -/
def execHostNop (d : DescHead) (s : State) : Host.Outcome State Fault Refusal :=
  .next (Desc.atOnce s d 0x0D (!d.badOp) (fun t => (t, if Desc.badCode d || d.ctx != 255 then Status.badDesc else Status.ok, [])))

end Sys2Proof.Machine.HostDesc
end

