-- ==== Sys2Proof/Machine/Spdm.lean ====
section
/-! DEFINITION. SPDM, pre-shared keys, job keys and the host link's encryption (R441 to R449, R456). Request and response codes are those of
DSP0274. -/

namespace Sys2Proof.Machine.Spdm

open Bits Ops Report

/-! ## Requests and responses (R444, R490) -/

/-- What a request gives: the state, and the code and the bytes of the response. -/
abbrev Answer := State × Nat × Bytes

def answer (s : State) (code : Nat) (b : Bytes) : Answer := (s, code, b)

/-- ERROR responses of DSP0274. -/
def failed (s : State) (code : Nat) : Answer := (s, 0x7F, le 1 code)
def invalidRequest : Nat := 1
def invalidSession : Nat := 2
def unexpected : Nat := 4
def decryptError : Nat := 6
def unsupported : Nat := 7
def sessionLimit : Nat := 10
def sessionRequired : Nat := 11

/-- The binding a message came on is served (R490): I3C in every state but OFF, PCI Express while the host link is up. -/
def served (s : State) (i3c : Bool) : Bool := s.dex.state != .off && (i3c || s.host.linkUp)

/-- A session by its number: one that is finished, or one in its handshake. -/
def session? (s : State) (id : Nat) (finished : Bool) : Option Session := s.sec.sessions.find? (fun x => x.id == id && x.finished == finished)

/-- A session has sealed one more message; a key update has begun its count anew. -/
def countSealed (s : State) (x : Session) : State :=
  modSec s (fun y => { y with sessions := y.sessions.map (fun (z : Session) => if z.id == x.id && z.updates == x.updates then { z with sent := z.sent + 1 } else z) })

/-- A secured message of a session (R444): AES-256-GCM over the length and the message, under the session's key and the IV of its count. -/
def sealed (s : State) (x : Session) (message : Bytes) : State :=
  let k := Config.sessionKey x.key x.updates
  let plain := le 2 message.length ++ message
  let r := Config.gcmSeal k.1 (k.2 ^^^ BitVec.ofNat 96 x.sent) (le 4 x.id ++ le 2 x.sent ++ le 2 (plain.length + 16)) plain
  emit (countSealed s x) (.secured x.id (padTo plain.length r.1) r.2)

/-- Send a response: sealed in the session its request came in, or else in the clear. -/
def reply (s : State) (x : Option Session) (clear : Out) (message : Bytes) : State :=
  match x with | some y => sealed s y message | none => emit s clear

/-- Carry a request out: its response goes the way it came. A request of a session that is not there is an error; `finished` tells the
sessions it may come in. -/
def run (s : State) (h : SpdmHead) (finished : Bool) (f : State → Answer) : State :=
  if !served s h.i3c then s
  else
    let x := h.session.bind (fun id => session? s id finished)
    if h.session.isSome && x.isNone then emit s (.spdm 0x7F (le 1 invalidSession))
    else let r := f s; reply r.1 x (.spdm r.2.1 r.2.2) (le 1 5 ++ le 1 r.2.1 ++ r.2.2)

/-- Run a request once VERSION, CAPABILITIES and ALGORITHMS have been exchanged. -/
def after (s : State) (f : State → Answer) : Answer := if s.sec.negotiated == 7 then f s else failed s unexpected

/-- A request that only a session carries. -/
def inside (s : State) (h : SpdmHead) (f : State → Nat → Answer) : Answer :=
  after s (fun t => match h.session with | some id => f t id | none => failed t sessionRequired)

/-! ## Negotiation (R444). The layouts are those of DSP0274 (PRESUMED, notes/assumptions/68.md) -/

/-- GET_VERSION: version 1.3. -/
def version (s : State) : Answer := answer (modSec s (fun x => { x with negotiated := 1 })) 0x04 ([0, 1] ++ le 2 0x1300)

/-- The capabilities of R444: certificates, challenge, signed and fresh measurements, encryption, message authentication, pre-shared keys,
heartbeat and key update. -/
def capabilityFlags : Nat := 0x02 + 0x04 + 0x10 + 0x20 + 0x40 + 0x80 + 0x400 + 0x2000 + 0x4000

/-- GET_CAPABILITIES. -/
def capabilities (s : State) : Answer :=
  if bit s.sec.negotiated 0 then
    answer (modSec s (fun x => { x with negotiated := 3 })) 0x61
      (zeros 1 ++ le 1 (Config.capability 0) ++ zeros 2 ++ le 4 capabilityFlags ++ le 4 (Config.capability 1) ++ le 4 (Config.capability 2))
  else failed s unexpected

/-- What ALGORITHMS selects (R444): DMTF measurements with SHA3-512, SHA3-512 as the base hash, ML-DSA-87 as the one extended asymmetric
algorithm, AES-256-GCM, and the key schedule of DSP0274. -/
def selected : Bytes :=
  le 2 48 ++ [1, 0] ++ le 4 0x40 ++ zeros 4 ++ le 4 0x20 ++ zeros 12 ++ [1, 0] ++ zeros 2 ++ le 4 Config.signatureEntry ++
    [3, 0x20] ++ le 2 2 ++ [5, 0x20] ++ le 2 1

/-- NEGOTIATE_ALGORITHMS: SHA3-512 and ML-DSA-87. -/
def algorithms (s : State) (hash sig : Bool) : Answer :=
  if !(bit s.sec.negotiated 0 && bit s.sec.negotiated 1) then failed s unexpected
  else if hash && sig then answer (modSec s (fun x => { x with negotiated := 7 })) 0x63 selected else failed s invalidRequest

/-! ## Certificates and attestation (R441, R442, R444, R445, R448) -/

/-- The certificate chain of slot 0, and its digest. -/
def chain (s : State) : Bytes := Digest.chain s
def chainDigest (s : State) : Bytes := Digest.sha (chain s)

/-- GET_DIGESTS. -/
def digests (s : State) : Answer := after s (fun t => if t.sec.identity.isSome then answer t 0x01 (chainDigest t) else failed t unexpected)

/-- GET_CERTIFICATE: slot 0 only; the lengths of the portion and of what remains, then the portion. -/
def certificate (s : State) (slot off len : Nat) : Answer :=
  after s (fun t =>
    if t.sec.identity.isNone then failed t unexpected
    else if slot != 0 || decide ((chain t).length < off) then failed t invalidRequest
    else
      let rest := (chain t).drop off
      let b := rest.take len
      answer t 0x02 (le 2 b.length ++ le 2 (rest.length - b.length) ++ b))

/-- A signed response: a nonce of the module, no opaque data, and a signature over the digest of the body with both nonces; the module has
attested. -/
def signedResponse (s : State) (code : Nat) (body : Bytes) (nonce : BitVec 256) : Answer :=
  let r := Digest.random s
  let d := Config.sha3 (body ++ le 32 r.1.toNat ++ le 32 nonce.toNat)
  let g := Digest.sign r.2 d
  answer (modSec g.2 (fun x => { x with attested := true })) code (body ++ le 32 r.1.toNat ++ zeros 2 ++ g.1)

/-- CHALLENGE. -/
def challenge (s : State) (slot : Nat) (nonce : BitVec 256) : Answer :=
  after s (fun t =>
    if t.sec.identity.isNone then failed t unexpected
    else if slot != 0 then failed t invalidRequest
    else signedResponse t 0x03 (chainDigest t) nonce)

/-- The measurement of an index (R445). -/
def measurement (s : State) (i : Nat) : Bytes :=
  let image := fun (t : Nat) => Digest.bytesOf (Digest.body s t) ++ le 2 (Digest.svn s t)
  match i with
  | 1 => Digest.sha Digest.rom
  | 2 => image 1
  | 3 => image 2 ++ image 3
  | 4 => Digest.plan s
  | 5 => le 1 s.sec.alarms ++ le 1 (min 255 (Regs.recentAlarms s)) ++ le 2 s.sec.lastSource ++ le 1 s.dex.gen
  | _ => le 1 1 ++ [1, 2, 3].flatMap (fun t => le 2 (SMap.val 0 s.sec.minSvn t))

/-- The value type of an index's measurement (R445; DSP0274): bit 7 marks a raw bit stream, and a digest has it clear; then ROM, mutable
firmware, hardware configuration or firmware configuration. -/
def valueType (i : Nat) : Nat :=
  match i with | 1 => 0x00 | 2 => 0x81 | 3 => 0x81 | 4 => 0x03 | 5 => 0x83 | _ => 0x82

/-- A block of the DMTF measurement specification (R445): index, specification, size, value type, value size and value. -/
def block (s : State) (i : Nat) : Bytes :=
  let m := measurement s i
  le 1 i ++ le 1 1 ++ le 2 (m.length + 3) ++ le 1 (valueType i) ++ le 2 m.length ++ m

/-- The blocks of a response: their number, the length of the record and the record. -/
def blocks (s : State) (l : List Nat) : Bytes := let b := l.flatMap (block s); le 1 l.length ++ le 3 b.length ++ b

/-- GET_MEASUREMENTS: index 0 asks how many there are, 255 for all. -/
def measurements (s : State) (index : Nat) (signed : Bool) (nonce : BitVec 256) : Answer :=
  after s (fun t =>
    let body : Option Bytes := if index == 0 then some (le 1 6) else if index ≤ 6 then some (blocks t [index])
      else if index == 255 then some (blocks t [1, 2, 3, 4, 5, 6]) else none
    match body with
    | none => failed t invalidRequest
    | some b =>
      if !signed then answer t 0x60 b
      else if t.sec.identity.isSome then signedResponse t 0x60 b nonce
      else failed t unexpected)

/-! ## Sessions (R444, R446, R448) -/

/-- The lowest session number in no use, from 1. -/
def freeId (s : State) : Nat := ((List.range 4).find? (fun i => !s.sec.sessions.any (fun x => x.id == i + 1))).getD 0 + 1

/-- PSK_EXCHANGE: refused before attestation; a pre-shared key serves one, within 60 s. -/
def pskExchange (s : State) (hint : Nat) : Answer :=
  after s (fun t =>
    if !t.sec.attested then failed t unexpected
    else if 4 ≤ t.sec.sessions.length then failed t sessionLimit
    else match t.sec.psks.find? (fun k => k.hint == hint && decide (t.ns < k.stored + 60000000000)) with
      | none => failed t invalidRequest
      | some k =>
        let id := freeId t
        let x : Session := { id := id, hint := hint, finished := false, key := k.key, updates := 0 }
        answer (modSec t (fun y => { y with psks := y.psks.filter (fun q => q.hint != hint), sessions := y.sessions ++ [x] })) 0x66 (le 2 id))

/-- Change a session. -/
def modSession (s : State) (id : Nat) (f : Session → Session) : State :=
  modSec s (fun y => { y with sessions := y.sessions.map (fun (x : Session) => if x.id == id then f x else x) })

/-- End a session: its keys are erased. -/
def dropSession (s : State) (id : Nat) : State := modSec s (fun y => { y with sessions := y.sessions.filter (fun x => x.id != id) })

/-- PSK_FINISH: the session's keys of the application phase hold from here; a message that does not verify ends the session. -/
def pskFinish (s : State) (h : SpdmHead) (ok : Bool) : Answer :=
  inside s h (fun t id =>
    if ok then answer (modSession t id (fun x => { x with finished := true, updates := x.updates + 1, sent := 0 })) 0x67 []
    else failed (dropSession t id) decryptError)

/-- HEARTBEAT. -/
def heartbeat (s : State) (h : SpdmHead) : Answer := inside s h (fun t _ => answer t 0x68 [])

/-- KEY_UPDATE: the session's key is replaced. -/
def keyUpdate (s : State) (h : SpdmHead) : Answer :=
  inside s h (fun t id => answer (modSession t id (fun x => { x with updates := x.updates + 1, sent := 0 })) 0x69 [])

/-- END_SESSION. -/
def endSession (s : State) (h : SpdmHead) : Answer := inside s h (fun t id => answer (dropSession t id) 0x6C [])

/-- PSK_EXPIRY: 60 s after it was stored. -/
def pskExpiry (s : State) (hint : Nat) : State :=
  modSec s (fun y => { y with psks := y.psks.filter (fun k => !(k.hint == hint && decide (k.stored + 60000000000 ≤ s.ns))) })

/-! ## Vendor-defined requests (R446, R447) -/

/-- A vendor-defined response: the code, a status and the rest. -/
def vendor (s : State) (code status : Nat) (b : Bytes) : Answer := answer s 0x7E (le 1 code ++ le 1 status ++ b)

/-- The status BAD_REQUEST (R491). -/
def badRequest : Nat := 1

/-- KEM_KEY_GET: a fresh encapsulation key and a nonce, signed with the identity key. -/
def kemKeyGet (s : State) (nonce : BitVec 256) : Answer :=
  after s (fun t =>
    if t.sec.identity.isNone then vendor t 1 badRequest []
    else
      let key := padTo 1568 (Config.kemKey t.free)
      let r := Digest.random (drawn t)
      let g := Digest.sign r.2 (Config.sha3 (key ++ le 32 r.1.toNat ++ le 32 nonce.toNat))
      vendor (modSec g.2 (fun y => { y with kem := some (key, r.1, nonce) })) 1 0 (key ++ le 32 r.1.toNat ++ g.1))

/-- KEM_PSK: the pre-shared key is stored under its hint; the encapsulation key is discarded. -/
def kemPsk (s : State) (ct : Bytes) (hint : Nat) : Answer :=
  after s (fun t =>
    match t.sec.kem with
    | none => vendor t 2 badRequest []
    | some (key, mine, theirs) =>
      if ct.length != 1568 || decide (2 ^ 128 ≤ hint) then vendor t 2 badRequest []
      else
        let psk := Digest.keyOf (Digest.labelPsk ++ le 32 (Config.kemSecret key ct).toNat ++ le 32 mine.toNat ++ le 32 theirs.toNat)
        vendor (modSec t (fun y => { y with kem := none, psks := y.psks.filter (fun k => k.hint != hint) ++ [⟨hint, psk, t.ns⟩] })) 2 0 [])

/-- JOB_KEY_SET (R447): only inside a session. -/
def jobKeySet (s : State) (h : SpdmHead) (c : Nat) (digest : BitVec 512) (key : BitVec 256) : Answer :=
  after s (fun t =>
    if h.session.isNone then vendor t 3 badRequest []
    else match ctx? t c with
      | none => vendor t 3 Status.noContext []
      | some x =>
        if Ckpts.writing t c then vendor t 3 Status.busy []
        else if x.ckpt.any (fun b => b.jobDigest != digest) then vendor t 3 Status.wrongJob []
        else vendor (modCtx t c (fun y => { y with jobKey := some key })) 3 0 [])

/-- JOB_KEY_ERASE (R446, R456). -/
def jobKeyErase (s : State) (h : SpdmHead) (c : Nat) : Answer :=
  after s (fun t =>
    if h.session.isNone then vendor t 4 badRequest []
    else match ctx? t c with
      | none => vendor t 4 Status.noContext []
      | some _ => if Ckpts.writing t c then vendor t 4 Status.busy [] else vendor (modCtx t c (fun y => { y with jobKey := none })) 4 0 [])

/-- A vendor-defined request with another code is answered BAD_REQUEST (R446); any other request that is not supported, UnsupportedRequest
(R444). -/
def other (s : State) (x : SpdmOther) : Answer :=
  match x.vendor with
  | some c => after s (fun t => vendor t c badRequest [])
  | none => failed s unsupported

/-! ## The host link's encryption (R449) -/

/-- What was held while no stream was Secure is written: the log, and every ring's entries. -/
def flushHost (s : State) : State :=
  let s1 := s.dex.alarmLog.foldl logRec (modDex s (fun d => { d with alarmLog := [] }))
  let s2 := flushLog 256 s1
  (s2.host.rings.map (·.1)).foldl (fun acc r => fetch (flushHeld 64 acc r true) r true) s2

/-- A stream enters or leaves the Secure state: descriptors in progress complete FENCED, their entries held until a stream is Secure. -/
def streamState (s : State) (stream : Nat) (secure : Bool) : State :=
  let keyed := (SMap.look s.host.ideKeys stream).isSome && SMap.val false s.host.ideGo stream
  let on := SMap.ins s.host.ideOn stream (secure && keyed && s.host.linkUp)
  let any := on.any (fun p => p.2)
  let s1 := modHost s (fun h => { h with ideOn := on, secure := any })
  if any && !s.host.secure then flushHost s1
  else if !any && s.host.secure then fenceHost s1
  else s1

/-- IDE_KM_MESSAGE: inside a session; keys are programmed, set to go, or stopped. -/
def ideKm (s : State) (h : SpdmHead) (stream : Nat) (m : IdeKm) : Answer :=
  inside s h (fun t _ =>
    if 2 ≤ stream then failed t invalidRequest
    else match m with
      | .keyProg k => answer (modHost t (fun h => { h with ideKeys := SMap.ins h.ideKeys stream k })) 0x7E []
      | .keySetGo =>
        if (SMap.look t.host.ideKeys stream).isSome then answer (modHost t (fun h => { h with ideGo := SMap.ins h.ideGo stream true })) 0x7E []
        else failed t invalidRequest
      | .keySetStop =>
        let u := streamState t stream false
        answer (modHost u (fun h => { h with ideKeys := SMap.del h.ideKeys stream, ideGo := SMap.del h.ideGo stream })) 0x7E [])

/-! ## Meanings -/

/-- GET_VERSION (R444). A request without an operand is read as one over I3C outside a session (DESIGN CHOICE, notes/assumptions/68.md). -/
def execGetVersion (s : State) : Host.Outcome State Fault Refusal := .next (run s {} true version)

/-- GET_CAPABILITIES (R444). -/
def execGetCapabilities (s : State) : Host.Outcome State Fault Refusal := .next (run s {} true capabilities)

/-- NEGOTIATE_ALGORITHMS (R444). -/
def execNegotiateAlgorithms (hash : SpdmReq Bool) (sig : Bool) (s : State) : Host.Outcome State Fault Refusal :=
  .next (run s hash.head true (fun t => algorithms t hash.value sig))

/-- GET_DIGESTS (R444). -/
def execGetDigests (s : State) : Host.Outcome State Fault Refusal := .next (run s {} true digests)

/-- GET_CERTIFICATE (R444). -/
def execGetCertificate (slot : SpdmReq Nat) (off len : Nat) (s : State) : Host.Outcome State Fault Refusal :=
  .next (run s slot.head true (fun t => certificate t slot.value off len))

/-- CHALLENGE (R448). -/
def execChallenge (slot : SpdmReq Nat) (nonce : BitVec 256) (s : State) : Host.Outcome State Fault Refusal :=
  .next (run s slot.head true (fun t => challenge t slot.value nonce))

/-- GET_MEASUREMENTS (R445). -/
def execGetMeasurements (index : SpdmReq Nat) (signed : Bool) (nonce : BitVec 256) (s : State) : Host.Outcome State Fault Refusal :=
  .next (run s index.head true (fun t => measurements t index.value signed nonce))

/-- PSK_EXCHANGE (R448). -/
def execPskExchange (hint : SpdmReq Nat) (s : State) : Host.Outcome State Fault Refusal :=
  .next (run s hint.head true (fun t => pskExchange t hint.value))

/-- PSK_FINISH (R444): in the session's handshake. -/
def execPskFinish (head : SpdmHead) (verifyOk : Bool) (s : State) : Host.Outcome State Fault Refusal :=
  .next (run s head false (fun t => pskFinish t head verifyOk))

/-- HEARTBEAT (R444). -/
def execHeartbeat (head : SpdmHead) (s : State) : Host.Outcome State Fault Refusal := .next (run s head true (fun t => heartbeat t head))

/-- KEY_UPDATE (R444). -/
def execKeyUpdate (head : SpdmHead) (s : State) : Host.Outcome State Fault Refusal := .next (run s head true (fun t => keyUpdate t head))

/-- END_SESSION (R444). -/
def execEndSession (head : SpdmHead) (s : State) : Host.Outcome State Fault Refusal := .next (run s head true (fun t => endSession t head))

/-- SPDM_UNSUPPORTED_REQUEST (R444, R446). -/
def execSpdmUnsupportedRequest (x : SpdmOther) (s : State) : Host.Outcome State Fault Refusal := .next (run s x.head true (fun t => other t x))

/-- PSK_EXPIRY (R446). -/
def execPskExpiry (hint : Nat) (s : State) : Host.Outcome State Fault Refusal := .next (pskExpiry s hint)

/-- KEM_KEY_GET (R446). -/
def execKemKeyGet (nonce : SpdmReq (BitVec 256)) (s : State) : Host.Outcome State Fault Refusal :=
  .next (run s nonce.head true (fun t => kemKeyGet t nonce.value))

/-- KEM_PSK (R446). -/
def execKemPsk (ct : SpdmReq Bytes) (hint : Nat) (s : State) : Host.Outcome State Fault Refusal :=
  .next (run s ct.head true (fun t => kemPsk t ct.value hint))

/-- JOB_KEY_SET (R447). -/
def execJobKeySet (head : SpdmHead) (ctx : Nat) (digest : BitVec 512) (key : BitVec 256) (s : State) : Host.Outcome State Fault Refusal :=
  .next (run s head true (fun t => jobKeySet t head ctx digest key))

/-- JOB_KEY_ERASE (R446). -/
def execJobKeyErase (head : SpdmHead) (ctx : Nat) (s : State) : Host.Outcome State Fault Refusal :=
  .next (run s head true (fun t => jobKeyErase t head ctx))

/-- IDE_STATE_CHANGE (R449). -/
def execIdeStateChange (stream : Nat) (secure : Bool) (s : State) : Host.Outcome State Fault Refusal :=
  .next (if stream < 2 then streamState s stream secure else s)

/-- IDE_KM_MESSAGE (R449). -/
def execIdeKmMessage (head : SpdmHead) (stream : Nat) (m : IdeKm) (s : State) : Host.Outcome State Fault Refusal :=
  .next (run s head true (fun t => ideKm t head stream m))

end Sys2Proof.Machine.Spdm
end

