-- ==== Sys2Proof/Machine/HostLink.lean ====
section
/-! DEFINITION. The host link and the resets that come through it (R382, R387, R388, R460, R480, R487, R531). -/

namespace Sys2Proof.Machine.HostLink

open Bits Ops Report

/-- BAR0 (R459): a 64-bit, non-prefetchable memory BAR of 2^48 bytes; an offset in it is a local address. -/
def bar0Bytes : Nat := 2 ^ 48
def bar0Type : Nat := 4

/-- The type 0 header of function 0 (R2, R458, R459), by the byte offset of each register in configuration space (PRESUMED, the PCI Express
header, notes/assumptions/75.md): vendor, device, capability list, revision, class code, header type, BAR0 and no other BAR, subsystem
vendor, subsystem, first capability and interrupt pin. No command of the table reads configuration space. -/
def configHeader : List (Nat × Bytes) :=
  [(0x00, le 2 0x1F9E), (0x02, le 2 0x2400), (0x06, le 2 0x10), (0x08, le 1 0x01), (0x09, le 3 0x120000), (0x0E, le 1 0), (0x10, le 4 bar0Type),
   (0x14, zeros 20), (0x2C, le 2 0x1F9E), (0x2E, le 2 0x0001), (0x34, le 1 0x40), (0x3D, le 1 0)]

/-- The capabilities of the function (R449, R457, R459, R460), by capability ID: Power Management, PCI Express and MSI-X; and, by extended
capability ID, Advanced Error Reporting and Integrity and Data Encryption. There is no MSI, ATS, PASID, SR-IOV, TPH, Resizable BAR or DOE. -/
def capabilities : List Nat := [0x01, 0x10, 0x11]
def extendedCapabilities : List Nat := [0x0001, 0x0030]

/-- The Power Management control and status register: No_Soft_Reset, bit 3, is 0 (R460). -/
def pmControl : Nat := 0

/-- Device Capabilities, without what R457 leaves open: Max_Payload_Size Supported 512 bytes in bits [2:0], and Function Level Reset in bit 28. -/
def deviceCapabilities : Nat := 2 + 2 ^ 28

/-- Link Capabilities: the highest rate, 64 GT/s, in bits [3:0], and the width ×16 in bits [9:4]; and the vector of the rates it falls back to. -/
def linkCapabilities : Nat := 6 + 16 * 16
def linkRates : Nat := 0x7E

/-- The widths the link trains to, the largest read request it issues in bytes, the width of its tags, and how many non-posted requests of its
own are outstanding at most (R457). -/
def linkWidths : List Nat := [16, 8, 4, 2, 1]
def maxReadRequest : Nat := 4096
def tagBits : Nat := 14
def maxNonPosted : Nat := 768

/-- A host reset of R382: the reset sequence starts, with the cause of R398. -/
def hostReset (s : State) : State := trigger s 8 2 0 false

/-- A host reset that reaches the module over the link (R460). -/
def overLink (s : State) : State := if s.host.linkUp then hostReset s else s

/-- PERST# is asserted (R531): a host reset in READY; otherwise only the pin changes. -/
def perstAssert (s : State) : State :=
  let s1 := modPower s (fun p => { p with perst := true })
  if s.dex.state == .ready && !s.power.perst then hostReset s1 else s1

/-- The host port begins training only when the module is READY and PERST# is deasserted (R531); it then reaches Data Link Layer Link
Active (R487). What was held for the host is written once a stream is Secure (R449, R475). -/
def linkUp (s : State) : State :=
  if s.dex.state == .ready && !s.power.perst && !s.host.linkUp && !fenced s then
    let s1 := modHost s (fun h => { h with linkUp := true })
    if s1.host.secure then Spdm.flushHost s1 else s1
  else s

/-- The host link goes down (R480): descriptors, entries and rings are lost, with the gated transfers of the descriptors; the IDE streams
end and their keys are gone (R449). The item that the shard writer is writing ends with FAULT (R432). -/
def linkDown (s : State) : State :=
  modCkpt (modHost s (fun h => { h with linkUp := false, secure := false, rings := [], ideKeys := [], ideOn := [], ideGo := [] }))
    (fun k => { k with egress := [], outgoing := [], loads := [],
                       items := match k.items with | i :: rest => { i with cut := true } :: rest | [] => [] })

/-! ## Meanings -/

/-- PERST_ASSERT (R531). -/
def execPerstAssert (s : State) : Host.Outcome State Fault Refusal := .next (perstAssert s)

/-- PERST_DEASSERT (R531). -/
def execPerstDeassert (s : State) : Host.Outcome State Fault Refusal := .next (modPower s (fun p => { p with perst := false }))

/-- FUNCTION_LEVEL_RESET (R460). -/
def execFunctionLevelReset (s : State) : Host.Outcome State Fault Refusal := .next (overLink s)

/-- HOT_RESET (R460). -/
def execHotReset (s : State) : Host.Outcome State Fault Refusal := .next (overLink s)

/-- LINK_DISABLE (R460). -/
def execLinkDisable (s : State) : Host.Outcome State Fault Refusal := .next (overLink s)

/-- D3HOT_TO_D0 (R460). -/
def execD3hotToD0 (s : State) : Host.Outcome State Fault Refusal := .next (overLink s)

/-- HOST_LINK_DOWN (R480). -/
def execHostLinkDown (s : State) : Host.Outcome State Fault Refusal := .next (linkDown s)

/-- HOST_LINK_UP (R487). -/
def execHostLinkUp (s : State) : Host.Outcome State Fault Refusal := .next (linkUp s)

end Sys2Proof.Machine.HostLink
end

