-- ==== Sys2Proof/Machine/Powering.lean ====
section
/-! DEFINITION. Input power, bring-up and hot removal (R397, R481 to R489, R502, R524, R531, R532, R534). -/

namespace Sys2Proof.Machine.Powering

open Bits Ops Report

/-- The MOD_SAFE and MOD_FAULT outputs are on, which is driven low (R481, R530). -/
def modSafe (s : State) : Bool :=
  match s.dex.state with | .standby | .safe | .failed => true | .off | .bringup | .ready | .removing => false
def modFault (s : State) : Bool := s.dex.state == .failed

/-! ## Input power (R482, R483, R489, R524, R532) -/

/-- Every supply goes at once (R489): the module is OFF, and of the Dexhorn controller's record only the non-volatile part is left. With the
powered time it holds the times of the alarms and of the breaker trips, and the sources of the last alarm (R365, R454, R455, R483); the
counts since the input was applied begin again (R398, R455). -/
def powerLoss (s : State) : State :=
  let d := s.dex
  let t := freshPackage s
  { t with
    dex := { state := .off, gen := d.gen, lastCause := d.lastCause, lastClass := d.lastClass, plan := d.plan, autostart := d.autostart, roles := d.roles,
             decided := d.decided, lostChannels := d.lostChannels, records := d.nvRecords, nvRecords := d.nvRecords, events := d.nvEvents,
             nvEvents := d.nvEvents, powered := d.powered, unreplaceable := d.unreplaceable, sramResets := d.sramResets },
    sec := { minSvn := s.sec.minSvn, svn := s.sec.svn, body := s.sec.body, staged := s.sec.staged, alarmAt := s.sec.alarmAt,
             lastSource := s.sec.lastSource },
    power := { overLock := s.power.overLock, perst := s.power.perst, present := s.power.present, trips := s.power.trips } }

/-- INPUT_VALID: the controller starts, unless the overvoltage lockout holds or the presence contact has not been made, without which the
front end does not enable its inrush path (R532). -/
def inputValid (s : State) : State :=
  if s.dex.state == .off && !s.power.overLock && s.power.present then modPower s (fun p => { p with inputOk := true }) else s

/-- INPUT_LOSS: a presence contact that has broken shows that the module is being pulled (R532). The supply blades part after it, and with
the next insertion it is made again (DEDUCED, notes/assumptions/64.md). -/
def inputLoss (s : State) : State := modPower (powerLoss s) (fun p => { p with present := true })

/-- OVERVOLTAGE_LOCKOUT and its release. -/
def overvoltage (s : State) : State := powerLoss (modPower s (fun p => { p with overLock := true }))
def overRelease (s : State) : State := modPower s (fun p => { p with overLock := false })

/-- The states in which losing the input is no loss: the module holds no work (R481, R489, R532). -/
def removable (st : MgmtState) : Bool := st == .safe || st == .off || st == .standby || st == .failed

/-- PRESENCE_BREAK: outside the states of `removable` a loss of input. The package path is not enabled before the contact is made again
(R532). -/
def presenceBreak (s : State) : State :=
  let s1 := modPower s (fun p => { p with present := false })
  if removable s.dex.state then s1 else powerLoss s1

/-- INPUT_EXCURSION (R524): class 0x41 with rail 0, once per second while it lasts; `us` is how long it has lasted. One that has begun since
the last record is a new one; one that was there as the breaker tripped has no record of its own (R534). -/
def excursion (s : State) (mv us : Nat) : State :=
  let out := decide ((44000 ≤ mv ∧ mv < 48000) ∨ (60000 < mv ∧ mv ≤ 63000))
  let recent := match s.power.excursionAt with | some t => decide (s.ns < t + 1000000000 ∧ s.ns ≤ t + 1000 * us) | none => false
  if s.dex.state != .off && out && decide (1000 ≤ us) && !recent then
    raise (modPower s (fun p => { p with excursionAt := some s.ns }))
      { cls := 0x41, unit := Sensors.sensorUnit 6, detail := Sensors.voltageDetail 0 mv (if mv < 48000 then 48000 else 60000) us } 0
  else s

/-- BREAKER_TRIP (R483): class 0x41 with rail 0 and effect module fault, then a cold cycle, or FAILED at a second trip within 24 hours of
powered time. The rails are gone, so no reset sequence runs. An excursion that crosses 48 V meanwhile has no record of its own (R534). -/
def breakerTrip (s : State) (mv : Nat) : State :=
  if !Sensors.powered s then s
  else
    let again := s.power.trips.any (fun t => decide (s.dex.powered < t + 86400000000000))
    let r := fill s { cls := 0x41, unit := Sensors.sensorUnit 6, detail := Sensors.voltageDetail 0 mv 54000 0 } 4 false
    let s1 := addEvent (addEvent (record s r) 80) 300
    let s2 := notify (modPower s1 (fun p => { p with trips := s.dex.powered :: p.trips, excursionAt := some s.ns })) 6 (recBytes r)
    if again then declareFailed s2
    else if s.dex.state == .removing then railsOff s2 .removing
    else ResetOps.coldCycle s2 1 0x41

/-! ## Bring-up (R484 to R487) -/

/-- The package rails are enabled: the reset assertion, with a new generation (R383, R484). -/
def enableRails (s : State) : State := notify (packageReset s 0 0) 1 (le 1 2)

/-- DEXHORN_BOOT (R435, R439, R484): STANDBY, and the rails with AUTOSTART; FAILED when the firmware or the root secret fails. -/
def boot (s : State) (firmwareOk pufOk : Bool) : State :=
  if s.dex.state == .off && s.power.inputOk then
    if !firmwareOk || !pufOk then enterState s .failed
    else
      let s1 := Sensors.update (enterState s .standby)
      if s1.dex.autostart && s1.power.present then enableRails s1 else s1
  else s

/-- The package rails in the groups in which they rise (R485, R526): DRAM auxiliary, SRAM, core, DRAM interface, fabric SerDes and host port. -/
def railOrder : List (List Nat) := [[1], [2, 3], [4, 5], [6, 7], [8, 9]]

/-- RAIL_REGULATION_TIMEOUT (R485): class 0x41. The groups before the rail's are in regulation and those after it do not rise: phase 1 does
not end, and the escalation of R397 follows. -/
def railTimeout (s : State) (rail mv : Nat) : State :=
  match railOrder.findIdx? (fun g => g.contains rail), s.power.rails with
  | some g, .rising _ =>
    if s.dex.state == .bringup && s.dex.coldCycle != 1 then
      let set := ([0, 1800, 750, 750, 700, 700, 500, 500, 800, 800] : List Nat).getD rail 0
      raise (modPower s (fun p => { p with rails := .stuck g }))
        { cls := 0x41, unit := Sensors.sensorUnit (6 + rail), detail := Sensors.voltageDetail rail mv set 10000 } 0
    else s
  | _, _ => s

/-- Go on to a phase. -/
def toPhase (s : State) (n : Nat) : State := modDex s (fun d => { d with phase := n, phaseAt := s.ns })

/-- The staged images of some TYPEs become the running ones. -/
def runStaged (s : State) (types : List Nat) : State :=
  modSec s (fun x =>
    let take := x.staged.filter (fun p => types.contains p.1)
    { x with svn := take.foldl (fun m p => SMap.ins m p.1 p.2.svn) x.svn, body := take.foldl (fun m p => SMap.ins m p.1 p.2.body) x.body,
             staged := x.staged.filter (fun p => !types.contains p.1) })

/-- A staged image of some TYPEs lies below the fused minimum SVN (R436). -/
def tooOld (s : State) (types : List Nat) : Bool :=
  s.sec.staged.any (fun p => types.contains p.1 && decide (p.2.svn < SMap.val 0 s.sec.minSvn p.1))

/-- Phase 1 begins with the ROM's check of the Dexhorn firmware, a staged image first (R435, R437), and the reconstruction of K_root (R439);
without either the module is FAILED. It ends with every rail in regulation (R485). -/
def phase1 (s : State) (r : PhaseResult) : State :=
  if !r.firmwareOk || !r.pufOk || tooOld s [1] then declareFailed s
  else match s.power.rails with
    | .rising _ =>
      if r.ok then toPhase (Sensors.update (modPower (runStaged s [1]) (fun p => { p with rails := .up }))) 2 else s
    | .off | .stuck _ | .up | .falling => s

/-- Phase 2: cores with repeated class 0x03 resets are marked, and the recorded role map is applied (R88, R368). -/
def phase2 (s : State) : State :=
  let s1 := Weevils.applyDecided (Weevils.strikes s)
  if s1.dex.state == .bringup then
    if (List.range 8).any (fun n => Weevils.short (Swaps.role s1 n)) then declareFailed s1 else toPhase (Sensors.update s1) 3
  else s1

/-- Phase 3: each channel that fails training is lost, and the module is failed (R218, R486). -/
def phase3 (s : State) (lost : List Nat) : State :=
  let s1 := lost.foldl (fun acc i => Mem.loseChannel acc i 0 false { unit := unitCode 8 i } 0) s
  if s1.dex.state == .bringup then (if s1.dex.lostChannels.any (fun p => p.2) then declareFailed s1 else toPhase s1 4) else s1

/-- Phase 4: the staged start-up image and kernel set that still meet R436 become the running ones; one below the fused minimum leaves the module failed. -/
def phase4 (s : State) : State :=
  if tooOld s [2, 3] then declareFailed s else toPhase (runStaged s [2, 3]) 5

/-- Cores reported unreplaceable that still work and hold a logical core keep their standing weight (R373). -/
def keepUnreplaceable (s : State) : State :=
  modDex s (fun d => { d with unreplaceable := d.unreplaceable.filter (fun k => !Weevils.isFailed s k && (List.range 64).any (fun q => physOf s q == k)) })

/-- Phase 5: every working core has passed its test; the others are marked failed (R365, R368). -/
def phase5 (s : State) (failed : List (Nat × TestResult)) : State :=
  let s1 := modWeevil s (fun w => { w with passedAt := (List.range 72).foldl (fun m k => SMap.ins m k s.dex.powered) w.passedAt })
  let s2 := failed.foldl (fun acc f =>
    if acc.dex.state == .bringup && decide (f.1 < 72) && !Weevils.isFailed acc f.1 then Weevils.failTest acc f.1 f.2 f.2.limit else acc) s1
  if s2.dex.state == .bringup then toPhase (keepUnreplaceable s2) 6 else s2

/-- Phase 6: the identity key (R440). -/
def phase6 (s : State) : State :=
  let s1 := modSec s (fun x => { x with identity := some (Digest.identitySeed s) })
  toPhase ((List.range 27).foldl Link.train s1) 7

/-- BRINGUP_PHASE_END (R486). The health score is recomputed once the rails are up, and again with the role map (R379). A failure of phase 1 or 2 leaves bring-up where it is, until R397 escalates. -/
def phaseEnd (s : State) (n : Nat) (r : PhaseResult) : State :=
  if s.dex.state == .bringup && s.dex.phase == n && s.dex.coldCycle != 1 then
    match n with
    | 1 => phase1 s r
    | 2 => if r.ok then phase2 s else s
    | 3 => if r.ok || !r.lostChannels.isEmpty then phase3 s (r.lostChannels.filter (· < 128)) else s
    | 4 => if r.ok then phase4 s else declareFailed s
    | 5 => phase5 s r.failedCores
    | 6 => if r.ok then phase6 s else declareFailed s
    | 7 => toPhase s 8
    | _ => s
  else s

/-- No UP port has carried a firefly with STRATUM below 15 for 100 µs (R487). -/
def noFirefly (s : State) : Bool :=
  decide (s.dex.phaseAt + 100000 ≤ s.ns) && (upPorts s).all (fun p =>
    match (SMap.val {} s.ftime.links p : FfLink).rootedAt with | some t => decide (t + 100000 ≤ s.ns) | none => true)

/-- TIME_PHASE_END (R487): READY. -/
def timeEnd (s : State) : State :=
  if s.dex.state == .bringup && s.dex.phase == 8 && (s.ftime.state == .locked || noFirefly s || decide (s.dex.phaseAt + 600000000 ≤ s.ns)) then
    modGov (enterState (modDex s (fun d => { d with coldCycle := 0 })) .ready) (fun g => { g with periodAt := s.ns })
  else s

/-! ## Hot removal (R488, R502) -/

/-- The removal sequence begins: with contexts defined, steps 1 to 3 of R385 with CAUSE 8. -/
def startRemoval (s : State) (r : Removal) : State :=
  if fenced s then s
  else
    let s1 := enterState (modDex s (fun d => { d with removal := some { r with running := true } })) .removing
    if s.ctxs.isEmpty then s1 else fence s1 { td := now s, stage := 1, cause := 8, failed := false, ta := 0 }

/-- A removal is requested (R488, R502): the first request's mode holds. During BRINGUP the bring-up is abandoned. -/
def request (s : State) (force : Bool) (wait : Nat) : State :=
  if s.dex.removal.isSome then s
  else
    let r : Removal := { force := force, since := s.ns, wait := wait, running := false }
    match s.dex.state with
    | .ready =>
      let s1 := notify (modDex s (fun d => { d with removal := some r })) 1 (le 1 3)
      if force then startRemoval s1 r else s1
    | .bringup => startRemoval (notify s 1 (le 1 2)) r
    | _ => s

/-- A removal that waits, when the module can begin it. -/
def waitingRemoval (s : State) : Option Removal :=
  match s.dex.removal with
  | some r => if !r.running && (s.dex.state == .ready || s.dex.state == .bringup) then some r else none
  | none => none

/-- REMOVAL_START: no context is defined, or the mode is FORCE. -/
def removalStart (s : State) : State :=
  match waitingRemoval s with
  | some r => if r.force || s.ctxs.isEmpty then startRemoval s r else s
  | none => s

/-- REMOVE_WAIT_EXPIRY: REMOVE_WAIT seconds after the request; 0 means no limit. -/
def waitExpiry (s : State) : State :=
  match waitingRemoval s with
  | some r => if r.wait != 0 && decide (r.since + 1000000000 * r.wait ≤ s.ns) then startRemoval s { r with force := true } else s
  | none => s

/-- Step 1 of R488 is over: there was no context, or every ABORT has left (R385). One that has not ended 150 µs past Td is ended by the
Dexhorn controller (R397). -/
def stepOneOver (s : State) : Bool :=
  match s.resetSeq with
  | some q => q.stage == 2 && ResetOps.abortsLeft s q
  | none => true

/-- The step of the removal sequence that comes next. -/
def nextStep (s : State) (n : Nat) : State := modDex s (fun d => { d with removal := d.removal.map (fun r => { r with step := n }) })

/-- The next step of a removal sequence in progress, when it can be taken (R488): 2, the links announce their going down and the host port
stops; 3, the record is written; 4, the rails begin to fall, and the package stops. -/
def removalStep (s : State) : State :=
  match s.dex.state, s.dex.removal with
  | .removing, some r =>
    match r.step with
    | 1 => if stepOneOver s then
        nextStep (HostLink.linkDown (ResetOps.announceDown s)) 3
      else s
    | 3 => nextStep (modDex s (fun d => { d with nvEvents := d.events, nvRecords := d.records })) 4
    | 4 => nextStep (modPower (railsOff s .removing) (fun p => { p with rails := .falling })) 5
    | _ => s
  | _, _ => s

/-- SAFE_REACHED: the rails have fallen (R488 step 5), once every step before has been taken; the module enters SAFE, or FAILED after a third
alarm (R454). -/
def safe (s : State) : State :=
  match s.dex.state, s.dex.removal with
  | .removing, some r =>
    if r.step == 5 then
      let s1 := modDex (modPower s (fun p => { p with rails := .off })) (fun d => { d with removal := none })
      if r.failed then declareFailed s1 else enterState s1 .safe
    else s
  | _, _ => s

/-! ## Meanings -/

/-- INPUT_VALID (R482). -/
def execInputValid (s : State) : Host.Outcome State Fault Refusal := .next (inputValid s)

/-- DEXHORN_BOOT (R484). -/
def execDexhornBoot (firmwareOk pufOk : Bool) (s : State) : Host.Outcome State Fault Refusal := .next (boot s firmwareOk pufOk)

/-- UNDERVOLTAGE_LOCKOUT (R482, R489). -/
def execUndervoltageLockout (s : State) : Host.Outcome State Fault Refusal := .next (powerLoss s)

/-- OVERVOLTAGE_LOCKOUT (R482, R489). -/
def execOvervoltageLockout (s : State) : Host.Outcome State Fault Refusal := .next (overvoltage s)

/-- OVERVOLTAGE_RELEASE (R482). -/
def execOvervoltageRelease (s : State) : Host.Outcome State Fault Refusal := .next (overRelease s)

/-- INPUT_EXCURSION (R524). -/
def execInputExcursion (mv us : Nat) (s : State) : Host.Outcome State Fault Refusal := .next (excursion s mv us)

/-- BREAKER_TRIP (R483). -/
def execBreakerTrip (mv : Nat) (s : State) : Host.Outcome State Fault Refusal := .next (breakerTrip s mv)

/-- INPUT_LOSS (R489, R481). -/
def execInputLoss (s : State) : Host.Outcome State Fault Refusal := .next (inputLoss s)

/-- PRESENCE_BREAK (R532). -/
def execPresenceBreak (s : State) : Host.Outcome State Fault Refusal := .next (presenceBreak s)

/-- RAIL_REGULATION_TIMEOUT (R485). -/
def execRailRegulationTimeout (rail mv : Nat) (s : State) : Host.Outcome State Fault Refusal := .next (railTimeout s rail mv)

/-- BRINGUP_PHASE_END (R486). -/
def execBringupPhaseEnd (phase : Nat) (r : PhaseResult) (s : State) : Host.Outcome State Fault Refusal := .next (phaseEnd s phase r)

/-- TIME_PHASE_END (R487). -/
def execTimePhaseEnd (s : State) : Host.Outcome State Fault Refusal := .next (timeEnd s)

/-- MOD_ATTN (R488): a graceful removal with the default REMOVE_WAIT. -/
def execModAttn (s : State) : Host.Outcome State Fault Refusal := .next (request s false 120)

/-- REMOVAL_START (R488). -/
def execRemovalStart (s : State) : Host.Outcome State Fault Refusal := .next (removalStart s)

/-- REMOVE_WAIT_EXPIRY (R488). -/
def execRemoveWaitExpiry (s : State) : Host.Outcome State Fault Refusal := .next (waitExpiry s)

/-- SAFE_REACHED (R488). -/
def execSafeReached (s : State) : Host.Outcome State Fault Refusal := .next (safe s)

end Sys2Proof.Machine.Powering
end

