-- ==== Sys2Proof/Machine/Mgmt.lean ====
section
/-! DEFINITION. Management over MCTP (R34, R46, R376, R437, R488, R490 to R497, R499). -/

namespace Sys2Proof.Machine.Mgmt

open Bits Ops Report

/-! ## Requests and responses (R490 to R493) -/

/-- Completion codes (R491). -/
def ok : Nat := 0
def badRequest : Nat := 1
def notSecured : Nat := 2
def busyCode : Nat := 3
def badState : Nat := 4

/-- The controller still carries an earlier command out (R492). -/
def busy (s : State) : Bool := match s.dex.busyTill with | some t => decide (s.ns ≤ t) | none => false

/-- The controller takes a command, and holds it for a time the spec leaves open (R492). -/
def take (s : State) : State := modDex (drawn s) (fun d => { d with busyTill := some (s.ns + Config.commandTime s.free) })

/-- The SPDM session a request came in. -/
def session (s : State) (m : MgmtHead) : Option Session := m.session.bind (fun id => Spdm.session? s id true)

/-- The request came in an SPDM session. -/
def secured (s : State) (m : MgmtHead) : Bool := (session s m).isSome

/-- The response to a request: sealed in its session, or in the clear (R491, R444). -/
def respond (s : State) (m : MgmtHead) (x : Option Session) (command code : Nat) (b : Bytes) : State :=
  Spdm.reply s x (.mgmt command m.seq code b) ([0x7E, 0x1F, 0x9E] ++ le 1 command ++ le 1 m.seq ++ le 1 code ++ b)

/-- Run a command: its response, with the state and the completion code and data that `f` gives; BUSY while another is carried out. -/
def run (s : State) (m : MgmtHead) (command : Nat) (f : State → State × Nat × Bytes) : State :=
  if !Spdm.served s m.i3c then s
  else if busy s then respond s m (session s m) command busyCode []
  else if !m.operandOk then respond s m (session s m) command badRequest []
  else let r := f (take s); respond r.1 m (session s m) command r.2.1 r.2.2

/-- A command marked S. -/
def runS (s : State) (m : MgmtHead) (command : Nat) (f : State → State × Nat × Bytes) : State :=
  if Spdm.served s m.i3c && !busy s && !secured s m then respond s m none command notSecured [] else run s m command f

/-- A command's answer without data. -/
def done (s : State) : State × Nat × Bytes := (s, ok, [])
def refuse (s : State) (code : Nat) : State × Nat × Bytes := (s, code, [])

/-! ## Status and records (R494 to R497) -/

def statusBytes (s : State) : Bytes :=
  le 1 (stateCode s.dex.state) ++ le 1 s.dex.gen ++ le 8 (Regs.rstStat s) ++ le 8 (Regs.secStat s) ++ le 8 (Regs.healthStat s.dex) ++
    le 8 (Regs.pwrStat s) ++ le 1 (Regs.timeCode s.ftime.state)

def records (s : State) (i : Nat) : State × Nat × Bytes :=
  if 256 ≤ i then refuse s badRequest else (s, ok, match s.dex.records[i]? with | some r => recBytes r | none => [])

/-! ## Power, removal, reset (R382, R397, R484, R488) -/

def powerOn (s : State) : State × Nat × Bytes :=
  if (s.dex.state == .standby || s.dex.state == .safe) && s.power.present then done (Powering.enableRails s) else refuse s badState

/-- The package is there to be reset (R382, R397, R502); in the other states RESET has no effect and is answered BAD_STATE (DESIGN CHOICE,
notes/assumptions/70.md). -/
def resettable (s : State) : Bool := s.dex.state == .ready || s.dex.state == .bringup

def reset (s : State) : State × Nat × Bytes := if resettable s then done (trigger s 8 3 0 false) else refuse s badState

def coldCycle (s : State) : State × Nat × Bytes := if resettable s then done (ResetOps.coldCycle s 3 0) else refuse s badState

def autostart (s : State) (v : Nat) : State × Nat × Bytes :=
  if 2 ≤ v then refuse s badRequest else done (modDex s (fun d => { d with autostart := v == 1 }))

/-! ## Plan and time (R34, R316, R494, R502) -/

/-- A port goes DOWN with cause 12 (R316), from any state. -/
def portDown (s : State) (p : Nat) : State :=
  if isUp s p then Link.down s p 12 else modPort s p (fun x => Link.cleared x 1 12 s.ns)

/-- The ports have been trained in this bring-up. -/
def trainedOnce (s : State) : Bool := s.dex.state == .ready || s.dex.state == .removing || (s.dex.state == .bringup && decide (7 ≤ s.dex.phase))

/-- A plan is installed: it is written to the non-volatile record, and every port retrains against it. -/
def install (s : State) (p : Plan) : State :=
  let all := List.range 27
  let s1 := if trainedOnce s then all.foldl portDown s else s
  let s2 := modDex s1 (fun d => { d with plan := some p })
  if trainedOnce s then all.foldl Link.train s2 else s2

/-- LOAD_PLAN: a part is held; with the last, the whole is checked against its digest. -/
def loadPlan (s : State) (x : PlanPart) (digestOk : Bool) : State × Nat × Bytes :=
  if !s.ctxs.isEmpty then refuse s badState
  else
    let b := s.dex.planParts ++ x.bytes
    match x.last with
    | none => done (modDex s (fun d => { d with planParts := b }))
    | some p =>
      let s1 := modDex s (fun d => { d with planParts := [] })
      if digestOk then done (install s1 { p with text := b }) else refuse s1 badRequest

/-- The module is the plan's time root. -/
def planRoot (s : State) : Bool := match s.dex.plan with | some p => p.timeRoot == p.module | none => false

def setTime (s : State) (v : Nat) : State × Nat × Bytes :=
  if planRoot s && Sensors.powered s && s.ftime.state == .free then
    done (modTime (Clock.setCount s (v % 18446744073709551616)) (fun t => { t with state := .locked, stratum := 0, rootId := moduleId s, parentPort := 31 }))
  else refuse s badState

def steerTime (s : State) (ppm : Int) : State × Nat × Bytes :=
  if !planRoot s then refuse s badState
  else if decide (10 < ppm ∨ ppm < -10) then refuse s badRequest
  else done (modTime s (fun t => { t with steerPpm := ppm, steerAcc := 0 }))

/-! ## Firmware (R436, R437) -/

/-- The fields of an image's header (R436). -/
def headField (b : Bytes) (off n : Nat) : Nat := ofLe ((b.drop off).take n)
def imageType (b : Bytes) : Nat := headField b 4 1
def imageSvn (b : Bytes) : Nat := headField b 6 2
def imageBody (b : Bytes) : BitVec 512 := BitVec.ofNat 512 (headField b 16 64)

/-- A whole image, header, body and signature, meets R436: its layout, REV, the fused minimum SVN, and the two checks. -/
def imageOk (s : State) (b : Bytes) (c : ImageCheck) : Bool :=
  b.take 4 == [0x4B, 0x58, 0x46, 0x57] && decide (1 ≤ imageType b ∧ imageType b ≤ 3 ∧ headField b 5 1 = 1) &&
    decide (SMap.val 0 s.sec.minSvn (imageType b) ≤ imageSvn b) && decide (b.length = 128 + headField b 8 8 + 4627) &&
    (b.drop 80).take 48 == zeros 48 && c.sigOk && c.digestOk

/-- STAGE_FIRMWARE: a part is held; with the last, the whole image is verified. -/
def stage (s : State) (x : ImagePart) : State × Nat × Bytes :=
  let b := s.sec.imageParts ++ x.bytes
  match x.last with
  | none => done (modSec s (fun y => { y with imageParts := b }))
  | some c =>
    let s1 := modSec s (fun y => { y with imageParts := [] })
    if imageOk s b c then done (modSec s1 (fun y => { y with staged := SMap.ins y.staged (imageType b) ⟨imageSvn b, imageBody b⟩ }))
    else refuse s1 badRequest

def raiseMin (s : State) (type svn : Nat) : State × Nat × Bytes :=
  if decide (1 ≤ type ∧ type ≤ 3) && Digest.svn s type == svn then
    done (modSec s (fun y => { y with minSvn := SMap.ins y.minSvn type (max svn (SMap.val 0 y.minSvn type)) }))
  else refuse s badRequest

/-! ## Settings held in the package (R376, R499) -/

def probation (s : State) (v : Nat) : State × Nat × Bytes :=
  if 2 ≤ v then refuse s badRequest
  else if !Sensors.powered s then refuse s badState
  else done { s with health := { s.health with probation := v == 1 } }

def powerLimit (s : State) (w : Nat) : State × Nat × Bytes :=
  if w < 300 ∨ 700 < w then refuse s badRequest
  else if !Sensors.powered s then refuse s badState
  else done (modGov s (fun g => { g with newLimit := some w }))

/-! ## Meanings -/

/-- GET_STATUS (R494). -/
def execGetStatus (m : MgmtHead) (s : State) : Host.Outcome State Fault Refusal := .next (run s m 0x01 (fun t => (t, ok, statusBytes t)))

/-- GET_TELEMETRY (R495). -/
def execGetTelemetry (m : MgmtHead) (s : State) : Host.Outcome State Fault Refusal :=
  .next (run s m 0x02 (fun t => (t, ok, padTo 64 t.power.telemetry)))

/-- GET_RECORDS (R494). -/
def execGetRecords (m : MgmtHead) (index : Nat) (s : State) : Host.Outcome State Fault Refusal := .next (run s m 0x03 (fun t => records t index))

/-- SUBSCRIBE (R497). -/
def execSubscribe (m : MgmtHead) (s : State) : Host.Outcome State Fault Refusal :=
  .next (runS s m 0x04 (fun t => done (modDex t (fun d => { d with subscriber := m.session }))))

/-- POWER_ON (R484, R494). -/
def execPowerOn (m : MgmtHead) (s : State) : Host.Outcome State Fault Refusal := .next (runS s m 0x10 powerOn)

/-- REMOVE in GRACEFUL mode (R488). -/
def execRemoveGraceful (m : MgmtHead) (waitS : Nat) (s : State) : Host.Outcome State Fault Refusal :=
  .next (runS s m 0x11 (fun t => done (Powering.request t false waitS)))

/-- REMOVE in FORCE mode (R488). -/
def execRemoveForce (m : MgmtHead) (waitS : Nat) (s : State) : Host.Outcome State Fault Refusal :=
  .next (runS s m 0x11 (fun t => done (Powering.request t true waitS)))

/-- RESET with operand 0 (R382). -/
def execResetPackage (m : MgmtHead) (s : State) : Host.Outcome State Fault Refusal :=
  .next (runS s m 0x12 reset)

/-- RESET with operand 1 (R397). -/
def execResetColdCycle (m : MgmtHead) (s : State) : Host.Outcome State Fault Refusal := .next (runS s m 0x12 coldCycle)

/-- SET_AUTOSTART (R494). -/
def execSetAutostart (m : MgmtHead) (v : Nat) (s : State) : Host.Outcome State Fault Refusal := .next (runS s m 0x13 (fun t => autostart t v))

/-- LOAD_PLAN (R316, R494). -/
def execLoadPlan (m : MgmtHead) (plan : PlanPart) (digestOk : Bool) (s : State) : Host.Outcome State Fault Refusal :=
  .next (runS s m 0x20 (fun t => loadPlan t plan digestOk))

/-- SET_TIME (R34). -/
def execSetTime (m : MgmtHead) (v : Nat) (s : State) : Host.Outcome State Fault Refusal := .next (runS s m 0x21 (fun t => setTime t v))

/-- STEER_TIME (R34). -/
def execSteerTime (m : MgmtHead) (ppm : Int) (s : State) : Host.Outcome State Fault Refusal := .next (runS s m 0x22 (fun t => steerTime t ppm))

/-- SCHED_WRITE over MCTP (R46, R496). -/
def execMgmtSchedWrite (m : MgmtHead) (e : SchedEntry) (s : State) : Host.Outcome State Fault Refusal :=
  .next (runS s m 0x23 (fun t => let r := Sched.write t e none; (r.1, ok, le 1 r.2)))

/-- SCHED_CANCEL over MCTP (R46). -/
def execMgmtSchedCancel (m : MgmtHead) (id : Nat) (s : State) : Host.Outcome State Fault Refusal :=
  .next (runS s m 0x24 (fun t => let r := Sched.cancel t id; (r.1, ok, le 1 r.2)))

/-- STAGE_FIRMWARE (R437). -/
def execStageFirmware (m : MgmtHead) (x : ImagePart) (s : State) : Host.Outcome State Fault Refusal := .next (runS s m 0x30 (fun t => stage t x))

/-- RAISE_MIN_SVN (R437). -/
def execRaiseMinSvn (m : MgmtHead) (type svn : Nat) (s : State) : Host.Outcome State Fault Refusal :=
  .next (runS s m 0x31 (fun t => raiseMin t type svn))

/-- SET_PROBATION (R376). -/
def execSetProbation (m : MgmtHead) (v : Nat) (s : State) : Host.Outcome State Fault Refusal := .next (runS s m 0x32 (fun t => probation t v))

/-- SET_POWER_LIMIT (R499). -/
def execSetPowerLimit (m : MgmtHead) (watts : Nat) (s : State) : Host.Outcome State Fault Refusal := .next (runS s m 0x33 (fun t => powerLimit t watts))

/-- An unlisted COMMAND (R494). -/
def execMgmtUnknownCommand (m : MgmtHead) (command : Nat) (s : State) : Host.Outcome State Fault Refusal :=
  .next (run s m command (fun t => refuse t badRequest))

/-- An MCTP control message (R490). -/
def execMctpControlMessage (onI3c : Bool) (body : Bytes) (s : State) : Host.Outcome State Fault Refusal :=
  .next (if Spdm.served s onI3c then emit s (.mctp (Config.mctpControl body)) else s)

/-- A message of another type is dropped (R490). -/
def execMctpUnsupportedType (_type : Nat) (s : State) : Host.Outcome State Fault Refusal := .next s

end Sys2Proof.Machine.Mgmt
end

