-- ==== Sys2Proof/Machine/SwapEnd.lean ====
section
/-! DEFINITION. The end of a spare-core swap (R85, R86): the role map changes, and what the cluster's router stop held for the core is
delivered in arrival order. -/

namespace Sys2Proof.Machine.Swaps

open Bits Ops Report

/-- An operation that was held for a core takes effect (R85). -/
def deliverHeld (s : State) (q : Nat) : StopOp → State
  | .act f fact p => FlagOps.act s q f fact p
  | .pkt p hits => if p.kind == 4 then Tracker.readData s p hits else (Tracker.writeData s p).1

/-- Deliver, in arrival order, what is held for a core (R85). -/
def release (s : State) (q : Nat) : State :=
  let mine := s.flags.held.filter (fun h => h.1 == q)
  mine.foldl (fun acc h => deliverHeld acc q h.2) (modFlags s (fun x => { x with held := x.held.filter (fun h => h.1 != q) }))

/-- The load check of the copied weights fails (R75, R86): class 0x10 names the weight load, and counts for the new physical core (R87). -/
def copyCheck (s : State) (q : Nat) (failed : Bool) : State :=
  if failed then
    let t := (SMap.val {} s.arrays q : ArrayCore).active
    countError (raise s { cls := 0x10, unit := unitCode 0 q, ctx := t.ctx, op := opField 1 0,
                          detail := detail [(40, le 1 (physOf s q)), (41, le 1 2), (42, le 2 (t.index)), (44, le 4 t.desc.tensor)] }
      (stepEffect s t.ctx)) q t.ctx 65536
  else s

/-- SWAP_COMPLETE (R86), once the array is drained and the spare's ramp has ended at level 64 (R73, R527): the role map changes, the freed core of a rotation goes to its test, residency is not charged (R178),
what the router stop held is delivered and the streams resume. `load` is a failed load check of the weights that were copied. -/
def complete (s : State) (n : Nat) (load : Bool) : State :=
  match SMap.look s.weevil.swaps n with
  | none => s
  | some w =>
    let q := 8 * n + w.logical
    if !drained s q || (Cicada.physAt s (9 * n + w.spare)).level != 64 then s
    else
      let old := physOf s q
      let k := 9 * n + w.spare
      let span := now s - w.startedAt
      let s1 := setRole s n (swapped (role s n) w)
      let s2 := modWeevil s1 (fun v => { v with
        swaps := SMap.del v.swaps n,
        testing := if w.rotation then SMap.ins v.testing old true else v.testing,
        testFrom := if w.rotation then SMap.ins v.testFrom old s.ns else v.testFrom })
      let s3 := modDex s2 (fun d => { d with decided := d.decided.filter (· != q) })
      let s4 := Cicada.setPhys s3 k { Cicada.physAt s3 k with ramp := 0 }
      let late := fun (t : StreamState) => { t with wait := t.wait.map (fun (v : WaitState) => { v with since := v.since + span }) }
      let s5 := { s4 with ctxs := SMap.mapVals (fun _ x => { x with cores := SMap.mapVals (fun i c =>
        if i == q && c.slot.isSome then mapStreams { c with enteredAt := c.enteredAt + span, quantumAt := c.quantumAt + span } late else c) x.cores }) s4.ctxs }
      copyCheck (rest (release s5 q) old) q load

/-! ## Meanings -/

/-- SWAP_COMPLETE (R86). -/
def execSwapComplete (x : SwapDone) (s : State) : Host.Outcome State Fault Refusal := .next (complete s x.cluster x.load)

end Sys2Proof.Machine.Swaps
end

