-- ==== Sys2Proof/Machine/Vector.lean ====
section
/-! DEFINITION. The vector stream engine in normal service (R125 to R150, R166): which operation is legal, its issue into the
engine's queue, and its completion, which computes and writes every result, the census and the counter. -/

namespace Sys2Proof.Machine.Vector

open Bits Ops Report Numeric Operand Issue VecMath

/-! ## What each code takes (R133, R135, R141 to R144, R166) -/

/-- FILL and IOTA have no operand. -/
def noData (code : Nat) : Bool := code == 0x0C || code == 0x0D

/-- MAND, MOR and MNOT. -/
def isMaskOp (code : Nat) : Bool := code == 0x38 || code == 0x39 || code == 0x3A

/-- Operand A is a mask stream. -/
def maskA (code : Nat) : Bool := isMaskOp code || code == 0x36

/-- Comparisons and ISFIN. -/
def isCompare (code : Nat) : Bool := decide (0x20 ≤ code ∧ code ≤ 0x24)

/-- The codes with an operand B. -/
def usesB (code : Nat) : Bool :=
  decide (1 ≤ code ∧ code ≤ 7) || code == 0x0B || code == 0x10 || code == 0x1F || decide (0x20 ≤ code ∧ code ≤ 0x23) ||
  code == 0x38 || code == 0x39

/-- Per-row reductions. -/
def isReduction (code : Nat) : Bool := decide (0x28 ≤ code ∧ code ≤ 0x2D)

/-- COMPRESS and COMPRESSR. -/
def isCompress (code : Nat) : Bool := code == 0x30 || code == 0x31

/-- EXPAND, EXPANDR, GATHER and GATHERR, which read a counter. -/
def isIndexed (code : Nat) : Bool := decide (0x32 ≤ code ∧ code ≤ 0x35)

/-- The forms that move whole rows. -/
def rowMode (code : Nat) : Bool := code == 0x31 || code == 0x33 || code == 0x35

/-- A mask M must be present. -/
def needsMask (code : Nat) : Bool := code == 0x0B || isCompress code

/-- A mask M may be present (R135). -/
def mayMask (code : Nat) : Bool := !noData code && code != 0x36 && !isIndexed code

/-- Stream E or operand C must be present. -/
def needsCe (code : Nat) : Bool := code == 0x04 || code == 0x2D || isIndexed code

/-- Stream E or operand C may be present. -/
def mayCe (code : Nat) : Bool := needsCe code || isCompress code

/-- Result D must be present. -/
def needsD (code : Nat) : Bool := !isCompress code

/-- The codes marked I in R133, but for FILL and IOTA. -/
def hasInt (code : Nat) : Bool :=
  code == 1 || code == 2 || code == 3 || decide (6 ≤ code ∧ code ≤ 9) || code == 0x0B || decide (0x20 ≤ code ∧ code ≤ 0x23) ||
  code == 0x28 || decide (0x2A ≤ code ∧ code ≤ 0x2E)

/-- The codes that only convert or move their operand. -/
def moves (code : Nat) : Bool := code == 0x0A || isCompress code || isIndexed code

/-- The formats of the data operands of an operation. -/
def dataFormats (op : VecOp) : List Nat :=
  ([op.a, op.b, if op.code == 0x04 then op.ce else none].filterMap id).filterMap
    (fun d => if d.kind == 1 then none else some d.format)

/-- The operation runs in the integer domain (R132). An operation that only moves integers keeps them exact. -/
def intDomain (op : VecOp) : Bool :=
  if noData op.code then (match op.d with | some d => isInt d.format | none => false)
  else (hasInt op.code || moves op.code) && (dataFormats op).all isInt

/-- Rows and columns of the operation's shape (R130). -/
def shape (op : VecOp) : Nat × Nat :=
  match (if noData op.code then op.d else op.a) with
  | some d => (d.rows, d.inner)
  | none => (0, 0)

/-! ## Legality (R125 to R132, R166) -/

/-- A descriptor that must be present, read from the table; `none` outside means illegal. -/
def fetch (s : State) (x : Ctx) (q : Nat) (present : Bool) (idx : Nat) : Option (Option StreamDesc) :=
  if present then (descAt s x q idx).map some else some none

/-- The enable bits fit the operation (R166). -/
def enables (code : Nat) (w : VecWord) : Bool :=
  (if w.men then mayMask code else !needsMask code) && (if w.cen then mayCe code else !needsCe code) &&
  (w.den || !needsD code) && (w.den || w.cen) && !(isMaskOp code && w.bsel) && (w.ctr == 0 || code != 0x36) &&
  decide (w.fact ≤ 2)

/-- Shape and kind of a data operand B (R130); MAND and MOR take a mask stream and nothing else (R133). -/
def bShape (op : VecOp) (b : StreamDesc) : Bool :=
  let (r, c) := shape op
  if isMaskOp op.code then b.kind == 1 && b.rows == r && b.inner == c
  else match b.kind with
  | 0 => b.rows == r && b.inner == c
  | 3 => b.rows == r && b.inner == 1
  | 4 => b.rows == 1 && b.inner == c
  | _ => false

/-- Shape of mask M: of the rows for COMPRESSR, of the elements otherwise (R130). -/
def mShape (op : VecOp) (m : StreamDesc) : Bool :=
  let (r, c) := shape op
  m.kind == 1 && (if op.code == 0x31 then m.rows == 1 && m.inner == r else m.rows == r && m.inner == c)

/-- Kind, format and shape of operand C or stream E (R130, R139, R141 to R144). -/
def ceShape (op : VecOp) (e : StreamDesc) : Bool :=
  let (r, c) := shape op
  if op.code == 0x04 then e.kind == 0 && e.rows == r && e.inner == c
  else if op.code == 0x2D then (e.kind == 0 || e.kind == 2) && e.format == 12 && e.rows == r && e.inner == 2
  else e.kind == 2 && (if rowMode op.code then e.rows == 1 && e.inner == r else true)

/-- Kind, format and shape of result D (R130, R133, R139 to R144). The manual names no KIND for the INT32 results of RARGMAX, MCOUNT and
RTOP2's E, nor for any other result: data or index for those, data for every other (DESIGN CHOICE, notes/assumptions/26.md). The model
converts an INT32 result to any format D names, FP32 included (R132 does not say that such a D is illegal; DESIGN CHOICE,
notes/assumptions/26.md). -/
def dShape (op : VecOp) (d : StreamDesc) : Bool :=
  let (r, c) := shape op
  if isCompare op.code || isMaskOp op.code then d.kind == 1 && d.rows == r && d.inner == c
  else if op.code == 0x2C || op.code == 0x36 then
    (d.kind == 0 || d.kind == 2) && d.format == 12 && d.rows == r && d.inner == 1
  else if isReduction op.code then d.kind == 0 && d.rows == r && d.inner == (if op.code == 0x2D then 2 else 1)
  else if isCompress op.code || isIndexed op.code then d.kind == 0 && (if rowMode op.code then d.inner == c else true)
  else d.kind == 0 && d.rows == r && d.inner == c

/-- Every stream is well formed, lies where R128 asks and is not X40 (R129). -/
def streamOk (q : Nat) (d : StreamDesc) : Bool := wfDesc d && placed q d && d.format != 13

/-- The result streams and the operand streams of an operation. -/
def results (op : VecOp) : List StreamDesc := [op.d, if op.code == 0x04 || isIndexed op.code then none else op.ce].filterMap id
def operands (op : VecOp) : List StreamDesc :=
  [op.a, op.b, if op.code == 0x04 || isIndexed op.code then op.ce else none, op.m].filterMap id

/-- No result meets an operand it is not identical to, and no two results meet (R129). -/
def disjoint (op : VecOp) : Bool :=
  (results op).all (fun r => (operands op).all (fun o => !meets (byteRange r) (byteRange o) || inPlace r o)) &&
  (match results op with | [a, b] => !meets (byteRange a) (byteRange b) | _ => true)

/-- KEEP would leave elements of an MX result unwritten (R129). -/
def keepsMx (op : VecOp) : Bool :=
  let mx := match op.d with | some d => d.kind != 1 && isMx d.format | none => false
  mx && !op.word.mmode &&
    ((op.m.isSome && op.code != 0x0B && !isCompress op.code) || op.code == 0x32 || op.code == 0x33)

/-- Formats of the operands and the domain (R132). -/
def domainOk (op : VecOp) : Bool := intDomain op || (dataFormats op).all (fun f => f != 12) || maskA op.code

/-- The operation an instruction names, when it is legal (R129, R166): descriptors read, the counter taken. -/
def legal (s : State) (r : Runner) (i : Issuer) (code : Nat) (w : VecWord) : Option VecOp :=
  let q := i.core
  match fetch s r.x q (!noData code) w.a, fetch s r.x q (usesB code && !w.bsel) w.b, fetch s r.x q w.cen w.ce,
        fetch s r.x q w.men w.m, fetch s r.x q w.den w.d with
  | some a, some b, some ce, some m, some d =>
    let op : VecOp := { ctx := r.c, slot := i.slot, stream := i.stream, serial := r.t.serial, pc := r.t.pc, code := code, word := w, a := a, b := b,
                        ce := ce, m := m, d := d, n := (counter r.k w.ctr).toNat }
    let every := fun (o : Option StreamDesc) (f : StreamDesc → Bool) => match o with | some y => streamOk q y && f y | none => true
    if enables code w && every a (fun y => y.kind == (if maskA code then 1 else 0)) && every b (bShape op) &&
       every ce (ceShape op) && every m (mShape op) && every d (dShape op) && domainOk op && disjoint op && !keepsMx op
    then some op else none
  | _, _, _, _, _ => none

/-! ## Issue (R159, R160, R163) -/

def queue (s : State) (q : Nat) : List VecOp := SMap.val [] s.vecq q
def setQueue (s : State) (q : Nat) (l : List VecOp) : State := { s with vecq := SMap.ins s.vecq q l }

/-- The engine carries its operations out one at a time, in order: the first of its queue starts once it finds the window of the governor's
share open (R499). An operation that is being carried out still holds its place in the queue of 8 (R159; DESIGN CHOICE, notes/assumptions/83.md). -/
def startNext (s : State) : List VecOp → List VecOp
  | [] => []
  | op :: rest =>
    if op.started.isNone && windowOpen s (vectorShare (level s)) then { op with started := some (cycle s) } :: rest else op :: rest

/-- A cycle begins: the engines start what waits for a window that has opened. -/
def tick (s : State) : State := { s with vecq := SMap.mapVals (fun _ l => startNext s l) s.vecq }

/-- The descriptors an operation names. -/
def named (code : Nat) (w : VecWord) : List Nat :=
  (if noData code then [] else [w.a]) ++ (if usesB code && !w.bsel then [w.b] else []) ++ (if w.cen then [w.ce] else []) ++
    (if w.men then [w.m] else []) ++ (if w.den then [w.d] else [])

/-- A legal operation enters the engine's queue; its descriptors are read (R127, R150). -/
def enqueue (s : State) (i : Issuer) (r : Runner) (op : VecOp) : State :=
  let ds := named op.code op.word
  let s0 := descRead (noted s i) r.x i.core ds { unit := unitCode 1 i.core, ctx := r.c, stream := some i.stream, op := opField 2 op.code }
  let s1 := launched (setQueue s0 i.core (startNext s (queue s0 i.core ++ [{ op with tainted := descBad s0 r.x i.core ds }]))) r.c i
  if isCompress op.code then modStream s1 r.c i.core i.stream (fun t => { t with ctrBusy := t.ctrBusy ++ [op.word.ctr] }) else s1

/-- The issue of a vector stream operation (R159, R160): one that is not legal takes the response of R163. -/
def vector (s : State) (i : Issuer) (code : Nat) (w : VecWord) : State :=
  issue s i (.vec code w) (fun r =>
    match legal s r i code w with
    | none => rejectRead s i r 2 code (named code w)
    | some op => enqueue s i r op)

/-! ## Results (R112, R130 to R145, R150) -/

/-- An element as an operand: its value, and whether it depends on a corrupted word. -/
structure Opnd where
  v : Val
  bad : Bool := false

/-- The scalar S as an operand in the operation's domain (R131). -/
def scalar (op : VecOp) : Val :=
  if intDomain op then ofInt (toSigned 32 op.word.s.toNat) else fp32.decode op.word.s.toNat

/-- Element c of row r of a stream as an operand; a mask bit is the number 0 or 1. -/
def readElem (s : State) (d : StreamDesc) (r c : Nat) : Opnd :=
  ⟨if d.kind == 1 then ofInt (if maskBit s d r c then 1 else 0) else elem s d r c, elemBad s d r c⟩

/-- Element c of row r of operand A. -/
def readA (s : State) (op : VecOp) (r c : Nat) : Opnd :=
  match op.a with
  | some d => let e := readElem s d r c; ⟨e.v, e.bad || op.tainted⟩
  | none => ⟨.fin false 0 0, op.tainted⟩

/-- Element c of row r of operand B: a full stream, a broadcast, or S (R130, R131). -/
def readB (s : State) (op : VecOp) (r c : Nat) : Opnd :=
  match op.b with
  | none => ⟨scalar op, false⟩
  | some d =>
    let e := if d.kind == 3 then readElem s d r 0 else if d.kind == 4 then readElem s d 0 c else readElem s d r c
    ⟨e.v, e.bad || op.tainted⟩

/-- Element c of row r of operand C of FMA. -/
def readC (s : State) (op : VecOp) (r c : Nat) : Opnd :=
  match op.ce with
  | some d => if op.code == 0x04 then ⟨elem s d r c, elemBad s d r c⟩ else ⟨.fin false 0 0, false⟩
  | none => ⟨.fin false 0 0, false⟩

/-- Bit c of row r of mask M; 1 without a mask. -/
def maskAt (s : State) (op : VecOp) (r c : Nat) : Bool := match op.m with | some m => maskBit s m r c | none => true

/-- The mask bit depends on a corrupted word. -/
def maskBad (s : State) (op : VecOp) (r c : Nat) : Bool := match op.m with | some m => elemBad s m r c || op.tainted | none => false

/-- One place of a result row: what goes there, whether it is written, and whether its mask bit is 0. -/
structure Item where
  raw : Raw
  written : Bool := true
  masked : Bool := false

/-- A place whose mask bit is 0 (R135): kept, or written as +0 without being computed. -/
def maskedItem (op : VecOp) (int : Bool) : Item := { raw := zero int, written := op.word.mmode, masked := true }

/-- The result of an elementwise code at row r, column c (R132 to R134). -/
def element (s : State) (op : VecOp) (int : Bool) (r c : Nat) : Item :=
  let w := op.word
  if noData op.code && op.tainted then { raw := .bad }
  else if op.code == 0x0C then { raw := if int then .int (toSigned 32 w.s.toNat) false else .f32 w.s.toNat false }
  else if op.code == 0x0D then { raw := if int then .int c false else ofPair (toF32 w.ovf (moved (ofInt c))) }
  else
    let a := readA s op r c
    let b := if usesB op.code then readB s op r c else ⟨.fin false 0 0, false⟩
    if op.code == 0x0B then
      let p := if maskAt s op r c then a else b
      { raw := if p.bad || maskBad s op r c then .bad else moveVal int w.ovf p.v }
    else if maskBad s op r c then { raw := .bad }
    else if !maskAt s op r c then maskedItem op int
    else
      let cc := readC s op r c
      if a.bad || b.bad || cc.bad then { raw := .bad }
      else { raw := compute int op.code w.ovf a.v b.v cc.v (scalar op) }

/-- A bit of a mask result at row r, column c; a bit that depends on a corrupted word is 0. -/
def maskElement (s : State) (op : VecOp) (r c : Nat) : Item :=
  let a := readA s op r c
  let b := if usesB op.code then readB s op r c else ⟨.fin false 0 0, false⟩
  if maskBad s op r c then { raw := .int 0 false }
  else if !maskAt s op r c then maskedItem op true
  else if a.bad || b.bad then { raw := .int 0 false }
  else
    let bitOf := fun (v : Val) => intOf v == 1
    let v := match op.code with
      | 0x38 => bitOf a.v && bitOf b.v
      | 0x39 => bitOf a.v || bitOf b.v
      | 0x3A => !bitOf a.v
      | _ => compare' op.code a.v b.v
    { raw := .int (if v then 1 else 0) false }

/-- The unmasked elements of a row with their columns, and whether one of them, or a mask bit, is corrupted. -/
def unmasked (s : State) (op : VecOp) (r : Nat) : List (Val × Nat) × Bool :=
  let cols := (List.range (shape op).2).filter (fun c => maskAt s op r c || maskBad s op r c)
  (cols.map (fun c => ((readA s op r c).v, c)), cols.any (fun c => (readA s op r c).bad || maskBad s op r c))

/-- A row of a reduction: places of D and of E (R135, R137 to R139). -/
def reductionRow (s : State) (op : VecOp) (int : Bool) (r : Nat) : List Item × List Item :=
  let u := unmasked s op r
  let res := reduce int op.code op.word.ovf u.1
  let put := fun (l : List Raw) => l.map (fun x => ({ raw := if u.2 then .bad else x } : Item))
  (put res.1, put res.2)

/-- A row of SCAN (R140). -/
def scanRow (s : State) (op : VecOp) (int : Bool) (r : Nat) : List Item :=
  let cols := List.range (shape op).2
  let xs := cols.map (fun c =>
    if maskAt s op r c || maskBad s op r c then
      some ((readA s op r c).v, (readA s op r c).bad || maskBad s op r c) else none)
  let sums := scanRaw int op.word.ovf (zero int) xs
  (cols.zip sums).map (fun p => if maskAt s op r p.1 || maskBad s op r p.1 then { raw := p.2 } else maskedItem op int)

/-- The count of 1 bits of a row of mask A. -/
def countRow (s : State) (op : VecOp) (r : Nat) : List Item :=
  let cols := List.range (shape op).2
  let n := (cols.filter (fun c => intOf (readA s op r c).v == 1)).length
  [{ raw := if cols.any (fun c => (readA s op r c).bad) then .bad else .int n false }]

/-! ## Writing results (R109 to R111, R118, R135, R136, R142) -/

/-- A raw result as an element of a format. -/
def toElem (fmt : Nat) (ovf : Bool) : Raw → Elem
  | .f32 c st => fromF32 fmt ovf c st
  | .int x st => fromInt fmt ovf x st
  | .bad => badElem fmt

/-- A raw result as an FP32 code, for an MX block. -/
def toCode (ovf : Bool) : Raw → Nat × Bool
  | .f32 c st => (c, st)
  | .int x st => let y := encode fp32 ovf (ofInt x); (y.1, st || y.2)
  | .bad => (fp32.nanCode, false)

/-- What a write has gathered: bytes and counts. -/
abbrev Gather := SMap Byte × Count

/-- An element whose mask bit is 0 raises no saturation and no non-finite count (R135). -/
def countOf (e : Elem) (masked : Bool) : Elem := if masked then { e with sat := false, nonfinite := false } else e

/-- Write the places of one row from column c0 on; `d` is not MX. -/
def putRow (s : State) (ovf : Bool) (d : StreamDesc) (r c0 : Nat) (items : List Item) (acc : Gather) : Gather :=
  items.zipIdx.foldl (fun acc p =>
    if p.1.written then
      let e := toElem d.format ovf p.1.raw
      (putElem s d acc.1 r (c0 + p.2) e.code, acc.2.add (countOf e p.1.masked))
    else acc) acc

/-- Write one MX block of a row: block b from 32 places. A place that is not written enters the block's scale as +0 and keeps its code
(DESIGN CHOICE, notes/assumptions/27.md). -/
def putBlock (s : State) (ovf : Bool) (d : StreamDesc) (r b : Nat) (items : List Item) (acc : Gather) : Gather :=
  let x := fromBlock d.format (items.map (fun i => toCode ovf i.raw))
  let ps := (x.2.zip items).zipIdx.filter (fun p => p.1.2.written)
  (putScale d (ps.foldl (fun m p => putElem s d m r (32 * b + p.2) p.1.1.code) acc.1) r b x.1,
   ps.foldl (fun n p => n.add (countOf p.1.1 p.1.2.masked)) acc.2)

/-- Lists of 32. -/
def blocks32 : Nat → List Item → List (List Item)
  | 0, _ => []
  | n + 1, l => if l.isEmpty then [] else l.take 32 :: blocks32 n (l.drop 32)

/-- Write a whole row of a result. -/
def writeRow (s : State) (ovf : Bool) (d : StreamDesc) (r : Nat) (items : List Item) (acc : Gather) : Gather :=
  if d.kind != 1 && isMx d.format then
    (blocks32 items.length items).zipIdx.foldl (fun acc b => putBlock s ovf d r b.2 b.1 acc) acc
  else putRow s ovf d r 0 items acc

/-- Write the bits of one row of a mask result. -/
def writeBits (s : State) (d : StreamDesc) (r : Nat) (items : List Item) (ov : SMap Byte) : SMap Byte :=
  items.zipIdx.foldl (fun m p =>
    if p.1.written then putElem s d m r p.2 (match p.1.raw with | .int 1 _ => 1 | _ => 0) else m) ov

/-! ## Compress, expand and gather (R141 to R145) -/

/-- The places of an MX block when those of a map are written. -/
def blockItems (int : Bool) (m : SMap Raw) (b : Nat) : List Item :=
  (List.range 32).map (fun j => match SMap.look m (32 * b + j) with
    | some x => { raw := x }
    | none => { raw := zero int, written := false })

/-- The writes of a list that a later one replaces (R143). -/
def replaced : List (Nat × Raw) → List (Nat × Raw)
  | [] => []
  | p :: l => if l.any (fun x => x.1 == p.1) then p :: replaced l else replaced l

/-- What the census counts of a write into an MX block that a later one replaces: its element as the block would hold it (R118, R143;
DESIGN CHOICE, notes/assumptions/27.md). -/
def countReplaced (ovf int : Bool) (d : StreamDesc) (m : SMap Raw) (n : Count) (p : Nat × Raw) : Count :=
  let x := fromBlock d.format ((blockItems int (SMap.ins m p.1 p.2) (p.1 / 32)).map (fun i => toCode ovf i.raw))
  n.add (x.2.getD (p.1 % 32) {code := 0})

/-- The places that a flat result writes: flat index and raw result, in the order of writing. Each is written and counted, and a later one
replaces an earlier one (R136, R143). -/
def writeFlat (s : State) (ovf : Bool) (d : StreamDesc) (int : Bool) (ps : List (Nat × Raw)) (acc : Gather) : Gather :=
  if isMx d.format then
    let m := ps.foldl (fun (m : SMap Raw) p => SMap.ins m p.1 p.2) []
    let blocks := (m.map (fun p => p.1 / 32)).foldl (fun l b => if l.contains b then l else l ++ [b]) []
    let per := d.inner / 32
    let g := blocks.foldl (fun acc b => putBlock s ovf d (b / per) (b % per) (blockItems int m b) acc) acc
    (g.1, (replaced ps).foldl (countReplaced ovf int d m) g.2)
  else ps.foldl (fun acc p => putRow s ovf d (p.1 / d.inner) (p.1 % d.inner) [{ raw := p.2 }] acc) acc

/-- The outcome of an operation: bytes to write, the counts by tensor, the counter's value, CAPACITY and INDEX_FAULT. -/
structure Outcome' where
  bytes : SMap Byte := []
  counts : List (Nat × Count) := []
  ctr : Option Nat := none
  capacity : Bool := false
  fault : Bool := false

/-- Capacity of result D of a compress, in elements or rows, and of E (R142). -/
def capD (code : Nat) (d : StreamDesc) : Nat := if rowMode code then d.rows else d.rows * d.inner
def capE (e : StreamDesc) : Nat := e.inner

/-- The places of row k of D when it takes row r of A. -/
def movedRow (s : State) (op : VecOp) (int : Bool) (r : Nat) : List Item :=
  (List.range (shape op).2).map (fun c =>
    let a := readA s op r c
    { raw := if a.bad then .bad else moveVal int op.word.ovf a.v })

/-- Elements per packing group that must be completed with +0 (R142). -/
def group (fmt : Nat) : Nat := if isMx fmt then 32 else if width fmt == 4 then 2 else 1

/-- COMPRESS and COMPRESSR (R141, R142). A mask bit of a corrupted word reads as 0, and every place from it on depends on it (R150; DEDUCED,
notes/assumptions/28.md). -/
def compressAll (s : State) (op : VecOp) (int : Bool) : Outcome' :=
  let (rows, cols) := shape op
  let rm := rowMode op.code
  let total := if rm then rows else rows * cols
  let bad := fun k => if rm then maskBad s op 0 k else maskBad s op (k / cols) (k % cols)
  let sel := fun k => !bad k && (if rm then maskAt s op 0 k else maskAt s op (k / cols) (k % cols))
  let firstBad := ((List.range total).find? bad).getD total
  let chosen := (List.range total).filter sel
  let n := chosen.length
  let lim := min (match op.d with | some d => capD op.code d | none => n) (match op.ce with | some e => capE e | none => n)
  let kept := chosen.take lim
  let raw := fun k =>
    let a := readA s op (k / cols) (k % cols)
    if a.bad || decide (firstBad ≤ k) then Raw.bad else moveVal int op.word.ovf a.v
  let dPart : Gather := match op.d with
    | none => ([], {})
    | some d =>
      if rm then kept.zipIdx.foldl (fun acc p =>
        let items := (movedRow s op int p.1).map (fun i => if firstBad ≤ p.1 then { i with raw := .bad } else i)
        writeRow s op.word.ovf d p.2 items acc) ([], {})
      else
        let g := group d.format
        let fillTo := min (capD op.code d) (g * ceilDiv kept.length g)
        let pads := (List.range (fillTo - kept.length)).map (fun j => (kept.length + j, zero int))
        writeFlat s op.word.ovf d int (kept.zipIdx.map (fun p => (p.2, raw p.1)) ++ pads) ([], {})
  let ePart : Gather := match op.ce with
    | none => ([], {})
    | some e => writeFlat s op.word.ovf e true
        (kept.zipIdx.map (fun p => (p.2, if firstBad ≤ p.1 then Raw.bad else Raw.int p.1 false))) (dPart.1, {})
  { bytes := if op.ce.isSome then ePart.1 else dPart.1,
    counts := (match op.d with | some d => [(d.tensor, dPart.2)] | none => []) ++
              (match op.ce with | some e => [(e.tensor, ePart.2)] | none => []),
    ctr := some n, capacity := decide (lim < n) }

/-- The indices of an indexed operation in order, up to the first that faults, and whether one faults (R145). An n beyond the length of A
or E faults before anything is written (DESIGN CHOICE, notes/assumptions/27.md). -/
def indices (s : State) (op : VecOp) (lenA lenD : Nat) : List (Nat × Nat) × Bool :=
  match op.ce with
  | none => ([], false)
  | some e =>
    let lenE := e.rows * e.inner
    let bound := if op.code == 0x32 || op.code == 0x33 then lenD else lenA
    let room := if op.code == 0x32 || op.code == 0x33 then lenA else lenD
    if decide (lenA < op.n) || decide (lenE < op.n) then ([], true)
    else
      let at' := fun k => elemInt s e (k / e.inner) (k % e.inner)
      let ok := fun k => decide (0 ≤ at' k ∧ at' k < bound ∧ k < room)
      let good := (List.range op.n).takeWhile ok
      (good.map (fun k => (k, (at' k).toNat)), decide (good.length < op.n))

/-- EXPAND, EXPANDR, GATHER and GATHERR (R143 to R145). -/
def indexedAll (s : State) (op : VecOp) (int : Bool) : Outcome' :=
  match op.d, op.ce with
  | some d, some e =>
    let (rows, cols) := shape op
    let rm := rowMode op.code
    let expand := op.code == 0x32 || op.code == 0x33
    let lenA := if rm then rows else rows * cols
    let lenD := if rm then d.rows else d.rows * d.inner
    let ix := indices s op lenA lenD
    let badIx := fun k => elemBad s e (k / e.inner) (k % e.inner) || op.tainted
    -- source and destination of each k
    let pairs := ix.1.map (fun p => (p.1, if expand then (p.1, p.2) else (p.2, p.1)))
    let fill := expand && op.word.mmode && !ix.2
    let named := fun j => pairs.any (fun p => p.2.2 == j)
    let g : Gather :=
      if rm then
        let acc := pairs.foldl (fun acc p =>
          let items := (movedRow s op int p.2.1).map (fun i => if badIx p.1 then { i with raw := .bad } else i)
          writeRow s op.word.ovf d p.2.2 items acc) ([], {})
        if fill then (List.range lenD).foldl (fun acc j =>
          if named j then acc else writeRow s op.word.ovf d j (List.replicate d.inner { raw := zero int }) acc) acc else acc
      else
        let vals := pairs.map (fun p =>
          let a := readA s op (p.2.1 / cols) (p.2.1 % cols)
          (p.2.2, if a.bad || badIx p.1 then Raw.bad else moveVal int op.word.ovf a.v))
        let rest := if fill then ((List.range lenD).filter (fun j => !named j)).map (fun j => (j, zero int)) else []
        writeFlat s op.word.ovf d int (vals ++ rest) ([], {})
    { bytes := g.1, counts := [(d.tensor, g.2)], fault := ix.2 }
  | _, _ => {}

/-- Every result of an operation. -/
def outcome (s : State) (op : VecOp) : Outcome' :=
  let int := intDomain op
  let (rows, cols) := shape op
  let ovf := op.word.ovf
  if isCompress op.code then compressAll s op int
  else if isIndexed op.code then indexedAll s op int
  else match op.d with
    | none => {}
    | some d =>
      if d.kind == 1 then
        { bytes := (List.range rows).foldl (fun m r => writeBits s d r ((List.range cols).map (maskElement s op r)) m) [] }
      else
        let row := fun r =>
          if isReduction op.code then (reductionRow s op int r).1
          else if op.code == 0x2E then scanRow s op int r
          else if op.code == 0x36 then countRow s op r
          else (List.range cols).map (element s op int r)
        let g := (List.range rows).foldl (fun acc r => writeRow s ovf d r (row r) acc) (([], {}) : Gather)
        match op.code, op.ce with
        | 0x2D, some e =>
          let h := (List.range rows).foldl (fun acc r => writeRow s ovf e r (reductionRow s op int r).2 acc) ((g.1, {}) : Gather)
          { bytes := h.1, counts := [(d.tensor, g.2), (e.tensor, h.2)] }
        | _, _ => { bytes := g.1, counts := [(d.tensor, g.2)] }

/-! ## Completion (R146, R147, R149, R150) -/

/-- The rows that a row-mode operation moves (R141 to R146): none into a D that is absent, none beyond a capacity, none from an index that
faults on. -/
def rowsMoved (s : State) (op : VecOp) : Nat :=
  match op.d with
  | none => 0
  | some d =>
    let rows := (shape op).1
    if op.code == 0x31 then
      let n := ((List.range rows).filter (fun r => maskAt s op 0 r && !maskBad s op 0 r)).length
      min n (min d.rows (match op.ce with | some e => capE e | none => n))
    else (indices s op rows d.rows).1.length

/-- The least number of cycles from the start to completion (R146); w is set by the data streams alone. The row data moved by COMPRESSR,
EXPANDR and GATHERR are counted in A's bytes, and their division rounds once (DESIGN CHOICE, notes/assumptions/83.md). -/
def minCycles (s : State) (op : VecOp) : Nat :=
  let (rows, cols) := shape op
  let wide := ([op.a, op.b, op.ce, op.d].filterMap id).any (fun d => d.kind != 1 && d.kind != 2 && width d.format == 32)
  let steps := ceilDiv cols (if wide then 256 else 512)
  let c := op.code
  let slow := decide (0x10 ≤ c ∧ c ≤ 0x13) || decide (0x18 ≤ c ∧ c ≤ 0x1F)
  let rb := match op.a with | some d => rowBytes d | none => 0
  if rowMode c then 24 + ceilDiv (rowsMoved s op * rb) 1024
  else 24 + rows * ((if slow then 4 else 1) * steps) + (if isReduction c then 12 else 0)

/-- A CHECK_FLIP drill acts on the first block written (R370). -/
def flipCheck (s : State) (q : Nat) (bytes : SMap Byte) : State :=
  if SMap.val false s.mem.flipCheck q then
    match bytes with
    | [] => s
    | (a, _) :: _ =>
      modErr (modMem s (fun m => { m with flipCheck := SMap.del m.flipCheck q, badCheck := SMap.ins m.badCheck (a / 512) true }))
        (fun e => { e with drilled := (1, a / 512) :: e.drilled })
  else s

/-- The requester named by the records of an operation. -/
def requester (q : Nat) (op : VecOp) : Mem.Req :=
  { unit := unitCode 1 q, ctx := op.ctx, stream := some op.stream, op := opField 2 op.code }

/-- Read every operand, raising what the codes report (R150), whole, also the elements that no result uses (DESIGN CHOICE,
notes/assumptions/83.md). -/
def readAll (s : State) (q : Nat) (op : VecOp) : State :=
  (operands op).foldl (fun acc d => loadAll acc d (requester q op)) s

/-- Apply the counts of an operation's writes to the census (R118, R149). -/
def censusAll (s : State) (q : Nat) (op : VecOp) (cs : List (Nat × Count)) : State :=
  cs.foldl (fun acc c => censusAdd acc op.ctx c.1 c.2 false op.word.ovf (requester q op)) s

/-- A result depends on a corrupted word: the step fails (R150, R224). -/
def tainted (s : State) (op : VecOp) : Bool := op.tainted || (operands op).any (anyBad s)

/-- The operation as a redundant pair's comparator names it (R363). -/
def site (q : Nat) (op : VecOp) : Pairs.Site :=
  { unit := unitCode 1 q, q := q, ctx := op.ctx, stream := op.stream, op := opField 2 op.code, pc := op.pc,
    tensor := match op.d with | some d => d.tensor | none => match op.ce with | some e => e.tensor | none => 0 }

/-- The oldest operation of an engine completes, reading its operands as it does (DESIGN CHOICE, notes/assumptions/83.md): results, census, counter, status and flag action; an INDEX_FAULT takes the
response of an illegal instruction (R145, R163). -/
def vectorComplete (s : State) (q : Nat) (hits : List CodeHit) (pair : Option PairFault) : State :=
  match queue s q with
  | [] => s
  | op :: rest =>
    if Order.turn 4 s && nextToComplete s q (4 * op.slot + op.stream, op.serial) && op.started.any (fun t => decide (t + minCycles s op ≤ cycle s)) then
      let s0 := Mem.inject s hits (requester q op)
      let o := outcome s0 op
      let s1 := readAll (setQueue s0 q (startNext s rest)) q op
      let w := Pairs.bytes s1 (site q op) o.bytes pair
      let s2 := flipCheck (Mem.storeMap w.1 w.2 (requester q op)) q w.2
      let s3 := censusAll s2 q op o.counts
      let s4 := if tainted s0 op then setFail s3 op.ctx 3 else s3
      let s5 := match o.ctr with
        | some n => modStream (if op.ctrDead then s4 else setCounter s4 op.ctx q op.word.ctr (BitVec.ofNat 32 n)) op.ctx q op.stream
            (fun t => { t with ctrBusy := t.ctrBusy.erase op.word.ctr })
        | none => s4
      let sat := o.counts.any (fun c => decide (0 < c.2.saturated))
      let nf := o.counts.any (fun c => decide (0 < c.2.nonfinite))
      let bits := flagBit sat bSaturated ||| flagBit nf bNonfinite ||| flagBit o.capacity bCapacity
      let y := Pairs.action s5 (site q op) op.word.fact op.word.flag pair
      let s6 := complete y.1 op.ctx q op.stream bits op.word.fact y.2
      if o.fault then illegal s6 op.ctx q op.stream op.pc (opField 2 op.code) else s6
    else s

/-! ## Meanings -/

/-- ADD (R133). -/
def execAdd (i : Issuer) (w : VecWord) (s : State) : Host.Outcome State Fault Refusal := .next (vector s i 0x01 w)

/-- SUB (R133). -/
def execSub (i : Issuer) (w : VecWord) (s : State) : Host.Outcome State Fault Refusal := .next (vector s i 0x02 w)

/-- MUL (R133). -/
def execMul (i : Issuer) (w : VecWord) (s : State) : Host.Outcome State Fault Refusal := .next (vector s i 0x03 w)

/-- FMA (R133). -/
def execFma (i : Issuer) (w : VecWord) (s : State) : Host.Outcome State Fault Refusal := .next (vector s i 0x04 w)

/-- AXPY (R133). -/
def execAxpy (i : Issuer) (w : VecWord) (s : State) : Host.Outcome State Fault Refusal := .next (vector s i 0x05 w)

/-- MAX (R134). -/
def execMaxOp (i : Issuer) (w : VecWord) (s : State) : Host.Outcome State Fault Refusal := .next (vector s i 0x06 w)

/-- MIN (R134). -/
def execMinOp (i : Issuer) (w : VecWord) (s : State) : Host.Outcome State Fault Refusal := .next (vector s i 0x07 w)

/-- ABS (R133). -/
def execAbsOp (i : Issuer) (w : VecWord) (s : State) : Host.Outcome State Fault Refusal := .next (vector s i 0x08 w)

/-- NEG (R133). -/
def execNeg (i : Issuer) (w : VecWord) (s : State) : Host.Outcome State Fault Refusal := .next (vector s i 0x09 w)

/-- CVT (R133). -/
def execCvt (i : Issuer) (w : VecWord) (s : State) : Host.Outcome State Fault Refusal := .next (vector s i 0x0A w)

/-- SELECT (R133). -/
def execSelect (i : Issuer) (w : VecWord) (s : State) : Host.Outcome State Fault Refusal := .next (vector s i 0x0B w)

/-- FILL (R132). -/
def execFill (i : Issuer) (w : VecWord) (s : State) : Host.Outcome State Fault Refusal := .next (vector s i 0x0C w)

/-- IOTA (R132). -/
def execIota (i : Issuer) (w : VecWord) (s : State) : Host.Outcome State Fault Refusal := .next (vector s i 0x0D w)

/-- DIV (R536). -/
def execDiv (i : Issuer) (w : VecWord) (s : State) : Host.Outcome State Fault Refusal := .next (vector s i 0x10 w)

/-- RECIP (R536). -/
def execRecip (i : Issuer) (w : VecWord) (s : State) : Host.Outcome State Fault Refusal := .next (vector s i 0x11 w)

/-- SQRT (R536). -/
def execSqrt (i : Issuer) (w : VecWord) (s : State) : Host.Outcome State Fault Refusal := .next (vector s i 0x12 w)

/-- RSQRT (R536). -/
def execRsqrt (i : Issuer) (w : VecWord) (s : State) : Host.Outcome State Fault Refusal := .next (vector s i 0x13 w)

/-- EXP (R133). -/
def execExp (i : Issuer) (w : VecWord) (s : State) : Host.Outcome State Fault Refusal := .next (vector s i 0x18 w)

/-- LOG (R536). -/
def execLog (i : Issuer) (w : VecWord) (s : State) : Host.Outcome State Fault Refusal := .next (vector s i 0x19 w)

/-- TANH (R133). -/
def execTanh (i : Issuer) (w : VecWord) (s : State) : Host.Outcome State Fault Refusal := .next (vector s i 0x1A w)

/-- SIGMOID (R133). -/
def execSigmoid (i : Issuer) (w : VecWord) (s : State) : Host.Outcome State Fault Refusal := .next (vector s i 0x1B w)

/-- ERF (R133). -/
def execErf (i : Issuer) (w : VecWord) (s : State) : Host.Outcome State Fault Refusal := .next (vector s i 0x1C w)

/-- SILU (R133). -/
def execSilu (i : Issuer) (w : VecWord) (s : State) : Host.Outcome State Fault Refusal := .next (vector s i 0x1D w)

/-- GELU (R133). -/
def execGelu (i : Issuer) (w : VecWord) (s : State) : Host.Outcome State Fault Refusal := .next (vector s i 0x1E w)

/-- EXPSUB (R133). -/
def execExpsub (i : Issuer) (w : VecWord) (s : State) : Host.Outcome State Fault Refusal := .next (vector s i 0x1F w)

/-- CMPLT (R134). -/
def execCmplt (i : Issuer) (w : VecWord) (s : State) : Host.Outcome State Fault Refusal := .next (vector s i 0x20 w)

/-- CMPLE (R134). -/
def execCmple (i : Issuer) (w : VecWord) (s : State) : Host.Outcome State Fault Refusal := .next (vector s i 0x21 w)

/-- CMPEQ (R134). -/
def execCmpeq (i : Issuer) (w : VecWord) (s : State) : Host.Outcome State Fault Refusal := .next (vector s i 0x22 w)

/-- CMPNE (R134). -/
def execCmpne (i : Issuer) (w : VecWord) (s : State) : Host.Outcome State Fault Refusal := .next (vector s i 0x23 w)

/-- ISFIN (R133). -/
def execIsfin (i : Issuer) (w : VecWord) (s : State) : Host.Outcome State Fault Refusal := .next (vector s i 0x24 w)

/-- RSUM (R137). -/
def execRsum (i : Issuer) (w : VecWord) (s : State) : Host.Outcome State Fault Refusal := .next (vector s i 0x28 w)

/-- RSUMSQ (R138). -/
def execRsumsq (i : Issuer) (w : VecWord) (s : State) : Host.Outcome State Fault Refusal := .next (vector s i 0x29 w)

/-- RMAX (R139). -/
def execRmax (i : Issuer) (w : VecWord) (s : State) : Host.Outcome State Fault Refusal := .next (vector s i 0x2A w)

/-- RMIN (R139). -/
def execRmin (i : Issuer) (w : VecWord) (s : State) : Host.Outcome State Fault Refusal := .next (vector s i 0x2B w)

/-- RARGMAX (R139). -/
def execRargmax (i : Issuer) (w : VecWord) (s : State) : Host.Outcome State Fault Refusal := .next (vector s i 0x2C w)

/-- RTOP2 (R139). -/
def execRtop2 (i : Issuer) (w : VecWord) (s : State) : Host.Outcome State Fault Refusal := .next (vector s i 0x2D w)

/-- SCAN (R140). -/
def execScan (i : Issuer) (w : VecWord) (s : State) : Host.Outcome State Fault Refusal := .next (vector s i 0x2E w)

/-- COMPRESS (R141). -/
def execCompress (i : Issuer) (w : VecWord) (s : State) : Host.Outcome State Fault Refusal := .next (vector s i 0x30 w)

/-- COMPRESSR (R141). -/
def execCompressr (i : Issuer) (w : VecWord) (s : State) : Host.Outcome State Fault Refusal := .next (vector s i 0x31 w)

/-- EXPAND (R143). -/
def execExpand (i : Issuer) (w : VecWord) (s : State) : Host.Outcome State Fault Refusal := .next (vector s i 0x32 w)

/-- EXPANDR (R143). -/
def execExpandr (i : Issuer) (w : VecWord) (s : State) : Host.Outcome State Fault Refusal := .next (vector s i 0x33 w)

/-- GATHER (R144). -/
def execGather (i : Issuer) (w : VecWord) (s : State) : Host.Outcome State Fault Refusal := .next (vector s i 0x34 w)

/-- GATHERR (R144). -/
def execGatherr (i : Issuer) (w : VecWord) (s : State) : Host.Outcome State Fault Refusal := .next (vector s i 0x35 w)

/-- MCOUNT (R133). -/
def execMcount (i : Issuer) (w : VecWord) (s : State) : Host.Outcome State Fault Refusal := .next (vector s i 0x36 w)

/-- MAND (R133). -/
def execMand (i : Issuer) (w : VecWord) (s : State) : Host.Outcome State Fault Refusal := .next (vector s i 0x38 w)

/-- MOR (R133). -/
def execMor (i : Issuer) (w : VecWord) (s : State) : Host.Outcome State Fault Refusal := .next (vector s i 0x39 w)

/-- MNOT (R133). -/
def execMnot (i : Issuer) (w : VecWord) (s : State) : Host.Outcome State Fault Refusal := .next (vector s i 0x3A w)

/-- VECTOR_OP_COMPLETE (R149). -/
def execVectorOpComplete (core : Nat) (x : VecEnd) (s : State) : Host.Outcome State Fault Refusal :=
  .next (vectorComplete s core x.hits x.pair)

end Sys2Proof.Machine.Vector
end

