-- ==== Sys2Proof/Machine/Dispatch.lean ====
section
/-! DEFINITION. The dispatch: one arm for each command of the table, each a direct call of its meaning. -/

namespace Sys2Proof.Machine

open Sys2Proof

/-- The effect of a command on everything but the queue. -/
def exec (i : Instr) (s : State) : Host.Outcome State Fault Refusal :=
  match i with
  | .pass iss w => Sys2Proof.Machine.Array.execPass iss w s
  | .passFeedStart core => Sys2Proof.Machine.Array.execPassFeedStart core s
  | .passComplete core hw hits => Sys2Proof.Machine.Array.execPassComplete core hw hits s
  | .cicadaRampDownStart k => Sys2Proof.Machine.Array.execCicadaRampDownStart k s
  | .cicadaLevelStep k => Sys2Proof.Machine.Array.execCicadaLevelStep k s
  | .add iss w => Sys2Proof.Machine.Vector.execAdd iss w s
  | .sub iss w => Sys2Proof.Machine.Vector.execSub iss w s
  | .mul iss w => Sys2Proof.Machine.Vector.execMul iss w s
  | .fma iss w => Sys2Proof.Machine.Vector.execFma iss w s
  | .axpy iss w => Sys2Proof.Machine.Vector.execAxpy iss w s
  | .maxOp iss w => Sys2Proof.Machine.Vector.execMaxOp iss w s
  | .minOp iss w => Sys2Proof.Machine.Vector.execMinOp iss w s
  | .absOp iss w => Sys2Proof.Machine.Vector.execAbsOp iss w s
  | .neg iss w => Sys2Proof.Machine.Vector.execNeg iss w s
  | .cvt iss w => Sys2Proof.Machine.Vector.execCvt iss w s
  | .select iss w => Sys2Proof.Machine.Vector.execSelect iss w s
  | .fill iss w => Sys2Proof.Machine.Vector.execFill iss w s
  | .iota iss w => Sys2Proof.Machine.Vector.execIota iss w s
  | .div iss w => Sys2Proof.Machine.Vector.execDiv iss w s
  | .recip iss w => Sys2Proof.Machine.Vector.execRecip iss w s
  | .sqrt iss w => Sys2Proof.Machine.Vector.execSqrt iss w s
  | .rsqrt iss w => Sys2Proof.Machine.Vector.execRsqrt iss w s
  | .exp iss w => Sys2Proof.Machine.Vector.execExp iss w s
  | .log iss w => Sys2Proof.Machine.Vector.execLog iss w s
  | .tanh iss w => Sys2Proof.Machine.Vector.execTanh iss w s
  | .sigmoid iss w => Sys2Proof.Machine.Vector.execSigmoid iss w s
  | .erf iss w => Sys2Proof.Machine.Vector.execErf iss w s
  | .silu iss w => Sys2Proof.Machine.Vector.execSilu iss w s
  | .gelu iss w => Sys2Proof.Machine.Vector.execGelu iss w s
  | .expsub iss w => Sys2Proof.Machine.Vector.execExpsub iss w s
  | .cmplt iss w => Sys2Proof.Machine.Vector.execCmplt iss w s
  | .cmple iss w => Sys2Proof.Machine.Vector.execCmple iss w s
  | .cmpeq iss w => Sys2Proof.Machine.Vector.execCmpeq iss w s
  | .cmpne iss w => Sys2Proof.Machine.Vector.execCmpne iss w s
  | .isfin iss w => Sys2Proof.Machine.Vector.execIsfin iss w s
  | .rsum iss w => Sys2Proof.Machine.Vector.execRsum iss w s
  | .rsumsq iss w => Sys2Proof.Machine.Vector.execRsumsq iss w s
  | .rmax iss w => Sys2Proof.Machine.Vector.execRmax iss w s
  | .rmin iss w => Sys2Proof.Machine.Vector.execRmin iss w s
  | .rargmax iss w => Sys2Proof.Machine.Vector.execRargmax iss w s
  | .rtop2 iss w => Sys2Proof.Machine.Vector.execRtop2 iss w s
  | .scan iss w => Sys2Proof.Machine.Vector.execScan iss w s
  | .compress iss w => Sys2Proof.Machine.Vector.execCompress iss w s
  | .compressr iss w => Sys2Proof.Machine.Vector.execCompressr iss w s
  | .expand iss w => Sys2Proof.Machine.Vector.execExpand iss w s
  | .expandr iss w => Sys2Proof.Machine.Vector.execExpandr iss w s
  | .gather iss w => Sys2Proof.Machine.Vector.execGather iss w s
  | .gatherr iss w => Sys2Proof.Machine.Vector.execGatherr iss w s
  | .mcount iss w => Sys2Proof.Machine.Vector.execMcount iss w s
  | .mand iss w => Sys2Proof.Machine.Vector.execMand iss w s
  | .mor iss w => Sys2Proof.Machine.Vector.execMor iss w s
  | .mnot iss w => Sys2Proof.Machine.Vector.execMnot iss w s
  | .vectorOpComplete core x => Sys2Proof.Machine.Vector.execVectorOpComplete core x s
  | .rmLaneOp k w => Sys2Proof.Machine.RegMode.execRmLaneOp k w s
  | .ldi k w => Sys2Proof.Machine.RegMode.execLdi k w s
  | .ldgen k w => Sys2Proof.Machine.RegMode.execLdgen k w s
  | .ld k w => Sys2Proof.Machine.RegMode.execLd k w s
  | .st k w => Sys2Proof.Machine.RegMode.execSt k w s
  | .rmDigest k w => Sys2Proof.Machine.RegMode.execRmDigest k w s
  | .chklo k w => Sys2Proof.Machine.RegMode.execChklo k w s
  | .chkhi k w => Sys2Proof.Machine.RegMode.execChkhi k w s
  | .rmLoop k w => Sys2Proof.Machine.RegMode.execRmLoop k w s
  | .halt k w => Sys2Proof.Machine.RegMode.execHalt k w s
  | .rmProgramLimit k => Sys2Proof.Machine.RegMode.execRmProgramLimit k s
  | .put iss w hits => Sys2Proof.Machine.RemoteOps.execPut iss w hits s
  | .get iss w => Sys2Proof.Machine.RemoteOps.execGet iss w s
  | .putf iss w hits => Sys2Proof.Machine.RemoteOps.execPutf iss w hits s
  | .fset iss w => Sys2Proof.Machine.RemoteOps.execFset iss w s
  | .fclr iss w => Sys2Proof.Machine.RemoteOps.execFclr iss w s
  | .mput iss w hits => Sys2Proof.Machine.RemoteOps.execMput iss w hits s
  | .chain iss w hits => Sys2Proof.Machine.RemoteOps.execChain iss w hits s
  | .waits iss w => Sys2Proof.Machine.FlagCtl.execWaits iss w s
  | .waitc iss w => Sys2Proof.Machine.FlagCtl.execWaitc iss w s
  | .waitSatisfied iss => Sys2Proof.Machine.FlagCtl.execWaitSatisfied iss s
  | .waitTimeout iss => Sys2Proof.Machine.FlagCtl.execWaitTimeout iss s
  | .setFlags iss w => Sys2Proof.Machine.FlagCtl.execSetFlags iss w s
  | .clearFlags iss w => Sys2Proof.Machine.FlagCtl.execClearFlags iss w s
  | .nop iss w => Sys2Proof.Machine.Control.execNop iss w s
  | .setc iss w => Sys2Proof.Machine.Control.execSetc iss w s
  | .addc iss w => Sys2Proof.Machine.Control.execAddc iss w s
  | .brc iss w => Sys2Proof.Machine.Control.execBrc iss w s
  | .loopCtr iss w => Sys2Proof.Machine.Control.execLoopCtr iss w s
  | .brs iss w => Sys2Proof.Machine.Control.execBrs iss w s
  | .yield iss w => Sys2Proof.Machine.Control.execYield iss w s
  | .markTime iss w => Sys2Proof.Machine.Control.execMarkTime iss w s
  | .waitdone iss w => Sys2Proof.Machine.Control.execWaitdone iss w s
  | .stepend iss w => Sys2Proof.Machine.Control.execStepend iss w s
  | .endStream iss w => Sys2Proof.Machine.Control.execEndStream iss w s
  | .quantumExpiry core => Sys2Proof.Machine.Contexts.execQuantumExpiry core s
  | .contextSwitch core slot => Sys2Proof.Machine.Contexts.execContextSwitch core slot s
  | .switchComplete core slot => Sys2Proof.Machine.Contexts.execSwitchComplete core slot s
  | .swapComplete x => Sys2Proof.Machine.Swaps.execSwapComplete x s
  | .churnSlotWrite addr data => Sys2Proof.Machine.ChurnOps.execChurnSlotWrite addr data s
  | .sgdMomentum n r hits => Sys2Proof.Machine.ChurnOps.execSgdMomentum n r hits s
  | .adam n r hits => Sys2Proof.Machine.ChurnOps.execAdam n r hits s
  | .factoredSecondMoment n r hits => Sys2Proof.Machine.ChurnOps.execFactoredSecondMoment n r hits s
  | .signMomentum n r hits => Sys2Proof.Machine.ChurnOps.execSignMomentum n r hits s
  | .sumsq n r hits => Sys2Proof.Machine.ChurnOps.execSumsq n r hits s
  | .cast n r hits => Sys2Proof.Machine.ChurnOps.execCast n r hits s
  | .churnDigest n r => Sys2Proof.Machine.ChurnOps.execChurnDigest n r s
  | .churnDescriptorFinish n => Sys2Proof.Machine.ChurnOps.execChurnDescriptorFinish n s
  | .pressSlotWrite addr data => Sys2Proof.Machine.PressOps.execPressSlotWrite addr data s
  | .pack d r hits => Sys2Proof.Machine.PressOps.execPack d r hits s
  | .unpack d r image hits => Sys2Proof.Machine.PressOps.execUnpack d r image hits s
  | .pressDescriptorFinish d r ok => Sys2Proof.Machine.PressOps.execPressDescriptorFinish d r ok s
  | .hivePush n q off data check => Sys2Proof.Machine.HiveOps.execHivePush n q off data check s
  | .hiveTake n q x => Sys2Proof.Machine.HiveOps.execHiveTake n q x s
  | .hivePeek n q x => Sys2Proof.Machine.HiveOps.execHivePeek n q x s
  | .queueConfigWrite n q v => Sys2Proof.Machine.HiveOps.execQueueConfigWrite n q v s
  | .hiveMark n q rsvd => Sys2Proof.Machine.HiveOps.execHiveMark n q rsvd s
  | .rewind n q rsvd => Sys2Proof.Machine.HiveOps.execRewind n q rsvd s
  | .release n q rsvd => Sys2Proof.Machine.HiveOps.execRelease n q rsvd s
  | .advance n q rsvd => Sys2Proof.Machine.HiveOps.execAdvance n q rsvd s
  | .hiveReset n q rsvd => Sys2Proof.Machine.HiveOps.execHiveReset n q rsvd s
  | .hivePatrolScrub n q cell ecc => Sys2Proof.Machine.HiveOps.execHivePatrolScrub n q cell ecc s
  | .flgActSet core v => Sys2Proof.Machine.FlagWindow.execFlgActSet core v s
  | .flgActClear core v => Sys2Proof.Machine.FlagWindow.execFlgActClear core v s
  | .flgActNone core v => Sys2Proof.Machine.FlagWindow.execFlgActNone core v s
  | .write p => Sys2Proof.Machine.Tracker.execWrite p s
  | .writeF p => Sys2Proof.Machine.Tracker.execWriteF p s
  | .flagPkt p => Sys2Proof.Machine.Tracker.execFlagPkt p s
  | .readReq p hits => Sys2Proof.Machine.Tracker.execReadReq p hits s
  | .readRsp p => Sys2Proof.Machine.RemoteOps.execReadRsp p s
  | .ack p => Sys2Proof.Machine.RemoteOps.execAck p s
  | .errorRsp p => Sys2Proof.Machine.RemoteOps.execErrorRsp p s
  | .orderingTimeout key seq => Sys2Proof.Machine.Tracker.execOrderingTimeout key seq s
  | .operationTimeout tag => Sys2Proof.Machine.RemoteOps.execOperationTimeout tag s
  | .packetResend key seq => Sys2Proof.Machine.RemoteOps.execPacketResend key seq s
  | .packetForward inPort cls p => Sys2Proof.Machine.Router.execPacketForward inPort cls p s
  | .escapeFallback idx => Sys2Proof.Machine.Router.execEscapeFallback idx s
  | .frameSend p => Sys2Proof.Machine.Link.execFrameSend p s
  | .frameReceive p f => Sys2Proof.Machine.Link.execFrameReceive p f s
  | .portSignalLoss p cause => Sys2Proof.Machine.Link.execPortSignalLoss p cause s
  | .probeOutcome m => Sys2Proof.Machine.Link.execProbeOutcome m s
  | .portRetry p => Sys2Proof.Machine.Link.execPortRetry p s
  | .trainingComplete p result => Sys2Proof.Machine.Link.execTrainingComplete p result s
  | .certificateChain p digest good => Sys2Proof.Machine.Link.execCertificateChain p digest good s
  | .hello p h => Sys2Proof.Machine.Link.execHello p h s
  | .keyingEncapKey p key sigOk => Sys2Proof.Machine.Link.execKeyingEncapKey p key sigOk s
  | .keyingCiphertext p ct sigOk => Sys2Proof.Machine.Link.execKeyingCiphertext p ct sigOk s
  | .keyingTimeout p => Sys2Proof.Machine.Link.execKeyingTimeout p s
  | .linkDownAnnounce p => Sys2Proof.Machine.Link.execLinkDownAnnounce p s
  | .fenceNotice p => Sys2Proof.Machine.Link.execFenceNotice p s
  | .rekeyExchangeMsg p m => Sys2Proof.Machine.Link.execRekeyExchangeMsg p m s
  | .rekeyRetry p => Sys2Proof.Machine.Link.execRekeyRetry p s
  | .keyGraceEnd p => Sys2Proof.Machine.Link.execKeyGraceEnd p s
  | .keyAgeLimit p => Sys2Proof.Machine.Link.execKeyAgeLimit p s
  | .fireflySend p => Sys2Proof.Machine.Clock.execFireflySend p s
  | .firefly p f => Sys2Proof.Machine.Clock.execFirefly p f s
  | .holdoverEntry => Sys2Proof.Machine.Clock.execHoldoverEntry s
  | .holdoverLimit => Sys2Proof.Machine.Clock.execHoldoverLimit s
  | .epochWaitExpiry => Sys2Proof.Machine.Clock.execEpochWaitExpiry s
  | .backupRootTakeover => Sys2Proof.Machine.Clock.execBackupRootTakeover s
  | .startEntry id => Sys2Proof.Machine.Sched.execStartEntry id s
  | .routeSwap id => Sys2Proof.Machine.Sched.execRouteSwap id s
  | .routeSwapResponseStop => Sys2Proof.Machine.Router.execRouteSwapResponseStop s
  | .routeSwapActivate => Sys2Proof.Machine.Router.execRouteSwapActivate s
  | .routeSwapResume => Sys2Proof.Machine.Router.execRouteSwapResume s
  | .rekey id => Sys2Proof.Machine.Sched.execRekey id s
  | .checksumFlip id => Sys2Proof.Machine.Sched.execChecksumFlip id s
  | .checkFlip id => Sys2Proof.Machine.Sched.execCheckFlip id s
  | .linkLoss id => Sys2Proof.Machine.Sched.execLinkLoss id s
  | .moduleReset id => Sys2Proof.Machine.Sched.execModuleReset id s
  | .packetDrop id => Sys2Proof.Machine.Sched.execPacketDrop id s
  | .dramCe id => Sys2Proof.Machine.Sched.execDramCe id s
  | .entryExpired id => Sys2Proof.Machine.Sched.execEntryExpired id s
  | .stepBoundary ctx => Sys2Proof.Machine.Vote.execStepBoundary ctx s
  | .confirmWaitExpiry ctx => Sys2Proof.Machine.Vote.execConfirmWaitExpiry ctx s
  | .digestTimeout ctx => Sys2Proof.Machine.Vote.execDigestTimeout ctx s
  | .voteUp p v => Sys2Proof.Machine.Vote.execVoteUp p v s
  | .voteDown p v => Sys2Proof.Machine.Vote.execVoteDown p v s
  | .replayHoldEnd ctx => Sys2Proof.Machine.Vote.execReplayHoldEnd ctx s
  | .stepDeadline ctx => Sys2Proof.Machine.Vote.execStepDeadline ctx s
  | .resetSequence t => Sys2Proof.Machine.ResetOps.execResetSequence t s
  | .drainEnd => Sys2Proof.Machine.ResetOps.execDrainEnd s
  | .resetAssert => Sys2Proof.Machine.ResetOps.execResetAssert s
  | .abortMsg p a => Sys2Proof.Machine.AbortOps.execAbortMsg p a s
  | .abortSeenExpiry idx => Sys2Proof.Machine.AbortOps.execAbortSeenExpiry idx s
  | .quiesced ctx => Sys2Proof.Machine.AbortOps.execQuiesced ctx s
  | .resetSequenceTimeout => Sys2Proof.Machine.ResetOps.execResetSequenceTimeout s
  | .readyTimeout => Sys2Proof.Machine.ResetOps.execReadyTimeout s
  | .coldCycleOffEnd => Sys2Proof.Machine.ResetOps.execColdCycleOffEnd s
  | .coldCycleReadyTimeout => Sys2Proof.Machine.ResetOps.execColdCycleReadyTimeout s
  | .writerItemFinish outcome => Sys2Proof.Machine.Ckpts.execWriterItemFinish outcome s
  | .releaseSelf ctx => Sys2Proof.Machine.Ckpts.execReleaseSelf ctx s
  | .wipeDone => Sys2Proof.Machine.Ckpts.execWipeDone s
  | .weevilDue k => Sys2Proof.Machine.Weevils.execWeevilDue k s
  | .weevilTestDone k r => Sys2Proof.Machine.Weevils.execWeevilTestDone k r s
  | .sensorSample x => Sys2Proof.Machine.Sensors.execSensorSample x s
  | .stackHotPersist stack => Sys2Proof.Machine.Sensors.execStackHotPersist stack s
  | .railLowPersist rail mv us => Sys2Proof.Machine.Sensors.execRailLowPersist rail mv us s
  | .dramStackTempSample stack temp tth => Sys2Proof.Machine.Sensors.execDramStackTempSample stack temp tth s
  | .dramPatrolScrub addr ecc => Sys2Proof.Machine.Sensors.execDramPatrolScrub addr ecc s
  | .sramPatrolScrub addr ecc => Sys2Proof.Machine.Sensors.execSramPatrolScrub addr ecc s
  | .ondieCePoll stack count => Sys2Proof.Machine.Sensors.execOndieCePoll stack count s
  | .healthScoreUpdate => Sys2Proof.Machine.Sensors.execHealthScoreUpdate s
  | .nvRecordFlush => Sys2Proof.Machine.Sensors.execNvRecordFlush s
  | .firmwareReverify dexhornOk imagesOk => Sys2Proof.Machine.Alarm.execFirmwareReverify dexhornOk imagesOk s
  | .securityAlarm source => Sys2Proof.Machine.Alarm.execSecurityAlarm source s
  | .alarmPersistCheck active => Sys2Proof.Machine.Alarm.execAlarmPersistCheck active s
  | .pskExpiry hint => Sys2Proof.Machine.Spdm.execPskExpiry hint s
  | .governorSample watts10 => Sys2Proof.Machine.Governors.execGovernorSample watts10 s
  | .governingPeriodEnd => Sys2Proof.Machine.Governors.execGoverningPeriodEnd s
  | .thermalFloorStep => Sys2Proof.Machine.Governors.execThermalFloorStep s
  | .inputValid => Sys2Proof.Machine.Powering.execInputValid s
  | .dexhornBoot firmwareOk pufOk => Sys2Proof.Machine.Powering.execDexhornBoot firmwareOk pufOk s
  | .undervoltageLockout => Sys2Proof.Machine.Powering.execUndervoltageLockout s
  | .overvoltageLockout => Sys2Proof.Machine.Powering.execOvervoltageLockout s
  | .overvoltageRelease => Sys2Proof.Machine.Powering.execOvervoltageRelease s
  | .inputExcursion mv us => Sys2Proof.Machine.Powering.execInputExcursion mv us s
  | .breakerTrip mv => Sys2Proof.Machine.Powering.execBreakerTrip mv s
  | .inputLoss => Sys2Proof.Machine.Powering.execInputLoss s
  | .presenceBreak => Sys2Proof.Machine.Powering.execPresenceBreak s
  | .railRegulationTimeout rail mv => Sys2Proof.Machine.Powering.execRailRegulationTimeout rail mv s
  | .bringupPhaseEnd phase r => Sys2Proof.Machine.Powering.execBringupPhaseEnd phase r s
  | .timePhaseEnd => Sys2Proof.Machine.Powering.execTimePhaseEnd s
  | .modAttn => Sys2Proof.Machine.Powering.execModAttn s
  | .removalStart => Sys2Proof.Machine.Powering.execRemovalStart s
  | .removeWaitExpiry => Sys2Proof.Machine.Powering.execRemoveWaitExpiry s
  | .safeReached => Sys2Proof.Machine.Powering.execSafeReached s
  | .perstAssert => Sys2Proof.Machine.HostLink.execPerstAssert s
  | .perstDeassert => Sys2Proof.Machine.HostLink.execPerstDeassert s
  | .functionLevelReset => Sys2Proof.Machine.HostLink.execFunctionLevelReset s
  | .hotReset => Sys2Proof.Machine.HostLink.execHotReset s
  | .linkDisable => Sys2Proof.Machine.HostLink.execLinkDisable s
  | .d3hotToD0 => Sys2Proof.Machine.HostLink.execD3hotToD0 s
  | .hostLinkDown => Sys2Proof.Machine.HostLink.execHostLinkDown s
  | .ideStateChange stream secure => Sys2Proof.Machine.Spdm.execIdeStateChange stream secure s
  | .hostMemoryWrite addr data => Sys2Proof.Machine.Bus.execHostMemoryWrite addr data s
  | .hostMemoryRead addr len ecc => Sys2Proof.Machine.Bus.execHostMemoryRead addr len ecc s
  | .hostSqDb r tail fetchOk => Sys2Proof.Machine.Rings.execHostSqDb r tail fetchOk s
  | .hostCqDb r head => Sys2Proof.Machine.Rings.execHostCqDb r head s
  | .ringEnable r v => Sys2Proof.Machine.Rings.execRingEnable r v s
  | .ringDisable r v => Sys2Proof.Machine.Rings.execRingDisable r v s
  | .coalesceTimeout r => Sys2Proof.Machine.Rings.execCoalesceTimeout r s
  | .ctxDefine d x => Sys2Proof.Machine.HostDesc.execCtxDefine d x s
  | .ctxDelete d => Sys2Proof.Machine.HostDesc.execCtxDelete d s
  | .stepSetup d x => Sys2Proof.Machine.HostDesc.execStepSetup d x s
  | .stepResolve d x => Sys2Proof.Machine.HostDesc.execStepResolve d x s
  | .schedWrite d fireRing e => Sys2Proof.Machine.Sched.execSchedWrite d fireRing e s
  | .schedCancel d id => Sys2Proof.Machine.Sched.execSchedCancel d id s
  | .ckptSetup d block => Sys2Proof.Machine.Ckpts.execCkptSetup d block s
  | .ckptCommit d slot step host => Sys2Proof.Machine.Ckpts.execCkptCommit d slot step host s
  | .shardLoad d x => Sys2Proof.Machine.Ckpts.execShardLoad d x s
  | .copyIn d x => Sys2Proof.Machine.HostDesc.execCopyIn d x s
  | .copyOut d x => Sys2Proof.Machine.HostDesc.execCopyOut d x s
  | .copyOutTrigger r t => Sys2Proof.Machine.HostDesc.execCopyOutTrigger r t s
  | .work d x => Sys2Proof.Machine.HostDesc.execWork d x s
  | .workDone r t => Sys2Proof.Machine.HostDesc.execWorkDone r t s
  | .workTimeout r t => Sys2Proof.Machine.HostDesc.execWorkTimeout r t s
  | .hostNop d => Sys2Proof.Machine.HostDesc.execHostNop d s
  | .rmModeSet k v program => Sys2Proof.Machine.RegMode.execRmModeSet k v program s
  | .rmModeClear k v => Sys2Proof.Machine.RegMode.execRmModeClear k v s
  | .errLogSetupWrite off v => Sys2Proof.Machine.Regs.execErrLogSetupWrite off v s
  | .errLogTailWrite v => Sys2Proof.Machine.Regs.execErrLogTailWrite v s
  | .healthCtlWrite v => Sys2Proof.Machine.Regs.execHealthCtlWrite v s
  | .remTimeoutWrite off v => Sys2Proof.Machine.Regs.execRemTimeoutWrite off v s
  | .censusRegisterWrite ctx isCount v => Sys2Proof.Machine.Regs.execCensusRegisterWrite ctx isCount v s
  | .routeBankWrite bank off v => Sys2Proof.Machine.Regs.execRouteBankWrite bank off v s
  | .setupRegisterWrite off len v => Sys2Proof.Machine.Regs.execSetupRegisterWrite off len v s
  | .getStatus m => Sys2Proof.Machine.Mgmt.execGetStatus m s
  | .getTelemetry m => Sys2Proof.Machine.Mgmt.execGetTelemetry m s
  | .getRecords m index => Sys2Proof.Machine.Mgmt.execGetRecords m index s
  | .subscribe m => Sys2Proof.Machine.Mgmt.execSubscribe m s
  | .powerOn m => Sys2Proof.Machine.Mgmt.execPowerOn m s
  | .removeGraceful m waitS => Sys2Proof.Machine.Mgmt.execRemoveGraceful m waitS s
  | .removeForce m waitS => Sys2Proof.Machine.Mgmt.execRemoveForce m waitS s
  | .resetPackage m => Sys2Proof.Machine.Mgmt.execResetPackage m s
  | .resetColdCycle m => Sys2Proof.Machine.Mgmt.execResetColdCycle m s
  | .setAutostart m v => Sys2Proof.Machine.Mgmt.execSetAutostart m v s
  | .loadPlan m plan digestOk => Sys2Proof.Machine.Mgmt.execLoadPlan m plan digestOk s
  | .setTime m v => Sys2Proof.Machine.Mgmt.execSetTime m v s
  | .steerTime m ppm => Sys2Proof.Machine.Mgmt.execSteerTime m ppm s
  | .mgmtSchedWrite m e => Sys2Proof.Machine.Mgmt.execMgmtSchedWrite m e s
  | .mgmtSchedCancel m id => Sys2Proof.Machine.Mgmt.execMgmtSchedCancel m id s
  | .stageFirmware m x => Sys2Proof.Machine.Mgmt.execStageFirmware m x s
  | .raiseMinSvn m type svn => Sys2Proof.Machine.Mgmt.execRaiseMinSvn m type svn s
  | .setProbation m v => Sys2Proof.Machine.Mgmt.execSetProbation m v s
  | .setPowerLimit m watts => Sys2Proof.Machine.Mgmt.execSetPowerLimit m watts s
  | .mgmtUnknownCommand m command => Sys2Proof.Machine.Mgmt.execMgmtUnknownCommand m command s
  | .mctpControlMessage onI3c body => Sys2Proof.Machine.Mgmt.execMctpControlMessage onI3c body s
  | .mctpUnsupportedType type => Sys2Proof.Machine.Mgmt.execMctpUnsupportedType type s
  | .getVersion => Sys2Proof.Machine.Spdm.execGetVersion s
  | .getCapabilities => Sys2Proof.Machine.Spdm.execGetCapabilities s
  | .negotiateAlgorithms hash sig => Sys2Proof.Machine.Spdm.execNegotiateAlgorithms hash sig s
  | .getDigests => Sys2Proof.Machine.Spdm.execGetDigests s
  | .getCertificate slot off len => Sys2Proof.Machine.Spdm.execGetCertificate slot off len s
  | .challenge slot nonce => Sys2Proof.Machine.Spdm.execChallenge slot nonce s
  | .getMeasurements index signed nonce => Sys2Proof.Machine.Spdm.execGetMeasurements index signed nonce s
  | .pskExchange hint => Sys2Proof.Machine.Spdm.execPskExchange hint s
  | .pskFinish session verifyOk => Sys2Proof.Machine.Spdm.execPskFinish session verifyOk s
  | .heartbeat session => Sys2Proof.Machine.Spdm.execHeartbeat session s
  | .keyUpdate session => Sys2Proof.Machine.Spdm.execKeyUpdate session s
  | .endSession session => Sys2Proof.Machine.Spdm.execEndSession session s
  | .spdmUnsupportedRequest code => Sys2Proof.Machine.Spdm.execSpdmUnsupportedRequest code s
  | .kemKeyGet nonce => Sys2Proof.Machine.Spdm.execKemKeyGet nonce s
  | .kemPsk ct hint => Sys2Proof.Machine.Spdm.execKemPsk ct hint s
  | .jobKeySet session ctx digest key => Sys2Proof.Machine.Spdm.execJobKeySet session ctx digest key s
  | .jobKeyErase session ctx => Sys2Proof.Machine.Spdm.execJobKeyErase session ctx s
  | .configDigestReturn ctx => Sys2Proof.Machine.Vote.execConfigDigestReturn ctx s
  | .hostLinkUp => Sys2Proof.Machine.HostLink.execHostLinkUp s
  | .copyTransferEnd r t x => Sys2Proof.Machine.HostDesc.execCopyTransferEnd r t x s
  | .shardLoadComplete ctx r => Sys2Proof.Machine.Ckpts.execShardLoadComplete ctx r s
  | .ideKmMessage session stream m => Sys2Proof.Machine.Spdm.execIdeKmMessage session stream m s

end Sys2Proof.Machine
end

