-- ==== Sys2Proof/Machine/Idle.lean ====
section
/-! DEFINITION. What an idle nanosecond does (DESIGN CHOICE, notes/assumptions/3.md): the flag waits of the cycle are evaluated
(R256), its error records enter the log (R358), the clocks run, a removal takes its next step (R488), contexts that wait for a confirmation record look for it, and deletions whose operations have completed
finish. -/

namespace Sys2Proof.Machine.Idle

open Ops

/-- The contexts whose deletion is in progress. -/
def deleting (s : State) : List Nat := (s.ctxs.filter (fun p => p.2.deleting.isSome)).map (·.1)

/-- The cycles of a nanosecond pass in the units whose work takes time (R60, R73, R199, R499): arrays, Churns and Cicadas. -/
def units (s : State) : State :=
  if Clock.running s then
    let n := (s.ns + 1) * 6 / 5 - cycle s
    Cicada.tick (ChurnOps.tick (Array.tick s n) n) n
  else s

/-- The next nanosecond begins: the engines and the swaps that wait for a window of the governor find it open or not (R499, R502). -/
def windows (s : State) : State := if Clock.running s then Swaps.atWindow (Vector.tick s) else s

/-- One nanosecond with no command: the waits of the cycle are evaluated, its records enter the log and its due entries are noted, then the
units and the clocks run. -/
def tick (s : State) : State :=
  let s1 := windows (Vote.tick (units (Sched.markDue (Report.endCycle (Issue.endCycle s)))))
  Powering.removalStep ((deleting s1).foldl HostDesc.finishDelete s1)

end Sys2Proof.Machine.Idle
end

