-- ==== Sys2Proof/Safety.lean ====
section
/-! DEFINITION. What counts as a safe run, and the ranges that the spec gives the registers a command may set. -/

namespace Sys2Proof.Safety

open Sys2Proof.Machine

/-- The step from a state goes on: it ends in neither a fault nor a refusal. -/
def Goes (s : State) : Prop := ∃ t, step s = .next t

/-- A run of n steps never stops. -/
def SafeFor : Nat → State → Prop
  | 0, _ => True
  | n + 1, s => ∃ t, step s = .next t ∧ SafeFor n t

/-- HEALTH_CTL (R377): WARN < PROB < EXPEL, and EXPEL is at most 1,000. -/
def healthOk (h : HealthRegs) : Prop := h.warn < h.prob ∧ h.prob < h.expel ∧ h.expel ≤ 1000

/-- REM_OP_TIMEOUT and REM_ORD_TIMEOUT (R510): each in its range, and the first at least twice the second. -/
def timeoutsOk (r : Remote) : Prop :=
  200 ≤ r.opTimeout ∧ r.opTimeout ≤ 100000 ∧ 10 ≤ r.ordTimeout ∧ r.ordTimeout ≤ 10000 ∧ 2 * r.ordTimeout ≤ r.opTimeout

/-- MEM_SCRUB_CTL (R512): PERIOD from 1 to 168 hours. -/
def scrubOk (m : Memory) : Prop := 1 ≤ m.scrubPeriod ∧ m.scrubPeriod ≤ 168

/-- SEQ_QUANTUM (R514): from 10 to 100,000 µs. -/
def quantumOk (q : Nat) : Prop := 10 ≤ q ∧ q ≤ 100000

/-- ARR_SWAP_CTL (R514): WINDOW from 1 to 1,440 minutes, COUNT from 1 to 15. -/
def swapCtlOk (w : Weevil) : Prop := 1 ≤ w.window ∧ w.window ≤ 1440 ∧ 1 ≤ w.count ∧ w.count ≤ 15

/-- A power limit that R494 admits. -/
def limitOk (w : Nat) : Prop := 300 ≤ w ∧ w ≤ 700

/-- The governor (R494, R498, R500): LIMIT from 300 to 700 W, the level and the floor from 0 to 7. -/
def governorOk (g : Governor) : Prop := limitOk g.limit ∧ (∀ w, g.newLimit = some w → limitOk w) ∧ g.level ≤ 7 ∧ g.floor ≤ 7

/-- Every register with a range holds a value of its range. -/
structure RangesOk (s : State) : Prop where
  health : healthOk s.health
  timeouts : timeoutsOk s.remote
  scrub : scrubOk s.mem
  quantum : quantumOk s.quantum
  swapCtl : swapCtlOk s.weevil
  governor : governorOk s.gov

/-- A register's value holds the given fields, each with its highest and lowest bit and what it holds, cut to the field's width; it is
below 2^64, and every other bit reads as zero (R11). -/
def Holds (v : Nat) (fs : List (Nat × Nat × Nat)) : Prop :=
  v < 2 ^ 64 ∧ (∀ f ∈ fs, Bits.field v f.1 f.2.1 = f.2.2 % 2 ^ (f.1 + 1 - f.2.1)) ∧
  (∀ i, (∀ f ∈ fs, i < f.2.1 ∨ f.1 < i) → v.testBit i = false)

/-- A read of 8 bytes at an offset of the register region answers a word that holds the given fields. -/
def ReadsAs (s : State) (off : Nat) (fs : List (Nat × Nat × Nat)) : Prop := ∃ v, Regs.read s off 8 = .ok (Bits.le 8 v) ∧ Holds v fs

/-! ## What statements speak of -/

/-- A stream that may run has reached a word: `Issue.runner` finds it (R159, R172, R173), and the word at its program counter can be fetched,
with no uncorrectable error reported in it (R169, R210, R217), and is the one named (R162). -/
def Reached (s : State) (i : Issuer) (r : Issue.Runner) (word : StreamWord) : Prop :=
  Issue.runner s i = some r ∧ Issue.fetchBad s r.x i.core i.stream r.t.pc = false ∧ Issue.fetchHit s i r = false ∧ Issue.nextWord s r.x i.core i.stream r.t.pc = word

/-- A stream can issue the word it has reached: it is not blocked, and it is its turn in the core's rotation (R159 to R161). -/
def CanIssue (s : State) (i : Issuer) (r : Issue.Runner) (word : StreamWord) : Prop :=
  Reached s i r word ∧ Issue.myTurn s i = true

/-- A stream of a context on a core, as the state holds it (R158). -/
def streamAt (s : State) (c q t : Nat) : StreamState :=
  match Ops.ctx? s c with | some x => Ops.streamOf (Ops.onCore x q) t | none => {}

/-- A counter of a context on a core (R158). -/
def counterAt (s : State) (c q n : Nat) : W32 :=
  match Ops.ctx? s c with | some x => Issue.counter (Ops.onCore x q) n | none => 0

/-- The register-mode instruction of a code runs now: its word, no reserved bit set, stands at the program counter of a running
program (R152, R153). -/
def RmReady (s : State) (k op : Nat) (w : RmWord) : Prop :=
  (RegMode.core s k).mode = true ∧ (RegMode.core s k).running = true ∧ (RegMode.core s k).pc < 2048 ∧ w.rsvd % 4 = 0 ∧
  (RegMode.core s k).program.getD (RegMode.core s k).pc 0 = RegMode.encode op w

/-- The commands of the vector stream engine with their codes in the order of the code table (R133). -/
def vectorCommands (i : Issuer) (w : VecWord) : List (Instr × Nat) :=
  [(.add i w, 0x01), (.sub i w, 0x02), (.mul i w, 0x03), (.fma i w, 0x04), (.axpy i w, 0x05), (.maxOp i w, 0x06), (.minOp i w, 0x07),
   (.absOp i w, 0x08), (.neg i w, 0x09), (.cvt i w, 0x0A), (.select i w, 0x0B), (.fill i w, 0x0C), (.iota i w, 0x0D),
   (.div i w, 0x10), (.recip i w, 0x11), (.sqrt i w, 0x12), (.rsqrt i w, 0x13), (.exp i w, 0x18), (.log i w, 0x19),
   (.tanh i w, 0x1A), (.sigmoid i w, 0x1B), (.erf i w, 0x1C), (.silu i w, 0x1D), (.gelu i w, 0x1E), (.expsub i w, 0x1F)] ++
  [(.cmplt i w, 0x20), (.cmple i w, 0x21), (.cmpeq i w, 0x22), (.cmpne i w, 0x23), (.isfin i w, 0x24), (.rsum i w, 0x28),
   (.rsumsq i w, 0x29), (.rmax i w, 0x2A), (.rmin i w, 0x2B), (.rargmax i w, 0x2C), (.rtop2 i w, 0x2D), (.scan i w, 0x2E),
   (.compress i w, 0x30), (.compressr i w, 0x31), (.expand i w, 0x32), (.expandr i w, 0x33), (.gather i w, 0x34),
   (.gatherr i w, 0x35), (.mcount i w, 0x36), (.mand i w, 0x38), (.mor i w, 0x39), (.mnot i w, 0x3A)]

end Sys2Proof.Safety
end

