-- ==== Sys2Proof/Certificates/Slice0/Obligations.lean ====
section
/-! DEFINITION. The statements about the model: what a step does, what every command does where it completes, what it leaves alone, and
the rules of the manual that hold of the whole machine. -/

open Sys2Proof Sys2Proof.Machine Sys2Proof.Safety
open Sys2Proof.Machine.Ops Sys2Proof.Machine.Bits

/-! ## The machine as a whole -/

/-- A step runs the command at the front of the queue, on the state with the rest of the queue. -/
def Obligations.StepRunsFrontCommand : Prop :=
  ∀ (s : State) (c : Instr) (rest : List Instr),
    step { s with pending := c :: rest } = exec c { s with pending := rest } ∧ step (s.enqueueFront c) = exec c s

/-- No command ever stops the machine: every command answers a next state in every state, and so does a step; with no command waiting
one nanosecond passes, which is the model's choice of notes/assumptions/3.md. -/
def Obligations.EveryCommandAnswersNextState : Prop :=
  (∀ (c : Instr) (s : State), ∃ t, exec c s = .next t) ∧ (∀ s : State, ∃ t, step s = .next t) ∧
  (∀ s : State, s.pending = [] → ∃ t, step s = .next t ∧ t.pending = [] ∧ t.ns = s.ns + 1)

/-- The queue is first in first out: a step that goes on takes away its front and touches nothing else of it; time passes only in a step
on an empty queue; what has left the module is never taken back, and a free value is never drawn twice. -/
def Obligations.QueueClockAndOutputsStep : Prop :=
  ∀ s t : State, step s = .next t →
    t.pending = s.pending.tail ∧ t.ns = s.ns + (if s.pending = [] then 1 else 0) ∧ s.out <:+ t.out ∧ s.free ≤ t.free

/-- Memory keeps its one canonical form through every step from every state that has it: addresses strictly rising, and no
byte listed that equals what an unlisted byte reads as. -/
def Obligations.StepKeepsMemoryCanonical : Prop :=
  ∀ s t : State, Mem.wf s.mem = true → step s = .next t → Mem.wf t.mem = true

/-- Every register with a range keeps a value of its range through every step: HEALTH_CTL (R377), the remote timeouts (R510), the
scrub period (R512), SEQ_QUANTUM and ARR_SWAP_CTL (R514), the power limit and the governor's levels (R494, R498, R500). -/
def Obligations.StepKeepsRegisterRanges : Prop :=
  ∀ s t : State, RangesOk s → step s = .next t → RangesOk t

/-- Reset has canonical memory, every ranged register in its range, an empty queue and nothing sent. -/
def Obligations.ResetMeetsInvariants : Prop :=
  Mem.wf State.reset.mem = true ∧ RangesOk State.reset ∧ State.reset.pending = [] ∧ State.reset.out = []

/-! ## Control instructions -/

/-- What the shared operations of the control instructions do to a defined context's stream and counters: the stream named moves on
by one word, or to a word; a counter written reads back and the others keep their values; a word launched counts one more operation
in flight. Everything of the state but the contexts, and for a counter the engines' queues, is as before. -/
def Obligations.StreamAndCounterOperations : Prop :=
  ∀ (s : State) (c n n' pc : Nat) (x : Ctx) (i : Issuer) (v : W32), ctx? s c = some x →
    (streamAt (Issue.advance s c i) c i.core i.stream =
      { streamAt s c i.core i.stream with pc := (streamAt s c i.core i.stream).pc + 1 }) ∧
    (streamAt (Control.goTo s c i pc) c i.core i.stream = { streamAt s c i.core i.stream with pc := pc }) ∧
    (streamAt (Issue.launched s c i) c i.core i.stream =
      { streamAt s c i.core i.stream with pc := (streamAt s c i.core i.stream).pc + 1,
                                          inflight := (streamAt s c i.core i.stream).inflight + 1,
                                          serial := (streamAt s c i.core i.stream).serial + 1 }) ∧
    (counterAt (Control.writeCounter s c i.core n v) c i.core n = v) ∧
    (n' ≠ n → counterAt (Control.writeCounter s c i.core n v) c i.core n' = counterAt s c i.core n') ∧
    (Issue.advance s c i = { s with ctxs := (Issue.advance s c i).ctxs }) ∧
    (Control.goTo s c i pc = { s with ctxs := (Control.goTo s c i pc).ctxs }) ∧
    (Issue.launched s c i = { s with ctxs := (Issue.launched s c i).ctxs }) ∧
    (Control.writeCounter s c i.core n v = { s with ctxs := (Control.writeCounter s c i.core n v).ctxs,
                                                    vecq := (Control.writeCounter s c i.core n v).vecq })

/-- NOP, SETC, ADDC, BRC, LOOP and MARK complete (R160, R161, R169): a legal word that its stream can issue takes an issue slot of the cycle,
has its effect on the counters and the program counter, and changes nothing else. NOP moves on. SETC writes IMM to its counter, ADDC
adds IMM to it. LOOP takes one off its counter and branches while it is not zero. BRC branches when its condition holds of its counter.
MARK writes the fabric time to an even counter and the next. Completes: nop, setc, addc, brc, loopCtr, markTime. -/
def Obligations.ControlInstructionsComplete : Prop :=
  ∀ (s : State) (i : Issuer) (w : CtlWord) (r : Issue.Runner), Control.legal w = true →
    let n := Issue.noted s i
    (CanIssue s i r (.ctl 0 w) → exec (.nop i w) s = .next (Issue.advance n r.c i)) ∧
    (CanIssue s i r (.ctl 1 w) →
      exec (.setc i w) s = .next (Issue.advance (Control.writeCounter n r.c i.core w.ctr w.imm) r.c i)) ∧
    (CanIssue s i r (.ctl 2 w) →
      exec (.addc i w) s =
        .next (Issue.advance (Control.writeCounter n r.c i.core w.ctr (Issue.counter r.k w.ctr + w.imm)) r.c i)) ∧
    (CanIssue s i r (.ctl 3 w) →
      exec (.brc i w) s =
        .next (if Control.holds w.cond (Issue.counter r.k w.ctr) w.imm = true then Control.goTo n r.c i w.target
               else Issue.advance n r.c i)) ∧
    (CanIssue s i r (.ctl 4 w) →
      exec (.loopCtr i w) s =
        .next (let v := Issue.counter r.k w.ctr - 1
               let s1 := Control.writeCounter n r.c i.core w.ctr v
               if v = 0 then Issue.advance s1 r.c i else Control.goTo s1 r.c i w.target)) ∧
    (CanIssue s i r (.ctl 7 w) → w.ctr % 2 = 0 →
      exec (.markTime i w) s =
        .next (Issue.advance (Control.writeCounter
          (Control.writeCounter n r.c i.core w.ctr (BitVec.ofNat 32 (now s))) r.c i.core (w.ctr + 1)
          (BitVec.ofNat 32 (now s / 4294967296))) r.c i))

/-- BRS, YIELD, WAITDONE, STEPEND and END complete (R169 to R173), each taking an issue slot of the cycle. BRS branches when a bit that it
tests is set in the stream's status word, and clears the tested bits when CLR is set. YIELD offers the slot: the context is due to
leave when a waiting one may take its place, and goes on otherwise. WAITDONE and STEPEND issue once no operation of the stream is in
flight: the first moves on, the second, in a context with the step protocol, stops the stream at the word after it. END ends the stream.
Completes: brs, yield, waitdone, stepend, endStream. -/
def Obligations.StatusBranchesAndStreamEndsComplete : Prop :=
  ∀ (s : State) (i : Issuer) (w : CtlWord) (r : Issue.Runner), Control.legal w = true →
    let n := Issue.noted s i
    (CanIssue s i r (.ctl 5 w) →
      exec (.brs i w) s =
        .next (let mask : BitVec 8 := w.imm.setWidth 8
               let s1 := if w.clr = true then modStream n r.c i.core i.stream (fun t => { t with status := t.status &&& ~~~mask }) else n
               if r.t.status &&& mask = 0 then Issue.advance s1 r.c i else Control.goTo s1 r.c i w.target)) ∧
    (CanIssue s i r (.ctl 6 w) →
      exec (.yield i w) s =
        .next (if Slots.mayLeave n r.c i.core = true
               then Slots.makeDue (modCore (Issue.advance n r.c i) r.c i.core (fun k => { k with yielded := some (now n) })) r.c i.core
               else Issue.advance n r.c i)) ∧
    (CanIssue s i r (.ctl 8 w) → exec (.waitdone i w) s = .next (Issue.advance n r.c i)) ∧
    (CanIssue s i r (.ctl 9 w) → r.x.fields.stepped = 1 →
      exec (.stepend i w) s =
        .next (modStream n r.c i.core i.stream (fun t => { t with pc := t.pc + 1, run := .atStepEnd }))) ∧
    (CanIssue s i r (.ctl 10 w) →
      exec (.endStream i w) s =
        .next (Slots.streamEnd (modStream n r.c i.core i.stream
          (fun t => { t with pc := t.pc + 1, run := .ended, endedNow := true })) r.c i.core))

/-- An illegal instruction is not issued: a control word with a nonzero unused field, a flag word that names a flag above 8191 or has a nonzero
unused field, a vector operation or a pass that is not legal, or a word of a reserved class or code, once its stream has reached it in its
turn, makes its context FAULTED on the core with a fault completion that names its code. What the codes report as the word is read, and
for an operation as its descriptors are, is raised; the word has no other effect (R129, R150, R162, R163, R168). -/
def Obligations.IllegalInstructionFaultsContext : Prop :=
  ∀ (s : State) (i : Issuer) (w : CtlWord) (f : FlagWord) (v : VecWord) (p : PassWord) (r : Issue.Runner),
    let heard := Issue.heard s i
    let fault := fun (t : State) (cls code : Nat) => Issue.illegal t r.c i.core i.stream r.t.pc (Report.opField cls code)
    (w.rsvd ≠ 0 →
      ∀ p ∈ [(Instr.nop i w, 0), (.setc i w, 1), (.addc i w, 2), (.brc i w, 3), (.loopCtr i w, 4), (.brs i w, 5), (.yield i w, 6),
             (.markTime i w, 7), (.waitdone i w, 8), (.stepend i w, 9), (.endStream i w, 10)],
        CanIssue s i r (.ctl p.2 w) → exec p.1 s = .next (fault heard 5 p.2)) ∧
    (f.rsvd ≠ 0 ∨ 8191 < f.flag + f.nfl →
      ∀ p ∈ [(Instr.waits i f, 0), (.waitc i f, 1), (.setFlags i ⟨f, none⟩, 2), (.clearFlags i ⟨f, none⟩, 3)],
        CanIssue s i r (.flag p.2 f) → exec p.1 s = .next (fault heard 4 p.2)) ∧
    (∀ p ∈ vectorCommands i v, CanIssue s i r (.vec p.2 v) → Vector.legal s r i p.2 v = none →
      exec p.1 s = .next (fault (Operand.descRead heard r.x i.core (Vector.named p.2 v)
        { Issue.reader s i with op := Report.opField 2 p.2 }) 2 p.2)) ∧
    (CanIssue s i r (.pass p) → Array.legalPass s r i.core p = none →
      exec (.pass i ⟨p, []⟩) s = .next (fault (Operand.descRead heard r.x i.core (Array.passDescs p)
        { Issue.reader s i with op := Report.opField 1 p.aop }) 1 p.aop)) ∧
    (∀ cls code : Nat, Reached s i r (.reserved cls code) →
      exec (.nop i w) s = .next (fault heard cls code))

/-! ## Flags -/

/-- The flag store: a set of a clear flag sets it and records the acting party and the time, and a clear of a set flag clears it; the
values of all other flags are as before, and so is everything outside the flag store (R254, R262). In a redundant pair the partner core's
flag of the same number follows, with its trace (R362).

A set that meets a set flag under policy 1 counts an overrun and changes no value (R254). -/
def Obligations.FlagStoreRules : Prop :=
  (∀ (s : State) (q f q' f' : Nat) (p : Party),
     let other := FlagOps.key q' f' ≠ FlagOps.key q f ∧ ∀ k, partner s q = some k → FlagOps.key q' f' ≠ FlagOps.key k f
     (FlagOps.value s q f = false →
       FlagOps.value (FlagOps.setFlag s q f p) q f = true ∧
       (FlagOps.trace (FlagOps.setFlag s q f p) q f).sig = some p ∧
       (FlagOps.trace (FlagOps.setFlag s q f p) q f).sigTime = now s ∧
       (∀ k, partner s q = some k → FlagOps.value (FlagOps.setFlag s q f p) k f = true ∧
         FlagOps.trace (FlagOps.setFlag s q f p) k f = FlagOps.trace (FlagOps.setFlag s q f p) q f) ∧
       (other → FlagOps.value (FlagOps.setFlag s q f p) q' f' = FlagOps.value s q' f') ∧
       FlagOps.setFlag s q f p = { s with flags := (FlagOps.setFlag s q f p).flags }) ∧
     (FlagOps.value s q f = true →
       FlagOps.value (FlagOps.clearFlag s q f p) q f = false ∧
       (FlagOps.trace (FlagOps.clearFlag s q f p) q f).clr = some p ∧
       (FlagOps.trace (FlagOps.clearFlag s q f p) q f).clrTime = now s ∧
       (∀ k, partner s q = some k → FlagOps.value (FlagOps.clearFlag s q f p) k f = false ∧
         FlagOps.trace (FlagOps.clearFlag s q f p) k f = FlagOps.trace (FlagOps.clearFlag s q f p) q f) ∧
       (other → FlagOps.value (FlagOps.clearFlag s q f p) q' f' = FlagOps.value s q' f') ∧
       FlagOps.clearFlag s q f p = { s with flags := (FlagOps.clearFlag s q f p).flags })) ∧
  (∀ (s : State) (q f q' f' : Nat) (p : Party), FlagOps.value s q f = true → (FlagOps.attr s q f).policy = true →
     ((∀ k, partner s q = some k → FlagOps.key q' f' ≠ FlagOps.key k f) →
       FlagOps.value (FlagOps.setFlag s q f p) q' f' = FlagOps.value s q' f') ∧
     (FlagOps.trace (FlagOps.setFlag s q f p) q f).ovr = min 65535 ((FlagOps.trace s q f).ovr + 1) ∧
     FlagOps.setFlag s q f p = { s with flags := (FlagOps.setFlag s q f p).flags })

/-- WAITS, WAITC, WAIT_SATISFIED and WAIT_TIMEOUT complete (R161, R168, R256, R257). A legal wait that its stream has reached passes in its
turn when every named flag is set, WAITC clearing them, and blocks its stream otherwise.

WAIT_SATISFIED and WAIT_TIMEOUT end a wait that a stream is blocked on (R53, R161, R168, R257): a wait whose flags are set passes in its
turn, taking an issue slot of the cycle; once nothing that R52 places before is left of the cycle, one whose deadline has passed makes its
context FAULTED, after a class 0x23 record that is marked DRILL where a drill caused it (R371), and marks its flags for R53. Completes:
waits, waitc, waitSatisfied, waitTimeout. -/
def Obligations.FlagWaitsComplete : Prop :=
  (∀ (s : State) (i : Issuer) (w : FlagWord) (r : Issue.Runner), Issue.legalFlag w = true →
     let n := Issue.noted s i
     let passed := fun (t : State) => modStream t r.c i.core i.stream (fun x => { x with wait := none, pc := x.pc + 1 })
     let blocked := fun (c : Bool) => modStream s r.c i.core i.stream (fun t => { t with wait := some (FlagCtl.waitOf s c w) })
     (CanIssue s i r (.flag 0 w) → FlagOps.met s i.core (FlagCtl.waitOf s false w) = true → exec (.waits i w) s = .next (passed n)) ∧
     (Reached s i r (.flag 0 w) → FlagOps.met s i.core (FlagCtl.waitOf s false w) = false →
       exec (.waits i w) s = .next (blocked false)) ∧
     (CanIssue s i r (.flag 1 w) → FlagOps.met s i.core (FlagCtl.waitOf s true w) = true →
       exec (.waitc i w) s =
         .next (passed (FlagOps.consume (w.nfl + 1) n i.core w.flag (FlagOps.streamParty n i.core r.c i.stream)))) ∧
     (Reached s i r (.flag 1 w) → FlagOps.met s i.core (FlagCtl.waitOf s true w) = false →
       exec (.waitc i w) s = .next (blocked true))) ∧
  (∀ (s : State) (i : Issuer) (c : Nat) (w : WaitState), Issue.pendingWait s i = some (c, w) → Issue.myTurn s i = true →
     FlagOps.met s i.core w = true → exec (.waitSatisfied i) s = .next (FlagOps.passWait (Issue.noted s i) c i.core i.stream w)) ∧
  (∀ (s : State) (i : Issuer) (c : Nat) (x : Ctx) (t : StreamState) (w : WaitState), FlagCtl.waiting s i = some (c, x, t, w) →
     Order.turn 5 s = true → FlagOps.met s i.core w = false → w.timeout ≠ 0 → 1000 * w.timeout ≤ w.used + (now s - w.since) →
     let keys := (List.range w.count).map (fun j => FlagOps.key i.core (w.flag + j))
     let s1 := Report.raise s
       { cls := 0x23, unit := Report.unitCode 2 i.core, ctx := c, stream := Report.streamByte i.stream,
         op := Report.opField 4 (if w.consume = true then 1 else 0), aux := 2,
         detail := Report.detail [(40, le 2 (FlagCtl.firstUnset s i.core w)), (44, le 4 t.pc)] } 2 (Report.drilledNow s)
     let s2 := modFlags s1 (fun y => { y with late := keys.foldl (fun m k => SMap.ins m k true) y.late })
     let marks := if Report.drilledNow s = true then keys.map (fun k => (5, k)) else []
     let s3 := modErr s2 (fun e => { e with drilled := marks ++ e.drilled.filter (fun d => !(d.1 == 5 && keys.contains d.2)) })
     exec (.waitTimeout i) s = .next (Report.faultCore s3 c i.core))

/-- SET and CLEAR complete: a legal word that its stream can issue takes an issue slot, the stream moves on, and each named flag in
ascending order takes the action, one on which a wait has timed out as a late one (R53, R161, R168, R256). No wait is evaluated before
the actions of the cycle are over. The context is not redundant, or its pair agrees (R363).

FLG_ACT, in its place of the cycle (R256): a host write with FACT 1 sets the flag, with FACT 2 clears it, with FACT 0 takes no action; each
is answered OK (R261). Under a swap of the core the action is held (R85). The partner core of a redundant pair refuses such a write
(R362). Completes: setFlags, clearFlags, flgActSet, flgActClear, flgActNone. -/
def Obligations.FlagActionsComplete : Prop :=
  (∀ (s : State) (i : Issuer) (w : FlagWord) (r : Issue.Runner) (pair : Option PairFault), Issue.legalFlag w = true →
     let p := FlagOps.streamParty s i.core r.c i.stream
     let n := Issue.noted s i
     pair = none ∨ Pairs.redundant n r.c = false →
     let seen := fun (acc : State) (f : Nat) => FlagOps.late (FlagOps.noteIssue acc i.core f) i.core f
     (CanIssue s i r (.flag 2 w) → exec (.setFlags i ⟨w, pair⟩) s =
       .next (FlagCtl.actAll (fun acc f => FlagOps.setFlag (seen acc f) i.core f p) (w.nfl + 1) (Issue.advance n r.c i) w.flag)) ∧
     (CanIssue s i r (.flag 3 w) → exec (.clearFlags i ⟨w, pair⟩) s =
       .next (FlagCtl.actAll (fun acc f => FlagOps.clearFlag (seen acc f) i.core f p) (w.nfl + 1) (Issue.advance n r.c i) w.flag))) ∧
  (∀ (s : State) (q : Nat) (v : W64), Order.turn 3 s = true → hostServed s = true →
     let f := v.toNat % 8192
     let ok := fun (t : State) => emit t (.answer 0 [])
     (FlagOps.swapping s q = false → isPartner s q = false →
       (v.toNat / 16384 % 4 = 1 →
         exec (.flgActSet q v) s = .next (ok (FlagOps.setFlag (FlagOps.late s q f) q f (FlagWindow.hostParty s)))) ∧
       (v.toNat / 16384 % 4 = 2 →
         exec (.flgActClear q v) s = .next (ok (FlagOps.clearFlag (FlagOps.late s q f) q f (FlagWindow.hostParty s)))) ∧
       (v.toNat / 16384 % 4 = 0 → exec (.flgActNone q v) s = .next (ok s))) ∧
     (FlagOps.swapping s q = true → isPartner s q = false → v.toNat / 16384 % 4 = 1 →
       exec (.flgActSet q v) s =
         .next (ok (modFlags s (fun x => { x with held := x.held ++ [(q, .act f 1 (FlagWindow.hostParty s))] })))) ∧
     (isPartner s q = true →
       (v.toNat / 16384 % 4 = 1 → exec (.flgActSet q v) s = .next (emit s (.answer 2 []))) ∧
       (v.toNat / 16384 % 4 = 2 → exec (.flgActClear q v) s = .next (emit s (.answer 2 []))) ∧
       (v.toNat / 16384 % 4 = 0 → exec (.flgActNone q v) s = .next (emit s (.answer 2 [])))))

/-! ## The vector stream engine, the array and register mode -/

/-- Every vector operation issues: a legal word that its stream can issue takes an issue slot and is appended to the engine's queue with the
descriptors read and the counter taken at issue, starting at once where the engine is free and the window of the governor's share open;
its stream moves on with one more operation in flight; a compress also marks its counter as awaited. Nothing else changes, unless a
descriptor that it names lies in a corrupted word (R126, R150, R159 to R161, R499).
Completes: the 47 commands of `vectorCommands`, add, sub, mul, fma, axpy, maxOp, minOp, absOp, neg, cvt, select, fill, iota, div, recip,
sqrt, rsqrt, exp, log, tanh, sigmoid, erf, silu, gelu, expsub, cmplt, cmple, cmpeq, cmpne, isfin, rsum, rsumsq, rmax, rmin, rargmax, rtop2,
scan, compress, compressr, expand, expandr, gather, gatherr, mcount, mand, mor and mnot. -/
def Obligations.VectorOperationsIssue : Prop :=
  ∀ (s : State) (i : Issuer) (w : VecWord) (r : Issue.Runner) (op : VecOp),
    ∀ p ∈ vectorCommands i w, CanIssue s i r (.vec p.2 w) → Vector.legal s r i p.2 w = some op →
      let n := Issue.noted s i
      i.core < 64 → Operand.descBad n r.x i.core (Vector.named p.2 w) = false →
      let s1 := Issue.launched (Vector.setQueue n i.core (Vector.startNext s (Vector.queue n i.core ++ [op]))) r.c i
      exec p.1 s = .next (if p.2 = 0x30 ∨ p.2 = 0x31
        then modStream s1 r.c i.core i.stream (fun t => { t with ctrBusy := t.ctrBusy ++ [w.ctr] }) else s1)

/-- VECTOR_OP_COMPLETE of an operation that has started, without corrupted operands, counter or index fault, in its turn of the cycle (R52)
and of the core's completions (R256): its result bytes are stored (the first block's check value as a CHECK_FLIP drill asks, R370), the
census takes its counts, its stream takes the status bits and the flag action, and the next operation of the engine starts (R147, R149,
R170, R499). Not sooner than R146 allows after the start. In a redundant pair the comparator takes the bytes and the flag action (R363);
a pair that agrees leaves both as they are. Completes: vectorOpComplete. -/
def Obligations.VectorOperationsComplete : Prop :=
  ∀ (s : State) (q t0 : Nat) (op : VecOp) (rest : List VecOp) (pair : Option PairFault), Vector.queue s q = op :: rest →
    Order.turn 4 s = true → Issue.nextToComplete s q (4 * op.slot + op.stream, op.serial) = true →
    op.started = some t0 → t0 + Vector.minCycles s op ≤ cycle s → Vector.tainted s op = false →
    (Vector.outcome s op).ctr = none → (Vector.outcome s op).fault = false →
    let x := Vector.site q op
    let o := Vector.outcome s op
    let s0 := Vector.readAll (Vector.setQueue s q (Vector.startNext s rest)) q op
    let w := Pairs.bytes s0 x o.bytes pair
    let s1 := Vector.flipCheck (Mem.storeMap w.1 w.2 (Vector.requester q op)) q w.2
    let s2 := Vector.censusAll s1 q op o.counts
    let y := Pairs.action s2 x op.word.fact op.word.flag pair
    exec (.vectorOpComplete q ⟨[], pair⟩) s =
      .next (Issue.complete y.1 op.ctx q op.stream
        (Issue.flagBit (o.counts.any (fun c => decide (0 < c.2.saturated))) Issue.bSaturated |||
         Issue.flagBit (o.counts.any (fun c => decide (0 < c.2.nonfinite))) Issue.bNonfinite |||
         Issue.flagBit o.capacity Issue.bCapacity) op.word.fact y.2) ∧
    (pair = none → w = (s0, o.bytes) ∧ y = (s2, op.word.flag))

/-- PASS: a legal pass that its stream can issue takes an issue slot and is held with its descriptors and its tile, its stream moves on and
one more operation is in flight (R63, R161, R165); a pass that loads weights also becomes the context's tile on the core. The
descriptors it names lie in no corrupted word.

PASS_FEED_START (R56, R61, R62, R73, R176): the first pass not yet fed enters the array once its weights are ready, the Cicada stands at
level 64 and no context switch holds the array or waits for it, and its tile becomes the active one. Completes: pass, passFeedStart. -/
def Obligations.PassesIssueAndFeed : Prop :=
  (∀ (s : State) (i : Issuer) (w : PassWord) (r : Issue.Runner) (d x o : StreamDesc), CanIssue s i r (.pass w) →
     Array.legalPass s r i.core w = some (d, x, o) →
     let n := Issue.noted s i
     i.core < 64 → Operand.descBad n r.x i.core (Array.passDescs w) = false →
     let lt := Array.tileFor n r.c i.core i.stream w d
     let p : PassOp := { ctx := r.c, slot := i.slot, stream := i.stream, serial := r.t.serial, pc := r.t.pc, word := w, tile := lt.2,
                         x := x, o := o, m := x.rows, half := Array.four d.format && w.read, fed := none }
     let s1 := Array.hold lt.1 i.core p
     exec (.pass i ⟨w, []⟩) s = .next (Issue.launched
       (if w.neww = true then modCore s1 r.c i.core (fun k => { k with tile := some d, tileIndex := w.tile }) else s1) r.c i)) ∧
  (∀ (s : State) (q : Nat) (p : PassOp), let a := Array.arrayOf s q
     let iv := Array.interval p.tile.desc.format
     Array.nextFeed a.passes = some p → Array.fullLevel s q p.ctx = true → Array.weightsReady a p = true →
     Array.earliest a p ≤ cycle s → Cicada.switching s q = false → Slots.switchReady s q = false →
     exec (.passFeedStart q) s = .next (Array.setArray s q { a with
       passes := updFirst (fun (x : PassOp) => x.fed.isNone) (fun x => { x with fed := some (cycle s) }) a.passes,
       active := p.tile, lastEnter := some (cycle s + iv * (Array.vectors p - 1), p.word.read, iv) }))

/-- PASS_COMPLETE of a pass, in its turn of the cycle (R52) and of the core's completions (R256), of which no vector mismatches, with clean
activations and weights and no fault of the hardware: the accumulator file takes the totals of every vector, the pass leaves the array,
the counters of R505 count it, and its stream takes the status bits and the flag action; a core due at a pass may then begin its swap
(R66, R85, R106 to R108, R165). With LAST every result byte is stored and the census takes the counts; nothing else is stored (R109 to
R111, R118, R165).

A pass of a redundant context runs in the arrays of both cores, each on its own accumulators, and the comparator takes what either would
write (R361 to R363). Completes: passComplete. -/
def Obligations.PassesComplete : Prop :=
  (∀ (s : State) (q : Nat) (p : PassOp) (rest : List PassOp) (pair : Option PairFault), (Array.arrayOf s q).passes = p :: rest → p.fed ≠ none →
     Order.turn 4 s = true → Issue.nextToComplete s q (4 * p.slot + p.stream, p.serial) = true → Array.doneAt p ≤ cycle s →
     Operand.anyBad s p.x = false → p.tile.bad = [] → Pairs.redundant s p.ctx = false →
     let a := { Array.arrayOf s q with passes := rest }
     let rq : Mem.Req := { unit := Report.unitCode 0 q, ctx := p.ctx, stream := some p.stream, op := Report.opField 1 0 }
     let s0 := Operand.loadAll s p.x rq
     let k := physOf s0 q
     let vs := Array.runVectors s a p none
     (∀ r ∈ vs, r.2.2.mismatch = false) →
     let a1 := Array.afterPass a p vs
     let skips := (vs.filter (fun r => r.2.2.skipped)).length
     let lost := vs.foldl (fun n r => r.2.2.lanes.foldl (fun m l => m + l.lost) n) 0
     let s1 := Array.setArray s0 q a1
     let s2 := Array.countStalls (Cicada.bump (Cicada.bump (Cicada.bump (Cicada.bump (Cicada.bump s1 k 0 1) k 1 (vs.length - skips))
       k 2 skips) k 3 0) k 6 lost) k p
     let ends := fun (t : State) =>
       let y := Pairs.action t (Array.site q p) p.word.fact p.word.flag pair
       Swaps.atPass (Issue.complete y.1 p.ctx q p.stream
         (Issue.flagBit (SMap.val false a1.tileSat p.word.entry) Issue.bSaturated |||
          Issue.flagBit (SMap.val false a1.tileLoss p.word.entry) Issue.bWindowLoss) p.word.fact y.2) q (Swaps.dueAtPass s q)
     (p.word.last = false → exec (.passComplete q ⟨none, none, pair⟩ []) s = .next (ends s2)) ∧
     (p.word.last = true → exec (.passComplete q ⟨none, none, pair⟩ []) s =
       .next (let w := Array.writeOut s2 p a1
              ends (Operand.censusAdd (Mem.storeMap s2 w.1 rq) p.ctx p.o.tensor w.2 (SMap.val false a1.tileLoss p.word.entry)
                p.word.ovf rq)))) ∧
  (∀ (s : State) (q : Nat) (p : PassOp) (rest : List PassOp) (pair : Option PairFault), (Array.arrayOf s q).passes = p :: rest → p.fed ≠ none →
     Order.turn 4 s = true → Issue.nextToComplete s q (4 * p.slot + p.stream, p.serial) = true → Array.doneAt p ≤ cycle s →
     Operand.anyBad s p.x = false → p.tile.bad = [] → Pairs.redundant s p.ctx = true →
     let rq : Mem.Req := { unit := Report.unitCode 0 q, ctx := p.ctx, stream := some p.stream, op := Report.opField 1 0 }
     let own := Array.ranOn s { Array.arrayOf s q with passes := rest } p none
     let other := Array.ranOn s (Array.arrayOf s (q + 1)) p none
     let s1 := Array.endOn (Array.endOn (Operand.loadAll s p.x rq) q p own none) (q + 1) p other none
     let s2 := if p.word.last = true then Array.writePass s1 q p (some other.after) pair rq else s1
     let y := Pairs.action s2 (Array.site q p) p.word.fact p.word.flag pair
     exec (.passComplete q ⟨none, none, pair⟩ []) s = .next (Swaps.atPass (Issue.complete y.1 p.ctx q p.stream
       (Issue.flagBit (SMap.val false own.after.tileSat p.word.entry) Issue.bSaturated |||
        Issue.flagBit (Array.lossOf own.after p) Issue.bWindowLoss |||
        Issue.flagBit (Array.firstMismatch own.vs).isSome Issue.bMismatch) p.word.fact y.2) q (Swaps.dueAtPass s q)))

/-- The Cicada (R73): after 2,048 gap cycles in a row a level above 0 starts to fall; a level step moves it by one, once 40 cycles have passed
since the last, up to 64 or down to 0. Only the core's own record changes.

Gap and dummy cycles are counted as the clock passes (R73, R505): n cycles in which the array has a gap add n to the run of R73, up to its
2,048, and any other cycle ends the run; dummy products add to their counter alone. Completes: cicadaRampDownStart and cicadaLevelStep. -/
def Obligations.CicadaLevelsMove : Prop :=
  ∀ (s : State) (k : Nat), let a := Cicada.physAt s k
    (Cicada.inGap s k = true → a.ramp = 0 → 0 < a.level → 2048 ≤ a.gapRun →
      exec (.cicadaRampDownStart k) s = .next (Cicada.setPhys s k { a with ramp := 2, rampAt := cycle s })) ∧
    (a.rampAt + 40 ≤ cycle s → a.ramp = 2 → 0 < a.level →
      exec (.cicadaLevelStep k) s = .next (Cicada.setPhys s k
        { a with level := a.level - 1, rampAt := a.rampAt + 40, ramp := if a.level = 1 then 0 else 2 })) ∧
    (a.rampAt + 40 ≤ cycle s → a.ramp = 1 → a.level < 64 →
      exec (.cicadaLevelStep k) s = .next (Cicada.setPhys s k
        { a with level := a.level + 1, rampAt := a.rampAt + 40, ramp := if a.level + 1 = 64 then 0 else 1 })) ∧
    (∀ n, (Cicada.passed s k n a).gapRun = (if Cicada.inGap s k = true then min 2048 (a.gapRun + n) else 0) ∧
      SMap.val 0 (Cicada.passed s k n a).counters 5 =
        min (2 ^ 48 - 1) (SMap.val 0 a.counters 5 + if Cicada.dummies s k = true then n else 0) ∧
      (∀ j, j ≠ 5 → SMap.val 0 (Cicada.passed s k n a).counters j = SMap.val 0 a.counters j) ∧
      (Cicada.passed s k n a).level = a.level ∧ (Cicada.passed s k n a).err10 = a.err10)

/-- Register mode (R151 to R155): an instruction runs when its word, with no reserved bit set, stands at the program counter of a running
program; it changes the core's register-mode record alone, and the program counter moves on. LDI, LDGEN, DIGEST, CHKLO and CHKHI, and the
lane operations of R133.

LD and ST of register mode: the 1,024 bytes at window base + IMM move between the register named and the core's own scratchpad when it
has no active role, or the scratchpad or pantry word by word when it has; a load of clean words and a store that meets no bad word raise
nothing, and an ST stores its 1,024 bytes and no others (R153). Completes: rmLaneOp, ldi, ldgen, ld, st, rmDigest, chklo and chkhi. -/
def Obligations.RegisterModeInstructionsComplete : Prop :=
  (∀ (s : State) (k : Nat) (w : RmWord), let x := RegMode.core s k
     (RmReady s k 0x80 w → exec (.ldi k w) s =
       .next (RegMode.setCore s k (RegMode.nextPc (RegMode.setReg x w.vd (List.replicate 256 w.imm))))) ∧
     (RmReady s k 0x81 w → exec (.ldgen k w) s = .next (RegMode.setCore s k (RegMode.nextPc (RegMode.ldgenOp w x)))) ∧
     (RmReady s k 0x84 w → exec (.rmDigest k w) s =
       .next (RegMode.setCore s k (RegMode.nextPc { x with acc := RegMode.fold x.acc (RegMode.reg x w.va) }))) ∧
     (RmReady s k 0x85 w → exec (.chklo k w) s =
       .next (RegMode.setCore s k (RegMode.nextPc { x with fail := x.fail || x.acc.setWidth 32 != w.imm }))) ∧
     (RmReady s k 0x86 w → exec (.chkhi k w) s =
       .next (RegMode.setCore s k (RegMode.nextPc { x with fail := x.fail || (x.acc >>> 32).setWidth 32 != w.imm }))) ∧
     (∀ y, RmReady s k w.op w → ¬ (0x80 ≤ w.op ∧ w.op ≤ 0x88) → RegMode.laneOp w x = some y →
       exec (.rmLaneOp k w) s = .next (RegMode.setCore s k (RegMode.nextPc y)))) ∧
  (∀ (s : State) (k : Nat) (w : RmWord), let x := RegMode.core s k
     (∀ o, RmReady s k 0x82 w → RegMode.window s k x w.imm = some (.own o) → exec (.ld k ⟨w, []⟩) s =
       .next (RegMode.setCore s k (RegMode.nextPc
         (RegMode.setReg x w.vd (RegMode.lanesOf ((List.range 1024).map (fun i => SMap.val 0 x.spad (o + i)))))))) ∧
     (∀ o, RmReady s k 0x83 w → RegMode.window s k x w.imm = some (.own o) → exec (.st k ⟨w, []⟩) s =
       .next (RegMode.setCore s k (RegMode.nextPc { x with spad := Mem.pokeCells x.spad o (RegMode.bytesOf (RegMode.reg x w.va)) }))) ∧
     (∀ a, RmReady s k 0x82 w → RegMode.window s k x w.imm = some (.mem a) → Mem.anyMarked s.mem.badWord 8 a 1024 = false →
       exec (.ld k ⟨w, []⟩) s =
         .next (RegMode.setCore s k (RegMode.nextPc (RegMode.setReg x w.vd (RegMode.lanesOf (Mem.bytesAt s a 1024)))))) ∧
     (∀ a, RmReady s k 0x83 w → RegMode.window s k x w.imm = some (.mem a) →
       let q : Mem.Req := { unit := Report.unitCode 1 ((logicalOf s k).getD 0) }
       let b := RegMode.bytesOf (RegMode.reg x w.va)
       Mem.reactWrite s a b.length q = s →
       exec (.st k ⟨w, []⟩) s = .next (RegMode.setCore (Mem.store' s a b q) k (RegMode.nextPc x))))

/-- LOOP, HALT and the program limit, entering register mode and leaving it (R151, R153, R155, R516): a LOOP of a nonzero count begins at the
next word; HALT reports the digest and stops the program; a program past its limit, of a core that is not under a known-answer test, stops
with FAIL set. What is loaded takes the first words of the program memory, of 2,048. Completes: rmLoop, halt, rmProgramLimit, rmModeSet and
rmModeClear. -/
def Obligations.RegisterModeControlCompletes : Prop :=
  ∀ (s : State) (k : Nat) (w : RmWord) (v : W64) (program : List W64), let x := RegMode.core s k
    (RmReady s k 0x87 w → x.loop = none → w.imm.toNat / 65536 % 4096 ≠ 0 → w.imm.toNat % 65536 ≠ 0 →
      exec (.rmLoop k w) s = .next (RegMode.setCore s k
        { x with loop := some (x.pc + 1, w.imm.toNat / 65536 % 4096, w.imm.toNat % 65536), pc := x.pc + 1 })) ∧
    (RmReady s k 0x88 w →
      exec (.halt k w) s = .next (RegMode.setCore s k
        { x with halted := true, running := false, digest := x.acc, loop := none })) ∧
    (x.mode = true → x.running = true → x.started + 1000 * x.limit ≤ s.ns → Weevils.underTest s k = false →
      exec (.rmProgramLimit k) s = .next (RegMode.setCore s k
        { x with fail := true, halted := true, running := false, loop := none })) ∧
    (k < 72 → v.toNat % 2 = 1 → v.toNat / 1099511627776 % 16777216 ≠ 0 → x.mode = false → RegMode.mayEnter s k = true →
      exec (.rmModeSet k v program) s = .next (RegMode.setCore (drawn s) k
        { x with program := (program ++ x.program.drop program.length).take 2048, mode := true, limit := v.toNat / 1099511627776 % 16777216,
                 fail := false, halted := false, regs := [], acc := 0, pc := 0, gens := 0, loop := none, started := s.ns, running := true,
                 draw := s.free })) ∧
    (k < 72 → v.toNat % 2 = 0 → v.toNat / 1099511627776 % 16777216 ≠ 0 → x.limit = v.toNat / 1099511627776 % 16777216 →
      exec (.rmModeClear k v) s = .next (RegMode.setCore s k { x with mode := false, running := false, regs := [], loop := none }))

/-! ## Slots and swaps -/

/-- QUANTUM_EXPIRY, CONTEXT_SWITCH and SWITCH_COMPLETE (R173, R174, R176, R178, R514). The quanta of a core whose time is up expire and begin
again. For an expired quantum the longest-resident context that may leave becomes due when a waiting context is eligible for its slot; where
one has been passed over for four quanta, the contexts that meet its range become due instead. A context that yields in the same cycle goes
before it. A due context whose operations have completed is saved and leaves for the next one, which enters, once no pass is in progress;
the next one is resident when the switch completes.

SWAP_COMPLETE (R73, R82, R86, R88, R178, R527): once the array of the moving core is drained and the spare has ramped up to level 64, the role
map names the spare in its place, a rotated core becomes the spare and is tested, the time of the swap is charged neither to the
residencies nor to the quanta, what the cluster's stop held for the core is delivered, the freed array rests at level 0, and a failed load
check of the copied weights is reported. Completes: quantumExpiry, contextSwitch, switchComplete and swapComplete. -/
def Obligations.SlotsAndSwapsComplete : Prop :=
  (∀ (s : State) (q : Nat), FlagOps.paused s q = false → Contexts.yielding s q = false → Order.turn 8 s = true →
     let s1 := Contexts.endQuanta s q
     (∀ c e k, Slots.starved s q = none → Contexts.longest s1 q = some (c, k) → Contexts.consumed s1 q c = some e →
       Slots.mayLeave s1 c q = true →
       exec (.quantumExpiry q) s = .next (Slots.makeDue (modCore s1 e q (fun k => { k with expired := false })) c q)) ∧
     (∀ w, (Contexts.candidates s q).any (fun p => Contexts.timeUp s p.2) = true → Slots.clearing s q = none →
       Slots.starved s q = some w → exec (.quantumExpiry q) s = .next (Contexts.evict s1 q w)) ∧
     (∀ p ∈ Contexts.candidates s q, Contexts.timeUp s p.2 = true → ∃ x, ctx? s1 p.1 = some x ∧ (onCore x q).expired = true ∧ (onCore x q).quantumAt = now s ∧
         (onCore x q).quantum = s.quantum)) ∧
  (∀ (s : State) (q slot c d : Nat) (x y : Ctx) (pair : Option PairFault),
     (ctxInSlot s q slot = some c → ctx? s c = some x → (onCore x q).state = .resident → (onCore x q).due = true →
       Issue.idle (onCore x q) = true → FlagOps.paused s q = false → Contexts.feeding s q = false → x.deleting = none →
       Slots.incoming s q (some c) = some d →
       exec (.contextSwitch q ⟨slot, [], pair⟩) s =
         .next (modCore (modCore (Slots.save s c q pair) c q (fun k =>
           { Contexts.chargeWaits s k with state := .leaving, slot := none, due := false, yielded := none, waitingSince := now s,
                                           passedOver := 0 })) d q (fun k => { k with state := .entering, slot := some slot }))) ∧
     (let s1 := Contexts.leave s q
      ctxInSlot s q slot = some c → ctx? s c = some x → (onCore x q).state = .entering → ctx? s1 c = some y → y.step.aborted = false →
       exec (.switchComplete q ⟨slot, [], pair⟩) s =
         .next (Swaps.atSwitchEnd (Slots.fill (Slots.becomeResident (Array.reload s1 c q) c q slot) q) q))) ∧
  (∀ (s : State) (n : Nat) (w : Swap) (load : Bool), let q := 8 * n + w.logical
     let old := physOf s q
     let k := 9 * n + w.spare
     SMap.look s.weevil.swaps n = some w → Swaps.drained s q = true → (Cicada.physAt s k).level = 64 →
     let s1 := Swaps.setRole s n
       { map := (Swaps.role s n).map.set w.logical w.spare,
         spare := if w.rotation = true then (Swaps.role s n).map.getD w.logical 0 else 15,
         failed := if w.rotation = true then (Swaps.role s n).failed
                   else (Swaps.role s n).failed ||| 2 ^ (Swaps.role s n).map.getD w.logical 0 }
     let s2 := modDex (modWeevil s1 (fun v => { v with
         swaps := SMap.del v.swaps n,
         testing := if w.rotation = true then SMap.ins v.testing old true else v.testing,
         testFrom := if w.rotation = true then SMap.ins v.testFrom old s.ns else v.testFrom }))
       (fun d => { d with decided := d.decided.filter (· != q) })
     let s3 := Cicada.setPhys s2 k { Cicada.physAt s2 k with ramp := 0 }
     let span := now s - w.startedAt
     let late := fun (t : StreamState) => { t with wait := t.wait.map (fun (v : WaitState) => { v with since := v.since + span }) }
     let held := fun (i : Nat) (c : CoreCtx) => if i == q && c.slot.isSome then
         mapStreams { c with enteredAt := c.enteredAt + span, quantumAt := c.quantumAt + span } late
       else c
     let s4 := { s3 with ctxs := SMap.mapVals (fun _ (x : Ctx) => { x with cores := SMap.mapVals held x.cores }) s3.ctxs }
     let s5 := Swaps.release s4 q
     let s6 := Cicada.setPhys s5 old { Cicada.physAt s5 old with level := 0, ramp := 0 }
     exec (.swapComplete ⟨n, load⟩) s = .next (Swaps.copyCheck s6 q load))

/-! ## The Hive -/

/-- HIVE_PUSH (R247, R248): a whole number of 64-byte cells that fits the queue and the pool is taken in, the pool gives as many cells, and the
writer is answered OK. In arrival mode the cells are appended in order at TAIL; in sequenced mode they take the places their positions
name, and those contiguous from TAIL become visible.

A refused push has no effect but its count and its answer (R247): a disabled queue, a write that is not 1 to 8 cells, a queue over its
quota, an empty pool, each with its status. Completes: hivePush. -/
def Obligations.HivePushes : Prop :=
  (∀ (s : State) (n q off : Nat) (data : Bytes) (check : W32), let h := HiveOps.hive s n
     let x := HiveOps.queue h q
     let k := data.length / 64
     HiveOps.refusal h x off data.length = none →
     ∃ t, exec (.hivePush n q off data check) s = .next t ∧
       (HiveOps.sequenced x = false → HiveOps.queue (HiveOps.hive t n) q =
         { x with held := x.held ++ HiveOps.cells h s.free data check, tail := (x.tail + k) % 4294967296 }) ∧
       (HiveOps.sequenced x = true → HiveOps.queue (HiveOps.hive t n) q = HiveOps.settle 32 { x with
         pend := ((HiveOps.positions x off k).zip (HiveOps.cells h s.free data check)).foldl (fun m p => SMap.ins m p.1 p.2) x.pend }) ∧
       (HiveOps.hive t n).free = h.free - k ∧ t.free = s.free + k ∧
       t.out = .answer 0 [] :: s.out ∧ t = { s with hives := t.hives, free := t.free, out := t.out }) ∧
  (∀ (s : State) (n q off st : Nat) (data : Bytes) (check : W32), let h := HiveOps.hive s n
     let x := HiveOps.queue h q
     HiveOps.refusal h x off data.length = some st →
     exec (.hivePush n q off data check) s =
       .next (emit (HiveOps.setHive s n { h with refused := min 4294967295 (h.refused + 1) }) (.answer st [])))

/-- HIVE_TAKE and HIVE_PEEK (R240, R249, R251): once no append to the queue is left of the cycle, a read of 1 to 8 cells that the queue holds
from CUR on answers their bytes and the nibbles of their check values; a take moves CUR past them, a peek changes nothing.

The queue commands (R245, R246): MARK takes CUR, REWIND sets CUR back, RELEASE frees the cells up to MARK, ADVANCE does MARK and
RELEASE, RESET empties the queue; a record write with an empty queue and a legal MODE sets quota, mode and owner. A queue that the step
protocol rewinds takes only REWIND and RESET.

HIVE_PATROL_SCRUB (R239): a clean word changes nothing, a corrected one is counted, an uncorrectable one raises a module fault of class
0x04. Completes: hiveTake, hivePeek, hiveMark, rewind, release, advance, hiveReset, queueConfigWrite and hivePatrolScrub. -/
def Obligations.HiveCommandsComplete : Prop :=
  (∀ (s : State) (n q k : Nat), let h := HiveOps.hive s n
     let x := HiveOps.queue h q
     Order.appended s n q = true → x.cap ≠ 0 → 0 < k → k ≤ 8 → k ≤ dist32 x.tail x.cur →
     let cs := HiveOps.nextCells x k
     let b := cs.flatMap (·.data)
     let c := cs.map (·.nibble)
     exec (.hiveTake n q ⟨64 * k, []⟩) s = .next (emit (HiveOps.setHive s n
       (HiveOps.setQueue h q { x with cur := (x.cur + k) % 4294967296 })) (.cells 0 b c)) ∧
     exec (.hivePeek n q ⟨64 * k, []⟩) s = .next (emit s (.cells 0 b c))) ∧
  (∀ (s : State) (n q : Nat) (v : W64), let h := HiveOps.hive s n
     let x := HiveOps.queue h q
     (HiveOps.stepRewind s x = false →
       exec (.hiveMark n q 0) s = .next (emit (HiveOps.setHive s n (HiveOps.setQueue h q { x with mark := x.cur })) (.answer 0 [])) ∧
       exec (.release n q 0) s = .next (emit (HiveOps.setHive s n (HiveOps.freeCells (HiveOps.setQueue h q
         { x with held := x.held.drop (dist32 x.mark x.head), head := x.mark }) (dist32 x.mark x.head))) (.answer 0 [])) ∧
       exec (.advance n q 0) s = .next (emit (HiveOps.setHive s n (HiveOps.releaseQueue (HiveOps.markQueue h q) q)) (.answer 0 []))) ∧
     exec (.rewind n q 0) s = .next (emit (HiveOps.setHive s n (HiveOps.setQueue h q { x with cur := x.mark })) (.answer 0 [])) ∧
     exec (.hiveReset n q 0) s = .next (emit (HiveOps.setHive s n (HiveOps.freeCells (HiveOps.setQueue h q
       { x with held := [], pend := [], head := x.tail, mark := x.tail, cur := x.tail, stail := x.tail }) (HiveOps.occupancy x)))
       (.answer 0 [])) ∧
     (HiveOps.occupancy x = 0 → v.toNat / 65536 % 256 < 8 → ¬ (v.toNat / 262144 % 2 = 1 ∧ v.toNat / 131072 % 2 = 0) →
       exec (.queueConfigWrite n q v) s = .next (emit (HiveOps.setHive s n (HiveOps.setQueue h q
         { x with cap := v.toNat % 65536, mode := v.toNat / 65536 % 256, owner := v.toNat / 16777216 % 256, mark := x.tail,
                  stail := x.tail })) (.answer 0 [])))) ∧
  (∀ (s : State) (n q cell : Nat),
     exec (.hivePatrolScrub n q cell .clean) s = .next s ∧
     exec (.hivePatrolScrub n q cell .corrected) s =
       .next (Report.addCorrected (HiveOps.setHive s n { HiveOps.hive s n with ce := min 4294967295 ((HiveOps.hive s n).ce + 1) }) 1) ∧
     exec (.hivePatrolScrub n q cell .uncorrectable) s =
       .next (Report.raise s { cls := 0x04, unit := Report.unitCode 6 n,
                               detail := Report.detail [(40, le 2 (Report.unitCode 6 n)), (42, le 2 q), (44, le 4 cell)] } 4))

/-! ## The update engines and the Presses -/

/-- A write of a whole slot of a Churn's or a Press's ring storage whose SEQ names the slot is stored there and answered OK; any other write
to the window changes nothing and is answered with an error completion (R181, R225).

PACK and UNPACK start, and a run of a Press finishes (R226, R228, R233 to R235): a start appends the run to the Press, which holds at most
four; a run with nothing left to send or to receive writes its bytes, its report and its flag action, in its turn of the cycle (R52), and
leaves the Press, an image read from a memory peer being decoded first. Completes: churnSlotWrite, pressSlotWrite, pack, unpack and
pressDescriptorFinish. -/
def Obligations.EngineSlotsAndPressesComplete : Prop :=
  (∀ (s : State) (n o a : Nat) (data : Bytes),
     (Mem.locate a = .churn n o →
       (data.length = 128 ∧ o % 128 = 0 ∧ at' data 0 4 % 64 = o / 128 % 64 →
         exec (.churnSlotWrite a data) s = .next (emit (ChurnOps.setChurn s n { ChurnOps.churn s n with
           slots := SMap.ins (ChurnOps.churn s n).slots (64 * (o / 8192) + o / 128 % 64) data }) (.answer 0 []))) ∧
       (¬ (data.length = 128 ∧ o % 128 = 0 ∧ at' data 0 4 % 64 = o / 128 % 64) →
         exec (.churnSlotWrite a data) s = .next (emit s (.answer 3 [])))) ∧
     (Mem.locate a = .press n o →
       (data.length = 64 ∧ o % 64 = 0 ∧ at' data 0 4 % 64 = o / 64 % 64 →
         exec (.pressSlotWrite a data) s = .next (emit (PressOps.setPress s n { PressOps.press s n with
           slots := SMap.ins (PressOps.press s n).slots (64 * (o / 4096) + o / 64 % 64) data }) (.answer 0 []))) ∧
       (¬ (data.length = 64 ∧ o % 64 = 0 ∧ at' data 0 4 % 64 = o / 64 % 64) →
         exec (.pressSlotWrite a data) s = .next (emit s (.answer 3 []))))) ∧
  (∀ (s : State) (n r : Nat) (image : Option Bytes) (hits : List CodeHit) (ok : Bool) (u : PressRun), let x := PressOps.press s n
     let d := PressOps.headDesc x r
     let s0 := Mem.inject s hits (PressOps.requester n d)
     (fenced s = false → x.runs.length < 4 → PressOps.chosen x = some r → dead s0 d.ctx = false → PressOps.bad d = false →
       (d.op = 1 → exec (.pack n r hits) s =
         .next (let b := PressOps.pack s0 n r d
                let y := PressOps.press b.1 n
                RemoteOps.pressPump 64 (PressOps.setPress b.1 n { y with runs := y.runs ++ [b.2], lastRing := r }) n r)) ∧
       (d.op = 2 → exec (.unpack n r image hits) s =
         .next (let b := PressOps.unpack s0 n r d image
                let y := PressOps.press b.1 n
                RemoteOps.pressPump 64 (PressOps.setPress b.1 n { y with runs := y.runs ++ [b.2], lastRing := r }) n r))) ∧
     (RemoteOps.runOf s n r = some u → PressOps.quiet u = true → Order.turn 2 s = true →
       (¬ (u.desc.op = 2 ∧ u.desc.tgt = 2 ∧ u.status = 1 ∧ u.failed = false) →
         exec (.pressDescriptorFinish n r ok) s = .next (PressOps.finishRun s n u (PressOps.finalStatus s u ok) ok)) ∧
       (u.desc.op = 2 ∧ u.desc.tgt = 2 ∧ u.status = 1 ∧ u.failed = false →
         exec (.pressDescriptorFinish n r ok) s =
           .next (let len := u.buf.foldl (fun acc p => max acc (p.1 + 1)) 0
                  let v := PressOps.unpackBytes s.free u ((List.range len).map (fun i => SMap.val 0#8 u.buf i))
                  PressOps.finishRun (drawn s) n v (PressOps.finalStatus s v ok) ok))))

/-- The update operations (R183, R193 to R198, R206): the descriptor at the head of the ring that the Churn runs next starts when the module is
not fenced, the Churn is free, the window of the governor's share is open (R499) and the descriptor's OPT is the row's; what it computes
waits in the Churn for its finish.

A finished update descriptor (R199, R201, R202): no sooner than R199 allows, in its turn of the cycle (R52), it writes its elements, adds
its digest, writes its report, takes its flag action, and its ring goes on to the next number. Completes: sgdMomentum, adam,
factoredSecondMoment, signMomentum, sumsq, cast, churnDigest and churnDescriptorFinish. -/
def Obligations.UpdateDescriptorsRun : Prop :=
  (∀ (s : State) (n r : Nat) (hits : List CodeHit), fenced s = false → (ChurnOps.churn s n).run = none →
     ChurnOps.chosen (ChurnOps.churn s n) = some r → Issue.windowOpen s (Issue.vectorShare (Issue.level s)) = true →
     let d := ChurnOps.headDesc (ChurnOps.churn s n) r
     (∀ p ∈ [(Instr.sgdMomentum n r hits, 0), (.adam n r hits, 1), (.factoredSecondMoment n r hits, 2), (.signMomentum n r hits, 3),
             (.sumsq n r hits, 4), (.cast n r hits, 5)], d.opt = p.2 →
       let b := ChurnOps.begin' (Mem.inject s hits (ChurnOps.requester n d)) n r d
       exec p.1 s = .next (ChurnOps.setChurn b.1 n { ChurnOps.churn b.1 n with run := some b.2 })) ∧
     (d.opt = 6 →
       let b := ChurnOps.begin' s n r d
       exec (.churnDigest n r) s = .next (ChurnOps.setChurn b.1 n { ChurnOps.churn b.1 n with run := some b.2 }))) ∧
  (∀ (s : State) (n : Nat) (u : ChurnRun), (ChurnOps.churn s n).run = some u → Order.turn 1 s = true →
     ChurnOps.timeOver u = true →
     ∃ t, exec (.churnDescriptorFinish n) s = .next t ∧ t = ChurnOps.finishRun s n u ∧
       (ChurnOps.churn t n).run = none ∧ (ChurnOps.churn t n).lastRing = u.ring)

/-! ## Remote operations, packets and the router -/

/-- PUT, GET, PUTF, FSET, FCLR, MPUT and CHAIN (R161, R263 to R272, R282, R284): a legal operation that its stream can issue, with a tag free and
its destinations mapped, takes an issue slot, holds the tag, is in flight on its stream, and its packets are numbered on its pair and
sent as the window allows. `hits` is what the codes report among the local data and the descriptor; a redundant pair whose headers
differ is reported first (R363).

A rank that maps no module (R266): the operation sends nothing, raises class 0x32 subcause 13 and completes with PARTIAL.
Completes: put, get, putf, fset, fclr, mput and chain. -/
def Obligations.RemoteOperationsIssue : Prop :=
  ∀ (s : State) (i : Issuer) (w : RemWord) (hits : List CodeHit) (pair : Option PairFault) (r : Issue.Runner) (tag : Nat),
    RemoteOps.freeTag s = some tag →
    ∀ p ∈ [(Instr.put i ⟨w, pair⟩ hits, 0, hits), (.get i ⟨w, pair⟩, 1, []), (.putf i ⟨w, pair⟩ hits, 2, hits), (.fset i ⟨w, pair⟩, 3, []),
           (.fclr i ⟨w, pair⟩, 4, []), (.mput i ⟨w, pair⟩ hits, 5, hits), (.chain i ⟨w, pair⟩ hits, 6, hits)],
      CanIssue s i r (.rem p.2.1 w) → RemoteOps.legalWord p.2.1 w = true →
      let flag := p.2.1 = 3 ∨ p.2.1 = 4
      let d := if flag then none else RemoteOps.dataDesc s r i.core w
      (flag ∨ d ≠ none) →
      let rq : Mem.Req := { unit := Report.unitCode 9 0, ctx := r.c, stream := some i.stream, op := Report.opField 3 p.2.1 }
      let s0 := Operand.descRead (Mem.inject (Issue.noted s i) p.2.2 rq) r.x i.core (if flag then [] else [w.ldesc]) rq
      let h := RemoteOps.header s0 i r p.2.1 w pair
      (∀ ms, RemoteOps.destinations s r.c p.2.1 w = .ok ms → exec p.1 s = .next (RemoteOps.send h.1 i r p.2.1 h.2 d ms tag pair)) ∧
      (∀ rank, RemoteOps.destinations s r.c p.2.1 w = .error rank →
        exec p.1 s = .next (Issue.complete (RemoteOps.noRank (Issue.launched h.1 r.c i) r.c (Report.streamByte i.stream)
          (Report.opField 3 p.2.1) r.t.pc rank) r.c i.core i.stream Issue.bPartial w.fact w.flag))

/-- READ_RSP, ACK and ERROR_RSP of an operation in flight (R267, R270, R271, R273, R274, R276): an ACK answers RLEN packets; an ERROR_RSP other
than BUSY answers one with its status, for the leaf it names where it comes of a pruned one, and BUSY asks for a resend; the bytes of a
READ_RSP that agree with their check value are written, and its request is answered once all of it has come. An operation of the pair
completes once every packet of it has been answered. The answer to an operation with a flag action comes in the place of its core's
completions (R256), and the receive buffer that the packet stood in is free again (R300).

OPERATION_TIMEOUT and PACKET_RESEND (R272, R276): an operation past its deadline, in its turn of the cycle (R52), is retired with TIMEOUT
and a class 0x23 record, its packets counting as answered; a packet answered BUSY at least 1 µs ago goes out again with a fresh LOW.
Completes: readRsp, ack, errorRsp, operationTimeout and packetResend. -/
def Obligations.SourceEventsComplete : Prop :=
  (∀ (s : State) (p : Pkt) (o : RemoteOp) (w : Sent) (a : Nat), RemoteOps.badFields p = false →
     p.echoGen = s.dex.gen → (∀ q, s.resetSeq = some q → q.stage ≠ 2) → p.unit ≠ 127 → SMap.look s.remote.ops p.tag = some o →
     RemoteOps.inPlace s p = true →
     let u := unloaded s p
     (p.kind = 6 → p.status = 0 →
       exec (.ack p) s = .next (RemoteOps.settlePair ((List.range (min p.rlen 64)).foldl
         (fun acc i => RemoteOps.answerSeq acc p p.src (dist32 p.seq (min p.rlen 64 - 1 - i))) u) o.key)) ∧
     (p.kind = 7 → p.status = 1 →
       exec (.errorRsp p) s = .next (setPair u o.key { pair s o.key with
         window := (pair s o.key).window.map (fun w => if RemoteOps.isSent p p.seq w then { w with busyAt := some s.ns } else w) })) ∧
     (p.kind = 7 → 2 ≤ p.status → p.status ≤ 8 → RemoteOps.sentOf s p p.seq = some w →
       let m := if p.status = 8 then p.leaf else p.src
       exec (.errorRsp p) s = .next (RemoteOps.settlePair (RemoteOps.answerSeq (RemoteOps.noteFenced
         (RemoteOps.noteStatus u p.tag p.status) p.tag p.status m) p m p.seq) o.key)) ∧
     (p.kind = 5 → p.status = 0 → RemoteOps.sentOf s p p.seq = some w → RemoteOps.place o p = some a → crc p.payload = p.pcheck →
       (RemoteOps.landing u o a p).2 = 0 →
       exec (.readRsp ⟨p, []⟩) s =
         .next (let s1 := (RemoteOps.landing u o a p).1
                let less := fun (l : List Sent) => l.filterMap (fun (w : Sent) =>
                  if RemoteOps.isSent p p.seq w then (if w.left ≤ p.len then none else some { w with left := w.left - p.len }) else some w)
                RemoteOps.settlePair (RemoteOps.pumpAll (setPair s1 o.key { pair s1 o.key with
                  window := less (pair s1 o.key).window, past := less (pair s1 o.key).past }) o.key) o.key))) ∧
  (∀ (s : State) (tag key seq t : Nat) (o : RemoteOp) (w : Sent),
     (SMap.look s.remote.ops tag = some o → o.deadline ≤ now s → Order.turn 5 s = true →
       exec (.operationTimeout tag) s =
         .next (let press := decide (64 ≤ o.core)
                let s1 := Report.raise s
                  { cls := 0x23, unit := if press then Report.unitCode 7 (o.core - 64) else Report.unitCode 9 0, ctx := o.ctx,
                    stream := if press then 0 else Report.streamByte o.stream,
                    op := if press then Report.opField 0 (2 - o.rop % 2) else Report.opField 3 o.rop,
                    aux := 3, detail := Report.detail [(40, le 2 tag), (42, le 2 o.rank), (44, le 4 o.pc)] }
                  (Report.stepEffect s o.ctx) (s.err.drilled.contains (0, tag))
                let other := fun (w : Sent) => w.pkt.tag != tag
                let x := pair s1 o.key
                RemoteOps.settlePair (RemoteOps.finishOp (RemoteOps.noteStatus (RemoteOps.pumpAll (setPair s1 o.key { x with
                  window := x.window.filter other, waiting := x.waiting.filter other, past := x.past.filter other }) o.key) tag 9) tag)
                  o.key)) ∧
     ((pair s key).window.find? (fun w => w.pkt.seq == seq) = some w → w.busyAt = some t → t + 1000 ≤ s.ns →
       exec (.packetResend key seq) s =
         .next (let low := match (pair s key).window with | o :: _ => o.pkt.seq | [] => seq
                let p := { w.pkt with low := low, start := false }
                sendPkt (setPair s key { pair s key with
                  window := (pair s key).window.map (fun y => if y.pkt.seq == seq then { y with pkt := p, busyAt := none } else y) }) p)))

/-- WRITE, WRITE_F, FLAG and READ_REQ (R271, R277, R278): a request for this module with a good header, of its sender's present generation, whose
ordering stream the tracker knows and whose place is neither passed nor taken, is taken: the bytes of a write are written and answered, a
read request is served, a flag action is held until every place below it has arrived. NEXT first moves up to the sender's LOW.
The receive buffer that the packet stood in is free again (R300). A read of a queue follows the appends of its cycle (R251), one of FLG_TRACE
is the last of its cycle (R262).

A request of an earlier generation of its sender is dropped: it is counted and recorded as late, and answered nothing (R53, R384); a
request that reaches a fenced module is answered FENCED (R386); one whose place is passed or taken is dropped: it is late where the place
lies below the dropped-below mark, and counted as a copy otherwise (R53, R278, R279).

ORDERING_TIMEOUT (R278, R279): a held flag action past its deadline, after the arrivals of its cycle (R52), is not taken; its operation is
answered ORDERING after a class 0x22 record, and the places below it that have not arrived count as dropped.
Completes: write, writeF, flagPkt, readReq and orderingTimeout. -/
def Obligations.RequestsReachTheTracker : Prop :=
  (∀ (s : State) (p : Pkt) (t0 : Track) (hits : List CodeHit), Tracker.forMe s p = true → RemoteOps.badFields p = false →
     SMap.look s.remote.peerGen p.src = some p.gen → fenced s = false → SMap.val false s.remote.reclaimed p.ctx = false →
     Tracker.staleStep s p = false → Tracker.track? s (trackKey p) = some t0 →
     (p.kind = 4 → Order.readable s p.addr = true ∧ (Order.meetsTrace p.addr p.rlen = false ∨ Order.turn 9 s = true)) →
     let u := unloaded s p
     let t := { (if seqLt t0.next p.low = true then Tracker.advanceTo t0 p.low else t0) with used := s.ns }
     let passed := seqLt p.seq t.next = true ∨ t.arrived.contains p.seq = true ∨ Tracker.marked t p.seq = true
     ∀ c ∈ [(Instr.write ⟨p, hits⟩, 1, hits), (.writeF ⟨p, hits⟩, 2, hits), (.flagPkt p, 3, []), (.readReq p hits, 4, hits)], p.kind = c.2.1 →
       (¬ passed → exec c.1 s = .next (Tracker.take u (trackKey p) t p c.2.2)) ∧
       (passed → seqLt p.seq t.drop = true →
         exec c.1 s = .next (Tracker.lateOrdered (Tracker.setTrack u (trackKey p) t) (trackKey p) p t.next)) ∧
       (passed → seqLt p.seq t.drop = false → exec c.1 s = .next (modRemote (Tracker.setTrack u (trackKey p) t)
         (fun r => { r with dup := min 4294967295 (r.dup + 1) })))) ∧
  (∀ (s : State) (p : Pkt) (g : Nat) (hits : List CodeHit), Tracker.forMe s p = true → RemoteOps.badFields p = false →
     SMap.look s.remote.peerGen p.src = some g →
     (p.kind = 4 → Order.readable s p.addr = true ∧ (Order.meetsTrace p.addr p.rlen = false ∨ Order.turn 9 s = true)) →
     ∀ c ∈ [(Instr.write ⟨p, hits⟩, 1), (.writeF ⟨p, hits⟩, 2), (.flagPkt p, 3), (.readReq p hits, 4)], p.kind = c.2 →
       (g ≠ p.gen → exec c.1 s = .next (Tracker.lateRequest (unloaded s p) p 255)) ∧
       (g = p.gen → fenced s = true → p.mcast = false → exec c.1 s = .next (answer (unloaded s p) p 6))) ∧
  (∀ (s : State) (key seq : Nat) (t : Track) (h : Held) (rest : List Held), Tracker.track? s key = some t →
     takeFirst (fun (x : Held) => x.seq == seq) t.held = some (h, rest) → h.deadline ≤ now s → Order.turn 5 s = true →
     exec (.orderingTimeout key seq) s =
       .next (let x := (seq + 1) % 4294967296
              let drill := s.err.drilled.any (fun d => d.1 == 4)
              let s1 := Report.raise (if drill then modErr s (fun e => { e with drilled := (3, key) :: e.drilled }) else s)
                (Tracker.faultRec h.pkt t.next (Tracker.missing t seq)) (Report.stepEffect s h.pkt.ctx) drill
              Tracker.setTrack (answer s1 h.pkt 7) key (Tracker.advanceTo { t with held := rest, drop := x } x)))

/-- PACKET_FORWARD and ESCAPE_FALLBACK (R301, R304 to R306, R311): a packet handed to the router is injected when its channel is not stopped and
no earlier one of its escape class waits, one that arrives on an UP port is routed in its class, and one the router holds tries again.
Where no packet of the same escape buffer stands before it and its route has room, it goes; otherwise it is held, one already held keeping
its place. One blocked for 64 slots, and still so, takes its escape route as soon as that has room.

A table swap (R312, R313, R319): at INSTANT + W/4 response injection stops; at INSTANT + W/2 the packets held are discarded and counted, an
error reports them, the named bank becomes active and every port UP by INSTANT becomes usable; at INSTANT + W injection resumes.
Completes: packetForward, escapeFallback, routeSwapResponseStop, routeSwapActivate and routeSwapResume. -/
def Obligations.RouterCommandsComplete : Prop :=
  (∀ (s : State) (p x : Pkt) (q i : Nat) (cls : RouteClass) (h : RouterHeld) (rest : List Pkt) (inPort : Option Nat),
     let known := fun (r : Option Nat) => s.fabric.router.zipIdx.find? (fun (h : RouterHeld × Nat) => h.1.inPort == r && h.1.pkt == p)
     let enters := fun (c : Instr) (s1 : State) (r : Option Nat) (k : RouteClass) =>
       (∀ t, Router.behind s1.fabric.router r k p = false → Router.route s1 r k p = some t → exec c s = .next t) ∧
       (Router.behind s1.fabric.router r k p = true ∨ Router.route s1 r k p = none →
         exec c s = .next (Router.holdPkt s1 r k p (Router.waitsFor s1 r k p)))
     (known none = none → Router.stopped s p = false → Router.injectable s p = true →
       takeFirst (fun (y : Pkt) => y == p) s.fabric.inject = some (x, rest) →
       enters (.packetForward none cls p) (modFabric s (fun f => { f with inject := rest })) none (Router.classAt none cls p)) ∧
     (known (some q) = none → isUp s q = true → q < 27 → enters (.packetForward (some q) cls p) s (some q) cls) ∧
     (known inPort = some (h, i) →
       let s1 := modFabric s (fun f => { f with router := f.router.eraseIdx i })
       (∀ t, Router.behind (s.fabric.router.take i) h.inPort h.cls h.pkt = false → Router.route s1 h.inPort h.cls h.pkt = some t →
         exec (.packetForward inPort cls p) s = .next t) ∧
       (Router.behind (s.fabric.router.take i) h.inPort h.cls h.pkt = true ∨ Router.route s1 h.inPort h.cls h.pkt = none →
         exec (.packetForward inPort cls p) s = .next s)) ∧
     (∀ a, s.fabric.router[i]? = some h → h.cls = .adaptive → h.since + 64 ≤ s.ns → Router.adaptiveHop s h.inPort h.pkt = .wait a →
       Router.escapeHop s h.inPort .e0 h.pkt = .go q cls →
       exec (.escapeFallback i) s =
         .next (Router.putOut (modFabric s (fun f => { f with router := f.router.eraseIdx i })) h.inPort h.pkt q cls
           (Router.originOf s h.inPort h.cls h.pkt) none))) ∧
  (∀ (s : State) (w : SwapWindow), s.fabric.swap = some w →
     (w.stage = 0 → w.instant + w.window / 4 ≤ now s →
       exec .routeSwapResponseStop s =
         .next { s with fabric := { s.fabric with rspStopped := true, swap := some { w with stage := 1 } } }) ∧
     (w.stage = 1 → w.instant + w.window / 2 ≤ now s →
       let n := Router.heldCount s
       let s1 := modFabric (Router.discard s) (fun f =>
         { f with swap := some { w with stage := 2 }, swapDrop := min 4294967295 (f.swapDrop + n) })
       let s2 := if n = 0 then s1 else Router.swapError s1 14 n
       (∀ b, Router.bankWith s w.table = some b →
         exec .routeSwapActivate s =
           .next { s2 with fabric := { s2.fabric with
             activeBank := b, activeTable := w.table,
             ports := SMap.mapVals (fun _ (x : Port) =>
               { x with usable := x.usable || ((x.state == 5 || x.state == 7) && decide (x.upAt ≤ w.instant)) }) s2.fabric.ports } }) ∧
       (Router.bankWith s w.table = none → exec .routeSwapActivate s = .next (Router.swapError s2 15 0))) ∧
     (w.stage = 2 → w.instant + w.window ≤ now s →
       exec .routeSwapResume s = .next { s with fabric := { s.fabric with reqStopped := false, rspStopped := false, swap := none } }))

/-! ## Links, fabric time, scheduled actions -/

/-- Discovery of a port (R36, R315, R316, R320, R441): a planned port that has been DOWN for 100 ms trains; a trained one keeps the link's
asymmetry and sends its chain and its signed HELLO; a chain that verifies is kept, one that does not is held against its peer; a HELLO that agrees with the plan starts the keying,
and the ciphertext or the key that comes makes the port UP with the keys of epoch 0; 2 ms without them, in their turn of the cycle (R52),
take it down.

Keys of a running link (R322, R323): a responder with a pending entry answers an encapsulation key with its ciphertext and holds the keys; an
initiator holds those of a ciphertext, and tries again 10 µs after a NOT_SCHEDULED; the old epoch ends 10 µs after the new one's INSTANT,
and an epoch 48 hours old takes the port down with cause 10.
Completes: portRetry, trainingComplete, certificateChain, hello, keyingEncapKey, keyingCiphertext, keyingTimeout, rekeyExchangeMsg,
rekeyRetry, keyGraceEnd and keyAgeLimit. -/
def Obligations.LinkKeyingCompletes : Prop :=
  (∀ (s : State) (p : Nat), p < 27 → let x := port s p
     ((x.state = 1 → (Link.planned s p).isSome = true → x.downAt + 100000000 ≤ s.ns →
       exec (.portRetry p) s = .next (setPort s p { Link.cleared x 2 x.cause x.downAt with chainOk := false, warned := false })) ∧
     (x.state = 2 →
       (∀ (asym : Int), let m := Link.ownHello (Link.measured s p asym) p
         exec (.trainingComplete p (.trained asym)) s =
           .next (Link.handshake (emit (modPort m.2 p (fun y => { y with state := 3, transcript := m.1 })) (.handshake p (Digest.chain s) []))
             p m.1 m.1)) ∧
       exec (.trainingComplete p .noSignal) s = .next (Link.down s p 1) ∧
       exec (.trainingComplete p .failed) s = .next (Link.down s p 2)) ∧
     (∀ (d : BitVec 512), x.state = 3 →
       (s.fabric.chains.contains d = false → exec (.certificateChain p d true) s =
         .next (let s1 := setPort s p { x with chainOk := true }
                modFabric s1 (fun f => { f with chains := d :: f.chains }))) ∧
       exec (.certificateChain p d false) s = .next (setPort s p { x with chainOk := false }))) ∧
     (∀ (h : HelloMsg) (n : PlanPort), x.state = 3 → h.sigOk = true → x.chainOk = true → h.revision = 1 → Link.planned s p = some n →
       n.peer = h.module → n.peerPort = h.port →
       ∃ t, exec (.hello p h) s = .next t ∧ (port t p).state = 4 ∧ (port t p).peer = h.module ∧ (port t p).keyingAt = now s ∧
         t.remote = { s.remote with peerGen := SMap.ins s.remote.peerGen h.module h.gen } ∧
         t.free = (if moduleId s < h.module then s.free + 2 else s.free) ∧
         t = { s with remote := t.remote, fabric := t.fabric, free := t.free, out := t.out }) ∧
     (∀ (key : Bytes), x.state = 4 → Link.initiator s x = false →
       let ct := Config.kemCipher key s.free
       let h := x.transcript ++ key ++ ct
       exec (.keyingEncapKey p key true) s =
         .next (Link.enterUp (Link.handshake (drawn s) p ct h) p (Link.linkKeys key ct h 0)) ∧
       exec (.keyingEncapKey p key false) s = .next (Link.down s p 2)) ∧
     (∀ (ct : Bytes) (r : Rekey) (rs : List Rekey), x.state = 4 → Link.initiator s x = true → x.rekeys = r :: rs →
       exec (.keyingCiphertext p ct true) s = .next (Link.enterUp s p (Link.linkKeys r.pub ct (x.transcript ++ ct) 0)) ∧
       exec (.keyingCiphertext p ct false) s = .next (Link.down s p 2)) ∧
     (x.state = 4 → x.keyingAt + 2000000 ≤ now s → Order.turn 5 s = true → exec (.keyingTimeout p) s = .next (Link.down s p 2))) ∧
  (∀ (s : State) (p instant epoch : Nat), p < 27 → isUp s p = true → let x := port s p
     (∀ (key : Bytes), Link.initiator s x = false → Link.rekeyPending s instant epoch p = true →
       let ct := Config.kemCipher key s.free
       exec (.rekeyExchangeMsg p (.encapKey instant epoch key)) s =
         .next (sendControl (setPort (drawn s) p { x with rekeys := x.rekeys.filter (fun r => !Link.isRekey instant epoch r) ++
           [⟨instant, epoch, key, some (Link.rekeyKeys instant epoch key ct), none⟩] }) p (Link.rekeyCipher instant epoch ct))) ∧
     (∀ (key : Bytes), Link.initiator s x = false → Link.rekeyPending s instant epoch p = false →
       exec (.rekeyExchangeMsg p (.encapKey instant epoch key)) s =
         .next (sendControl s p (Config.rekeyMessage 2 instant epoch []))) ∧
     (∀ (ct : Bytes), Link.initiator s x = true →
       exec (.rekeyExchangeMsg p (.cipher instant epoch ct)) s =
         .next (setPort s p { x with rekeys := x.rekeys.map (fun r => if Link.isRekey instant epoch r = true
           then { r with keys := some (Link.rekeyKeys instant epoch r.pub ct), retryAt := none } else r) })) ∧
     (exec (.rekeyExchangeMsg p (.notScheduled instant epoch)) s =
         .next (setPort s p { x with rekeys := x.rekeys.map (fun r => if Link.isRekey instant epoch r = true ∧ r.keys = none
           then { r with retryAt := some (now s + 10000) } else r) })) ∧
     (∀ (r : Rekey) (t : Nat), x.rekeys = [r] → r.retryAt = some t → t ≤ now s → now s + 20000 ≤ r.instant →
       exec (.rekeyRetry p) s = .next (Link.rekeyStart s r.instant r.epoch p)) ∧
     (∀ (g : Grace), x.grace = some g → g.till ≤ now s → exec (.keyGraceEnd p) s = .next (setPort s p { x with grace := none })) ∧
     (x.epochAt + 172800000000000 ≤ (now s : Int) → exec (.keyAgeLimit p) s = .next (Link.leaveUp s p 10)))

/-- A port in use (R294 to R298, R300, R310, R318, R394): a new frame takes the next counter, carries the credits owed and joins the replay
buffer, and its flits leave the receive buffers they stood in, a firefly with the fabric time of that moment; a good frame in order moves the expected counter; one whose code words do
not decode, or whose tag fails, asks for a resend; loss of signal and a neighbour's announcement take the port down, a fence notice leaves
it in PEER_FENCED; a probe without a good answer in time, in its turn of the cycle (R52), broadcasts an ABORT for each context that maps the module.
Completes: frameSend, frameReceive, portSignalLoss, linkDownAnnounce, fenceNotice and probeOutcome. -/
def Obligations.LinksRunAndFail : Prop :=
  ∀ (s : State) (p : Nat), p < 27 → let x := port s p
    (∀ (y : Port) (fl : List QueuedFlit), isUp s p = true → x.txRetry = none → x.replay.length < Link.replayCap p →
      Link.fillSlots (Link.copyReady s p) 16 p x [] = (y, fl) →
      let owed := Link.creditEntries x.owed
      let f : Frame := { counter := x.txCounter, epoch := x.epoch, retryReq := (Link.asked x).isSome,
                         ack := match Link.asked x with | some r => r.2 % 4294967296 | none => (x.rxCounter + 4294967295) % 4294967296,
                         credits := owed.1, flits := fl.map (fun q => { buf := q.buf, data := Link.leaving (now s) q }), tags := fl.filterMap (·.tag) }
      exec (.frameSend p) s =
        .next (Link.sealFrame (freeOrigins (setPort s p { y with
          txCounter := (x.txCounter + 1) % 18446744073709551616, askRetry := false, owed := owed.2, replay := x.replay ++ [f] }) fl) p
            (if Link.initiator s x = true then 0 else 1) f)) ∧
    (∀ (f : FrameIn), isUp s p = true →
      let y := { x with corrected := x.corrected + Coding.corrected f.errors }
      let s1 := setPort s p y
      (f.errors.all Coding.corrects = false → exec (.frameReceive p f) s = .next (Link.badFrame s1 p f false)) ∧
      (f.errors.all Coding.corrects = true → (Link.epochHeld x (now s) f.epoch = false ∨ f.tagOk = false) →
        exec (.frameReceive p f) s = .next (Link.badFrame s1 p f true)) ∧
      (f.errors.all Coding.corrects = true → Link.epochHeld x (now s) f.epoch = true → f.tagOk = true →
        (Link.expected x f = true → exec (.frameReceive p f) s = .next (setPort s1 p (Link.goodFrame y f))) ∧
        (Link.expected x f = false → exec (.frameReceive p f) s = .next s1))) ∧
    (∀ (cause : Nat), isUp s p = true →
      exec (.portSignalLoss p cause) s = .next (Link.leaveUp s p (if cause = 2 ∨ cause = 12 then cause else 1))) ∧
    (isUp s p = true → exec (.linkDownAnnounce p) s = .next (Link.leaveUp (setPort s p { x with warned := true }) p 11)) ∧
    (x.state = 5 → exec (.fenceNotice p) s = .next (setPort s p { x with state := 7, warned := true })) ∧
    (∀ (m t : Nat) (a : Option Nat), s.remote.probes.find? (fun q => q.1 == m) = some (m, t, a) → t ≤ now s → Order.turn 5 s = true →
      let k := pairKey false m 255 127 0
      let s1 := modRemote s (fun r => { r with probes := r.probes.filter (fun q => q.1 != m) })
      let s2 := setPair s1 k { pair s1 k with window := [], waiting := [] }
      (a = some 0 → exec (.probeOutcome m) s = .next s2) ∧
      (a ≠ some 0 → exec (.probeOutcome m) s = .next (((s2.ctxs.map (·.1)).filter (fun c => mapsModule s2 c m)).foldl
        (fun acc c => AbortOps.broadcast acc c 2 m (SMap.val 0 acc.remote.peerGen m)) s2)))

/-- The fabric-time unit (R35 to R40): a firefly goes out with the next SEQ, one every 4 µs; one that comes is kept, and its offset is measured
when it is the parent's; without a parent for 100 µs the module is in HOLDOVER, which ends in FREE with a class 0x23 record and an ABORT for
each context after 1 ms without a higher epoch, and at the latest after 5 ms; the backup root takes over after 50 µs of silence. The
deadlines come in their turn of the cycle (R52).

The backup root's epoch wraps to 0 at 256, its rate word stays, and it takes over from LOCKED or HOLDOVER: the model's choices
(notes/assumptions/78.md). Completes: fireflySend, firefly, holdoverEntry, holdoverLimit, epochWaitExpiry and backupRootTakeover. -/
def Obligations.FabricTimeCommandsComplete : Prop :=
  ∀ (s : State) (p : Nat) (f : FireflyMsg), p < 27 →
    (isUp s p = true → let l : FfLink := SMap.val {} s.ftime.links p
      (∀ a, l.sentAt = some a → a + 4000 ≤ s.ns) →
      exec (.fireflySend p) s =
        .next (modTime (sendFirefly s p (Clock.fireflyFlit s.ftime l (now s)))
          (fun t => { t with links := SMap.ins t.links p { l with seqTx := (l.seqTx + 1) % 4294967296, sentAt := some s.ns } }))) ∧
    (isUp s p = true → s.ftime.state = .free → f.stratum < 14 → ∃ t, exec (.firefly p f) s = .next t ∧
      t.ftime.state = .acquire ∧ t.ftime.rootId = f.rootId ∧ t.ftime.rootEpoch = f.rootEpoch) ∧
    (isUp s p = true → s.ftime.state = .locked → s.ftime.stratum = 0 → f.rootEpoch ≤ s.ftime.rootEpoch → s.ftime.parentPort ≠ p →
      ∃ t, exec (.firefly p f) s = .next t ∧
        SMap.look t.ftime.links p =
          some { (SMap.val {} s.ftime.links p : FfLink) with last := some f, heard := s.ns, rxAt := now s,
                                                                   rootedAt := if f.stratum < 15 then some s.ns else (SMap.val {} s.ftime.links p : FfLink).rootedAt } ∧
        t = { s with ftime := t.ftime } ∧ t.ftime.count = s.ftime.count ∧ t.ftime.rate = s.ftime.rate) ∧
    (Order.turn 5 s = true →
      (s.ftime.state = .locked → s.ftime.stratum ≠ 0 → s.ftime.usableAt + 100000 ≤ s.ns →
        exec .holdoverEntry s =
          .next { s with ftime := { s.ftime with state := .holdover, stratum := 14, holdSince := s.ns, newEpoch := false, goodRun := 0 } }) ∧
      (s.ftime.state = .holdover →
        let s1 := { s with ftime := { s.ftime with state := .free, rate := 0, stratum := 15, parentPort := 31, goodRun := 0, acquired := false,
                                                   newEpoch := false } }
        let t := AbortOps.broadcastAll (Report.raise s1 { cls := 0x23, unit := Report.unitCode 12 0, aux := 1 } 7) 5
        (s.ftime.holdSince + 5000000 ≤ s.ns → exec .holdoverLimit s = .next t) ∧
        (s.ftime.holdSince + 1000000 ≤ s.ns → s.ftime.newEpoch = false → exec .epochWaitExpiry s = .next t)) ∧
      (Clock.isBackup s = true → s.ftime.state = .locked → s.ftime.stratum ≠ 0 → s.ftime.rootHeard + 50000 ≤ s.ns →
        exec .backupRootTakeover s =
          .next { s with ftime := { s.ftime with stratum := 0, rootId := moduleId s, rootEpoch := (s.ftime.rootEpoch + 1) % 256,
                                                 parentPort := 31 } }))

/-- Scheduled actions (R42 to R50, R312, R322, R370, R371, R537): an entry leaves the table as it fires, has the effect of its ACTION, and its status is
reported with the time. START opens the first step of a context whose set-up is complete, also of one aborted before it; a drill has its effect where it is enabled; an
entry with ALIGN 1 expires 60 s past its INSTANT, before the actions of its cycle (R52). Completes: startEntry, routeSwap, rekey,
checksumFlip, checkFlip, linkLoss, moduleReset, packetDrop, dramCe and entryExpired. -/
def Obligations.ScheduledActionsFire : Prop :=
  ∀ (s : State) (id : Nat) (q : Nat × SchedSlot), Sched.find s id = some q → let e := q.2.entry
    let s1 := { s with sched := SMap.del s.sched q.1 }
    (Sched.due s q = true →
      (∀ (x : Ctx), e.action = 1 → field e.param.toNat 127 64 = 0 → ctx? s e.ctx = some x → stepped x = true → x.step.setup.isSome = true →
        x.step.everOpened = false → x.unrestored = false → (requiredPorts s e.ctx).all (fun p => (port s p).state == 5) = true →
        exec (.startEntry id) s =
          .next (Sched.report (StepOps.opened (modStep s1 e.ctx (fun t =>
            { t with step := field e.param.toNat 63 0, first := true, failures := 0, fail := 0, failNext := 0 })) e.ctx) q.2 0 (now s))) ∧
      (e.action = 6 → exec (.routeSwap id) s = .next (Sched.report (Router.swapStart s1 e) q.2 0 (now s))) ∧
      (e.action = 7 → exec (.rekey id) s = .next (Sched.report ((setBits 27 e.param.toNat).foldl
        (fun acc p => Link.rekeyFire acc e.instant (field e.param.toNat 39 32) p) s1) q.2 0 (now s))) ∧
      (e.action = 8 → s.err.drillEnable = true → let k := Sched.drillTarget e
        (Sched.drillKind e = 1 → k < 64 → exec (.checksumFlip id) s = .next (Sched.report (Sched.flipChecksum k s1) q.2 0 (now s))) ∧
        (Sched.drillKind e = 2 → k < 64 → exec (.checkFlip id) s = .next (Sched.report (Sched.flipBlock k s1) q.2 0 (now s))) ∧
        (Sched.drillKind e = 3 → k < 27 → exec (.linkLoss id) s = .next (Sched.report (Sched.loseLink k s1) q.2 0 (now s))) ∧
        (Sched.drillKind e = 4 → exec (.moduleReset id) s = .next (Sched.report (Sched.resetModule s1) q.2 0 (now s))) ∧
        (Sched.drillKind e = 5 → k < 27 → exec (.packetDrop id) s = .next (Sched.report (Sched.dropPacket k s1) q.2 0 (now s))) ∧
        (Sched.drillKind e = 6 → k < 128 → exec (.dramCe id) s = .next (Sched.report (Sched.correctRead k s1) q.2 0 (now s)))) ∧
      (e.action = 8 → s.err.drillEnable = false → Sched.drillKind e = 1 →
        exec (.checksumFlip id) s = .next (Sched.report s1 q.2 Status.disabled (now s)))) ∧
    (Sched.fires s = true → Order.turn 5 s = true → e.align = 1 → e.instant + 60000000000 ≤ now s →
      exec (.entryExpired id) s = .next (Sched.report s1 q.2 Status.expired (now s)))

/-! ## The step vote -/

/-- The combination of verdicts (R334): the fields of the table, commutative and associative, so that the outcome depends neither on the shape of
the tree nor on the order of the reports. The last report of its children makes a module that is not the root send the combination of its
own verdict and theirs on its PARENT port. Completes: voteUp. -/
def Obligations.VerdictsCombineInAnyOrder : Prop :=
  (∀ a b : VoteUpMsg, let v := Vote.combine a b
    v.count = (a.count + b.count) % 4294967296 ∧ v.stepMin = min a.stepMin b.stepMin ∧ v.digMin = min a.digMin b.digMin ∧
    v.stepMax = max a.stepMax b.stepMax ∧ v.digMax = max a.digMax b.digMax ∧ v.fail = a.fail ||| b.fail ∧
    v.nonfinite = min (2 ^ 32 - 1) (a.nonfinite + b.nonfinite) ∧ v.saturated = min (2 ^ 32 - 1) (a.saturated + b.saturated) ∧
    v.loss = a.loss + b.loss) ∧
  (∀ a b : VoteUpMsg, a.ctx = b.ctx → Vote.combine a b = Vote.combine b a) ∧
  (∀ a b c : VoteUpMsg, Vote.combine (Vote.combine a b) c = Vote.combine a (Vote.combine b c)) ∧
  (∀ (o : VoteUpMsg) (l m : List VoteUpMsg), l.Perm m → l.foldl Vote.combine o = m.foldl Vote.combine o) ∧
  (∀ (s : State) (p : Nat) (v : VoteUpMsg) (x : Ctx) (u : StepSetupBody), ctx? s v.ctx = some x → x.step.setup = some u →
    isUp s p = true → fenced s = false → (Vote.children u).contains p = true → stepped x = true → x.step.aborted = false →
    x.step.contributed = false → SMap.look x.step.votes p = none → x.step.boundary.isSome = true → x.step.digestDone = true →
    x.step.confirmDone = true → u.root = false → let votes := SMap.ins x.step.votes p v
    (Vote.children u).all (fun c => (SMap.look votes c).isSome) = true →
    exec (.voteUp p v) s =
      .next (Vote.sendTree (modStep s v.ctx (fun t => { t with votes := votes, contributed := true })) [u.parent]
        (Vote.upFlit (Vote.combined v.ctx { x.step with votes := votes }))))

/-- The root's decision (R335): FAIL bit 16 stops; a step or a count that differs stops; a failed vote replays until its count passes the limit; a
census stop stops; otherwise the step commits. Only a failed vote raises the count.

The commands of the step vote (R331, R336, R338, R342, R348, R451, R538): at its boundary a context takes its loss, its census sums and its digest;
the digest's return, or 50 µs without it, lets the verdict go on, and so does the end of the wait for the confirmation record; a VOTE_DOWN
of the parent is forwarded and then applied; a replay opens when its hold ends; a step past its deadline is aborted. The deadlines come in
their turn of the cycle (R52). Completes: stepBoundary, configDigestReturn, digestTimeout, confirmWaitExpiry, voteDown, replayHoldEnd and
stepDeadline. -/
def Obligations.VoteCommandsComplete : Prop :=
  (∀ (u : StepSetupBody) (n : Nat) (v : VoteUpMsg), let failed := v.fail.extractLsb' 0 11 ≠ 0 ∨ v.digMin ≠ v.digMax
     let differs := v.stepMin ≠ v.stepMax ∨ v.count ≠ u.modules
     (v.fail.getLsbD 16 = true → Vote.decide' u n v = (3, n)) ∧
     (v.fail.getLsbD 16 = false → differs → Vote.decide' u n v = (3, n)) ∧
     (v.fail.getLsbD 16 = false → ¬differs → failed →
       Vote.decide' u n v = (if u.replayLimit < n + 1 then 3 else 2, n + 1)) ∧
     (v.fail.getLsbD 16 = false → ¬differs → ¬failed → u.censusStop = true → v.nonfinite ≠ 0 → Vote.decide' u n v = (3, n)) ∧
     (v.fail.getLsbD 16 = false → ¬differs → ¬failed → (u.censusStop = false ∨ v.nonfinite = 0) → Vote.decide' u n v = (1, n))) ∧
  (∀ (s : State) (c : Nat) (x : Ctx) (u : StepSetupBody), ctx? s c = some x → x.step.setup = some u →
     (fenced s = false → Vote.reached s c x = true →
       exec (.stepBoundary c) s =
         .next (let r := Mem.load s u.lossAddr 8 false { unit := Report.unitCode 13 0, ctx := c }
                let sums := Operand.censusSum r.1 c
                modStep r.1 c (fun t => { t with
                  boundary := some (now s), loss := BitVec.ofNat 64 (ofLe r.2.data), nonfinite := sums.1, saturated := sums.2,
                  digest := Digest.truncated s c x, confirmDone := x.step.first || u.buddy == 65535 }))) ∧
     (∀ (b : Nat), x.step.boundary = some b → x.step.digestDone = false → x.step.aborted = false →
       (now s ≤ b + 50000 → exec (.configDigestReturn c) s =
         .next (Vote.progress (modStep s c (fun t => { t with digestDone := true })) c)) ∧
       (b + 50000 ≤ now s → Order.turn 5 s = true → exec (.digestTimeout c) s =
         .next (Vote.progress (Report.setFail (modStep (drawn s) c (fun t =>
           { t with digestDone := true, digest := Config.lateDigest s.free })) c 8) c))) ∧
     (∀ (y : Ctx) (v : StepSetupBody) (f : Nat), let s1 := Vote.progress s c
       ctx? s1 c = some y → y.step.setup = some v → y.step.confirmFrom = some f → y.step.confirmDone = false → y.step.aborted = false →
       f + 1000 * v.confirmWait ≤ now s1 → Order.turn 5 s1 = true →
       exec (.confirmWaitExpiry c) s =
         .next (Vote.progress (Report.setFail (modStep s1 c (fun t => { t with confirmDone := true })) c 24) c)) ∧
     (∀ (p : Nat) (v : VoteDownMsg), v.ctx = c → isUp s p = true → fenced s = false → p = u.parent → u.root = false → stepped x = true →
       x.step.aborted = false → x.step.contributed = true → (v.result = 1 ∨ v.result = 2 ∨ v.result = 3) → v.step = x.step.step →
       exec (.voteDown p v) s = .next (Vote.apply (Vote.sendTree s (Vote.children u) (Vote.downFlit v)) v)) ∧
     (∀ (t : Nat), x.step.holdUntil = some t → t ≤ now s → StepOps.stepsOver x = false → x.step.aborted = false →
       exec (.replayHoldEnd c) s = .next (StepOps.opened s c)) ∧
     (u.stepDeadline ≠ 0 → x.step.isOpen = true → x.step.aborted = false → x.step.openedAt + 1000000 * u.stepDeadline ≤ now s →
       Order.turn 5 s = true →
       exec (.stepDeadline c) s =
         .next (AbortOps.broadcastOwn (Report.raise s { cls := 0x23, unit := Report.unitCode 13 0, ctx := c, aux := 4 } 7 (Report.drilledNow s)) c 4)))

/-! ## Abort, reset, alarm -/

/-- ABORT, its record and QUIESCED (R389 to R392): a new ABORT is recorded, relayed on the other UP ports with one hop fewer, gives its origin a new
generation when it carries RESET, and is applied; a key is dropped after 1 ms; a context whose operations are done posts QUIESCED once.
Completes: abortMsg, abortSeenExpiry and quiesced. -/
def Obligations.AbortCommandsComplete : Prop :=
  ∀ (s : State) (p : Nat) (a : AbortMsg),
    (isUp s p = true → AbortOps.seenBy s a = false →
      let s1 := { s with fabric := { s.fabric with seen := ((a.sender, a.ctx, a.time, now s) :: s.fabric.seen).take 1024 } }
      let s2 := if a.hops = 0 then s1 else sendControls s1 ((upPorts s1).filter (· != p)) (AbortOps.flit { a with hops := a.hops - 1 })
      (a.reset = true → exec (.abortMsg p a) s =
        .next (AbortOps.applyHere (modRemote s2 (fun r => { r with peerGen := SMap.ins r.peerGen a.origin ((a.originGen + 1) % 256) })) a)) ∧
      (a.reset = false → exec (.abortMsg p a) s = .next (AbortOps.applyHere s2 a))) ∧
    (∀ (i : Nat) (k : Nat × Nat × Nat × Nat), s.fabric.seen[i]? = some k → k.2.2.2 + 1000000 ≤ now s →
      exec (.abortSeenExpiry i) s = .next { s with fabric := { s.fabric with seen := s.fabric.seen.eraseIdx i } }) ∧
    (∀ (c : Nat) (x : Ctx), ctx? s c = some x → x.step.quiesceDue = true → AbortOps.quiet s c x = true → fenced s = false →
      exec (.quiesced c) s =
        .next (postCtx (modStep s c (fun t => { t with quiesceDue := false })) c
          { kind := Status.kQuiesced, body := AbortOps.quiescedBody x.step }))

/-- The reset sequence (R354, R382, R385, R387, R397): a trigger records its error and fences the READY module; the drain ends with the last answer, or after 100 µs, and an ABORT
goes out for each context; the reset is asserted once these have left; a sequence, a bring-up and a cold cycle that do not end in time are
escalated to the package reset, the cold cycle and the failed module. Completes: resetSequence, drainEnd, resetAssert,
resetSequenceTimeout, readyTimeout, coldCycleOffEnd and coldCycleReadyTimeout. -/
def Obligations.ResetCommandsComplete : Prop :=
  ∀ (s : State) (q : ResetSeq) (cls : Nat) (failed : Bool),
    (s.dex.state = .ready → s.resetSeq = none →
      ∃ t, exec (.resetSequence { cls := cls, failed := failed }) s = .next t ∧
        t = Report.raise s { cls := cls, unit := Report.unitCode 13 0 } (if failed = true then 5 else 4) ∧
        t.resetSeq = some { td := now s, stage := 1, cause := 1, failed := failed, ta := 0 } ∧
        t.dex.lastCause = 1 ∧ t.dex.lastClass = cls) ∧
    (s.resetSeq = some q → q.stage = 1 → Order.turn 5 s = true → (RemoteOps.draining s = false ∨ q.td + 100000 ≤ now s) →
      exec .drainEnd s =
        .next (AbortOps.broadcastAll { RemoteOps.abandon s with resetSeq := some { q with stage := 2, ta := now s } } q.cause)) ∧
    (s.resetSeq = some q → q.stage = 2 → s.dex.state = .ready → ResetOps.abortsLeft s q = true → q.failed = false →
      exec .resetAssert s =
        .next (Report.notify (Report.packageReset (ResetOps.announceDown s) s.dex.lastCause s.dex.lastClass) 1 [2])) ∧
    (s.resetSeq = some q → q.stage = 1 → s.dex.state = .ready → q.td + 150000 ≤ now s →
      exec .resetSequenceTimeout s = .next (ResetOps.assertReset (ResetOps.watchdog s) q.failed)) ∧
    (s.resetSeq = some q → q.stage = 1 → s.dex.state = .removing → q.td + 150000 ≤ now s →
      exec .resetSequenceTimeout s = .next (ResetOps.removalReset (ResetOps.watchdog s))) ∧
    (s.dex.state = .bringup →
      (s.dex.coldCycle = 0 → s.dex.assertedAt + 13000000000 ≤ s.ns →
        exec .readyTimeout s = .next (ResetOps.coldCycle (ResetOps.watchdog s) 1 0x23)) ∧
      (s.dex.coldCycle = 1 → s.dex.coldAt + 1000000000 ≤ s.ns →
        ∃ t, exec .coldCycleOffEnd s = .next t ∧ t = Report.assertion s 2 ∧ t.dex.phase = 1 ∧ t.dex.coldCycle = 2 ∧
          t.dex.assertedAt = s.ns ∧ t.dex.gen = (s.dex.gen + 1) % 256) ∧
      (s.dex.coldCycle = 2 → s.dex.assertedAt + 19000000000 ≤ s.ns →
        exec .coldCycleReadyTimeout s = .next (Report.raise s { cls := 0x23, unit := Report.unitCode 13 0, aux := 5 } 5)))

/-- Package reset and the flags (R260): when RESET_ASSERT asserts the package reset, every value, attribute, trace, step-open copy and count is
cleared, and every OWNER is 0xFF. -/
def Obligations.PackageResetClearsFlags : Prop :=
  ∀ (s : State) (q : ResetSeq), s.resetSeq = some q → q.stage = 2 → s.dex.state = .ready → ResetOps.abortsLeft s q = true →
    ∃ t, exec .resetAssert s = .next t ∧ ∀ core f : Nat,
      FlagOps.value t core f = false ∧ (FlagOps.attr t core f).owner = 0xFF ∧ (FlagOps.attr t core f).stepped = false ∧
      (FlagOps.attr t core f).policy = false ∧ FlagOps.trace t core f = { sig := none, sigTime := 0, clr := none, clrTime := 0, ovr := 0 } ∧
      SMap.look t.flags.copies (FlagOps.key core f) = none ∧ SMap.val 0 t.flags.ovrCount core = 0

/-- The security alarm (R438, R452 to R456): in READY it erases the keys, ends the shard writer's items, is counted and recorded, and runs the reset
sequence without a drain; the third in 24 hours leaves the module FAILED, in STANDBY and SAFE at once, and where a removal ends; a source still active a second after the reset assertion makes a cold cycle, and one that is gone ends the
alarm; a firmware image that fails its check raises it. Completes: securityAlarm, alarmPersistCheck and firmwareReverify. -/
def Obligations.AlarmCommandsComplete : Prop :=
  ∀ (s : State),
    (∀ (bits : Nat), s.dex.state = .ready → 0 < bits → bits < 512 →
      let s1 := Alarm.count (Alarm.eraseKeys (Alarm.endItems s)) bits
      let third := decide (3 ≤ Alarm.recent s1)
      exec (.securityAlarm bits) s = .next (Alarm.sequence (Alarm.recordAlarm s1 bits (if third = true then 5 else 6)) third)) ∧
    (∀ (bits : Nat), 0 < bits → bits < 512 →
      let s1 := Alarm.count (Alarm.eraseKeys (Alarm.endItems s)) bits
      ((s.dex.state = .standby ∨ s.dex.state = .safe) →
        (3 ≤ Alarm.recent s1 → exec (.securityAlarm bits) s = .next (Report.declareFailed (Alarm.recordAlarm s1 bits 5))) ∧
        (Alarm.recent s1 < 3 → exec (.securityAlarm bits) s = .next (Alarm.recordAlarm s1 bits 6))) ∧
      (s.dex.state = .removing → 3 ≤ Alarm.recent s1 → exec (.securityAlarm bits) s =
        .next (modDex (Alarm.recordAlarm s1 bits 5) (fun d => { d with removal := d.removal.map (fun r => { r with failed := true }) })))) ∧
    (∀ (bits : Nat), s.sec.alarmSince = some bits → s.dex.state = .bringup → s.dex.assertedAt + 1000000000 ≤ s.ns →
      (s.dex.coldCycle ≠ 1 → exec (.alarmPersistCheck false) s = .next { s with sec := { s.sec with alarmSince := none } }) ∧
      (s.dex.coldCycle = 0 → exec (.alarmPersistCheck true) s = .next (ResetOps.coldCycle s 5 0x50)) ∧
      (s.dex.coldCycle = 2 → exec (.alarmPersistCheck true) s =
        .next (Report.declareFailed (Alarm.recordAlarm s bits 5)))) ∧
    (s.dex.state = .ready → exec (.firmwareReverify true true) s = .next s ∧
      exec (.firmwareReverify false true) s = .next (Alarm.alarm s 128) ∧
      exec (.firmwareReverify true false) s = .next (Alarm.alarm s 256))

/-! ## Checkpoints -/

/-- Checkpoints (R408, R412, R416, R418, R420 to R422, R428): CKPT_SETUP keeps a block that meets R409; an item of the shard writer ends, no sooner
than R418 allows where it writes its file, with its notice, its flag action and its completion entry; CKPT_COMMIT writes the commit record
of a complete manifest, poisoned where the manifest's codes fail; a shard load runs once its header agrees, and what opened under the job
key is written; a released context loses its job key, and the wipe clears memory when no other context is left.
Completes: ckptSetup, writerItemFinish, ckptCommit, shardLoad, shardLoadComplete, releaseSelf and wipeDone. -/
def Obligations.CheckpointCommandsComplete : Prop :=
  ∀ (s : State) (d : DescHead) (a : Nat) (x : Ctx) (b : CkptBlock),
    (Desc.starts s d false = true → fenced s = false → d.bad = false → d.badOp = false → d.ctx < 255 →
      let s1 := Desc.register s d (Desc.entry d 7 false)
      let s2 := (Mem.load s1 a 256 false (Ckpts.req d.ctx)).1
      Ckpts.block s2 a = some b → (ctx? s2 d.ctx).isSome = true → Ckpts.writing s2 d.ctx = false →
      exec (.ckptSetup d a) s = .next (endDesc (modCtx s2 d.ctx (fun y => { y with ckpt := some b })) d.ring d.t Status.ok [])) ∧
    (∀ (i : WriterItem) (rest rest' : List WriterItem) (o : WriterOutcome) (hits : List CodeHit), s.ckpt.items = i :: rest →
      Ckpts.early s o = false →
      let u := Mem.inject s hits (Ckpts.req i.ctx)
      u.ckpt.items = i :: rest' → ctx? u i.ctx = some x → x.ckpt = some b →
      exec (.writerItemFinish { outcome := o, hits := hits }) s =
        .next (let p := Ckpts.produce { u with ckpt := { u.ckpt with items := rest', itemAt := u.ns } } b i x.jobKey o
               let s1 := (Mem.store p.1 b.notice (Ckpts.notice b i p.2.1 p.2.2.1 p.2.2.2) false (Ckpts.req i.ctx)).1
               let s2 := FlagOps.arrive s1 b.fcore b.flag b.fact { module := moduleId u, core := 0, ctx := i.ctx, src := FlagOps.srcKind 4 }
               postCtx s2 i.ctx { kind := Status.kShard, body := [(16, p.2.1), (80, le 8 i.step), (88, le 2 b.shard), (90, le 1 i.slot),
                                                                  (91, le 1 p.2.2.1), (96, le 8 p.2.2.2)] })) ∧
    (∀ (slot step host : Nat), Desc.starts s d false = true → fenced s = false → d.bad = false → d.badOp = false → d.ctx < 255 → ctx? s d.ctx = some x →
      x.ckpt = some b → b.root = true → slot ≤ 1 →
      let m := Mem.load (Desc.register s d (Desc.entry d 8 false)) b.manifest (128 * b.shards) true (Ckpts.req d.ctx)
      let s1 := m.1
      (List.range b.shards).find? (fun i => !Ckpts.entryOk s1 b slot step i) = none →
      exec (.ckptCommit d slot step host) s =
        .next (let md := Digest.sha ((List.range b.shards).flatMap (fun i => Mem.bytesAt s1 (b.manifest + 128 * i) 64))
               let h := Ckpts.header s1 b 3 0 slot step b.regions.length 0 0 0 (Ckpts.regionDigest b.regions) md
               let g := Digest.sign s1 (Config.sha3 h)
               let r := h ++ padMul 64 g.1
               endDesc (emit g.2 (.hostWrite host r (if m.2.sound = true ∧ m.2.check = [] then [] else [(0, r.length)]))) d.ring d.t
                 (if m.2.check ≠ [] then Status.check else if m.2.sound = false then Status.poisoned else Status.ok) [])) ∧
    (∀ (y : LoadBody), Desc.starts s d false = true → fenced s = false → d.bad = false → d.badOp = false → d.fault = false → d.poisoned = false → d.ctx < 255 →
      Ckpts.badLoad d y = false → ctx? s d.ctx = some x → x.step.isOpen = false → x.ckpt = some b →
      Ckpts.loadCheck b y = none →
      exec (.shardLoad d y) s =
        .next (modCkpt (modCtx (Desc.register s d (Desc.entry d 9 false)) d.ctx (fun z => { z with unrestored := true }))
          (fun w => { w with loads := SMap.ins w.loads d.ctx (SMap.val [] w.loads d.ctx ++ [(d, y)]) }))) ∧
    (∀ (c : Nat) (y : LoadBody) (rest : List (DescHead × LoadBody)) (job : BitVec 256) (cipher : Bytes) (offsets : List Nat) (hits : List CodeHit),
      SMap.val [] s.ckpt.loads c = (d, y) :: rest →
      let u := Mem.inject s hits (Ckpts.req c)
      let s1 := modCkpt u (fun w => { w with loads := if rest = [] then SMap.del w.loads c else SMap.ins w.loads c rest })
      exec (.shardLoadComplete c { result := .hostFault, hits := hits }) s = .next (endDesc s1 d.ring d.t Status.hostFault []) ∧
      (ctx? u c = some x → x.ckpt = some b → x.jobKey = some job →
        exec (.shardLoadComplete c { result := .poisoned cipher offsets, hits := hits }) s =
          .next (endDesc (Ckpts.writeLoad s1 c b job y cipher offsets) d.ring d.t Status.poisoned []) ∧
        (y.partialLoad = false →
          let h := padTo 256 y.header
          let plain := padTo (at' h 32 8) (Config.gcmOpen (Ckpts.fileKey job (BitVec.ofNat 256 (at' h 40 32))) 0 h cipher)
          let s2 := Ckpts.writeRegions b.regions s1 c (at' h 8 8) (at' h 6 1) plain
          let done := fun (tagOk sigOk : Bool) => exec (.shardLoadComplete c { result := .opened cipher tagOk sigOk, hits := hits }) s
          done true true = .next (endDesc (modCtx s2 c (fun z => { z with unrestored := false })) d.ring d.t Status.ok []) ∧
          done false true = .next (endDesc s2 d.ring d.t Status.badTag []) ∧
          done true false = .next (endDesc s2 d.ring d.t Status.badSignature [])))) ∧
    (∀ (c : Nat), s.ckpt.releases.contains (c, none) = true → Ckpts.writing s c = false →
      (∀ y, ctx? s c = some y → AbortOps.quiet s c y = true) → Ckpts.pendingWork s c = false →
      let s1 := modCtx s c (fun y => { y with jobKey := none })
      let alone := ∀ p ∈ s.ctxs, p.1 = c
      (alone → exec (.releaseSelf c) s =
        .next (modCkpt s1 (fun w => { w with
          releases := w.releases.map (fun r => if r == (c, none) then (c, some (now s)) else r) }))) ∧
      (¬ alone → exec (.releaseSelf c) s = .next (Ckpts.released s1 c true))) ∧
    (∀ (c t : Nat), s.ckpt.releases.find? (fun r => r.2.isSome) = some (c, some t) →
      exec .wipeDone s = .next (Ckpts.released (Ckpts.wipe s) c false))

/-! ## Tests, sensors, the health score, the governor -/

/-- Known-answer tests (R73, R365 to R368): an active core whose age reaches four hours is due, and the spare is tested in place; a passed test
sets the age to zero; one that failed, whose register-mode program has its fail bit set, or that took longer than 300 ms raises class
0x12, or class 0x23 subcause 6 at a limit, and the core is marked failed; the array rests after its test. What the image of R367 computes
is not the manual's, so that the command names the outcome: the model's choice (notes/assumptions/87.md).
Completes: weevilDue and weevilTestDone. -/
def Obligations.KnownAnswerTestsComplete : Prop :=
  ∀ (s : State) (k : Nat) (r : TestResult), k < 72 →
    (s.dex.state = .ready → 4 * Swaps.hour ≤ Swaps.age s k → Weevils.isFailed s k = false →
      ((logicalOf s k).isSome = true →
        exec (.weevilDue k) s = .next (modWeevil s (fun w => { w with due := SMap.ins w.due k true }))) ∧
      (logicalOf s k = none → (Swaps.role s (k / 9)).spare = k % 9 →
        exec (.weevilDue k) s = .next (modWeevil s (fun w =>
          { w with testing := SMap.ins w.testing k true, testFrom := SMap.ins w.testFrom k s.ns })))) ∧
    (SMap.val false s.weevil.testing k = true →
      let s1 := modWeevil (Cicada.setPhys s k { Cicada.physAt s k with level := 0, ramp := 0 })
        (fun w => { w with testing := SMap.del w.testing k, testFrom := SMap.del w.testFrom k, due := SMap.del w.due k })
      let late := SMap.val 0 s.weevil.testFrom k + 300000000 < s.ns
      let passed := r.pass = true ∧ (RegMode.core s k).fail = false ∧ ¬ late
      (passed → exec (.weevilTestDone k r) s =
        .next (modWeevil s1 (fun w => { w with passedAt := SMap.ins w.passedAt k s.dex.powered, overdue := SMap.del w.overdue k }))) ∧
      (¬ passed → (r.limit = true ∨ late) → exec (.weevilTestDone k r) s =
        .next (Weevils.markFailed (Report.raise s1 { cls := 0x23, unit := Report.unitCode 14 0, aux := 6 } 3) k 0x23)) ∧
      (¬ passed → ¬ (r.limit = true ∨ late) →
        let d := Report.detail [(40, le 1 k), (41, le 1 r.phase), (44, le 4 (SMap.val 0 s.sec.svn 3)), (48, le 8 r.digest.toNat)]
        exec (.weevilTestDone k r) s =
          .next (Weevils.markFailed (Report.raise s1 { cls := 0x12, unit := Report.unitCode 14 0, aux := r.kernel, detail := d } 3) k 0x12)))

/-- Sensors, scrubs and polls (R216, R219 to R221, R224, R369, R495): a sample refreshes the telemetry and, with the rails up, tests the dies, the
core rails and the alarm sources; a stack's level moves by at most one; what stays too hot or too low is a module fault; a scrub that finds
no error changes nothing, and one that cannot correct reports it; the corrections of a stack are counted.

Completes: sensorSample, dramStackTempSample, stackHotPersist, railLowPersist, dramPatrolScrub, sramPatrolScrub and ondieCePoll. -/
def Obligations.SensorCommandsComplete : Prop :=
  ∀ (s : State) (x : SensorData) (i : Nat), let th : StackTherm := SMap.val {} s.mem.stackTherm i
    (s.dex.state = .ready →
      let s1 := modPower s (fun p => { p with sample := x, telemetry := Sensors.telemetry s x })
      exec (.sensorSample x) s =
        .next (Alarm.alarm ((x.vcore.zip x.droopNs).zipIdx.foldl (fun acc r => Sensors.droop acc r.2 r.1.1 r.1.2)
          (x.tdie.zipIdx.foldl (fun acc r => Sensors.dieSample acc r.2 r.1) s1)) (Sensors.sources x))) ∧
    (∀ (temp : Int) (tth : Nat), i < 4 → 680 ≤ tth → tth ≤ 792 → temp < 824 →
      let th1 : StackTherm :=
        { th with tth := tth, level := Sensors.nextLevel tth th.level temp false, hot := false, hotAt := none, temp := temp }
      exec (.dramStackTempSample i temp tth) s =
        .next { s with mem := { s.mem with stackTherm := SMap.ins s.mem.stackTherm i th1 } }) ∧
    (∀ (a : Nat), i < 4 → th.hotAt = some a → a + 1000000000 ≤ now s →
      exec (.stackHotPersist i) s =
        .next (Report.raise (modMem s (fun m => { m with stackTherm := SMap.ins m.stackTherm i { th with hotAt := none } }))
          { cls := 0x40, unit := Sensors.sensorUnit (2 + i), detail := Sensors.thermalDetail 1 i th.temp th.tth } 4)) ∧
    (∀ (rail mv us : Nat), Sensors.powered s = true → (rail = 4 ∨ rail = 5) → 10 < us →
      (525 ≤ mv → mv < 679 → exec (.railLowPersist rail mv us) s =
        .next (Report.raise s { cls := 0x41, unit := Sensors.sensorUnit (6 + rail), detail := Sensors.voltageDetail rail mv 679 us } 4)) ∧
      (mv < 525 → exec (.railLowPersist rail mv us) s = .next (Alarm.alarm s 8))) ∧
    (∀ (addr : Nat), Mem.inDram addr 1 = true → let q : Mem.Req := { unit := Report.unitCode 8 (Mem.channelOf addr) }
      exec (.dramPatrolScrub addr .uncorrectable) s = .next (Mem.uncorrectable s (64 * (addr / 64)) true q) ∧
      (SMap.val false s.mem.poison (addr / 64) = false →
        exec (.dramPatrolScrub addr .corrected) s = .next (Mem.corrected s (64 * (addr / 64)) true false q) ∧
        exec (.dramPatrolScrub addr .parity) s = .next (Mem.loseChannel s (Mem.channelOf addr) (64 * (addr / 64)) true q 0) ∧
        exec (.dramPatrolScrub addr .clean) s = .next s)) ∧
    (∀ (addr n o : Nat), (Mem.locate addr = .spad n o ∨ Mem.locate addr = .pantry n o ∨ Mem.locate addr = .flags n o) →
      let q : Mem.Req := { unit := Mem.unitOf addr }
      exec (.sramPatrolScrub addr .uncorrectable) s = .next (Mem.badSram s (8 * (addr / 8)) q) ∧
      (SMap.val false s.mem.badWord (addr / 8) = false →
        exec (.sramPatrolScrub addr .corrected) s = .next (Mem.countCorrected s addr true q) ∧
        exec (.sramPatrolScrub addr .clean) s = .next s)) ∧
    (∀ (count : Nat), i < 4 →
      exec (.ondieCePoll i count) s = .next (Report.addCorrected (modMem s (fun m =>
        { m with ondie := SMap.ins m.ondie i (min 4294967295 (SMap.val 0 m.ondie i + count)) })) count))

/-- The health score (R373 to R375, R379): without overdue tests and within the same band, an update writes the score, the recommendation and the
standing weights and nothing else; a change of band is posted on every host ring and reported; the non-volatile record takes the events.

The score's bounds and bands (R373, R374): it lies from 0 to 1,000, falls with the age of its events, and a band is left only 50 below its
threshold.

Completes: healthScoreUpdate and nvRecordFlush. -/
def Obligations.HealthScoreRules : Prop :=
  (∀ (s : State), s.dex.state = .ready → Sensors.overdue s = s →
     let sc := Sensors.score s
     let b := Sensors.band s.health s.dex.band sc
     let r := Sensors.recommend s.health b
     let s1 := { s with dex := { s.dex with score := sc, band := b, recommend := r, standing := min 1023 (Sensors.standing s) } }
     (b = s.dex.band → exec .healthScoreUpdate s = .next s1) ∧
     (b ≠ s.dex.band → exec .healthScoreUpdate s =
       .next (Report.notify ((Sensors.hostRings s1).foldl (fun acc q => postCq acc q false
         { kind := Status.kBand, body := [(16, le 1 b), (17, le 1 r), (18, le 2 sc)] }) s1) 2 (le 1 b ++ le 1 r ++ le 2 sc))) ∧
     exec .nvRecordFlush s = .next { s with dex := { s.dex with nvEvents := s.dex.events } }) ∧
  ((∀ s : State, Sensors.score s ≤ 1000) ∧
   (∀ (a n : Nat), Sensors.decay (a + 21600000000000 * n) * 2 ^ n ≤ Sensors.decay a ∧
     Sensors.decay a < (Sensors.decay (a + 21600000000000 * n) + 1) * 2 ^ n) ∧
   (∀ (h : HealthRegs) (old sc : Nat), healthOk h →
     (h.expel ≤ sc → Sensors.band h old sc = 3) ∧
     (old = 3 → h.expel < sc + 50 → Sensors.band h old sc = 3) ∧
     (old = 0 → sc < h.warn → Sensors.band h old sc = 0) ∧
     (sc + 50 ≤ h.warn → Sensors.band h old sc = 0)))

/-- The power governor (R498 to R500): samples are summed; a period above the limit raises the level by one, the tenth below it by 25 W lowers it by
one, and the limit asked for takes effect; a die at 100 °C raises the thermal floor by one each millisecond, and dies at 97 °C or below let
it fall by one each ten.

Completes: governorSample, governingPeriodEnd and thermalFloorStep. -/
def Obligations.GovernorCommandsComplete : Prop :=
  ∀ (s : State) (w : Nat), Sensors.powered s = true → let g := s.gov
    exec (.governorSample w) s = .next { s with gov := { g with sum := g.sum + w, samples := g.samples + 1 } } ∧
    (g.periodAt + 100000 ≤ s.ns → ∃ t, exec .governingPeriodEnd s = .next t ∧ t = { s with gov := t.gov } ∧
      (g.limit * 10 * g.samples < g.sum → t.gov.level = min 7 (g.level + 1) ∧ t.gov.below = 0) ∧
      (g.sum ≤ g.limit * 10 * g.samples → (g.limit - 25) * 10 * g.samples ≤ g.sum → t.gov.level = g.level ∧ t.gov.below = 0) ∧
      (0 < g.samples → g.sum < (g.limit - 25) * 10 * g.samples → 9 ≤ g.below → 0 < g.level →
        t.gov.level = g.level - 1 ∧ t.gov.below = 0) ∧
      (0 < g.samples → g.sum < (g.limit - 25) * 10 * g.samples → g.below < 9 → t.gov.level = g.level ∧ t.gov.below = g.below + 1) ∧
      t.gov.limit = g.newLimit.getD g.limit ∧ t.gov.newLimit = none ∧ t.gov.floor = g.floor ∧ t.gov.floorAt = g.floorAt ∧
      t.gov.input = g.sum / max 1 g.samples ∧ t.gov.sum = 0 ∧ t.gov.samples = 0 ∧ t.gov.periodAt = s.ns) ∧
    (s.power.sample.tdie.any (fun x => decide (800 ≤ x)) = true → g.floorAt + 1000000 ≤ s.ns →
      exec .thermalFloorStep s = .next { s with gov := { g with floor := min 7 (g.floor + 1), floorAt := s.ns } }) ∧
    (s.power.sample.tdie ≠ [] → s.power.sample.tdie.all (fun x => decide (x ≤ 776)) = true → g.floorAt + 10000000 ≤ s.ns →
      exec .thermalFloorStep s = .next { s with gov := { g with floor := g.floor - 1, floorAt := s.ns } })

/-! ## Power, bring-up, removal -/

/-- Input power (R482, R483, R489, R524, R532): the input becomes valid outside a lockout, once the presence contact is made; a loss of it, an undervoltage and an overvoltage leave the
module OFF with the non-volatile record alone, and the overvoltage latches until its release; an excursion is recorded, and once a second while it lasts; the
breaker's trip makes a cold cycle, or FAILED when it is the second within 24 hours.

Completes: inputValid, undervoltageLockout, inputLoss, overvoltageLockout, overvoltageRelease, presenceBreak, inputExcursion and breakerTrip. -/
def Obligations.InputPowerCommandsComplete : Prop :=
  ∀ (s : State) (mv us : Nat),
    (s.dex.state = .off → s.power.overLock = false → s.power.present = true →
      exec .inputValid s = .next { s with power := { s.power with inputOk := true } }) ∧
    (s.power.overLock = true ∨ s.power.present = false → exec .inputValid s = .next s) ∧
    exec .undervoltageLockout s = .next (Powering.powerLoss s) ∧
    exec .inputLoss s = .next (modPower (Powering.powerLoss s) (fun p => { p with present := true })) ∧
    exec .overvoltageLockout s = .next (Powering.powerLoss { s with power := { s.power with overLock := true } }) ∧
    exec .overvoltageRelease s = .next { s with power := { s.power with overLock := false } } ∧
    (Powering.powerLoss s).dex.state = .off ∧ (Powering.powerLoss s).dex.events = s.dex.nvEvents ∧
    (Powering.powerLoss s).mem = State.reset.mem ∧ (Powering.powerLoss s).ctxs = [] ∧
    (∀ k, Swaps.age (Powering.powerLoss s) k = 0) ∧
    (let gone := { s with power := { s.power with present := false } }
     (Powering.removable s.dex.state = false → exec .presenceBreak s = .next (Powering.powerLoss gone)) ∧
     (Powering.removable s.dex.state = true → exec .presenceBreak s = .next gone)) ∧
    (s.dex.state ≠ .off → (44000 ≤ mv ∧ mv < 48000 ∨ 60000 < mv ∧ mv ≤ 63000) → 1000 ≤ us → s.power.excursionAt = none →
      exec (.inputExcursion mv us) s =
        .next (Report.raise { s with power := { s.power with excursionAt := some s.ns } }
          { cls := 0x41, unit := Sensors.sensorUnit 6,
            detail := Sensors.voltageDetail 0 mv (if mv < 48000 then 48000 else 60000) us } 0)) ∧
    (∀ t, s.power.excursionAt = some t → s.ns < t + 1000000000 → s.ns ≤ t + 1000 * us → exec (.inputExcursion mv us) s = .next s) ∧
    (s.dex.state = .ready →
      let r := Report.fill s { cls := 0x41, unit := Sensors.sensorUnit 6, detail := Sensors.voltageDetail 0 mv 54000 0 } 4 false
      let s1 := Report.addEvent (Report.addEvent (Report.record s r) 80) 300
      let s2 := Report.notify { s1 with power := { s1.power with trips := s.dex.powered :: s1.power.trips, excursionAt := some s.ns } } 6
        (Report.recBytes r)
      (s.power.trips = [] → exec (.breakerTrip mv) s = .next (ResetOps.coldCycle s2 1 0x41)) ∧
      ((∃ t ∈ s.power.trips, s.dex.powered < t + 86400000000000) → exec (.breakerTrip mv) s = .next (Report.declareFailed s2)))

/-- Bring-up (R435, R484 to R487): the controller boots into STANDBY, and goes on with AUTOSTART; a rail that does not regulate is recorded and
holds those after it back; firmware that does not verify leaves the module FAILED; each
phase that ends well gives way to the next; the time phase ends in READY.

Completes: dexhornBoot, railRegulationTimeout, bringupPhaseEnd and timePhaseEnd. -/
def Obligations.BringUpCommandsComplete : Prop :=
  ∀ (s : State) (rail mv : Nat) (r : PhaseResult),
    (s.dex.state = .off → s.power.inputOk = true →
      (∀ f u : Bool, (f = false ∨ u = false) → exec (.dexhornBoot f u) s = .next (Report.enterState s .failed)) ∧
      (let s1 := Sensors.update (Report.enterState s .standby)
       (s1.dex.autostart = false ∨ s1.power.present = false → exec (.dexhornBoot true true) s = .next s1) ∧
       (s1.dex.autostart = true → s1.power.present = true → ∃ t, exec (.dexhornBoot true true) s = .next t ∧
         t = Powering.enableRails s1 ∧
         t.dex = { s1.dex with state := .bringup, phase := 1, coldCycle := 0, assertedAt := s1.ns, gen := (s1.dex.gen + 1) % 256,
                               lastCause := 0, lastClass := 0, planParts := [] } ∧
         t.power = { s1.power with rails := .rising 0 } ∧ t.mem = State.reset.mem ∧ t.ctxs = [] ∧ t.remote = State.reset.remote ∧
         (∀ k, Swaps.age t k = 0)))) ∧
    (s.dex.state = .bringup → s.dex.coldCycle ≠ 1 →
      (∀ g n, Powering.railOrder.findIdx? (fun l => l.contains rail) = some g → s.power.rails = .rising n →
        let set := ([0, 1800, 750, 750, 700, 700, 500, 500, 800, 800] : List Nat).getD rail 0
        exec (.railRegulationTimeout rail mv) s =
          .next (Report.raise { s with power := { s.power with rails := .stuck g } }
            { cls := 0x41, unit := Sensors.sensorUnit (6 + rail), detail := Sensors.voltageDetail rail mv set 10000 } 0)) ∧
      (s.dex.phase = 1 → (r.firmwareOk = false ∨ r.pufOk = false ∨ Powering.tooOld s [1] = true) →
        exec (.bringupPhaseEnd 1 r) s = .next (Report.declareFailed s)) ∧
      (∀ n, s.dex.phase = 1 → r.firmwareOk = true → r.pufOk = true → Powering.tooOld s [1] = false → s.power.rails = .rising n → r.ok = true →
        let u := Sensors.update (modPower (Powering.runStaged s [1]) (fun p => { p with rails := .up }))
        exec (.bringupPhaseEnd 1 r) s = .next { u with dex := { u.dex with phase := 2, phaseAt := u.ns } }) ∧
      (s.dex.phase = 2 → r.ok = true → exec (.bringupPhaseEnd 2 r) s = .next (Powering.phase2 s)) ∧
      (s.dex.phase = 3 → r.ok = true → exec (.bringupPhaseEnd 3 r) s = .next (Powering.phase3 s (r.lostChannels.filter (· < 128)))) ∧
      (s.dex.phase = 4 → r.ok = true → exec (.bringupPhaseEnd 4 r) s = .next (Powering.phase4 s)) ∧
      (s.dex.phase = 5 → exec (.bringupPhaseEnd 5 r) s = .next (Powering.phase5 s r.failedCores)) ∧
      (s.dex.phase = 6 → r.ok = true → exec (.bringupPhaseEnd 6 r) s = .next (Powering.phase6 s)) ∧
      (s.dex.phase = 7 → exec (.bringupPhaseEnd 7 r) s = .next { s with dex := { s.dex with phase := 8, phaseAt := s.ns } }) ∧
      (s.dex.phase = 8 → (s.ftime.state = .locked ∨ Powering.noFirefly s = true ∨ s.dex.phaseAt + 600000000 ≤ s.ns) → ∃ t, exec .timePhaseEnd s = .next t ∧
        t.dex = { s.dex with state := .ready, coldCycle := 0 } ∧ t.gov = { s.gov with periodAt := s.ns } ∧
        t = { s with dex := t.dex, gov := t.gov, out := t.out }))

/-- Hot removal (R488, R502): a request waits for the contexts to go, or for REMOVE_WAIT; the removal then fences a module with contexts; when its
step is over, the links announce themselves down, the record is written, the rails fall, and the module is SAFE.

Completes: modAttn, removalStart, removeWaitExpiry and safeReached. -/
def Obligations.RemovalCommandsComplete : Prop :=
  ∀ (s : State) (r : Removal),
    (s.dex.removal = none → s.dex.state = .ready →
      exec .modAttn s = .next (Report.notify { s with dex := { s.dex with
        removal := some { force := false, since := s.ns, wait := 120, running := false } } } 1 [3])) ∧
    (s.dex.removal = some r → r.running = false → s.dex.state = .ready → fenced s = false →
      let go := fun (y : Removal) => Report.enterState { s with dex := { s.dex with removal := some { y with running := true } } } .removing
      let stop := fun (y : Removal) => Report.fence (go y) { td := now s, stage := 1, cause := 8, failed := false, ta := 0 }
      (s.ctxs = [] → exec .removalStart s = .next (go r)) ∧
      (s.ctxs ≠ [] → r.force = true → exec .removalStart s = .next (stop r)) ∧
      (s.ctxs ≠ [] → r.wait ≠ 0 → r.since + 1000000000 * r.wait ≤ s.ns →
        exec .removeWaitExpiry s = .next (stop { r with force := true }))) ∧
    (s.dex.state = .removing → s.dex.removal = some r →
      let on := fun (w : State) (n : Nat) => modDex w (fun d => { d with removal := d.removal.map (fun y => { y with step := n }) })
      (r.step = 1 → Powering.stepOneOver s = true → Powering.removalStep s = on (HostLink.linkDown (ResetOps.announceDown s)) 3) ∧
      (r.step = 3 → Powering.removalStep s = on { s with dex := { s.dex with nvEvents := s.dex.events, nvRecords := s.dex.records } } 4) ∧
      (r.step = 4 → Powering.removalStep s = on (modPower (Report.railsOff s .removing) (fun p => { p with rails := .falling })) 5) ∧
      (r.step = 5 → let s1 := { s with power := { s.power with rails := .off }, dex := { s.dex with removal := none } }
        (r.failed = false → exec .safeReached s = .next (Report.enterState s1 .safe)) ∧
        (r.failed = true → exec .safeReached s = .next (Report.declareFailed s1))))


/-! ## The host port -/

/-- The host link (R387, R449, R460, R480, R487, R531): PERST# fences a READY module, and only moves the pin elsewhere; a Function Level Reset, a hot
reset, a link disable and a move from D3hot to D0 fence it when the link is up; a link that goes down takes the rings, the keys and the
gated transfers with it, and cuts the item that the shard writer writes; the link comes up in READY; a stream is Secure once its keys are programmed and set to go.

Completes: perstAssert, perstDeassert, functionLevelReset, hotReset, linkDisable, d3hotToD0, hostLinkDown, hostLinkUp, ideStateChange and
ideKmMessage. -/
def Obligations.HostLinkCommandsComplete : Prop :=
  ∀ (s : State) (stream id : Nat) (key : BitVec 256) (h : SpdmHead) (x : Session),
    let reset := fun (w : State) => Report.fence { w with dex := { w.dex with lastCause := 2, lastClass := 0 } }
      { td := now w, stage := 1, cause := 8, failed := false, ta := 0 }
    (s.dex.state = .ready → s.resetSeq = none → s.power.perst = false →
      exec .perstAssert s = .next (reset { s with power := { s.power with perst := true } })) ∧
    (s.dex.state ≠ .ready → exec .perstAssert s = .next { s with power := { s.power with perst := true } }) ∧
    exec .perstDeassert s = .next { s with power := { s.power with perst := false } } ∧
    (∀ c ∈ [Instr.functionLevelReset, .hotReset, .linkDisable, .d3hotToD0], s.host.linkUp = true → s.dex.state = .ready → s.resetSeq = none →
      exec c s = .next (reset s)) ∧
    exec .hostLinkDown s =
      .next { s with host := { s.host with linkUp := false, secure := false, rings := [], ideKeys := [], ideOn := [], ideGo := [] },
                     ckpt := { s.ckpt with egress := [], outgoing := [], loads := [],
                                           items := match s.ckpt.items with | i :: rest => { i with cut := true } :: rest | [] => [] } } ∧
    (s.dex.state = .ready → s.power.perst = false → s.host.linkUp = false → s.host.secure = false → s.resetSeq = none →
      exec .hostLinkUp s = .next { s with host := { s.host with linkUp := true } }) ∧
    (stream < 2 →
      (SMap.look s.host.ideKeys stream = some key → SMap.val false s.host.ideGo stream = true → s.host.linkUp = true → s.host.secure = false →
        exec (.ideStateChange stream true) s =
          .next (Spdm.flushHost { s with host := { s.host with ideOn := SMap.ins s.host.ideOn stream true, secure := true } })) ∧
      (s.host.secure = true → s.host.ideOn = [(stream, true)] →
        exec (.ideStateChange stream false) s =
          .next (Report.fenceHost { s with host := { s.host with ideOn := SMap.ins s.host.ideOn stream false, secure := false } })) ∧
      (Spdm.served s h.i3c = true → s.sec.negotiated = 7 → h.session = some id → Spdm.session? s id true = some x →
        exec (.ideKmMessage h stream (.keyProg key)) s =
          .next (Spdm.sealed { s with host := { s.host with ideKeys := SMap.ins s.host.ideKeys stream key } } x [5, 0x7E]) ∧
        ((SMap.look s.host.ideKeys stream).isSome = true → exec (.ideKmMessage h stream .keySetGo) s =
          .next (Spdm.sealed { s with host := { s.host with ideGo := SMap.ins s.host.ideGo stream true } } x [5, 0x7E]))))


/-- Rings (R463 to R465, R468, R475, R476): a doorbell moves TAIL and the module fetches up to it while a place of its 32 is free (notes/assumptions/90.md),
one too far stops the ring with its code; HEAD frees room for held entries; a control write that enables a
ring starts its counts again, the descriptors still in progress from before numbered apart (notes/assumptions/90.md), one with a size or a count
out of range is refused; the coalescing time signals once. Without a Secure stream each is an Unsupported
Request. An entry is written in two parts, its first eight bytes last (`out` lists the latest first); a write of it that fails stops the ring.

Completes: hostSqDb, hostCqDb, ringEnable, ringDisable and coalesceTimeout. -/
def Obligations.RingCommandsComplete : Prop :=
  ∀ (s : State) (r : Nat) (n : W32) (v : W64), r < 128 → let x := ring s r
    let stopped := fun (y : Ring) (code : Nat) => { hush y with err := true, errCode := code }
    (hostServed s = true →
      (x.enable = true → x.err = false →
        let y := { x with tail := n.toNat }
        (dist32 n.toNat x.sqHead ≤ 2 ^ x.sqLog → x.held = [] →
          let k := min (dist32 n.toNat x.sqHead) (32 - (dist32 x.sqHead x.nextStart + x.inProg.length))
          (k ≠ 0 → exec (.hostSqDb r n true) s = .next (setRing s r { y with sqHead := (x.sqHead + k) % 4294967296 }) ∧
            exec (.hostSqDb r n false) s = .next (setRing s r (stopped y 3))) ∧
          (k = 0 → ∀ ok, exec (.hostSqDb r n ok) s = .next (setRing s r y))) ∧
        (dist32 n.toNat x.sqHead ≤ 2 ^ x.sqLog → x.held ≠ [] → ∀ ok, exec (.hostSqDb r n ok) s = .next (setRing s r y)) ∧
        (2 ^ x.sqLog < dist32 n.toNat x.sqHead → ∀ ok, exec (.hostSqDb r n ok) s = .next (setRing s r (stopped x 1))) ∧
        (∀ cqOk sqOk : Bool,
          (dist32 x.written n.toNat < 2147483648 → exec (.hostCqDb r { head := n, cqOk := cqOk, sqOk := sqOk }) s =
            .next (fetch (flushHeld 64 (setRing s r { x with head := n.toNat }) r cqOk) r sqOk)) ∧
          (2147483648 ≤ dist32 x.written n.toNat → exec (.hostCqDb r { head := n, cqOk := cqOk, sqOk := sqOk }) s =
            .next (setRing s r (stopped x 2))))) ∧
      (let w := v.toNat
       let y := { x with vector := field w 47 40, irqEn := bit w 39, coalUs := field w 31 16, coalCnt := field w 15 8,
                         cqLog := if x.enable then x.cqLog else field w 7 4, sqLog := if x.enable then x.sqLog else field w 3 0 }
       let fits := 1 ≤ field w 15 8 ∧ (x.enable = true ∨ 4 ≤ field w 7 4 ∧ field w 7 4 ≤ 12 ∧ 4 ≤ field w 3 0 ∧ field w 3 0 ≤ 12)
       (v.getLsbD 63 = true → (fits → exec (.ringEnable r v) s =
          .next (emit (if x.enable = true then Rings.settle (setRing s r y) r
            else setRing (Rings.renumber s r) r (Rings.restart y)) (.answer 0 []))) ∧
         (¬fits → exec (.ringEnable r v) s = .next (emit s (.answer 2 [])))) ∧
       (v.getLsbD 63 = false → (fits → exec (.ringDisable r v) s =
          .next (emit (setRing s r (hush { y with enable := false })) (.answer 0 []))) ∧
         (¬fits → exec (.ringDisable r v) s = .next (emit s (.answer 2 [])))))) ∧
    (hostReady s = false → s.host.linkUp = true → fenced s = false →
      ∀ c ∈ [Instr.hostSqDb r n true, .hostCqDb r { head := n }, .ringEnable r (v ||| 0x8000000000000000), .ringDisable r (v &&& 0x7FFFFFFFFFFFFFFF)],
        exec c s = .next (emit s (.answer 2 []))) ∧
    (x.irqEn = true → s.host.secure = true → 0 < x.unsignalled → x.coalUs ≠ 0 → x.unsignalledAt + 1000 * x.coalUs ≤ now s →
      exec (.coalesceTimeout r) s = .next (signal (setRing s r { x with unsignalled := 0 }) x.vector)) ∧
    (∀ (d : Bool) (e : CqEntry), x.enable = true → x.err = false → s.host.linkUp = true → x.held = [] → cqRoom s x = true →
      let slot := x.written % 2 ^ x.cqLog
      let b := cqBytes x x.written x.overflow e
      (x.irqEn = false → (postCq s r d e true).out = .cq r slot 0 (b.take 8) :: .cq r slot 8 (b.drop 8) :: s.out) ∧
      postCq s r d e false = setRing s r (stopped x 4))


/-- The host's direct access (R386, R449, R461, R462): while the link is up, a stream is Secure and the module is not fenced, a posted write has the
effect of a write of the local map, and a read answers its bytes and status; an access that is refused, and any without a Secure stream, is
an Unsupported Request. A read of a queue follows the appends of its cycle, one of FLG_TRACE the rest of its cycle, and a write of FLG_ACT the
flag actions of the engines (R251, R256, R262).

A write to storage and back (R121, R212, R461, R462): bytes that the host writes to DRAM, no poisoned access among those written in part, read
back as written, and every other byte of memory is as before, but for the census records met, which are zero after their identifier.

Completes: hostMemoryWrite and hostMemoryRead. -/
def Obligations.HostAccessesComplete : Prop :=
  (∀ (s : State) (a n : Nat) (data : Bytes) (hits : List CodeHit),
     (hostServed s = true →
       (data ≠ [] → (Order.isFlagWrite (.hostMemoryWrite a { data := data }) = true → Order.turn 3 s = true) →
         let u := Mem.inject s hits Bus.hostReq
         let w := Bus.write u a data (Bus.hostAccess u data)
         exec (.hostMemoryWrite a { data := data, hits := hits }) s = .next (if w.2 = 0 then w.1 else emit w.1 (.hostRefused a 2))) ∧
       (Order.readable s a = true → (Order.meetsTrace a n = true → Order.turn 9 s = true) →
         let r := Bus.read s a n Bus.hostReq
         exec (.hostMemoryRead a n .clean) s = .next (emit r.1 (.hostRead a r.2.data (if r.2.status = 3 then 2 else r.2.status))))) ∧
     (hostReady s = false → s.host.linkUp = true → fenced s = false →
       (Order.readable s a = true → (Order.meetsTrace a n = true → Order.turn 9 s = true) →
         ∀ e, exec (.hostMemoryRead a n e) s = .next (emit s (.hostRead a [] 2))) ∧
       (data ≠ [] → (Order.isFlagWrite (.hostMemoryWrite a { data := data }) = true → Order.turn 3 s = true) →
         exec (.hostMemoryWrite a { data := data, hits := hits }) s = .next (emit s (.hostRefused a 2))))) ∧
  (∀ (s : State) (a : Nat) (data : Bytes), hostServed s = true → data ≠ [] →
     Mem.inDram a data.length = true → Mem.writeStatus s a data.length = 0 →
     let cleared := fun (b : Nat) => s.census.any (fun t => Mem.inRecord t.2 a data.length b)
     ∃ t, exec (.hostMemoryWrite a { data := data }) s = .next t ∧
       (∀ i < data.length, cleared (a + i) = false → Mem.byteAt t (a + i) = data.getD i 0) ∧
       (∀ b, (b < a ∨ a + data.length ≤ b) → cleared b = false → Mem.byteAt t b = Mem.byteAt s b) ∧
       (∀ b, cleared b = true → Mem.byteAt t b = 0))

/-! ## Host descriptors -/

/-- Descriptors of contexts and steps (R156, R178, R327, R393, R469): CTX_DEFINE creates its context, CTX_DELETE stops its streams and ends once its
operations are done, STEP_SETUP keeps a set-up that meets R327 between attempts, STEP_RESOLVE decides a PENDING context, NOP completes; each
completes with OK. A fenced module completes each FENCED.

Completes: ctxDefine, ctxDelete, stepSetup, stepResolve and hostNop. -/
def Obligations.ContextDescriptorsComplete : Prop :=
  ∀ (s : State) (d : DescHead), d.bad = false → d.badOp = false →
    (Desc.starts s d false = true → fenced s = false → d.ctx < 255 →
      (∀ (x : CtxFields), HostDesc.badDefine x = false → ctx? s d.ctx = none → HostDesc.lowerFirst s d = false →
        let s1 := Desc.register s d (Desc.entry d 1 false)
        let red := s.err.redMask.getLsbD d.ctx
        (red = false ∧ s.health.probation = false ∨ red = true ∧ HostDesc.badPairs s1 x = false) →
        let r := HostDesc.create s1 d x red
        exec (.ctxDefine d x) s = .next (endDesc r.1 d.ring d.t Status.ok r.2.2)) ∧
      (∀ (x : Ctx), ctx? s d.ctx = some x → x.deleting = none →
        exec (.ctxDelete d) s = .next (HostDesc.beginDelete (Desc.register s d (Desc.entry d 2 false)) d x)) ∧
      (∀ (x : Ctx) (u : StepSetupBody), d.fault = false → d.poisoned = false → HostDesc.badSetup d u = false → ctx? s d.ctx = some x → stepped x = true →
        x.step.isOpen = false → x.step.holdUntil = none →
        exec (.stepSetup d u) s = .next (endDesc (modStep (Desc.register s d (Desc.entry d 3 false)) d.ctx (fun t => { t with setup := some u }))
          d.ring d.t Status.ok [])) ∧
      (∀ (x : Ctx) (y : ResolveBody), d.fault = false → d.poisoned = false → y.bad = false → y.ctx = d.ctx → ctx? s d.ctx = some x → y.step = x.step.step →
        x.step.pending = true → let s1 := Desc.register s d (Desc.entry d 4 false)
        (y.result = 1 → exec (.stepResolve d y) s = .next (endDesc (modStep (HostDesc.resolveCommit s1 d.ctx y) d.ctx
          (fun t => { t with pending := false })) d.ring d.t Status.ok [])) ∧
        (y.result = 2 → exec (.stepResolve d y) s = .next (endDesc (modStep (HostDesc.resolveUndecided s1 d.ctx) d.ctx
          (fun t => { t with pending := false })) d.ring d.t Status.ok [])))) ∧
    (Desc.starts s d true = true → fenced s = false → d.ctx = 255 →
      exec (.hostNop d) s = .next (endDesc (Desc.register s d (Desc.entry d 13 true)) d.ring d.t Status.ok [])) ∧
    (Desc.starts s d true = true → fenced s = true →
      exec (.hostNop d) s = .next (endDesc (Desc.register s d (Desc.entry d 13 true)) d.ring d.t Status.fenced []))

/-- Copies and work (R343, R470, R471, R478): COPY_IN and COPY_OUT are in progress until their transfer ends; the trigger flag of a COPY_OUT is
consumed as it is sent, or gated with the attempt of a stepped context; what was read is written, and what was written ends the descriptor,
the parts that a code or a check value fails marked as poisoned;
WORK sets its start flag, and ends when its done flag is set, or with TIMEOUT.

Completes: copyIn, copyOut, copyOutTrigger, copyTransferEnd, work, workDone and workTimeout. -/
def Obligations.CopiesAndWorkComplete : Prop :=
  ∀ (s : State) (d : DescHead) (y : CopyFields), d.bad = false → d.badOp = false → fenced s = false →
    (Desc.starts s d true = true → 1 ≤ y.length → y.length ≤ 4294967296 → d.ctx = 255 →
      (y.queue = false → exec (.copyIn d y) s = .next (Desc.register s d { Desc.entry d 10 true with copy := y })) ∧
      (y.queue = false → y.trigEn = true → y.trigCore < 64 → y.trigFlag < 8192 →
        exec (.copyOut d y) s = .next (Desc.register s d { Desc.entry d 11 true with copy := y }))) ∧
    (∀ (r t : Nat) (i : InProgress), inProg? s r t = some i →
      (∀ (x : Ctx), i.op = 11 → Report.waiting i = true → FlagOps.value s i.copy.trigCore i.copy.trigFlag = true →
        let s1 := FlagOps.arrive s i.copy.trigCore i.copy.trigFlag 2 (FlagWindow.hostParty s)
        (ctx? s i.head.ctx = none → exec (.copyOutTrigger r t) s = .next (modProg s1 r t (fun j => { j with sending := true }))) ∧
        (ctx? s i.head.ctx = some x → stepped x = true → s.ckpt.egress.length < 1024 → exec (.copyOutTrigger r t) s =
          .next (modCkpt (modProg s1 r t (fun j => { j with triggered := some x.step.step })) (fun k =>
            { k with egress := k.egress ++ [{ ctx := i.head.ctx, step := x.step.step, ring := r, t := t }] })))) ∧
      (∀ (data : Bytes) (hits : List CodeHit), hostReady s = true → i.op = 10 → i.copy.queue = false → HostDesc.pushArea i.copy.localAddr = none → data.length = i.copy.length →
        let u := Mem.inject s hits { unit := Report.unitCode 11 0, ctx := i.head.ctx }
        let w := Bus.write u i.copy.localAddr data (Bus.hostAccess u data)
        exec (.copyTransferEnd r t { result := .read data, hits := hits }) s = .next (endDesc w.1 r t (if w.2 == 0 then Status.ok else Status.refused) [])) ∧
      (∀ (hits : List CodeHit), hostReady s = true → i.op = 11 → i.sending = true →
        let u := Mem.inject s hits { unit := Report.unitCode 11 0, ctx := i.head.ctx }
        StepOps.behindEgress u i.head.ctx r t = false →
        let o := Bus.read (StepOps.egressDone u r t) i.copy.localAddr i.copy.length { unit := Report.unitCode 11 0, ctx := i.head.ctx }
        (∀ p ∈ [(0, Status.ok), (4, Status.check), (5, Status.poisoned)], o.2.status = p.1 →
          exec (.copyTransferEnd r t { result := .written, hits := hits }) s =
            .next (endDesc (emit o.1 (.hostWrite i.copy.hostAddr o.2.data o.2.bad)) r t p.2 [(16, le 8 (i.triggered.getD 0))]))) ∧
      (i.op = 12 →
        (FlagOps.value s i.work.doneCore i.work.doneFlag = true → exec (.workDone r t) s =
          .next (endDesc (FlagOps.arrive s i.work.doneCore i.work.doneFlag 2 (FlagWindow.hostParty s)) r t Status.ok
            [(16, le 1 (field i.bits.toNat 5 0))])) ∧
        (∀ (e : Nat), i.deadline = some e → e ≤ now s → Order.turn 5 s = true → FlagOps.value s i.work.doneCore i.work.doneFlag = false →
          exec (.workTimeout r t) s = .next (endDesc s r t Status.timeout [])))) ∧
    (∀ (x : Ctx) (w : WorkFields), Desc.starts s d true = true → d.ctx < 255 → w.startCore < 64 → w.doneCore < 64 → w.startFlag < 8192 →
      w.doneFlag < 8192 → ctx? s d.ctx = some x → stepped x = false → x.step.dead = false → x.deleting = none →
      let s1 := modProg (Desc.register s d { Desc.entry d 12 true with work := w }) d.ring d.t
        (fun i => { i with deadline := if w.timeout == 0 then none else some (now s + 1000 * w.timeout) })
      exec (.work d w) s = .next (FlagOps.arrive s1 w.startCore w.startFlag 1 (FlagWindow.hostParty s)))

/-! ## Set-up registers -/

/-- HEALTH_CTL (R377): WARN, PROB, EXPEL and PROBATION at their bits with their reset values, every other bit zero; a write that does not keep
WARN < PROB < EXPEL ≤ 1,000 leaves the register unchanged and completes with an error.

Completes: healthCtlWrite. -/
def Obligations.HealthControlRegister : Prop :=
  (State.reset.health.warn = 300 ∧ State.reset.health.prob = 500 ∧ State.reset.health.expel = 750 ∧
    State.reset.health.probation = false) ∧
  ∀ (s : State) (v : W64), hostServed s = true →
    let w := (v.extractLsb' 0 10).toNat
    let p := (v.extractLsb' 16 10).toNat
    let e := (v.extractLsb' 32 10).toNat
    (w < p ∧ p < e ∧ e ≤ 1000 →
      let t := { s with health := { s.health with warn := w, prob := p, expel := e, probation := v.getLsbD 48 } }
      exec (.healthCtlWrite v) s = .next (emit t (.answer 0 [])) ∧
      Regs.value t 0x20 = some (w + p * 2 ^ 16 + e * 2 ^ 32 + (if v.getLsbD 48 = true then 2 ^ 48 else 0))) ∧
    (¬(w < p ∧ p < e ∧ e ≤ 1000) → exec (.healthCtlWrite v) s = .next (emit s (.answer 2 [])))

/-- REM_OP_TIMEOUT and REM_ORD_TIMEOUT (R510): their bits, their reset values and their ranges; a write that leaves a value out of range, or the first
below twice the second, is refused.

Completes: remTimeoutWrite. -/
def Obligations.RemoteTimeoutRegisters : Prop :=
  (State.reset.remote.opTimeout = 500 ∧ State.reset.remote.ordTimeout = 100) ∧
  ∀ (s : State) (v : W64), hostServed s = true →
    let a := (v.extractLsb' 0 27).toNat
    let b := (v.extractLsb' 0 24).toNat
    (200 ≤ a ∧ a ≤ 100000 ∧ 2 * s.remote.ordTimeout ≤ a →
      let t := { s with remote := { s.remote with opTimeout := a } }
      exec (.remTimeoutWrite 0 v) s = .next (emit t (.answer 0 [])) ∧ Regs.value t 0x80000 = some a) ∧
    (¬(200 ≤ a ∧ a ≤ 100000 ∧ 2 * s.remote.ordTimeout ≤ a) → exec (.remTimeoutWrite 0 v) s = .next (emit s (.answer 2 []))) ∧
    (10 ≤ b ∧ b ≤ 10000 ∧ 2 * b ≤ s.remote.opTimeout →
      let t := { s with remote := { s.remote with ordTimeout := b } }
      exec (.remTimeoutWrite 8 v) s = .next (emit t (.answer 0 [])) ∧ Regs.value t 0x80008 = some b) ∧
    (¬(10 ≤ b ∧ b ≤ 10000 ∧ 2 * b ≤ s.remote.opTimeout) → exec (.remTimeoutWrite 8 v) s = .next (emit s (.answer 2 [])))

/-- Writes to the set-up registers (R359, R504, R508, R512 to R514, R518): a new base or size of the log starts its counts again and writes what was
held; TAIL frees records unless it passes HEAD; a census register takes a table within DRAM while no context of its identifier is defined; a
bank takes each of its words while it is neither active nor, with VALID set, named by a pending ROUTE_SWAP; every other writable register
takes its fields, and refuses what its rule refuses; a write to a register whose fields are all RO, or one that is not 8 aligned bytes,
changes no register. Each is answered, and one that is refused with the status of an Unsupported Request (R14).

Completes: errLogSetupWrite, errLogTailWrite, censusRegisterWrite, routeBankWrite and setupRegisterWrite. -/
def Obligations.RegisterAccessesComplete : Prop :=
  ∀ (s : State) (v : W64), hostServed s = true → let acc := fun (t : State) => (Host.Outcome.next (emit t (.answer 0 [])) : Host.Outcome State Fault Refusal)
    let refused := (Host.Outcome.next (emit s (.answer 2 [])) : Host.Outcome State Fault Refusal)
    let put := fun (off : Nat) => exec (.setupRegisterWrite off 8 v) s
    let n := v.toNat
    (exec (.errLogSetupWrite 0 v) s =
      acc (Report.flushLog 256 (modErr s (fun e => { e with base := n / 64 * 64, head := 0, tail := 0 })))) ∧
    (n % 2 ^ 21 ≤ 1048576 → exec (.errLogSetupWrite 8 v) s =
      acc (Report.flushLog 256 (modErr s (fun e => { e with size := n % 2 ^ 21, head := 0, tail := 0 })))) ∧
    (1048576 < n % 2 ^ 21 → exec (.errLogSetupWrite 8 v) s = refused) ∧
    (dist32 s.err.head (n % 2 ^ 32) ≤ s.err.size → exec (.errLogTailWrite v) s =
      acc (Report.flushLog 256 (modErr s (fun e => { e with tail := n % 2 ^ 32 })))) ∧
    (s.err.size < dist32 s.err.head (n % 2 ^ 32) → exec (.errLogTailWrite v) s = refused) ∧
    (∀ (c : Nat) (count : Bool), c < 256 →
      let r := SMap.val (0, 0, 0) s.census c
      let r1 := if count then (r.1, n % 2 ^ 24, r.2.2) else (n % 2 ^ 48 / 32 * 32, r.2.1, r.2.2)
      (ctx? s c = none → Mem.inDram r1.1 (32 * r1.2.1) = true → exec (.censusRegisterWrite c count v) s =
        acc { s with census := SMap.put (0, 0, 0) s.census c r1 }) ∧
      (ctx? s c = none → Mem.inDram r1.1 (32 * r1.2.1) = false → exec (.censusRegisterWrite c count v) s = refused) ∧
      ((ctx? s c).isSome = true → exec (.censusRegisterWrite c count v) s = refused)) ∧
    (∀ (b : Nat), b < 2 → let x := Regs.bank s b
      let set := fun (y : Bank) => acc (modFabric s (fun f => if b = 0 then { f with bank0 := y } else { f with bank1 := y }))
      let word := fun (off : Nat) => exec (.routeBankWrite b off v) s
      (s.fabric.activeBank ≠ b → (x.valid = false ∨ Regs.swapNames s x.table = false) →
        word 0 = set { x with table := n % 65536, valid := v.getLsbD 16 } ∧
        word 8 = set { x with portEn := n % 2 ^ 27 } ∧
        (∀ w < 3, ∃ m, word (0x10 + 8 * w) = set { x with detour := m } ∧
          ∀ p, SMap.val 31 m p = if p < 27 ∧ p / 12 = w then n / 2 ^ (5 * (p % 12)) % 32 else SMap.val 31 x.detour p) ∧
        (∀ w < 256, ∃ m, word (0x800 + 8 * w) = set { x with dirs := m } ∧
          ∀ e, SMap.val 0 m e = if e / 16 = w then n / 2 ^ (4 * (e % 16)) % 16 else SMap.val 0 x.dirs e) ∧
        (∀ g < 4096, word (0x8000 + 8 * g) = set { x with mcast := SMap.put 0#64 x.mcast g (v &&& 0x7FFFFFFFFFFFFF) })) ∧
      ((s.fabric.activeBank = b ∨ x.valid = true ∧ ∃ q ∈ s.sched, q.2.entry.action = 6 ∧ field q.2.entry.param.toNat 47 32 = x.table) →
        word 0 = refused ∧ word 8 = refused ∧ (∀ w < 3, word (0x10 + 8 * w) = refused) ∧ (∀ w < 256, word (0x800 + 8 * w) = refused) ∧
        ∀ g < 4096, word (0x8000 + 8 * g) = refused)) ∧
    (put 0x28 = acc { s with health := { s.health with floor := n / 65536 % 65536, available := n % 65536 } }) ∧
    (∀ r < 128, let x := ring s r
      (x.enable = false → put (0x10000 + 0x40 * r) = acc (setRing s r { x with sqBase := n / 4096 * 4096 }) ∧
        put (0x10008 + 0x40 * r) = acc (setRing s r { x with cqBase := n / 4096 * 4096 })) ∧
      (x.enable = true → put (0x10000 + 0x40 * r) = acc s ∧ put (0x10008 + 0x40 * r) = acc s)) ∧
    (∀ c < 256, put (0x81000 + 8 * c) = acc (modRemote s (fun r => { r with win := SMap.put 0#64 r.win c (v &&& 0x7FFF3FFF) }))) ∧
    (∀ e < 16384, put (0xA0000 + 8 * e) = acc (modRemote s (fun r => { r with map := SMap.put 0#64 r.map e (v &&& 0xBFFF) }))) ∧
    (∀ g < 4096, put (0x400000 + 0x400 * g) = acc (modRemote s (fun r => { r with mcast := SMap.put 0xFF0000#64 r.mcast (128 * g) (v &&& 0xFF01FF) })) ∧
      ∀ w, 1 ≤ w → w ≤ 64 → put (0x400000 + 0x400 * g + 8 * w) =
        acc (modRemote s (fun r => { r with mcast := SMap.put 0#64 r.mcast (128 * g + w) (v &&& 0x3FFF3FFF3FFF3FFF) }))) ∧
    (let p := n % 256
     (1 ≤ p → p ≤ 168 → put 0xC0008 = acc (modMem s (fun m => { m with scrubPeriod := p }))) ∧ (p < 1 ∨ 168 < p → put 0xC0008 = refused)) ∧
    (let q := n % 2 ^ 27
     (10 ≤ q → q ≤ 100000 → put 0xE0000 = acc { s with quantum := q }) ∧ (q < 10 ∨ 100000 < q → put 0xE0000 = refused)) ∧
    (let w := n / 65536 % 2048
     let k := n % 16
     (1 ≤ w → w ≤ 1440 → 1 ≤ k → put 0xE0008 = acc (modWeevil s (fun y => { y with window := w, count := k }))) ∧
     (w < 1 ∨ 1440 < w ∨ k < 1 → put 0xE0008 = refused)) ∧
    (∀ k < 72, let x := RegMode.core s k
      (x.mode = false → put (0xF0008 + 0x20 * k) = acc (RegMode.setCore s k { x with seed := v }) ∧
        put (0xF0010 + 0x20 * k) = acc (RegMode.setCore s k { x with win := n % 2 ^ 48 / 1024 * 1024 })) ∧
      (x.mode = true → put (0xF0008 + 0x20 * k) = refused ∧ put (0xF0010 + 0x20 * k) = refused) ∧ put (0xF0018 + 0x20 * k) = refused) ∧
    (put 0x110028 = acc (modErr s (fun e => { e with drillEnable := v.getLsbD 0 }))) ∧
    (∀ w < 4, ∃ a b : BitVec 256, put (0x110040 + 8 * w) = acc (modErr s (fun e => { e with redMask := a })) ∧
      put (0x110060 + 8 * w) = acc (modErr s (fun e => { e with weevilHold := b })) ∧
      ∀ c < 256, a.getLsbD c = (if c / 64 = w then v.getLsbD (c % 64) else s.err.redMask.getLsbD c) ∧
        b.getLsbD c = (if c / 64 = w then v.getLsbD (c % 64) else s.err.weevilHold.getLsbD c)) ∧
    (∀ off ∈ [0x0, 0x8, 0x10, 0x18, 0x30, 0x30000, 0x30008, 0x40100, 0x40108, 0x80010, 0x80018, 0x80020, 0x80028, 0x80030, 0x80038, 0x80040,
       0xC0000, 0xC0010, 0x110010, 0x110020], put off = refused) ∧
    (∀ p < 27, put (0x40000 + 8 * p) = refused) ∧ (∀ i < 128, put (0xC1000 + 8 * i) = refused) ∧ (∀ c < 256, put (0xD0010 + 0x20 * c) = refused) ∧
    (∀ k < 72, put (0x110100 + 8 * k) = refused) ∧
    (∀ (off len : Nat), off < 0x1000000 → Regs.isMsix off = false →
      ((Regs.value s (off - off % 8)).isSome = true → (len ≠ 8 ∨ off % 8 ≠ 0) → exec (.setupRegisterWrite off len v) s = refused) ∧
      ((Regs.value s (off - off % 8)) = none → exec (.setupRegisterWrite off len v) s = .next (emit (Report.countUnmapped s) (.answer 2 []))))

/-- What every register reads as (R377 to R379, R398, R455, R463, R501, R503 to R520, R324): a read of 8 aligned bytes of a mapped offset answers a value
below 2^64, with each field of the register's table in its place, cut to its width, and zeros in the reserved bits; another access to it is
refused, and an offset that the map does not list is unmapped. Where the registers hold their ranges, their fields stand whole. -/
def Obligations.RegisterValues : Prop :=
  ∀ (s : State), let as := Safety.ReadsAs s
    (∀ off, Regs.isMsix off = false → (Regs.value s (off - off % 8)).isSome = true →
      (off % 8 = 0 → ∃ v, Regs.read s off 8 = .ok (le 8 v) ∧ v < 2 ^ 64) ∧ (∀ n, (n ≠ 8 ∨ off % 8 ≠ 0) → Regs.read s off n = .error 3)) ∧
    (∀ off n, Regs.isMsix off = false → Regs.value s (off - off % 8) = none → Regs.read s off n = .error 2) ∧
    as 0x00 [(63, 48, 0x1F9E), (47, 32, 0x2400), (31, 24, s.dex.gen), (23, 16, 1), (13, 0, moduleId s)] ∧
    as 0x08 [(39, 32, s.dex.coldCycles), (31, 24, s.dex.lastCause), (23, 16, s.dex.lastClass), (7, 0, s.dex.gen)] ∧
    as 0x10 [(63, 48, SMap.val 0 s.sec.svn 1), (47, 40, s.sec.alarms), (39, 32, min 255 (Regs.recentAlarms s)), (22, 14, s.sec.lastSource),
      (10, 8, s.sec.sessions.length), (2, 2, if ∃ p ∈ s.ctxs, p.2.jobKey.isSome = true then 1 else 0), (1, 1, s.host.secure.toNat),
      (0, 0, s.sec.attested.toNat)] ∧
    as 0x18 [(63, 48, s.gov.limit), (47, 32, s.gov.input / 10), (31, 16, s.gov.overCount), (10, 8, s.gov.floor), (2, 0, max s.gov.level s.gov.floor)] ∧
    as 0x20 [(48, 48, s.health.probation.toNat), (41, 32, s.health.expel), (25, 16, s.health.prob), (9, 0, s.health.warn)] ∧
    as 0x28 [(31, 16, s.health.floor), (15, 0, s.health.available)] ∧
    as 0x30 [(49, 40, s.dex.standing), (35, 34, s.dex.recommend), (33, 32, s.dex.band), (9, 0, s.dex.score)] ∧
    (∀ r < 128, let x := ring s r
      as (0x10000 + 0x40 * r) [(63, 12, x.sqBase / 4096)] ∧ as (0x10008 + 0x40 * r) [(63, 12, x.cqBase / 4096)] ∧
      as (0x10010 + 0x40 * r) [(63, 63, x.enable.toNat), (47, 40, x.vector), (39, 39, x.irqEn.toNat), (31, 16, x.coalUs), (15, 8, x.coalCnt),
        (7, 4, x.cqLog), (3, 0, x.sqLog)] ∧
      as (0x10028 + 0x40 * r) [(63, 32, x.sqHead), (31, 16, x.lost), (15, 8, x.errCode),
        (1, 1, if x.enable = false ∧ x.inProg = [] then 1 else 0), (0, 0, x.err.toNat)]) ∧
    as 0x30000 [(63, 0, s.ftime.count)] ∧
    as 0x30008 [(63, 56, s.ftime.rootEpoch), (49, 36, s.ftime.rootId), (35, 31, s.ftime.parentPort), (30, 27, s.ftime.stratum),
      (26, 25, match s.ftime.state with | .free => 0 | .acquire => 1 | .locked => 2 | .holdover => 3), (15, 0, signed 16 s.ftime.theta)] ∧
    (∀ p < 27, let x := port s p
      as (0x40000 + 8 * p) [(63, 56, x.epoch), (50, 46, x.peerPort), (45, 32, x.peer), (23, 16, x.cause), (15, 8, x.flaps), (3, 0, x.state)]) ∧
    as 0x40100 [(31, 0, s.fabric.swapDrop)] ∧ as 0x40108 [(16, 16, s.fabric.activeBank), (15, 0, s.fabric.activeTable)] ∧
    (∀ b < 2, let x := Regs.bank s b
      as (0x50000 + 0x10000 * b) [(16, 16, x.valid.toNat), (15, 0, x.table)] ∧ as (0x50008 + 0x10000 * b) [(26, 0, x.portEn)] ∧
      (∀ w < 3, as (0x50010 + 0x10000 * b + 8 * w)
        ((List.range (min 12 (27 - 12 * w))).map (fun i => (5 * i + 4, 5 * i, SMap.val 31 x.detour (12 * w + i))))) ∧
      (∀ w < 256, as (0x50800 + 0x10000 * b + 8 * w) ((List.range 16).map (fun i => (4 * i + 3, 4 * i, SMap.val 0 x.dirs (16 * w + i))))) ∧
      (∀ g < 4096, as (0x58000 + 0x10000 * b + 8 * g) [(63, 0, (SMap.val 0#64 x.mcast g).toNat)])) ∧
    as 0x80000 [(26, 0, s.remote.opTimeout)] ∧ as 0x80008 [(23, 0, s.remote.ordTimeout)] ∧ as 0x80010 [(31, 0, s.remote.refused)] ∧
    as 0x80018 [(31, 0, s.remote.badHdr)] ∧ as 0x80020 [(31, 0, s.remote.dup)] ∧ as 0x80028 [(31, 0, s.remote.lateDrop)] ∧
    as 0x80030 [(31, 0, s.remote.lateArr)] ∧ as 0x80038 [(16, 0, s.remote.ops.length)] ∧ as 0x80040 [(18, 0, s.remote.tracks.length)] ∧
    (∀ c < 256, as (0x81000 + 8 * c) [(63, 0, (SMap.val 0#64 s.remote.win c).toNat)]) ∧
    (∀ e < 16384, as (0xA0000 + 8 * e) [(63, 0, (SMap.val 0#64 s.remote.map e).toNat)]) ∧
    as 0xC0000 [(31, 0, s.mem.unmapped)] ∧ as 0xC0008 [(7, 0, s.mem.scrubPeriod)] ∧
    as 0xC0010 ((List.range 4).flatMap (fun i => let t : StackTherm := SMap.val {} s.mem.stackTherm i
      [(16 * i + 15, 16 * i + 8, t.tth / 8), (16 * i + 3, 16 * i + 3, t.hot.toNat), (16 * i + 2, 16 * i, t.level)])) ∧
    (∀ i < 4, as (0xC0020 + 8 * i) [(31, 0, SMap.val 0 s.mem.ondie i)]) ∧
    (∀ i < 128, as (0xC1000 + 8 * i) [(63, 63, (SMap.val false s.dex.lostChannels i).toNat), (31, 0, (SMap.val {} s.mem.channels i : Channel).ce)]) ∧
    (∀ c < 256, let r := SMap.val (0, 0, 0) s.census c
      as (0xD0000 + 0x20 * c) [(47, 5, r.1 / 32)] ∧ as (0xD0008 + 0x20 * c) [(23, 0, r.2.1)] ∧ as (0xD0010 + 0x20 * c) [(31, 0, r.2.2)]) ∧
    as 0xE0000 [(26, 0, s.quantum)] ∧ as 0xE0008 [(26, 16, s.weevil.window), (3, 0, s.weevil.count)] ∧
    (∀ n < 8, let r := Swaps.role s n
      as (0xE0100 + 8 * n) ([(44, 36, r.failed), (35, 32, r.spare)] ++ (List.range 8).map (fun j => (4 * j + 3, 4 * j, r.map.getD j j)))) ∧
    (∀ k < 72, let a : ArrayPhys := SMap.val {} s.phys k
      let x := RegMode.core s k
      (∀ j < 7, as (0xE1000 + 0x40 * k + 8 * j) [(47, 0, SMap.val 0 a.counters j)]) ∧ as (0xE1038 + 0x40 * k) [(6, 0, a.level)] ∧
      as (0xF0000 + 0x20 * k) [(63, 40, x.limit), (2, 2, x.fail.toNat), (1, 1, x.halted.toNat), (0, 0, x.mode.toNat)] ∧
      as (0xF0008 + 0x20 * k) [(63, 0, x.seed.toNat)] ∧ as (0xF0010 + 0x20 * k) [(47, 10, x.win / 1024)] ∧
      as (0xF0018 + 0x20 * k) [(63, 0, x.digest.toNat)] ∧
      as (0x110100 + 8 * k) [(35, 35, (Regs.unrotatable s k).toNat), (34, 34, (SMap.val false s.weevil.due k && Swaps.deferred s k).toNat),
        (33, 33, (SMap.val false s.weevil.due k).toNat), (32, 32, ((Swaps.role s (k / 9)).failed.testBit (k % 9)).toNat),
        (31, 0, min 4294967295 (Swaps.age s k / 1000000000))]) ∧
    (∀ n < 8, ∀ w < 8, let m := (SMap.val {} s.churns n : Churn).next
      as (0x100000 + 0x40 * n + 8 * w) [(63, 32, SMap.val 0 m (2 * w + 1)), (31, 0, SMap.val 0 m (2 * w))]) ∧
    (∀ d < 2, ∀ w < 8, let m := (SMap.val {} s.presses d : Press).next
      as (0x100400 + 0x40 * d + 8 * w) [(63, 32, SMap.val 0 m (2 * w + 1)), (31, 0, SMap.val 0 m (2 * w))]) ∧
    (∀ a < 16, as (0x100800 + 8 * a) [(63, 0, (SMap.val 0#64 s.dacc a).toNat)]) ∧
    as 0x110000 [(63, 6, s.err.base / 64)] ∧ as 0x110008 [(20, 0, s.err.size)] ∧ as 0x110010 [(31, 0, s.err.head)] ∧
    as 0x110018 [(31, 0, s.err.tail)] ∧ as 0x110020 [(31, 0, s.err.lost)] ∧
    as 0x110028 [(47, 16, s.err.fired), (0, 0, s.err.drillEnable.toNat)] ∧
    (∀ w < 4, as (0x110040 + 8 * w) ((List.range 64).map (fun i => (i, i, (s.err.redMask.getLsbD (64 * w + i)).toNat))) ∧
      as (0x110060 + 8 * w) ((List.range 64).map (fun i => (i, i, (s.err.weevilHold.getLsbD (64 * w + i)).toNat)))) ∧
    (∀ g < 4096, as (0x400000 + 0x400 * g) [(63, 0, (SMap.val 0xFF0000#64 s.remote.mcast (128 * g)).toNat)] ∧
      ∀ w, 1 ≤ w → w ≤ 64 → as (0x400000 + 0x400 * g + 8 * w) [(63, 0, (SMap.val 0#64 s.remote.mcast (128 * g + w)).toNat)]) ∧
    (Safety.RangesOk s → s.health.expel < 2 ^ 10 ∧ s.health.prob < 2 ^ 10 ∧ s.health.warn < 2 ^ 10 ∧ s.remote.opTimeout < 2 ^ 27 ∧
      s.remote.ordTimeout < 2 ^ 24 ∧ s.mem.scrubPeriod < 2 ^ 8 ∧ s.quantum < 2 ^ 27 ∧ s.weevil.window < 2 ^ 11 ∧ s.weevil.count < 2 ^ 4 ∧
      s.gov.limit < 2 ^ 16 ∧ s.gov.floor < 2 ^ 3 ∧ max s.gov.level s.gov.floor < 2 ^ 3)

/-! ## Management -/

/-- Management commands that need no session (R490 to R492, R494, R495): status, telemetry and records answer their data with OK, an unlisted
command BAD_REQUEST; a control message is answered and a message of another type is dropped; a command that comes while the controller still
carries an earlier one out is answered BUSY.

Secured management commands (R34, R46, R376, R382, R397, R437, R484, R488, R491, R494, R497, R499): inside a session each has its effect and is answered
OK in it; outside one it is answered NOT_SECURED and changes nothing. A plan and an image come in parts, and take effect with their last. Here `Mgmt.take s` is the state once the controller has taken the command, whose
duration is a free value (notes/assumptions/70.md).

Completes: getStatus, getTelemetry, getRecords, mgmtUnknownCommand, mctpControlMessage, mctpUnsupportedType, subscribe, powerOn, removeGraceful,
removeForce, resetPackage, resetColdCycle, setAutostart, loadPlan, setTime, steerTime, stageFirmware, raiseMinSvn, setProbation and
setPowerLimit. -/
def Obligations.ManagementCommandsComplete : Prop :=
  (∀ (s : State) (m : MgmtHead), Spdm.served s m.i3c = true → let x := Mgmt.session s m
     (∀ c, Mgmt.busy s = true → exec (.mgmtUnknownCommand m c) s = .next (Mgmt.respond s m x c 3 []) ∧
       exec (.getStatus m) s = .next (Mgmt.respond s m x 1 3 []) ∧ exec (.powerOn m) s = .next (Mgmt.respond s m x 0x10 3 [])) ∧
     (Mgmt.busy s = false → m.operandOk = true → let u := Mgmt.take s
       exec (.getStatus m) s = .next (Mgmt.respond u m x 1 0 (Mgmt.statusBytes s)) ∧
       exec (.getTelemetry m) s = .next (Mgmt.respond u m x 2 0 (padTo 64 s.power.telemetry)) ∧
       (∀ (i : Nat), i < 256 →
         (∀ r, s.dex.records[i]? = some r → exec (.getRecords m i) s = .next (Mgmt.respond u m x 3 0 (Report.recBytes r))) ∧
         (s.dex.records[i]? = none → exec (.getRecords m i) s = .next (Mgmt.respond u m x 3 0 []))) ∧
       (∀ c, exec (.mgmtUnknownCommand m c) s = .next (Mgmt.respond u m x c 1 []))) ∧
     (∀ b, exec (.mctpControlMessage m.i3c b) s = .next (emit s (.mctp (Config.mctpControl b)))) ∧
     (∀ t, exec (.mctpUnsupportedType t) s = .next s)) ∧
  (∀ (s : State) (m : MgmtHead) (wait type svn v : Nat) (ppm : Int) (e : SchedEntry) (x : ImagePart) (b : Bytes) (p : Plan) (c : ImageCheck),
     Spdm.served s m.i3c = true → m.operandOk = true → Mgmt.busy s = false → let u := Mgmt.take s
     let ans := fun (t : State) (c code : Nat) =>
       (Host.Outcome.next (Mgmt.respond t m (Mgmt.session s m) c code []) : Host.Outcome State Fault Refusal)
     let ok := fun (t : State) (c : Nat) => ans t c 0
     (Mgmt.secured s m = false →
       ∀ c ∈ [(Instr.subscribe m, 0x04), (.powerOn m, 0x10), (.removeGraceful m wait, 0x11), (.removeForce m wait, 0x11), (.resetPackage m, 0x12),
              (.resetColdCycle m, 0x12), (.setAutostart m v, 0x13), (.loadPlan m ⟨b, some p⟩ true, 0x20), (.setTime m v, 0x21),
              (.steerTime m ppm, 0x22), (.mgmtSchedWrite m e, 0x23), (.mgmtSchedCancel m v, 0x24), (.stageFirmware m x, 0x30),
              (.raiseMinSvn m type svn, 0x31), (.setProbation m v, 0x32), (.setPowerLimit m v, 0x33)],
         exec c.1 s = .next (emit s (.mgmt c.2 m.seq 2 []))) ∧
     (Mgmt.secured s m = true →
       (exec (.subscribe m) s = ok { u with dex := { u.dex with subscriber := m.session } } 0x04) ∧
       ((s.dex.state = .standby ∨ s.dex.state = .safe) → s.power.present = true → exec (.powerOn m) s = ok (Powering.enableRails u) 0x10) ∧
       (s.dex.state ≠ .standby → s.dex.state ≠ .safe → exec (.powerOn m) s = ans u 0x10 4) ∧
       (exec (.removeGraceful m wait) s = ok (Powering.request u false wait) 0x11) ∧
       (exec (.removeForce m wait) s = ok (Powering.request u true wait) 0x11) ∧
       (s.dex.state = .ready → s.resetSeq = none → exec (.resetPackage m) s =
         ok (Report.fence { u with dex := { u.dex with lastCause := 3, lastClass := 0 } }
           { td := now s, stage := 1, cause := 8, failed := false, ta := 0 }) 0x12) ∧
       (s.dex.state = .bringup → exec (.resetPackage m) s = ok (Report.packageReset u 3 0) 0x12) ∧
       ((s.dex.state = .ready ∨ s.dex.state = .bringup) → exec (.resetColdCycle m) s = ok (ResetOps.coldCycle u 3 0) 0x12) ∧
       (s.dex.state ≠ .ready → s.dex.state ≠ .bringup → exec (.resetPackage m) s = ans u 0x12 4 ∧ exec (.resetColdCycle m) s = ans u 0x12 4) ∧
       (v < 2 → exec (.setAutostart m v) s = ok { u with dex := { u.dex with autostart := v == 1 } } 0x13) ∧
       (let text := s.dex.planParts ++ b
        let u0 := { u with dex := { u.dex with planParts := [] } }
        (s.ctxs = [] → ∀ g, exec (.loadPlan m ⟨b, none⟩ g) s = ok { u with dex := { u.dex with planParts := text } } 0x20) ∧
        (s.ctxs = [] → s.dex.state = .standby → exec (.loadPlan m ⟨b, some p⟩ true) s =
          ok { u0 with dex := { u0.dex with plan := some { p with text := text } } } 0x20) ∧
        (s.ctxs = [] → (s.dex.state = .ready ∨ s.dex.state = .removing) → exec (.loadPlan m ⟨b, some p⟩ true) s =
          ok (let s1 := (List.range 27).foldl Mgmt.portDown u0
              (List.range 27).foldl Link.train { s1 with dex := { s1.dex with plan := some { p with text := text } } }) 0x20) ∧
        (s.ctxs = [] → exec (.loadPlan m ⟨b, some p⟩ false) s = ans u0 0x20 1) ∧
        (s.ctxs ≠ [] → exec (.loadPlan m ⟨b, some p⟩ true) s = ans u 0x20 4)) ∧
       (v < 300 ∨ 700 < v → exec (.setPowerLimit m v) s = ans u 0x33 1) ∧
       (Sensors.powered s = true →
         (Mgmt.planRoot s = true → s.ftime.state = .free → exec (.setTime m v) s =
           ok (modTime (Clock.setCount u (v % 18446744073709551616)) (fun t => { t with state := .locked, stratum := 0, rootId := moduleId s,
                                                                                        parentPort := 31 })) 0x21) ∧
         (Mgmt.planRoot s = true → -10 ≤ ppm → ppm ≤ 10 → exec (.steerTime m ppm) s =
           ok { u with ftime := { s.ftime with steerPpm := ppm, steerAcc := 0 } } 0x22) ∧
         (v < 2 → exec (.setProbation m v) s = ok { u with health := { s.health with probation := v == 1 } } 0x32) ∧
         (300 ≤ v → v ≤ 700 → exec (.setPowerLimit m v) s = ok { u with gov := { s.gov with newLimit := some v } } 0x33)) ∧
       (let image := s.sec.imageParts ++ b
        exec (.stageFirmware m ⟨b, none⟩) s = ok { u with sec := { s.sec with imageParts := image } } 0x30 ∧
        (Mgmt.imageOk s image c = true → exec (.stageFirmware m ⟨b, some c⟩) s =
          ok (let y : StagedImage := ⟨Mgmt.imageSvn image, Mgmt.imageBody image⟩
              { u with sec := { s.sec with imageParts := [], staged := SMap.ins s.sec.staged (Mgmt.imageType image) y } }) 0x30) ∧
        (Mgmt.imageOk s image c = false → exec (.stageFirmware m ⟨b, some c⟩) s = ans { u with sec := { s.sec with imageParts := [] } } 0x30 1)) ∧
       (1 ≤ type → type ≤ 3 → Digest.svn s type = svn → exec (.raiseMinSvn m type svn) s =
         ok { u with sec := { s.sec with minSvn := SMap.ins s.sec.minSvn type (max svn (SMap.val 0 s.sec.minSvn type)) } } 0x31)))


/-- Writing and cancelling scheduled actions (R44 to R46, R469): in LOCKED a permitted entry with a new ENTRY_ID, at least 100 µs ahead, takes the lowest
free table slot; a pending entry more than 50 µs ahead is cancelled; each is answered with its status, on the ring or over MCTP.

Completes: schedWrite, schedCancel, mgmtSchedWrite and mgmtSchedCancel. -/
def Obligations.ScheduleChangesComplete : Prop :=
  ∀ (s : State) (d : DescHead) (m : MgmtHead) (e : SchedEntry) (ring id : Nat) (q : Nat × SchedSlot),
    (s.ftime.state = .locked → e.bad = false → Sched.permitted e = true → Sched.find s e.id = none → now s + 100000 ≤ e.instant →
      s.sched.length < 256 → e.action ≠ 7 →
      (Desc.starts s d false = true → fenced s = false → d.bad = false → d.badOp = false → d.ctx = 255 → ring < 128 →
        let s1 := Desc.register s d (Desc.entry d 5 false)
        exec (.schedWrite d ring e) s =
          .next (endDesc { s1 with sched := SMap.ins s1.sched (Sched.freeSlot s) { entry := e, ring := some ring } } d.ring d.t Status.ok [])) ∧
      (Spdm.served s m.i3c = true → m.operandOk = true → Mgmt.busy s = false → Mgmt.secured s m = true → exec (.mgmtSchedWrite m e) s =
        .next (Mgmt.respond { Mgmt.take s with sched := SMap.ins s.sched (Sched.freeSlot s) { entry := e, ring := none } } m (Mgmt.session s m) 0x23 0
          [0]))) ∧
    (s.ftime.state = .locked → Sched.find s id = some q → now s + 50000 < q.2.entry.instant →
      (Desc.starts s d false = true → fenced s = false → d.bad = false → d.badOp = false → d.ctx = 255 →
        let s1 := Desc.register s d (Desc.entry d 6 false)
        exec (.schedCancel d id) s = .next (endDesc { s1 with sched := SMap.del s1.sched q.1 } d.ring d.t Status.cancelled [])) ∧
      (Spdm.served s m.i3c = true → m.operandOk = true → Mgmt.busy s = false → Mgmt.secured s m = true → exec (.mgmtSchedCancel m id) s =
        .next (Mgmt.respond { Mgmt.take s with sched := SMap.del s.sched q.1 } m (Mgmt.session s m) 0x24 0 [0x14]))) ∧
    (s.ftime.state = .locked → Spdm.served s m.i3c = true → m.operandOk = true → Mgmt.busy s = false → Mgmt.secured s m = true →
      (∀ n, Sched.find s id = none → n = Status.noEntry →
        exec (.mgmtSchedCancel m id) s = .next (Mgmt.respond (Mgmt.take s) m (Mgmt.session s m) 0x24 0 (le 1 n))) ∧
      (Sched.permitted e = true → e.bad = false → Sched.find s e.id = none → e.instant < now s + 100000 →
        exec (.mgmtSchedWrite m e) s = .next (Mgmt.respond (Mgmt.take s) m (Mgmt.session s m) 0x23 0 [0x12])))

/-! ## Security -/

/-- SPDM requests (R441, R442, R444 to R448): the negotiation in its order, digests and the certificate of slot 0, a signed answer to a challenge and
to a request for measurements, after which the module has attested; a pre-shared key opens one session, which its finish verifies, and which
can be kept alive, given a new key and ended. A request that comes in a session is answered in it, sealed under the session's key.

Keys from outside (R446, R447): KEM_KEY_GET makes and signs a fresh encapsulation key; KEM_PSK stores the pre-shared key that a ciphertext for it
gives and discards it; JOB_KEY_SET and JOB_KEY_ERASE change a context's job key inside a session, while the shard writer holds no work of it;
a pre-shared key is gone after 60 s.

Completes: getVersion, getCapabilities, negotiateAlgorithms, spdmUnsupportedRequest, getDigests, getCertificate, challenge, getMeasurements,
pskExchange, pskFinish, heartbeat, keyUpdate, endSession, pskExpiry, kemKeyGet, kemPsk, jobKeySet and jobKeyErase. -/
def Obligations.SecurityRequestsComplete : Prop :=
  (∀ (s : State), s.dex.state ≠ .off →
     exec .getVersion s = .next (emit { s with sec := { s.sec with negotiated := 1 } } (.spdm 0x04 [0, 1, 0x00, 0x13])) ∧
     (s.sec.negotiated = 1 → exec .getCapabilities s = .next (emit { s with sec := { s.sec with negotiated := 3 } } (.spdm 0x61
       ([0] ++ le 1 (Config.capability 0) ++ [0, 0] ++ le 4 0x64F6 ++ le 4 (Config.capability 1) ++ le 4 (Config.capability 2))))) ∧
     (s.sec.negotiated = 7 → s.sec.identity.isSome = true → exec .getDigests s = .next (emit s (.spdm 0x01 (Spdm.chainDigest s))))) ∧
  (∀ (s : State) (h : SpdmHead) (x : Option Session) (nonce : BitVec 256), Spdm.served s h.i3c = true →
     (h.session = none ∧ x = none ∨ ∃ id y, h.session = some id ∧ x = some y ∧ Spdm.session? s id true = some y) →
     let out := fun (t : State) (code : Nat) (b : Bytes) =>
       (Host.Outcome.next (Spdm.reply t x (.spdm code b) ([5] ++ le 1 code ++ b)) : Host.Outcome State Fault Refusal)
     (s.sec.negotiated = 3 → exec (.negotiateAlgorithms ⟨h, true⟩ true) s = out { s with sec := { s.sec with negotiated := 7 } } 0x63 Spdm.selected) ∧
     (∀ n, exec (.spdmUnsupportedRequest ⟨h, n, none⟩) s = out s 0x7F [7]) ∧
     (s.sec.negotiated = 7 →
       (∀ n c, exec (.spdmUnsupportedRequest ⟨h, n, some c⟩) s = out s 0x7E (le 1 c ++ [1])) ∧
       (s.sec.identity.isSome = true →
         (∀ off len, off ≤ (Spdm.chain s).length → exec (.getCertificate ⟨h, 0⟩ off len) s =
           (let rest := (Spdm.chain s).drop off
            out s 0x02 (le 2 (rest.take len).length ++ le 2 (rest.length - (rest.take len).length) ++ rest.take len))) ∧
         (let n := le 32 (Config.random s.free).toNat
          let g := fun (body : Bytes) =>
            padTo 4627 (Config.signature (Digest.identityKey s) (Config.sha3 (body ++ n ++ le 32 nonce.toNat)) (s.free + 1))
          let done := { s with sec := { s.sec with attested := true }, free := s.free + 2 }
          let ans := fun (body : Bytes) => body ++ n ++ [0, 0] ++ g body
          exec (.challenge ⟨h, 0⟩ nonce) s = out done 0x03 (ans (Spdm.chainDigest s)) ∧
          (∀ i, 1 ≤ i → i ≤ 6 → exec (.getMeasurements ⟨h, i⟩ true nonce) s = out done 0x60 (ans (Spdm.blocks s [i]))))) ∧
       (∀ (hint : Nat) (k : Psk), s.sec.attested = true → s.sec.sessions.length < 4 →
         s.sec.psks.find? (fun k => k.hint == hint && decide (s.ns < k.stored + 60000000000)) = some k →
         exec (.pskExchange ⟨h, hint⟩) s = out { s with sec := { s.sec with
           psks := s.sec.psks.filter (fun q => q.hint != hint),
           sessions := s.sec.sessions ++ [{ id := Spdm.freeId s, hint := hint, finished := false, key := k.key, updates := 0 }] } }
             0x66 (le 2 (Spdm.freeId s))))) ∧
  (∀ (s : State) (h : SpdmHead) (id : Nat) (x : Session), Spdm.served s h.i3c = true → s.sec.negotiated = 7 → h.session = some id →
     (Spdm.session? s id false = some x → exec (.pskFinish h true) s = .next (Spdm.sealed { s with sec := { s.sec with
       sessions := s.sec.sessions.map (fun (y : Session) => if y.id == id then { y with finished := true, updates := y.updates + 1, sent := 0 } else y) } }
         x [5, 0x67])) ∧
     (Spdm.session? s id true = some x →
       exec (.heartbeat h) s = .next (Spdm.sealed s x [5, 0x68]) ∧
       exec (.keyUpdate h) s = .next (Spdm.sealed { s with sec := { s.sec with sessions := s.sec.sessions.map (fun (y : Session) =>
         if y.id == id then { y with updates := y.updates + 1, sent := 0 } else y) } } x [5, 0x69]) ∧
       exec (.endSession h) s = .next (Spdm.sealed { s with sec := { s.sec with sessions := s.sec.sessions.filter (fun y => y.id != id) } } x [5, 0x6C]) ∧
       (∀ (c : Nat) (z : Ctx), ctx? s c = some z → Ckpts.writing s c = false →
         (∀ (digest : BitVec 512) (key : BitVec 256), (∀ b, z.ckpt = some b → b.jobDigest = digest) →
           exec (.jobKeySet h c digest key) s = .next (Spdm.sealed (modCtx s c (fun y => { y with jobKey := some key })) x [5, 0x7E, 3, 0])) ∧
         exec (.jobKeyErase h c) s = .next (Spdm.sealed (modCtx s c (fun y => { y with jobKey := none })) x [5, 0x7E, 4, 0])))) ∧
  (∀ (s : State) (x : Session) (b : Bytes), let k := Config.sessionKey x.key x.updates
     let plain := le 2 b.length ++ b
     let r := Config.gcmSeal k.1 (k.2 ^^^ BitVec.ofNat 96 x.sent) (le 4 x.id ++ le 2 x.sent ++ le 2 (plain.length + 16)) plain
     (Spdm.sealed s x b).out = .secured x.id (padTo plain.length r.1) r.2 :: s.out) ∧
  (∀ (s : State) (nonce : BitVec 256) (hint : Nat),
     exec (.pskExpiry hint) s = .next { s with sec := { s.sec with
       psks := s.sec.psks.filter (fun k => !(k.hint == hint && decide (k.stored + 60000000000 ≤ s.ns))) } } ∧
     (s.dex.state ≠ .off → s.sec.negotiated = 7 →
       (s.sec.identity.isSome = true → let key := padTo 1568 (Config.kemKey s.free)
         let n := Config.random (s.free + 1)
         let g := padTo 4627 (Config.signature (Digest.identityKey s) (Config.sha3 (key ++ le 32 n.toNat ++ le 32 nonce.toNat)) (s.free + 2))
         exec (.kemKeyGet { value := nonce }) s =
           .next (emit { s with sec := { s.sec with kem := some (key, n, nonce) }, free := s.free + 3 }
             (.spdm 0x7E ([1, 0] ++ (key ++ le 32 n.toNat ++ g))))) ∧
       (∀ (ct key : Bytes) (mine theirs : BitVec 256), s.sec.kem = some (key, mine, theirs) → ct.length = 1568 → hint < 2 ^ 128 →
         let psk := Digest.keyOf (Digest.labelPsk ++ le 32 (Config.kemSecret key ct).toNat ++ le 32 mine.toNat ++ le 32 theirs.toNat)
         exec (.kemPsk { value := ct } hint) s = .next (emit { s with sec := { s.sec with
           kem := none, psks := s.sec.psks.filter (fun k => k.hint != hint) ++ [⟨hint, psk, s.ns⟩] } } (.spdm 0x7E [2, 0])))))


/-! ## Arithmetic -/

/-- MAX, MIN and the comparisons in the float domain (R134). -/
def Obligations.FloatExtremesAndComparisons : Prop :=
  ∀ (ovf : Bool) (a b c sc : Numeric.Val),
    ((a = .nan ∨ b = .nan) →
      VecMath.floatOp 0x06 ovf a b c sc = .f32 Numeric.fp32.nanCode false ∧ VecMath.floatOp 0x07 ovf a b c sc = .f32 Numeric.fp32.nanCode false ∧
      VecMath.compare' 0x20 a b = false ∧ VecMath.compare' 0x21 a b = false ∧ VecMath.compare' 0x22 a b = false ∧
      VecMath.compare' 0x23 a b = true) ∧
    (∀ (e f : Int) (n : Bool), a = .fin n 0 e → b = .fin (!n) 0 f →
      VecMath.floatOp 0x06 ovf a b c sc = .f32 0 false ∧ VecMath.floatOp 0x07 ovf a b c sc = .f32 0x80000000 false ∧
      VecMath.compare' 0x22 a b = true ∧ VecMath.compare' 0x20 a b = false ∧ VecMath.compare' 0x21 a b = true ∧
      VecMath.compare' 0x23 a b = false)
end

