-- ==== Sys2Proof/Laws/Maps.lean ====
section
/-! SUPPORT. Reading a sparse map after a write, and the canonical form under every operation on maps. -/

namespace Sys2Proof.SMap

variable {α : Type}

@[simp] theorem look_nil (k : Nat) : look ([] : SMap α) k = none := rfl

@[simp] theorem val_nil (d : α) (k : Nat) : val d [] k = d := rfl

@[simp] theorem look_ins_self (m : SMap α) (k : Nat) (v : α) : look (ins m k v) k = some v := by
  induction m with
  | nil => simp [ins, look]
  | cons p r ih =>
    obtain ⟨j, w⟩ := p
    simp only [ins]
    split
    · simp [look]
    · split
      · simp [look]
      · simp [look, *]

theorem look_ins_ne (m : SMap α) {k j : Nat} (v : α) (h : j ≠ k) : look (ins m k v) j = look m j := by
  induction m with
  | nil => simp [ins, look, h]
  | cons p r ih =>
    obtain ⟨i, w⟩ := p
    simp only [ins]
    split
    · simp [look, h]
    · split
      · rename_i e; subst e; simp [look, h]
      · simp [look, ih]

@[simp] theorem val_ins_self (d : α) (m : SMap α) (k : Nat) (v : α) : val d (ins m k v) k = v := by simp [val]

theorem val_ins_ne (d : α) (m : SMap α) {k j : Nat} (v : α) (h : j ≠ k) : val d (ins m k v) j = val d m j := by
  simp [val, look_ins_ne m v h]

theorem look_del_ne (m : SMap α) {k j : Nat} (h : j ≠ k) : look (del m k) j = look m j := by
  induction m with
  | nil => rfl
  | cons p r ih =>
    obtain ⟨i, w⟩ := p
    simp only [del]
    split
    · rename_i e; subst e; simp [look, h, ih]
    · simp [look, ih]

theorem risingFrom_mono {m : SMap α} {lo hi : Nat} (h : risingFrom hi m = true) (l : lo ≤ hi) : risingFrom lo m = true := by
  cases m with
  | nil => rfl
  | cons p r =>
    obtain ⟨i, w⟩ := p
    simp only [risingFrom, Bool.and_eq_true, decide_eq_true_eq] at h ⊢
    exact ⟨by omega, h.2⟩

theorem look_none_of_rising {m : SMap α} {lo k : Nat} (h : risingFrom lo m = true) (l : k < lo) : look m k = none := by
  induction m generalizing lo with
  | nil => rfl
  | cons p r ih =>
    obtain ⟨i, w⟩ := p
    simp only [risingFrom, Bool.and_eq_true, decide_eq_true_eq] at h
    have e : k ≠ i := by omega
    simp [look, e, ih h.2 (by omega)]

@[simp] theorem look_del_self (m : SMap α) (k : Nat) : look (del m k) k = none := by
  induction m with
  | nil => rfl
  | cons p r ih =>
    obtain ⟨i, w⟩ := p
    simp only [del]
    split
    · exact ih
    · rename_i e; simp [look, e, ih]

/-- Reading after a write. -/
theorem look_ins (m : SMap α) (k j : Nat) (v : α) : look (ins m k v) j = if j = k then some v else look m j := by
  split
  · rename_i e; subst e; simp
  · rename_i e; exact look_ins_ne m v e

/-- Reading after a removal. -/
theorem look_del (m : SMap α) (k j : Nat) : look (del m k) j = if j = k then none else look m j := by
  split
  · rename_i e; subst e; simp
  · rename_i e; exact look_del_ne m e

theorem risingFrom_ins {m : SMap α} {lo k : Nat} (v : α) (h : risingFrom lo m = true) (l : lo ≤ k) : risingFrom lo (ins m k v) = true := by
  induction m generalizing lo with
  | nil => simp [ins, risingFrom, l]
  | cons p r ih =>
    obtain ⟨i, w⟩ := p
    simp only [risingFrom, Bool.and_eq_true, decide_eq_true_eq] at h
    simp only [ins]
    split
    · simp only [risingFrom, Bool.and_eq_true, decide_eq_true_eq]; exact ⟨l, by omega, h.2⟩
    · split
      · rename_i e; subst e; simp only [risingFrom, Bool.and_eq_true, decide_eq_true_eq]; exact ⟨l, h.2⟩
      · simp only [risingFrom, Bool.and_eq_true, decide_eq_true_eq]; exact ⟨h.1, ih h.2 (by omega)⟩

theorem risingFrom_del {m : SMap α} {lo : Nat} (k : Nat) (h : risingFrom lo m = true) : risingFrom lo (del m k) = true := by
  induction m generalizing lo with
  | nil => rfl
  | cons p r ih =>
    obtain ⟨i, w⟩ := p
    simp only [risingFrom, Bool.and_eq_true, decide_eq_true_eq] at h
    simp only [del]
    split
    · exact risingFrom_mono (ih h.2) (by omega)
    · simp only [risingFrom, Bool.and_eq_true, decide_eq_true_eq]; exact ⟨h.1, ih h.2⟩

theorem mem_ins {m : SMap α} {k : Nat} {v : α} {p : Nat × α} (h : p ∈ ins m k v) : p = (k, v) ∨ p ∈ m := by
  induction m with
  | nil => simpa [ins] using h
  | cons q r ih =>
    obtain ⟨i, w⟩ := q
    simp only [ins] at h
    split at h
    · simpa using h
    · split at h
      · rename_i e; simp only [List.mem_cons] at h ⊢; rcases h with h | h
        · exact .inl h
        · exact .inr (.inr h)
      · simp only [List.mem_cons] at h ⊢; rcases h with h | h
        · exact .inr (.inl h)
        · rcases ih h with h | h
          · exact .inl h
          · exact .inr (.inr h)

theorem mem_del {m : SMap α} {k : Nat} {p : Nat × α} (h : p ∈ del m k) : p ∈ m := by
  induction m with
  | nil => simp [del] at h
  | cons q r ih =>
    obtain ⟨i, w⟩ := q
    simp only [del] at h
    split at h
    · exact List.mem_cons_of_mem _ (ih h)
    · simp only [List.mem_cons] at h ⊢; rcases h with h | h
      · exact .inl h
      · exact .inr (ih h)

/-- Writing keeps the canonical form. -/
theorem canon_put [DecidableEq α] {d : α} {m : SMap α} (h : canon d m = true) (k : Nat) (v : α) : canon d (put d m k v) = true := by
  simp only [canon, Bool.and_eq_true, List.all_eq_true, decide_eq_true_eq] at h ⊢
  simp only [put]
  split
  · exact ⟨risingFrom_del k h.1, fun p hp => h.2 p (mem_del hp)⟩
  · rename_i ne
    refine ⟨risingFrom_ins v h.1 (Nat.zero_le _), fun p hp => ?_⟩
    rcases mem_ins hp with e | e
    · rw [e]; exact ne
    · exact h.2 p e

theorem risingFrom_filter (f : Nat × α → Bool) {m : SMap α} {lo : Nat} (h : risingFrom lo m = true) :
    risingFrom lo (m.filter f : SMap α) = true := by
  induction m generalizing lo with
  | nil => rfl
  | cons p r ih =>
    obtain ⟨i, w⟩ := p
    simp only [risingFrom, Bool.and_eq_true, decide_eq_true_eq] at h
    simp only [List.filter]
    split
    · simp only [risingFrom, Bool.and_eq_true, decide_eq_true_eq]; exact ⟨h.1, ih h.2⟩
    · exact risingFrom_mono (ih h.2) (by omega)

/-- Dropping entries keeps the canonical form. -/
theorem canon_filter [DecidableEq α] {d : α} {m : SMap α} (h : canon d m = true) (f : Nat × α → Bool) :
    canon d (m.filter f : SMap α) = true := by
  simp only [canon, Bool.and_eq_true, List.all_eq_true, decide_eq_true_eq] at h ⊢
  exact ⟨risingFrom_filter f h.1, fun p hp => h.2 p (List.mem_filter.mp hp).1⟩

@[simp] theorem val_put_self [DecidableEq α] (d : α) (m : SMap α) (k : Nat) (v : α) : val d (put d m k v) k = v := by
  simp only [put]
  split
  · rename_i e; simp [val, e]
  · simp

theorem val_put_ne [DecidableEq α] {d : α} (m : SMap α) {k j : Nat} (v : α) (h : j ≠ k) : val d (put d m k v) j = val d m j := by
  simp only [put]
  split
  · simp [val, look_del_ne m h]
  · exact val_ins_ne d m v h

@[simp] theorem look_mapVals (f : Nat → α → α) (m : SMap α) (k : Nat) : look (mapVals f m) k = (look m k).map (f k) := by
  induction m with
  | nil => rfl
  | cons p r ih =>
    obtain ⟨i, w⟩ := p
    simp only [mapVals, look]
    split
    · rename_i e; subst e; rfl
    · exact ih

end Sys2Proof.SMap
end

