-- ==== Sys2Proof/Laws/State.lean ====
section
/-! SUPPORT. What each update of a part of the state leaves of every field, and reading back what was just written: contexts, ports,
pairs and rings. -/

namespace Sys2Proof.Machine.Ops

/-! modMem -/

@[simp] theorem modMem_pending (s : State) (f : Memory → Memory) : (modMem s f).pending = s.pending := rfl
@[simp] theorem modMem_ns (s : State) (f : Memory → Memory) : (modMem s f).ns = s.ns := rfl
@[simp] theorem modMem_free (s : State) (f : Memory → Memory) : (modMem s f).free = s.free := rfl
@[simp] theorem modMem_out (s : State) (f : Memory → Memory) : (modMem s f).out = s.out := rfl
@[simp] theorem modMem_ftime (s : State) (f : Memory → Memory) : (modMem s f).ftime = s.ftime := rfl
@[simp] theorem modMem_sched (s : State) (f : Memory → Memory) : (modMem s f).sched = s.sched := rfl
@[simp] theorem modMem_arrays (s : State) (f : Memory → Memory) : (modMem s f).arrays = s.arrays := rfl
@[simp] theorem modMem_phys (s : State) (f : Memory → Memory) : (modMem s f).phys = s.phys := rfl
@[simp] theorem modMem_vecq (s : State) (f : Memory → Memory) : (modMem s f).vecq = s.vecq := rfl
@[simp] theorem modMem_rm (s : State) (f : Memory → Memory) : (modMem s f).rm = s.rm := rfl
@[simp] theorem modMem_ctxs (s : State) (f : Memory → Memory) : (modMem s f).ctxs = s.ctxs := rfl
@[simp] theorem modMem_defined (s : State) (f : Memory → Memory) : (modMem s f).defined = s.defined := rfl
@[simp] theorem modMem_gone (s : State) (f : Memory → Memory) : (modMem s f).gone = s.gone := rfl
@[simp] theorem modMem_issued (s : State) (f : Memory → Memory) : (modMem s f).issued = s.issued := rfl
@[simp] theorem modMem_quantum (s : State) (f : Memory → Memory) : (modMem s f).quantum = s.quantum := rfl
@[simp] theorem modMem_mem (s : State) (f : Memory → Memory) : (modMem s f).mem = f s.mem := rfl
@[simp] theorem modMem_census (s : State) (f : Memory → Memory) : (modMem s f).census = s.census := rfl
@[simp] theorem modMem_churns (s : State) (f : Memory → Memory) : (modMem s f).churns = s.churns := rfl
@[simp] theorem modMem_dacc (s : State) (f : Memory → Memory) : (modMem s f).dacc = s.dacc := rfl
@[simp] theorem modMem_presses (s : State) (f : Memory → Memory) : (modMem s f).presses = s.presses := rfl
@[simp] theorem modMem_hives (s : State) (f : Memory → Memory) : (modMem s f).hives = s.hives := rfl
@[simp] theorem modMem_flags (s : State) (f : Memory → Memory) : (modMem s f).flags = s.flags := rfl
@[simp] theorem modMem_remote (s : State) (f : Memory → Memory) : (modMem s f).remote = s.remote := rfl
@[simp] theorem modMem_fabric (s : State) (f : Memory → Memory) : (modMem s f).fabric = s.fabric := rfl
@[simp] theorem modMem_err (s : State) (f : Memory → Memory) : (modMem s f).err = s.err := rfl
@[simp] theorem modMem_weevil (s : State) (f : Memory → Memory) : (modMem s f).weevil = s.weevil := rfl
@[simp] theorem modMem_health (s : State) (f : Memory → Memory) : (modMem s f).health = s.health := rfl
@[simp] theorem modMem_resetSeq (s : State) (f : Memory → Memory) : (modMem s f).resetSeq = s.resetSeq := rfl
@[simp] theorem modMem_ckpt (s : State) (f : Memory → Memory) : (modMem s f).ckpt = s.ckpt := rfl
@[simp] theorem modMem_host (s : State) (f : Memory → Memory) : (modMem s f).host = s.host := rfl
@[simp] theorem modMem_gov (s : State) (f : Memory → Memory) : (modMem s f).gov = s.gov := rfl
@[simp] theorem modMem_dex (s : State) (f : Memory → Memory) : (modMem s f).dex = s.dex := rfl
@[simp] theorem modMem_sec (s : State) (f : Memory → Memory) : (modMem s f).sec = s.sec := rfl
@[simp] theorem modMem_power (s : State) (f : Memory → Memory) : (modMem s f).power = s.power := rfl

/-! modFlags -/

@[simp] theorem modFlags_pending (s : State) (f : Flags → Flags) : (modFlags s f).pending = s.pending := rfl
@[simp] theorem modFlags_ns (s : State) (f : Flags → Flags) : (modFlags s f).ns = s.ns := rfl
@[simp] theorem modFlags_free (s : State) (f : Flags → Flags) : (modFlags s f).free = s.free := rfl
@[simp] theorem modFlags_out (s : State) (f : Flags → Flags) : (modFlags s f).out = s.out := rfl
@[simp] theorem modFlags_ftime (s : State) (f : Flags → Flags) : (modFlags s f).ftime = s.ftime := rfl
@[simp] theorem modFlags_sched (s : State) (f : Flags → Flags) : (modFlags s f).sched = s.sched := rfl
@[simp] theorem modFlags_arrays (s : State) (f : Flags → Flags) : (modFlags s f).arrays = s.arrays := rfl
@[simp] theorem modFlags_phys (s : State) (f : Flags → Flags) : (modFlags s f).phys = s.phys := rfl
@[simp] theorem modFlags_vecq (s : State) (f : Flags → Flags) : (modFlags s f).vecq = s.vecq := rfl
@[simp] theorem modFlags_rm (s : State) (f : Flags → Flags) : (modFlags s f).rm = s.rm := rfl
@[simp] theorem modFlags_ctxs (s : State) (f : Flags → Flags) : (modFlags s f).ctxs = s.ctxs := rfl
@[simp] theorem modFlags_defined (s : State) (f : Flags → Flags) : (modFlags s f).defined = s.defined := rfl
@[simp] theorem modFlags_gone (s : State) (f : Flags → Flags) : (modFlags s f).gone = s.gone := rfl
@[simp] theorem modFlags_issued (s : State) (f : Flags → Flags) : (modFlags s f).issued = s.issued := rfl
@[simp] theorem modFlags_quantum (s : State) (f : Flags → Flags) : (modFlags s f).quantum = s.quantum := rfl
@[simp] theorem modFlags_mem (s : State) (f : Flags → Flags) : (modFlags s f).mem = s.mem := rfl
@[simp] theorem modFlags_census (s : State) (f : Flags → Flags) : (modFlags s f).census = s.census := rfl
@[simp] theorem modFlags_churns (s : State) (f : Flags → Flags) : (modFlags s f).churns = s.churns := rfl
@[simp] theorem modFlags_dacc (s : State) (f : Flags → Flags) : (modFlags s f).dacc = s.dacc := rfl
@[simp] theorem modFlags_presses (s : State) (f : Flags → Flags) : (modFlags s f).presses = s.presses := rfl
@[simp] theorem modFlags_hives (s : State) (f : Flags → Flags) : (modFlags s f).hives = s.hives := rfl
@[simp] theorem modFlags_flags (s : State) (f : Flags → Flags) : (modFlags s f).flags = f s.flags := rfl
@[simp] theorem modFlags_remote (s : State) (f : Flags → Flags) : (modFlags s f).remote = s.remote := rfl
@[simp] theorem modFlags_fabric (s : State) (f : Flags → Flags) : (modFlags s f).fabric = s.fabric := rfl
@[simp] theorem modFlags_err (s : State) (f : Flags → Flags) : (modFlags s f).err = s.err := rfl
@[simp] theorem modFlags_weevil (s : State) (f : Flags → Flags) : (modFlags s f).weevil = s.weevil := rfl
@[simp] theorem modFlags_health (s : State) (f : Flags → Flags) : (modFlags s f).health = s.health := rfl
@[simp] theorem modFlags_resetSeq (s : State) (f : Flags → Flags) : (modFlags s f).resetSeq = s.resetSeq := rfl
@[simp] theorem modFlags_ckpt (s : State) (f : Flags → Flags) : (modFlags s f).ckpt = s.ckpt := rfl
@[simp] theorem modFlags_host (s : State) (f : Flags → Flags) : (modFlags s f).host = s.host := rfl
@[simp] theorem modFlags_gov (s : State) (f : Flags → Flags) : (modFlags s f).gov = s.gov := rfl
@[simp] theorem modFlags_dex (s : State) (f : Flags → Flags) : (modFlags s f).dex = s.dex := rfl
@[simp] theorem modFlags_sec (s : State) (f : Flags → Flags) : (modFlags s f).sec = s.sec := rfl
@[simp] theorem modFlags_power (s : State) (f : Flags → Flags) : (modFlags s f).power = s.power := rfl

/-! modRemote -/

@[simp] theorem modRemote_pending (s : State) (f : Remote → Remote) : (modRemote s f).pending = s.pending := rfl
@[simp] theorem modRemote_ns (s : State) (f : Remote → Remote) : (modRemote s f).ns = s.ns := rfl
@[simp] theorem modRemote_free (s : State) (f : Remote → Remote) : (modRemote s f).free = s.free := rfl
@[simp] theorem modRemote_out (s : State) (f : Remote → Remote) : (modRemote s f).out = s.out := rfl
@[simp] theorem modRemote_ftime (s : State) (f : Remote → Remote) : (modRemote s f).ftime = s.ftime := rfl
@[simp] theorem modRemote_sched (s : State) (f : Remote → Remote) : (modRemote s f).sched = s.sched := rfl
@[simp] theorem modRemote_arrays (s : State) (f : Remote → Remote) : (modRemote s f).arrays = s.arrays := rfl
@[simp] theorem modRemote_phys (s : State) (f : Remote → Remote) : (modRemote s f).phys = s.phys := rfl
@[simp] theorem modRemote_vecq (s : State) (f : Remote → Remote) : (modRemote s f).vecq = s.vecq := rfl
@[simp] theorem modRemote_rm (s : State) (f : Remote → Remote) : (modRemote s f).rm = s.rm := rfl
@[simp] theorem modRemote_ctxs (s : State) (f : Remote → Remote) : (modRemote s f).ctxs = s.ctxs := rfl
@[simp] theorem modRemote_defined (s : State) (f : Remote → Remote) : (modRemote s f).defined = s.defined := rfl
@[simp] theorem modRemote_gone (s : State) (f : Remote → Remote) : (modRemote s f).gone = s.gone := rfl
@[simp] theorem modRemote_issued (s : State) (f : Remote → Remote) : (modRemote s f).issued = s.issued := rfl
@[simp] theorem modRemote_quantum (s : State) (f : Remote → Remote) : (modRemote s f).quantum = s.quantum := rfl
@[simp] theorem modRemote_mem (s : State) (f : Remote → Remote) : (modRemote s f).mem = s.mem := rfl
@[simp] theorem modRemote_census (s : State) (f : Remote → Remote) : (modRemote s f).census = s.census := rfl
@[simp] theorem modRemote_churns (s : State) (f : Remote → Remote) : (modRemote s f).churns = s.churns := rfl
@[simp] theorem modRemote_dacc (s : State) (f : Remote → Remote) : (modRemote s f).dacc = s.dacc := rfl
@[simp] theorem modRemote_presses (s : State) (f : Remote → Remote) : (modRemote s f).presses = s.presses := rfl
@[simp] theorem modRemote_hives (s : State) (f : Remote → Remote) : (modRemote s f).hives = s.hives := rfl
@[simp] theorem modRemote_flags (s : State) (f : Remote → Remote) : (modRemote s f).flags = s.flags := rfl
@[simp] theorem modRemote_remote (s : State) (f : Remote → Remote) : (modRemote s f).remote = f s.remote := rfl
@[simp] theorem modRemote_fabric (s : State) (f : Remote → Remote) : (modRemote s f).fabric = s.fabric := rfl
@[simp] theorem modRemote_err (s : State) (f : Remote → Remote) : (modRemote s f).err = s.err := rfl
@[simp] theorem modRemote_weevil (s : State) (f : Remote → Remote) : (modRemote s f).weevil = s.weevil := rfl
@[simp] theorem modRemote_health (s : State) (f : Remote → Remote) : (modRemote s f).health = s.health := rfl
@[simp] theorem modRemote_resetSeq (s : State) (f : Remote → Remote) : (modRemote s f).resetSeq = s.resetSeq := rfl
@[simp] theorem modRemote_ckpt (s : State) (f : Remote → Remote) : (modRemote s f).ckpt = s.ckpt := rfl
@[simp] theorem modRemote_host (s : State) (f : Remote → Remote) : (modRemote s f).host = s.host := rfl
@[simp] theorem modRemote_gov (s : State) (f : Remote → Remote) : (modRemote s f).gov = s.gov := rfl
@[simp] theorem modRemote_dex (s : State) (f : Remote → Remote) : (modRemote s f).dex = s.dex := rfl
@[simp] theorem modRemote_sec (s : State) (f : Remote → Remote) : (modRemote s f).sec = s.sec := rfl
@[simp] theorem modRemote_power (s : State) (f : Remote → Remote) : (modRemote s f).power = s.power := rfl

/-! modFabric -/

@[simp] theorem modFabric_pending (s : State) (f : Fabric → Fabric) : (modFabric s f).pending = s.pending := rfl
@[simp] theorem modFabric_ns (s : State) (f : Fabric → Fabric) : (modFabric s f).ns = s.ns := rfl
@[simp] theorem modFabric_free (s : State) (f : Fabric → Fabric) : (modFabric s f).free = s.free := rfl
@[simp] theorem modFabric_out (s : State) (f : Fabric → Fabric) : (modFabric s f).out = s.out := rfl
@[simp] theorem modFabric_ftime (s : State) (f : Fabric → Fabric) : (modFabric s f).ftime = s.ftime := rfl
@[simp] theorem modFabric_sched (s : State) (f : Fabric → Fabric) : (modFabric s f).sched = s.sched := rfl
@[simp] theorem modFabric_arrays (s : State) (f : Fabric → Fabric) : (modFabric s f).arrays = s.arrays := rfl
@[simp] theorem modFabric_phys (s : State) (f : Fabric → Fabric) : (modFabric s f).phys = s.phys := rfl
@[simp] theorem modFabric_vecq (s : State) (f : Fabric → Fabric) : (modFabric s f).vecq = s.vecq := rfl
@[simp] theorem modFabric_rm (s : State) (f : Fabric → Fabric) : (modFabric s f).rm = s.rm := rfl
@[simp] theorem modFabric_ctxs (s : State) (f : Fabric → Fabric) : (modFabric s f).ctxs = s.ctxs := rfl
@[simp] theorem modFabric_defined (s : State) (f : Fabric → Fabric) : (modFabric s f).defined = s.defined := rfl
@[simp] theorem modFabric_gone (s : State) (f : Fabric → Fabric) : (modFabric s f).gone = s.gone := rfl
@[simp] theorem modFabric_issued (s : State) (f : Fabric → Fabric) : (modFabric s f).issued = s.issued := rfl
@[simp] theorem modFabric_quantum (s : State) (f : Fabric → Fabric) : (modFabric s f).quantum = s.quantum := rfl
@[simp] theorem modFabric_mem (s : State) (f : Fabric → Fabric) : (modFabric s f).mem = s.mem := rfl
@[simp] theorem modFabric_census (s : State) (f : Fabric → Fabric) : (modFabric s f).census = s.census := rfl
@[simp] theorem modFabric_churns (s : State) (f : Fabric → Fabric) : (modFabric s f).churns = s.churns := rfl
@[simp] theorem modFabric_dacc (s : State) (f : Fabric → Fabric) : (modFabric s f).dacc = s.dacc := rfl
@[simp] theorem modFabric_presses (s : State) (f : Fabric → Fabric) : (modFabric s f).presses = s.presses := rfl
@[simp] theorem modFabric_hives (s : State) (f : Fabric → Fabric) : (modFabric s f).hives = s.hives := rfl
@[simp] theorem modFabric_flags (s : State) (f : Fabric → Fabric) : (modFabric s f).flags = s.flags := rfl
@[simp] theorem modFabric_remote (s : State) (f : Fabric → Fabric) : (modFabric s f).remote = s.remote := rfl
@[simp] theorem modFabric_fabric (s : State) (f : Fabric → Fabric) : (modFabric s f).fabric = f s.fabric := rfl
@[simp] theorem modFabric_err (s : State) (f : Fabric → Fabric) : (modFabric s f).err = s.err := rfl
@[simp] theorem modFabric_weevil (s : State) (f : Fabric → Fabric) : (modFabric s f).weevil = s.weevil := rfl
@[simp] theorem modFabric_health (s : State) (f : Fabric → Fabric) : (modFabric s f).health = s.health := rfl
@[simp] theorem modFabric_resetSeq (s : State) (f : Fabric → Fabric) : (modFabric s f).resetSeq = s.resetSeq := rfl
@[simp] theorem modFabric_ckpt (s : State) (f : Fabric → Fabric) : (modFabric s f).ckpt = s.ckpt := rfl
@[simp] theorem modFabric_host (s : State) (f : Fabric → Fabric) : (modFabric s f).host = s.host := rfl
@[simp] theorem modFabric_gov (s : State) (f : Fabric → Fabric) : (modFabric s f).gov = s.gov := rfl
@[simp] theorem modFabric_dex (s : State) (f : Fabric → Fabric) : (modFabric s f).dex = s.dex := rfl
@[simp] theorem modFabric_sec (s : State) (f : Fabric → Fabric) : (modFabric s f).sec = s.sec := rfl
@[simp] theorem modFabric_power (s : State) (f : Fabric → Fabric) : (modFabric s f).power = s.power := rfl

/-! modErr -/

@[simp] theorem modErr_pending (s : State) (f : ErrLog → ErrLog) : (modErr s f).pending = s.pending := rfl
@[simp] theorem modErr_ns (s : State) (f : ErrLog → ErrLog) : (modErr s f).ns = s.ns := rfl
@[simp] theorem modErr_free (s : State) (f : ErrLog → ErrLog) : (modErr s f).free = s.free := rfl
@[simp] theorem modErr_out (s : State) (f : ErrLog → ErrLog) : (modErr s f).out = s.out := rfl
@[simp] theorem modErr_ftime (s : State) (f : ErrLog → ErrLog) : (modErr s f).ftime = s.ftime := rfl
@[simp] theorem modErr_sched (s : State) (f : ErrLog → ErrLog) : (modErr s f).sched = s.sched := rfl
@[simp] theorem modErr_arrays (s : State) (f : ErrLog → ErrLog) : (modErr s f).arrays = s.arrays := rfl
@[simp] theorem modErr_phys (s : State) (f : ErrLog → ErrLog) : (modErr s f).phys = s.phys := rfl
@[simp] theorem modErr_vecq (s : State) (f : ErrLog → ErrLog) : (modErr s f).vecq = s.vecq := rfl
@[simp] theorem modErr_rm (s : State) (f : ErrLog → ErrLog) : (modErr s f).rm = s.rm := rfl
@[simp] theorem modErr_ctxs (s : State) (f : ErrLog → ErrLog) : (modErr s f).ctxs = s.ctxs := rfl
@[simp] theorem modErr_defined (s : State) (f : ErrLog → ErrLog) : (modErr s f).defined = s.defined := rfl
@[simp] theorem modErr_gone (s : State) (f : ErrLog → ErrLog) : (modErr s f).gone = s.gone := rfl
@[simp] theorem modErr_issued (s : State) (f : ErrLog → ErrLog) : (modErr s f).issued = s.issued := rfl
@[simp] theorem modErr_quantum (s : State) (f : ErrLog → ErrLog) : (modErr s f).quantum = s.quantum := rfl
@[simp] theorem modErr_mem (s : State) (f : ErrLog → ErrLog) : (modErr s f).mem = s.mem := rfl
@[simp] theorem modErr_census (s : State) (f : ErrLog → ErrLog) : (modErr s f).census = s.census := rfl
@[simp] theorem modErr_churns (s : State) (f : ErrLog → ErrLog) : (modErr s f).churns = s.churns := rfl
@[simp] theorem modErr_dacc (s : State) (f : ErrLog → ErrLog) : (modErr s f).dacc = s.dacc := rfl
@[simp] theorem modErr_presses (s : State) (f : ErrLog → ErrLog) : (modErr s f).presses = s.presses := rfl
@[simp] theorem modErr_hives (s : State) (f : ErrLog → ErrLog) : (modErr s f).hives = s.hives := rfl
@[simp] theorem modErr_flags (s : State) (f : ErrLog → ErrLog) : (modErr s f).flags = s.flags := rfl
@[simp] theorem modErr_remote (s : State) (f : ErrLog → ErrLog) : (modErr s f).remote = s.remote := rfl
@[simp] theorem modErr_fabric (s : State) (f : ErrLog → ErrLog) : (modErr s f).fabric = s.fabric := rfl
@[simp] theorem modErr_err (s : State) (f : ErrLog → ErrLog) : (modErr s f).err = f s.err := rfl
@[simp] theorem modErr_weevil (s : State) (f : ErrLog → ErrLog) : (modErr s f).weevil = s.weevil := rfl
@[simp] theorem modErr_health (s : State) (f : ErrLog → ErrLog) : (modErr s f).health = s.health := rfl
@[simp] theorem modErr_resetSeq (s : State) (f : ErrLog → ErrLog) : (modErr s f).resetSeq = s.resetSeq := rfl
@[simp] theorem modErr_ckpt (s : State) (f : ErrLog → ErrLog) : (modErr s f).ckpt = s.ckpt := rfl
@[simp] theorem modErr_host (s : State) (f : ErrLog → ErrLog) : (modErr s f).host = s.host := rfl
@[simp] theorem modErr_gov (s : State) (f : ErrLog → ErrLog) : (modErr s f).gov = s.gov := rfl
@[simp] theorem modErr_dex (s : State) (f : ErrLog → ErrLog) : (modErr s f).dex = s.dex := rfl
@[simp] theorem modErr_sec (s : State) (f : ErrLog → ErrLog) : (modErr s f).sec = s.sec := rfl
@[simp] theorem modErr_power (s : State) (f : ErrLog → ErrLog) : (modErr s f).power = s.power := rfl

/-! modWeevil -/

@[simp] theorem modWeevil_pending (s : State) (f : Weevil → Weevil) : (modWeevil s f).pending = s.pending := rfl
@[simp] theorem modWeevil_ns (s : State) (f : Weevil → Weevil) : (modWeevil s f).ns = s.ns := rfl
@[simp] theorem modWeevil_free (s : State) (f : Weevil → Weevil) : (modWeevil s f).free = s.free := rfl
@[simp] theorem modWeevil_out (s : State) (f : Weevil → Weevil) : (modWeevil s f).out = s.out := rfl
@[simp] theorem modWeevil_ftime (s : State) (f : Weevil → Weevil) : (modWeevil s f).ftime = s.ftime := rfl
@[simp] theorem modWeevil_sched (s : State) (f : Weevil → Weevil) : (modWeevil s f).sched = s.sched := rfl
@[simp] theorem modWeevil_arrays (s : State) (f : Weevil → Weevil) : (modWeevil s f).arrays = s.arrays := rfl
@[simp] theorem modWeevil_phys (s : State) (f : Weevil → Weevil) : (modWeevil s f).phys = s.phys := rfl
@[simp] theorem modWeevil_vecq (s : State) (f : Weevil → Weevil) : (modWeevil s f).vecq = s.vecq := rfl
@[simp] theorem modWeevil_rm (s : State) (f : Weevil → Weevil) : (modWeevil s f).rm = s.rm := rfl
@[simp] theorem modWeevil_ctxs (s : State) (f : Weevil → Weevil) : (modWeevil s f).ctxs = s.ctxs := rfl
@[simp] theorem modWeevil_defined (s : State) (f : Weevil → Weevil) : (modWeevil s f).defined = s.defined := rfl
@[simp] theorem modWeevil_gone (s : State) (f : Weevil → Weevil) : (modWeevil s f).gone = s.gone := rfl
@[simp] theorem modWeevil_issued (s : State) (f : Weevil → Weevil) : (modWeevil s f).issued = s.issued := rfl
@[simp] theorem modWeevil_quantum (s : State) (f : Weevil → Weevil) : (modWeevil s f).quantum = s.quantum := rfl
@[simp] theorem modWeevil_mem (s : State) (f : Weevil → Weevil) : (modWeevil s f).mem = s.mem := rfl
@[simp] theorem modWeevil_census (s : State) (f : Weevil → Weevil) : (modWeevil s f).census = s.census := rfl
@[simp] theorem modWeevil_churns (s : State) (f : Weevil → Weevil) : (modWeevil s f).churns = s.churns := rfl
@[simp] theorem modWeevil_dacc (s : State) (f : Weevil → Weevil) : (modWeevil s f).dacc = s.dacc := rfl
@[simp] theorem modWeevil_presses (s : State) (f : Weevil → Weevil) : (modWeevil s f).presses = s.presses := rfl
@[simp] theorem modWeevil_hives (s : State) (f : Weevil → Weevil) : (modWeevil s f).hives = s.hives := rfl
@[simp] theorem modWeevil_flags (s : State) (f : Weevil → Weevil) : (modWeevil s f).flags = s.flags := rfl
@[simp] theorem modWeevil_remote (s : State) (f : Weevil → Weevil) : (modWeevil s f).remote = s.remote := rfl
@[simp] theorem modWeevil_fabric (s : State) (f : Weevil → Weevil) : (modWeevil s f).fabric = s.fabric := rfl
@[simp] theorem modWeevil_err (s : State) (f : Weevil → Weevil) : (modWeevil s f).err = s.err := rfl
@[simp] theorem modWeevil_weevil (s : State) (f : Weevil → Weevil) : (modWeevil s f).weevil = f s.weevil := rfl
@[simp] theorem modWeevil_health (s : State) (f : Weevil → Weevil) : (modWeevil s f).health = s.health := rfl
@[simp] theorem modWeevil_resetSeq (s : State) (f : Weevil → Weevil) : (modWeevil s f).resetSeq = s.resetSeq := rfl
@[simp] theorem modWeevil_ckpt (s : State) (f : Weevil → Weevil) : (modWeevil s f).ckpt = s.ckpt := rfl
@[simp] theorem modWeevil_host (s : State) (f : Weevil → Weevil) : (modWeevil s f).host = s.host := rfl
@[simp] theorem modWeevil_gov (s : State) (f : Weevil → Weevil) : (modWeevil s f).gov = s.gov := rfl
@[simp] theorem modWeevil_dex (s : State) (f : Weevil → Weevil) : (modWeevil s f).dex = s.dex := rfl
@[simp] theorem modWeevil_sec (s : State) (f : Weevil → Weevil) : (modWeevil s f).sec = s.sec := rfl
@[simp] theorem modWeevil_power (s : State) (f : Weevil → Weevil) : (modWeevil s f).power = s.power := rfl

/-! modCkpt -/

@[simp] theorem modCkpt_pending (s : State) (f : Ckpt → Ckpt) : (modCkpt s f).pending = s.pending := rfl
@[simp] theorem modCkpt_ns (s : State) (f : Ckpt → Ckpt) : (modCkpt s f).ns = s.ns := rfl
@[simp] theorem modCkpt_free (s : State) (f : Ckpt → Ckpt) : (modCkpt s f).free = s.free := rfl
@[simp] theorem modCkpt_out (s : State) (f : Ckpt → Ckpt) : (modCkpt s f).out = s.out := rfl
@[simp] theorem modCkpt_ftime (s : State) (f : Ckpt → Ckpt) : (modCkpt s f).ftime = s.ftime := rfl
@[simp] theorem modCkpt_sched (s : State) (f : Ckpt → Ckpt) : (modCkpt s f).sched = s.sched := rfl
@[simp] theorem modCkpt_arrays (s : State) (f : Ckpt → Ckpt) : (modCkpt s f).arrays = s.arrays := rfl
@[simp] theorem modCkpt_phys (s : State) (f : Ckpt → Ckpt) : (modCkpt s f).phys = s.phys := rfl
@[simp] theorem modCkpt_vecq (s : State) (f : Ckpt → Ckpt) : (modCkpt s f).vecq = s.vecq := rfl
@[simp] theorem modCkpt_rm (s : State) (f : Ckpt → Ckpt) : (modCkpt s f).rm = s.rm := rfl
@[simp] theorem modCkpt_ctxs (s : State) (f : Ckpt → Ckpt) : (modCkpt s f).ctxs = s.ctxs := rfl
@[simp] theorem modCkpt_defined (s : State) (f : Ckpt → Ckpt) : (modCkpt s f).defined = s.defined := rfl
@[simp] theorem modCkpt_gone (s : State) (f : Ckpt → Ckpt) : (modCkpt s f).gone = s.gone := rfl
@[simp] theorem modCkpt_issued (s : State) (f : Ckpt → Ckpt) : (modCkpt s f).issued = s.issued := rfl
@[simp] theorem modCkpt_quantum (s : State) (f : Ckpt → Ckpt) : (modCkpt s f).quantum = s.quantum := rfl
@[simp] theorem modCkpt_mem (s : State) (f : Ckpt → Ckpt) : (modCkpt s f).mem = s.mem := rfl
@[simp] theorem modCkpt_census (s : State) (f : Ckpt → Ckpt) : (modCkpt s f).census = s.census := rfl
@[simp] theorem modCkpt_churns (s : State) (f : Ckpt → Ckpt) : (modCkpt s f).churns = s.churns := rfl
@[simp] theorem modCkpt_dacc (s : State) (f : Ckpt → Ckpt) : (modCkpt s f).dacc = s.dacc := rfl
@[simp] theorem modCkpt_presses (s : State) (f : Ckpt → Ckpt) : (modCkpt s f).presses = s.presses := rfl
@[simp] theorem modCkpt_hives (s : State) (f : Ckpt → Ckpt) : (modCkpt s f).hives = s.hives := rfl
@[simp] theorem modCkpt_flags (s : State) (f : Ckpt → Ckpt) : (modCkpt s f).flags = s.flags := rfl
@[simp] theorem modCkpt_remote (s : State) (f : Ckpt → Ckpt) : (modCkpt s f).remote = s.remote := rfl
@[simp] theorem modCkpt_fabric (s : State) (f : Ckpt → Ckpt) : (modCkpt s f).fabric = s.fabric := rfl
@[simp] theorem modCkpt_err (s : State) (f : Ckpt → Ckpt) : (modCkpt s f).err = s.err := rfl
@[simp] theorem modCkpt_weevil (s : State) (f : Ckpt → Ckpt) : (modCkpt s f).weevil = s.weevil := rfl
@[simp] theorem modCkpt_health (s : State) (f : Ckpt → Ckpt) : (modCkpt s f).health = s.health := rfl
@[simp] theorem modCkpt_resetSeq (s : State) (f : Ckpt → Ckpt) : (modCkpt s f).resetSeq = s.resetSeq := rfl
@[simp] theorem modCkpt_ckpt (s : State) (f : Ckpt → Ckpt) : (modCkpt s f).ckpt = f s.ckpt := rfl
@[simp] theorem modCkpt_host (s : State) (f : Ckpt → Ckpt) : (modCkpt s f).host = s.host := rfl
@[simp] theorem modCkpt_gov (s : State) (f : Ckpt → Ckpt) : (modCkpt s f).gov = s.gov := rfl
@[simp] theorem modCkpt_dex (s : State) (f : Ckpt → Ckpt) : (modCkpt s f).dex = s.dex := rfl
@[simp] theorem modCkpt_sec (s : State) (f : Ckpt → Ckpt) : (modCkpt s f).sec = s.sec := rfl
@[simp] theorem modCkpt_power (s : State) (f : Ckpt → Ckpt) : (modCkpt s f).power = s.power := rfl

/-! modHost -/

@[simp] theorem modHost_pending (s : State) (f : HostPort → HostPort) : (modHost s f).pending = s.pending := rfl
@[simp] theorem modHost_ns (s : State) (f : HostPort → HostPort) : (modHost s f).ns = s.ns := rfl
@[simp] theorem modHost_free (s : State) (f : HostPort → HostPort) : (modHost s f).free = s.free := rfl
@[simp] theorem modHost_out (s : State) (f : HostPort → HostPort) : (modHost s f).out = s.out := rfl
@[simp] theorem modHost_ftime (s : State) (f : HostPort → HostPort) : (modHost s f).ftime = s.ftime := rfl
@[simp] theorem modHost_sched (s : State) (f : HostPort → HostPort) : (modHost s f).sched = s.sched := rfl
@[simp] theorem modHost_arrays (s : State) (f : HostPort → HostPort) : (modHost s f).arrays = s.arrays := rfl
@[simp] theorem modHost_phys (s : State) (f : HostPort → HostPort) : (modHost s f).phys = s.phys := rfl
@[simp] theorem modHost_vecq (s : State) (f : HostPort → HostPort) : (modHost s f).vecq = s.vecq := rfl
@[simp] theorem modHost_rm (s : State) (f : HostPort → HostPort) : (modHost s f).rm = s.rm := rfl
@[simp] theorem modHost_ctxs (s : State) (f : HostPort → HostPort) : (modHost s f).ctxs = s.ctxs := rfl
@[simp] theorem modHost_defined (s : State) (f : HostPort → HostPort) : (modHost s f).defined = s.defined := rfl
@[simp] theorem modHost_gone (s : State) (f : HostPort → HostPort) : (modHost s f).gone = s.gone := rfl
@[simp] theorem modHost_issued (s : State) (f : HostPort → HostPort) : (modHost s f).issued = s.issued := rfl
@[simp] theorem modHost_quantum (s : State) (f : HostPort → HostPort) : (modHost s f).quantum = s.quantum := rfl
@[simp] theorem modHost_mem (s : State) (f : HostPort → HostPort) : (modHost s f).mem = s.mem := rfl
@[simp] theorem modHost_census (s : State) (f : HostPort → HostPort) : (modHost s f).census = s.census := rfl
@[simp] theorem modHost_churns (s : State) (f : HostPort → HostPort) : (modHost s f).churns = s.churns := rfl
@[simp] theorem modHost_dacc (s : State) (f : HostPort → HostPort) : (modHost s f).dacc = s.dacc := rfl
@[simp] theorem modHost_presses (s : State) (f : HostPort → HostPort) : (modHost s f).presses = s.presses := rfl
@[simp] theorem modHost_hives (s : State) (f : HostPort → HostPort) : (modHost s f).hives = s.hives := rfl
@[simp] theorem modHost_flags (s : State) (f : HostPort → HostPort) : (modHost s f).flags = s.flags := rfl
@[simp] theorem modHost_remote (s : State) (f : HostPort → HostPort) : (modHost s f).remote = s.remote := rfl
@[simp] theorem modHost_fabric (s : State) (f : HostPort → HostPort) : (modHost s f).fabric = s.fabric := rfl
@[simp] theorem modHost_err (s : State) (f : HostPort → HostPort) : (modHost s f).err = s.err := rfl
@[simp] theorem modHost_weevil (s : State) (f : HostPort → HostPort) : (modHost s f).weevil = s.weevil := rfl
@[simp] theorem modHost_health (s : State) (f : HostPort → HostPort) : (modHost s f).health = s.health := rfl
@[simp] theorem modHost_resetSeq (s : State) (f : HostPort → HostPort) : (modHost s f).resetSeq = s.resetSeq := rfl
@[simp] theorem modHost_ckpt (s : State) (f : HostPort → HostPort) : (modHost s f).ckpt = s.ckpt := rfl
@[simp] theorem modHost_host (s : State) (f : HostPort → HostPort) : (modHost s f).host = f s.host := rfl
@[simp] theorem modHost_gov (s : State) (f : HostPort → HostPort) : (modHost s f).gov = s.gov := rfl
@[simp] theorem modHost_dex (s : State) (f : HostPort → HostPort) : (modHost s f).dex = s.dex := rfl
@[simp] theorem modHost_sec (s : State) (f : HostPort → HostPort) : (modHost s f).sec = s.sec := rfl
@[simp] theorem modHost_power (s : State) (f : HostPort → HostPort) : (modHost s f).power = s.power := rfl

/-! modDex -/

@[simp] theorem modDex_pending (s : State) (f : Dexhorn → Dexhorn) : (modDex s f).pending = s.pending := rfl
@[simp] theorem modDex_ns (s : State) (f : Dexhorn → Dexhorn) : (modDex s f).ns = s.ns := rfl
@[simp] theorem modDex_free (s : State) (f : Dexhorn → Dexhorn) : (modDex s f).free = s.free := rfl
@[simp] theorem modDex_out (s : State) (f : Dexhorn → Dexhorn) : (modDex s f).out = s.out := rfl
@[simp] theorem modDex_ftime (s : State) (f : Dexhorn → Dexhorn) : (modDex s f).ftime = s.ftime := rfl
@[simp] theorem modDex_sched (s : State) (f : Dexhorn → Dexhorn) : (modDex s f).sched = s.sched := rfl
@[simp] theorem modDex_arrays (s : State) (f : Dexhorn → Dexhorn) : (modDex s f).arrays = s.arrays := rfl
@[simp] theorem modDex_phys (s : State) (f : Dexhorn → Dexhorn) : (modDex s f).phys = s.phys := rfl
@[simp] theorem modDex_vecq (s : State) (f : Dexhorn → Dexhorn) : (modDex s f).vecq = s.vecq := rfl
@[simp] theorem modDex_rm (s : State) (f : Dexhorn → Dexhorn) : (modDex s f).rm = s.rm := rfl
@[simp] theorem modDex_ctxs (s : State) (f : Dexhorn → Dexhorn) : (modDex s f).ctxs = s.ctxs := rfl
@[simp] theorem modDex_defined (s : State) (f : Dexhorn → Dexhorn) : (modDex s f).defined = s.defined := rfl
@[simp] theorem modDex_gone (s : State) (f : Dexhorn → Dexhorn) : (modDex s f).gone = s.gone := rfl
@[simp] theorem modDex_issued (s : State) (f : Dexhorn → Dexhorn) : (modDex s f).issued = s.issued := rfl
@[simp] theorem modDex_quantum (s : State) (f : Dexhorn → Dexhorn) : (modDex s f).quantum = s.quantum := rfl
@[simp] theorem modDex_mem (s : State) (f : Dexhorn → Dexhorn) : (modDex s f).mem = s.mem := rfl
@[simp] theorem modDex_census (s : State) (f : Dexhorn → Dexhorn) : (modDex s f).census = s.census := rfl
@[simp] theorem modDex_churns (s : State) (f : Dexhorn → Dexhorn) : (modDex s f).churns = s.churns := rfl
@[simp] theorem modDex_dacc (s : State) (f : Dexhorn → Dexhorn) : (modDex s f).dacc = s.dacc := rfl
@[simp] theorem modDex_presses (s : State) (f : Dexhorn → Dexhorn) : (modDex s f).presses = s.presses := rfl
@[simp] theorem modDex_hives (s : State) (f : Dexhorn → Dexhorn) : (modDex s f).hives = s.hives := rfl
@[simp] theorem modDex_flags (s : State) (f : Dexhorn → Dexhorn) : (modDex s f).flags = s.flags := rfl
@[simp] theorem modDex_remote (s : State) (f : Dexhorn → Dexhorn) : (modDex s f).remote = s.remote := rfl
@[simp] theorem modDex_fabric (s : State) (f : Dexhorn → Dexhorn) : (modDex s f).fabric = s.fabric := rfl
@[simp] theorem modDex_err (s : State) (f : Dexhorn → Dexhorn) : (modDex s f).err = s.err := rfl
@[simp] theorem modDex_weevil (s : State) (f : Dexhorn → Dexhorn) : (modDex s f).weevil = s.weevil := rfl
@[simp] theorem modDex_health (s : State) (f : Dexhorn → Dexhorn) : (modDex s f).health = s.health := rfl
@[simp] theorem modDex_resetSeq (s : State) (f : Dexhorn → Dexhorn) : (modDex s f).resetSeq = s.resetSeq := rfl
@[simp] theorem modDex_ckpt (s : State) (f : Dexhorn → Dexhorn) : (modDex s f).ckpt = s.ckpt := rfl
@[simp] theorem modDex_host (s : State) (f : Dexhorn → Dexhorn) : (modDex s f).host = s.host := rfl
@[simp] theorem modDex_gov (s : State) (f : Dexhorn → Dexhorn) : (modDex s f).gov = s.gov := rfl
@[simp] theorem modDex_dex (s : State) (f : Dexhorn → Dexhorn) : (modDex s f).dex = f s.dex := rfl
@[simp] theorem modDex_sec (s : State) (f : Dexhorn → Dexhorn) : (modDex s f).sec = s.sec := rfl
@[simp] theorem modDex_power (s : State) (f : Dexhorn → Dexhorn) : (modDex s f).power = s.power := rfl

/-! modSec -/

@[simp] theorem modSec_pending (s : State) (f : Security → Security) : (modSec s f).pending = s.pending := rfl
@[simp] theorem modSec_ns (s : State) (f : Security → Security) : (modSec s f).ns = s.ns := rfl
@[simp] theorem modSec_free (s : State) (f : Security → Security) : (modSec s f).free = s.free := rfl
@[simp] theorem modSec_out (s : State) (f : Security → Security) : (modSec s f).out = s.out := rfl
@[simp] theorem modSec_ftime (s : State) (f : Security → Security) : (modSec s f).ftime = s.ftime := rfl
@[simp] theorem modSec_sched (s : State) (f : Security → Security) : (modSec s f).sched = s.sched := rfl
@[simp] theorem modSec_arrays (s : State) (f : Security → Security) : (modSec s f).arrays = s.arrays := rfl
@[simp] theorem modSec_phys (s : State) (f : Security → Security) : (modSec s f).phys = s.phys := rfl
@[simp] theorem modSec_vecq (s : State) (f : Security → Security) : (modSec s f).vecq = s.vecq := rfl
@[simp] theorem modSec_rm (s : State) (f : Security → Security) : (modSec s f).rm = s.rm := rfl
@[simp] theorem modSec_ctxs (s : State) (f : Security → Security) : (modSec s f).ctxs = s.ctxs := rfl
@[simp] theorem modSec_defined (s : State) (f : Security → Security) : (modSec s f).defined = s.defined := rfl
@[simp] theorem modSec_gone (s : State) (f : Security → Security) : (modSec s f).gone = s.gone := rfl
@[simp] theorem modSec_issued (s : State) (f : Security → Security) : (modSec s f).issued = s.issued := rfl
@[simp] theorem modSec_quantum (s : State) (f : Security → Security) : (modSec s f).quantum = s.quantum := rfl
@[simp] theorem modSec_mem (s : State) (f : Security → Security) : (modSec s f).mem = s.mem := rfl
@[simp] theorem modSec_census (s : State) (f : Security → Security) : (modSec s f).census = s.census := rfl
@[simp] theorem modSec_churns (s : State) (f : Security → Security) : (modSec s f).churns = s.churns := rfl
@[simp] theorem modSec_dacc (s : State) (f : Security → Security) : (modSec s f).dacc = s.dacc := rfl
@[simp] theorem modSec_presses (s : State) (f : Security → Security) : (modSec s f).presses = s.presses := rfl
@[simp] theorem modSec_hives (s : State) (f : Security → Security) : (modSec s f).hives = s.hives := rfl
@[simp] theorem modSec_flags (s : State) (f : Security → Security) : (modSec s f).flags = s.flags := rfl
@[simp] theorem modSec_remote (s : State) (f : Security → Security) : (modSec s f).remote = s.remote := rfl
@[simp] theorem modSec_fabric (s : State) (f : Security → Security) : (modSec s f).fabric = s.fabric := rfl
@[simp] theorem modSec_err (s : State) (f : Security → Security) : (modSec s f).err = s.err := rfl
@[simp] theorem modSec_weevil (s : State) (f : Security → Security) : (modSec s f).weevil = s.weevil := rfl
@[simp] theorem modSec_health (s : State) (f : Security → Security) : (modSec s f).health = s.health := rfl
@[simp] theorem modSec_resetSeq (s : State) (f : Security → Security) : (modSec s f).resetSeq = s.resetSeq := rfl
@[simp] theorem modSec_ckpt (s : State) (f : Security → Security) : (modSec s f).ckpt = s.ckpt := rfl
@[simp] theorem modSec_host (s : State) (f : Security → Security) : (modSec s f).host = s.host := rfl
@[simp] theorem modSec_gov (s : State) (f : Security → Security) : (modSec s f).gov = s.gov := rfl
@[simp] theorem modSec_dex (s : State) (f : Security → Security) : (modSec s f).dex = s.dex := rfl
@[simp] theorem modSec_sec (s : State) (f : Security → Security) : (modSec s f).sec = f s.sec := rfl
@[simp] theorem modSec_power (s : State) (f : Security → Security) : (modSec s f).power = s.power := rfl

/-! modPower -/

@[simp] theorem modPower_pending (s : State) (f : Power → Power) : (modPower s f).pending = s.pending := rfl
@[simp] theorem modPower_ns (s : State) (f : Power → Power) : (modPower s f).ns = s.ns := rfl
@[simp] theorem modPower_free (s : State) (f : Power → Power) : (modPower s f).free = s.free := rfl
@[simp] theorem modPower_out (s : State) (f : Power → Power) : (modPower s f).out = s.out := rfl
@[simp] theorem modPower_ftime (s : State) (f : Power → Power) : (modPower s f).ftime = s.ftime := rfl
@[simp] theorem modPower_sched (s : State) (f : Power → Power) : (modPower s f).sched = s.sched := rfl
@[simp] theorem modPower_arrays (s : State) (f : Power → Power) : (modPower s f).arrays = s.arrays := rfl
@[simp] theorem modPower_phys (s : State) (f : Power → Power) : (modPower s f).phys = s.phys := rfl
@[simp] theorem modPower_vecq (s : State) (f : Power → Power) : (modPower s f).vecq = s.vecq := rfl
@[simp] theorem modPower_rm (s : State) (f : Power → Power) : (modPower s f).rm = s.rm := rfl
@[simp] theorem modPower_ctxs (s : State) (f : Power → Power) : (modPower s f).ctxs = s.ctxs := rfl
@[simp] theorem modPower_defined (s : State) (f : Power → Power) : (modPower s f).defined = s.defined := rfl
@[simp] theorem modPower_gone (s : State) (f : Power → Power) : (modPower s f).gone = s.gone := rfl
@[simp] theorem modPower_issued (s : State) (f : Power → Power) : (modPower s f).issued = s.issued := rfl
@[simp] theorem modPower_quantum (s : State) (f : Power → Power) : (modPower s f).quantum = s.quantum := rfl
@[simp] theorem modPower_mem (s : State) (f : Power → Power) : (modPower s f).mem = s.mem := rfl
@[simp] theorem modPower_census (s : State) (f : Power → Power) : (modPower s f).census = s.census := rfl
@[simp] theorem modPower_churns (s : State) (f : Power → Power) : (modPower s f).churns = s.churns := rfl
@[simp] theorem modPower_dacc (s : State) (f : Power → Power) : (modPower s f).dacc = s.dacc := rfl
@[simp] theorem modPower_presses (s : State) (f : Power → Power) : (modPower s f).presses = s.presses := rfl
@[simp] theorem modPower_hives (s : State) (f : Power → Power) : (modPower s f).hives = s.hives := rfl
@[simp] theorem modPower_flags (s : State) (f : Power → Power) : (modPower s f).flags = s.flags := rfl
@[simp] theorem modPower_remote (s : State) (f : Power → Power) : (modPower s f).remote = s.remote := rfl
@[simp] theorem modPower_fabric (s : State) (f : Power → Power) : (modPower s f).fabric = s.fabric := rfl
@[simp] theorem modPower_err (s : State) (f : Power → Power) : (modPower s f).err = s.err := rfl
@[simp] theorem modPower_weevil (s : State) (f : Power → Power) : (modPower s f).weevil = s.weevil := rfl
@[simp] theorem modPower_health (s : State) (f : Power → Power) : (modPower s f).health = s.health := rfl
@[simp] theorem modPower_resetSeq (s : State) (f : Power → Power) : (modPower s f).resetSeq = s.resetSeq := rfl
@[simp] theorem modPower_ckpt (s : State) (f : Power → Power) : (modPower s f).ckpt = s.ckpt := rfl
@[simp] theorem modPower_host (s : State) (f : Power → Power) : (modPower s f).host = s.host := rfl
@[simp] theorem modPower_gov (s : State) (f : Power → Power) : (modPower s f).gov = s.gov := rfl
@[simp] theorem modPower_dex (s : State) (f : Power → Power) : (modPower s f).dex = s.dex := rfl
@[simp] theorem modPower_sec (s : State) (f : Power → Power) : (modPower s f).sec = s.sec := rfl
@[simp] theorem modPower_power (s : State) (f : Power → Power) : (modPower s f).power = f s.power := rfl

/-! modGov -/

@[simp] theorem modGov_pending (s : State) (f : Governor → Governor) : (modGov s f).pending = s.pending := rfl
@[simp] theorem modGov_ns (s : State) (f : Governor → Governor) : (modGov s f).ns = s.ns := rfl
@[simp] theorem modGov_free (s : State) (f : Governor → Governor) : (modGov s f).free = s.free := rfl
@[simp] theorem modGov_out (s : State) (f : Governor → Governor) : (modGov s f).out = s.out := rfl
@[simp] theorem modGov_ftime (s : State) (f : Governor → Governor) : (modGov s f).ftime = s.ftime := rfl
@[simp] theorem modGov_sched (s : State) (f : Governor → Governor) : (modGov s f).sched = s.sched := rfl
@[simp] theorem modGov_arrays (s : State) (f : Governor → Governor) : (modGov s f).arrays = s.arrays := rfl
@[simp] theorem modGov_phys (s : State) (f : Governor → Governor) : (modGov s f).phys = s.phys := rfl
@[simp] theorem modGov_vecq (s : State) (f : Governor → Governor) : (modGov s f).vecq = s.vecq := rfl
@[simp] theorem modGov_rm (s : State) (f : Governor → Governor) : (modGov s f).rm = s.rm := rfl
@[simp] theorem modGov_ctxs (s : State) (f : Governor → Governor) : (modGov s f).ctxs = s.ctxs := rfl
@[simp] theorem modGov_defined (s : State) (f : Governor → Governor) : (modGov s f).defined = s.defined := rfl
@[simp] theorem modGov_gone (s : State) (f : Governor → Governor) : (modGov s f).gone = s.gone := rfl
@[simp] theorem modGov_issued (s : State) (f : Governor → Governor) : (modGov s f).issued = s.issued := rfl
@[simp] theorem modGov_quantum (s : State) (f : Governor → Governor) : (modGov s f).quantum = s.quantum := rfl
@[simp] theorem modGov_mem (s : State) (f : Governor → Governor) : (modGov s f).mem = s.mem := rfl
@[simp] theorem modGov_census (s : State) (f : Governor → Governor) : (modGov s f).census = s.census := rfl
@[simp] theorem modGov_churns (s : State) (f : Governor → Governor) : (modGov s f).churns = s.churns := rfl
@[simp] theorem modGov_dacc (s : State) (f : Governor → Governor) : (modGov s f).dacc = s.dacc := rfl
@[simp] theorem modGov_presses (s : State) (f : Governor → Governor) : (modGov s f).presses = s.presses := rfl
@[simp] theorem modGov_hives (s : State) (f : Governor → Governor) : (modGov s f).hives = s.hives := rfl
@[simp] theorem modGov_flags (s : State) (f : Governor → Governor) : (modGov s f).flags = s.flags := rfl
@[simp] theorem modGov_remote (s : State) (f : Governor → Governor) : (modGov s f).remote = s.remote := rfl
@[simp] theorem modGov_fabric (s : State) (f : Governor → Governor) : (modGov s f).fabric = s.fabric := rfl
@[simp] theorem modGov_err (s : State) (f : Governor → Governor) : (modGov s f).err = s.err := rfl
@[simp] theorem modGov_weevil (s : State) (f : Governor → Governor) : (modGov s f).weevil = s.weevil := rfl
@[simp] theorem modGov_health (s : State) (f : Governor → Governor) : (modGov s f).health = s.health := rfl
@[simp] theorem modGov_resetSeq (s : State) (f : Governor → Governor) : (modGov s f).resetSeq = s.resetSeq := rfl
@[simp] theorem modGov_ckpt (s : State) (f : Governor → Governor) : (modGov s f).ckpt = s.ckpt := rfl
@[simp] theorem modGov_host (s : State) (f : Governor → Governor) : (modGov s f).host = s.host := rfl
@[simp] theorem modGov_gov (s : State) (f : Governor → Governor) : (modGov s f).gov = f s.gov := rfl
@[simp] theorem modGov_dex (s : State) (f : Governor → Governor) : (modGov s f).dex = s.dex := rfl
@[simp] theorem modGov_sec (s : State) (f : Governor → Governor) : (modGov s f).sec = s.sec := rfl
@[simp] theorem modGov_power (s : State) (f : Governor → Governor) : (modGov s f).power = s.power := rfl

/-! modTime -/

@[simp] theorem modTime_pending (s : State) (f : FabTime → FabTime) : (modTime s f).pending = s.pending := rfl
@[simp] theorem modTime_ns (s : State) (f : FabTime → FabTime) : (modTime s f).ns = s.ns := rfl
@[simp] theorem modTime_free (s : State) (f : FabTime → FabTime) : (modTime s f).free = s.free := rfl
@[simp] theorem modTime_out (s : State) (f : FabTime → FabTime) : (modTime s f).out = s.out := rfl
@[simp] theorem modTime_ftime (s : State) (f : FabTime → FabTime) : (modTime s f).ftime = f s.ftime := rfl
@[simp] theorem modTime_sched (s : State) (f : FabTime → FabTime) : (modTime s f).sched = s.sched := rfl
@[simp] theorem modTime_arrays (s : State) (f : FabTime → FabTime) : (modTime s f).arrays = s.arrays := rfl
@[simp] theorem modTime_phys (s : State) (f : FabTime → FabTime) : (modTime s f).phys = s.phys := rfl
@[simp] theorem modTime_vecq (s : State) (f : FabTime → FabTime) : (modTime s f).vecq = s.vecq := rfl
@[simp] theorem modTime_rm (s : State) (f : FabTime → FabTime) : (modTime s f).rm = s.rm := rfl
@[simp] theorem modTime_ctxs (s : State) (f : FabTime → FabTime) : (modTime s f).ctxs = s.ctxs := rfl
@[simp] theorem modTime_defined (s : State) (f : FabTime → FabTime) : (modTime s f).defined = s.defined := rfl
@[simp] theorem modTime_gone (s : State) (f : FabTime → FabTime) : (modTime s f).gone = s.gone := rfl
@[simp] theorem modTime_issued (s : State) (f : FabTime → FabTime) : (modTime s f).issued = s.issued := rfl
@[simp] theorem modTime_quantum (s : State) (f : FabTime → FabTime) : (modTime s f).quantum = s.quantum := rfl
@[simp] theorem modTime_mem (s : State) (f : FabTime → FabTime) : (modTime s f).mem = s.mem := rfl
@[simp] theorem modTime_census (s : State) (f : FabTime → FabTime) : (modTime s f).census = s.census := rfl
@[simp] theorem modTime_churns (s : State) (f : FabTime → FabTime) : (modTime s f).churns = s.churns := rfl
@[simp] theorem modTime_dacc (s : State) (f : FabTime → FabTime) : (modTime s f).dacc = s.dacc := rfl
@[simp] theorem modTime_presses (s : State) (f : FabTime → FabTime) : (modTime s f).presses = s.presses := rfl
@[simp] theorem modTime_hives (s : State) (f : FabTime → FabTime) : (modTime s f).hives = s.hives := rfl
@[simp] theorem modTime_flags (s : State) (f : FabTime → FabTime) : (modTime s f).flags = s.flags := rfl
@[simp] theorem modTime_remote (s : State) (f : FabTime → FabTime) : (modTime s f).remote = s.remote := rfl
@[simp] theorem modTime_fabric (s : State) (f : FabTime → FabTime) : (modTime s f).fabric = s.fabric := rfl
@[simp] theorem modTime_err (s : State) (f : FabTime → FabTime) : (modTime s f).err = s.err := rfl
@[simp] theorem modTime_weevil (s : State) (f : FabTime → FabTime) : (modTime s f).weevil = s.weevil := rfl
@[simp] theorem modTime_health (s : State) (f : FabTime → FabTime) : (modTime s f).health = s.health := rfl
@[simp] theorem modTime_resetSeq (s : State) (f : FabTime → FabTime) : (modTime s f).resetSeq = s.resetSeq := rfl
@[simp] theorem modTime_ckpt (s : State) (f : FabTime → FabTime) : (modTime s f).ckpt = s.ckpt := rfl
@[simp] theorem modTime_host (s : State) (f : FabTime → FabTime) : (modTime s f).host = s.host := rfl
@[simp] theorem modTime_gov (s : State) (f : FabTime → FabTime) : (modTime s f).gov = s.gov := rfl
@[simp] theorem modTime_dex (s : State) (f : FabTime → FabTime) : (modTime s f).dex = s.dex := rfl
@[simp] theorem modTime_sec (s : State) (f : FabTime → FabTime) : (modTime s f).sec = s.sec := rfl
@[simp] theorem modTime_power (s : State) (f : FabTime → FabTime) : (modTime s f).power = s.power := rfl

/-! emit and drawn -/

@[simp] theorem emit_pending (s : State) (o : Out) : (emit s o).pending = s.pending := rfl
@[simp] theorem emit_ns (s : State) (o : Out) : (emit s o).ns = s.ns := rfl
@[simp] theorem emit_free (s : State) (o : Out) : (emit s o).free = s.free := rfl
@[simp] theorem emit_out (s : State) (o : Out) : (emit s o).out = o :: s.out := rfl
@[simp] theorem emit_ftime (s : State) (o : Out) : (emit s o).ftime = s.ftime := rfl
@[simp] theorem emit_sched (s : State) (o : Out) : (emit s o).sched = s.sched := rfl
@[simp] theorem emit_arrays (s : State) (o : Out) : (emit s o).arrays = s.arrays := rfl
@[simp] theorem emit_phys (s : State) (o : Out) : (emit s o).phys = s.phys := rfl
@[simp] theorem emit_vecq (s : State) (o : Out) : (emit s o).vecq = s.vecq := rfl
@[simp] theorem emit_rm (s : State) (o : Out) : (emit s o).rm = s.rm := rfl
@[simp] theorem emit_ctxs (s : State) (o : Out) : (emit s o).ctxs = s.ctxs := rfl
@[simp] theorem emit_defined (s : State) (o : Out) : (emit s o).defined = s.defined := rfl
@[simp] theorem emit_gone (s : State) (o : Out) : (emit s o).gone = s.gone := rfl
@[simp] theorem emit_issued (s : State) (o : Out) : (emit s o).issued = s.issued := rfl
@[simp] theorem emit_quantum (s : State) (o : Out) : (emit s o).quantum = s.quantum := rfl
@[simp] theorem emit_mem (s : State) (o : Out) : (emit s o).mem = s.mem := rfl
@[simp] theorem emit_census (s : State) (o : Out) : (emit s o).census = s.census := rfl
@[simp] theorem emit_churns (s : State) (o : Out) : (emit s o).churns = s.churns := rfl
@[simp] theorem emit_dacc (s : State) (o : Out) : (emit s o).dacc = s.dacc := rfl
@[simp] theorem emit_presses (s : State) (o : Out) : (emit s o).presses = s.presses := rfl
@[simp] theorem emit_hives (s : State) (o : Out) : (emit s o).hives = s.hives := rfl
@[simp] theorem emit_flags (s : State) (o : Out) : (emit s o).flags = s.flags := rfl
@[simp] theorem emit_remote (s : State) (o : Out) : (emit s o).remote = s.remote := rfl
@[simp] theorem emit_fabric (s : State) (o : Out) : (emit s o).fabric = s.fabric := rfl
@[simp] theorem emit_err (s : State) (o : Out) : (emit s o).err = s.err := rfl
@[simp] theorem emit_weevil (s : State) (o : Out) : (emit s o).weevil = s.weevil := rfl
@[simp] theorem emit_health (s : State) (o : Out) : (emit s o).health = s.health := rfl
@[simp] theorem emit_resetSeq (s : State) (o : Out) : (emit s o).resetSeq = s.resetSeq := rfl
@[simp] theorem emit_ckpt (s : State) (o : Out) : (emit s o).ckpt = s.ckpt := rfl
@[simp] theorem emit_host (s : State) (o : Out) : (emit s o).host = s.host := rfl
@[simp] theorem emit_gov (s : State) (o : Out) : (emit s o).gov = s.gov := rfl
@[simp] theorem emit_dex (s : State) (o : Out) : (emit s o).dex = s.dex := rfl
@[simp] theorem emit_sec (s : State) (o : Out) : (emit s o).sec = s.sec := rfl
@[simp] theorem emit_power (s : State) (o : Out) : (emit s o).power = s.power := rfl
@[simp] theorem drawn_pending (s : State) : (drawn s).pending = s.pending := rfl
@[simp] theorem drawn_ns (s : State) : (drawn s).ns = s.ns := rfl
@[simp] theorem drawn_free (s : State) : (drawn s).free = s.free + 1 := rfl
@[simp] theorem drawn_out (s : State) : (drawn s).out = s.out := rfl
@[simp] theorem drawn_ftime (s : State) : (drawn s).ftime = s.ftime := rfl
@[simp] theorem drawn_sched (s : State) : (drawn s).sched = s.sched := rfl
@[simp] theorem drawn_arrays (s : State) : (drawn s).arrays = s.arrays := rfl
@[simp] theorem drawn_phys (s : State) : (drawn s).phys = s.phys := rfl
@[simp] theorem drawn_vecq (s : State) : (drawn s).vecq = s.vecq := rfl
@[simp] theorem drawn_rm (s : State) : (drawn s).rm = s.rm := rfl
@[simp] theorem drawn_ctxs (s : State) : (drawn s).ctxs = s.ctxs := rfl
@[simp] theorem drawn_defined (s : State) : (drawn s).defined = s.defined := rfl
@[simp] theorem drawn_gone (s : State) : (drawn s).gone = s.gone := rfl
@[simp] theorem drawn_issued (s : State) : (drawn s).issued = s.issued := rfl
@[simp] theorem drawn_quantum (s : State) : (drawn s).quantum = s.quantum := rfl
@[simp] theorem drawn_mem (s : State) : (drawn s).mem = s.mem := rfl
@[simp] theorem drawn_census (s : State) : (drawn s).census = s.census := rfl
@[simp] theorem drawn_churns (s : State) : (drawn s).churns = s.churns := rfl
@[simp] theorem drawn_dacc (s : State) : (drawn s).dacc = s.dacc := rfl
@[simp] theorem drawn_presses (s : State) : (drawn s).presses = s.presses := rfl
@[simp] theorem drawn_hives (s : State) : (drawn s).hives = s.hives := rfl
@[simp] theorem drawn_flags (s : State) : (drawn s).flags = s.flags := rfl
@[simp] theorem drawn_remote (s : State) : (drawn s).remote = s.remote := rfl
@[simp] theorem drawn_fabric (s : State) : (drawn s).fabric = s.fabric := rfl
@[simp] theorem drawn_err (s : State) : (drawn s).err = s.err := rfl
@[simp] theorem drawn_weevil (s : State) : (drawn s).weevil = s.weevil := rfl
@[simp] theorem drawn_health (s : State) : (drawn s).health = s.health := rfl
@[simp] theorem drawn_resetSeq (s : State) : (drawn s).resetSeq = s.resetSeq := rfl
@[simp] theorem drawn_ckpt (s : State) : (drawn s).ckpt = s.ckpt := rfl
@[simp] theorem drawn_host (s : State) : (drawn s).host = s.host := rfl
@[simp] theorem drawn_gov (s : State) : (drawn s).gov = s.gov := rfl
@[simp] theorem drawn_dex (s : State) : (drawn s).dex = s.dex := rfl
@[simp] theorem drawn_sec (s : State) : (drawn s).sec = s.sec := rfl
@[simp] theorem drawn_power (s : State) : (drawn s).power = s.power := rfl

/-! Maps of the state -/

/-- Writing a key twice is writing it once. -/
theorem ins_ins {α : Type} (m : SMap α) (k : Nat) (a b : α) : SMap.ins (SMap.ins m k a) k b = SMap.ins m k b := by
  induction m with
  | nil => simp [SMap.ins]
  | cons p r ih =>
    obtain ⟨i, w⟩ := p
    simp only [SMap.ins]
    split
    · simp [SMap.ins]
    · split
      · simp [SMap.ins]
      · simp [SMap.ins, *]

theorem modCtx_eq {s : State} {c : Nat} {x : Ctx} (h : ctx? s c = some x) (f : Ctx → Ctx) :
    modCtx s c f = { s with ctxs := SMap.ins s.ctxs c (f x) } := by simp [modCtx, h]

theorem ctx_modCtx {s : State} {c : Nat} {x : Ctx} (h : ctx? s c = some x) (f : Ctx → Ctx) : ctx? (modCtx s c f) c = some (f x) := by
  simp [modCtx_eq h, ctx?]

/-- Two changes of one context are one. -/
theorem modCtx_modCtx (s : State) (c : Nat) (f g : Ctx → Ctx) : modCtx (modCtx s c f) c g = modCtx s c (fun x => g (f x)) := by
  cases h : ctx? s c with
  | none => simp [modCtx, h]
  | some x =>
    rw [modCtx_eq (ctx_modCtx h f), modCtx_eq h, modCtx_eq h]
    simp [ins_ins]

theorem modStep_modStep (s : State) (c : Nat) (f g : StepState → StepState) :
    modStep (modStep s c f) c g = modStep s c (fun t => g (f t)) := modCtx_modCtx s c _ _

@[simp] theorem port_setPort (s : State) (p : Nat) (x : Port) : port (setPort s p x) p = x := by simp [port, setPort]

@[simp] theorem setPort_setPort (s : State) (p : Nat) (x y : Port) : setPort (setPort s p x) p y = setPort s p y := by
  simp [setPort, modFabric, ins_ins]

@[simp] theorem pair_setPair (s : State) (k : Nat) (x : Pair) : pair (setPair s k x) k = x := by simp [pair, setPair]

@[simp] theorem setPair_setPair (s : State) (k : Nat) (x y : Pair) : setPair (setPair s k x) k y = setPair s k y := by
  simp [setPair, modRemote, ins_ins]

@[simp] theorem ring_setRing (s : State) (r : Nat) (x : Ring) : ring (setRing s r x) r = x := by simp [ring, setRing]

@[simp] theorem setRing_setRing (s : State) (r : Nat) (x y : Ring) : setRing (setRing s r x) r y = setRing s r y := by
  simp [setRing, modHost, ins_ins]

end Sys2Proof.Machine.Ops
end

