-- ==== Sys2Proof/Laws/Issue.lean ====
section
/-! SUPPORT. The shared frames of the commands: what the issue of a stream instruction, a register-mode instruction, a write into
storage without marks and a management command do when nothing stops them. -/

namespace Sys2Proof.Laws

open Sys2Proof.Machine Sys2Proof.Machine.Ops Sys2Proof.Machine.Bits Sys2Proof.Safety

/-- The word a stream has reached, which is not a reserved one, is its body, applied to the runner. -/
theorem fetched_eq {s : State} {i : Issuer} {r : Issue.Runner} {word : StreamWord} (h : Reached s i r word)
    (hw : ∀ cls code, word ≠ .reserved cls code) (body : Issue.Runner → State) : Issue.fetched s i word body = body r := by
  obtain ⟨h1, h2, h3, h4⟩ := h
  cases word <;> simp_all [Issue.fetched]

/-- An instruction of a stream that can issue is its body, applied to the runner. -/
theorem issue_eq {s : State} {i : Issuer} {r : Issue.Runner} {word : StreamWord} (h : CanIssue s i r word)
    (hw : ∀ cls code, word ≠ .reserved cls code) (body : Issue.Runner → State) : Issue.issue s i word body = body r := by
  simp [Issue.issue, fetched_eq h.1 hw, h.2]

/-- The runner carries the context and the stream that State holds. -/
theorem runner_ctx {s : State} {i : Issuer} {r : Issue.Runner} (h : Issue.runner s i = some r) :
    ctx? s r.c = some r.x ∧ streamAt s r.c i.core i.stream = r.t := by
  unfold Issue.runner at h
  split at h
  · simp at h
  · split at h
    · simp at h
    · rename_i x hx
      simp only [Option.ite_none_right_eq_some, Option.some.injEq] at h
      obtain ⟨_, rfl⟩ := h
      exact ⟨hx, by simp [streamAt, hx]⟩

/-- A changed stream reads as changed. -/
theorem stream_modStream {s : State} {c : Nat} {x : Ctx} (h : ctx? s c = some x) (q t : Nat) (f : StreamState → StreamState) :
    streamAt (modStream s c q t f) c q t = f (streamAt s c q t) := by
  unfold modStream modCore
  rw [modCtx_eq h]
  simp [streamAt, ctx?, onCore, streamOf, SMap.val]
  unfold ctx? at h
  rw [h]

/-- A register-mode instruction that is the next word of its program runs and the program goes on. -/
theorem run_ready {s : State} {k op : Nat} {w : RmWord} (h : RmReady s k op w) {f : RmCore → Option RmCore} {y : RmCore}
    (hf : f (RegMode.core s k) = some y) : RegMode.run s k op w f = RegMode.setCore s k (RegMode.nextPc y) := by
  obtain ⟨h1, h2, h3, h4, h5⟩ := h
  simp [RegMode.run, RegMode.stands, RegMode.active, h1, h2, h3, h4, ← h5, hf, Nat.not_le.mpr h3]

@[simp] theorem partMarked_nil (size a n : Nat) : Mem.partMarked [] size a n = [] := by
  simp [Mem.partMarked, SMap.val, SMap.look]

/-- A write meets no mark where storage holds none. -/
theorem reactWrite_clean {s : State} (hc : s.mem.badCheck = []) (hp : s.mem.poison = []) (hw : s.mem.badWord = [])
    (a n : Nat) (q : Mem.Req) : Mem.reactWrite s a n q = s := by
  simp [Mem.reactWrite, hc, hp, hw]

/-- A response outside a session is sent in the clear. -/
@[simp] theorem reply_clear (s : State) (o : Out) (b : Bytes) : Spdm.reply s none o b = emit s o := rfl

/-- A response in a session is sealed. -/
@[simp] theorem reply_sealed (s : State) (x : Session) (o : Out) (b : Bytes) : Spdm.reply s (some x) o b = Spdm.sealed s x b := rfl

/-- A management command that is served, while no other is carried out, with a legal operand answers what its effect answers. -/
theorem mgmt_run {s : State} {m : MgmtHead} (h : Spdm.served s m.i3c = true) (hb : Mgmt.busy s = false) (ho : m.operandOk = true)
    (command : Nat) (f : State → State × Nat × Bytes) :
    Mgmt.run s m command f =
      Mgmt.respond (f (Mgmt.take s)).1 m (Mgmt.session s m) command (f (Mgmt.take s)).2.1 (f (Mgmt.take s)).2.2 := by
  simp [Mgmt.run, h, hb, ho]

/-- The controller takes a command: it is busy with it, for a time that is a free value, and nothing else changes. -/
theorem take_eq (s : State) :
    Mgmt.take s = { s with free := s.free + 1, dex := { s.dex with busyTill := some (s.ns + Config.commandTime s.free) } } := rfl

@[simp] theorem take_ns (s : State) : (Mgmt.take s).ns = s.ns := rfl
@[simp] theorem take_ctxs (s : State) : (Mgmt.take s).ctxs = s.ctxs := rfl
@[simp] theorem take_ftime (s : State) : (Mgmt.take s).ftime = s.ftime := rfl
@[simp] theorem take_sched (s : State) : (Mgmt.take s).sched = s.sched := rfl
@[simp] theorem take_sec (s : State) : (Mgmt.take s).sec = s.sec := rfl
@[simp] theorem take_gov (s : State) : (Mgmt.take s).gov = s.gov := rfl
@[simp] theorem take_health (s : State) : (Mgmt.take s).health = s.health := rfl
@[simp] theorem take_power (s : State) : (Mgmt.take s).power = s.power := rfl
@[simp] theorem take_resetSeq (s : State) : (Mgmt.take s).resetSeq = s.resetSeq := rfl
@[simp] theorem take_state (s : State) : (Mgmt.take s).dex.state = s.dex.state := rfl
@[simp] theorem take_phase (s : State) : (Mgmt.take s).dex.phase = s.dex.phase := rfl
@[simp] theorem take_plan (s : State) : (Mgmt.take s).dex.plan = s.dex.plan := rfl
@[simp] theorem take_planParts (s : State) : (Mgmt.take s).dex.planParts = s.dex.planParts := rfl
@[simp] theorem take_records (s : State) : (Mgmt.take s).dex.records = s.dex.records := rfl

/-- An SPDM request that is served and comes outside a session answers in the clear. -/
theorem spdm_run {s : State} {h : SpdmHead} (hs : Spdm.served s h.i3c = true) (hn : h.session = none) (finished : Bool)
    (f : State → Spdm.Answer) : Spdm.run s h finished f = emit (f s).1 (.spdm (f s).2.1 (f s).2.2) := by
  simp [Spdm.run, hs, hn]

/-- An SPDM request that is served and comes in a session answers sealed. -/
theorem spdm_runIn {s : State} {h : SpdmHead} {id : Nat} {x : Session} {finished : Bool} (hs : Spdm.served s h.i3c = true)
    (hi : h.session = some id) (hx : Spdm.session? s id finished = some x) (f : State → Spdm.Answer) :
    Spdm.run s h finished f = Spdm.sealed (f s).1 x (le 1 5 ++ le 1 (f s).2.1 ++ (f s).2.2) := by
  simp [Spdm.run, hs, hi, hx]

/-- A command marked S runs in a session as one without the mark. -/
theorem mgmt_runS {s : State} {m : MgmtHead} (hs : Mgmt.secured s m = true) (command : Nat) (f : State → State × Nat × Bytes) :
    Mgmt.runS s m command f = Mgmt.run s m command f := by
  simp [Mgmt.runS, hs]

/-- A byte of a scratchpad lies there. -/
theorem locate_spad (q o : Nat) (hq : q < 64) (h : o < 0x600000) : Mem.locate (Mem.spadBase q + o) = .spad q o := by
  have e1 : (0x500000000000 + q * 0x800000 + o - 0x500000000000) % 0x800000 = o := by omega
  have e2 : (0x500000000000 + q * 0x800000 + o - 0x500000000000) / 0x800000 = q := by omega
  unfold Mem.locate Mem.spadBase
  rw [if_neg (by unfold Mem.dramEnd; omega), if_neg (by omega), if_pos (by omega), e1, e2, if_pos h]

/-- A scratchpad is not DRAM. -/
theorem spad_not_dram (q o n : Nat) : Mem.inDram (Mem.spadBase q + o) n = false := by
  unfold Mem.inDram Mem.spadBase Mem.dramEnd
  simp only [decide_eq_false_iff_not]; omega

/-- Bytes of one scratchpad are SRAM. -/
theorem inSram_of_locate {a n k o : Nat} (h : Mem.locate a = .spad k o) (ho : o + n ≤ 0x600000) : Mem.inSram a n = true := by
  simp only [Mem.inSram, h]; exact decide_eq_true ho

/-- A read of SRAM that meets no bad word raises nothing. -/
theorem load_eq {s : State} {a n : Nat} (rq : Mem.Req) (hd : Mem.inDram a n = false) (hs : Mem.inSram a n = true)
    (h : Mem.anyMarked s.mem.badWord 8 a n = false) : (Mem.load s a n false rq).1 = s := by
  have hm : Mem.markedAll s.mem.badWord 8 a n = [] := by simpa [Mem.anyMarked] using h
  have hdr : Mem.drillReads s a n rq = s := by simp [Mem.drillReads, hd]
  simp only [Mem.load, hdr, Mem.look, Mem.inStore, hs, hd, hm]
  simp [Mem.reactRead]

/-- A read of clean words of a scratchpad raises nothing. -/
theorem load_clean (s : State) (q o n : Nat) (rq : Mem.Req) (hq : q < 64) (hn : 0 < n) (ho : o + n ≤ 0x600000)
   (h : Mem.anyMarked s.mem.badWord 8 (Mem.spadBase q + o) n = false) : (Mem.load s (Mem.spadBase q + o) n false rq).1 = s :=
  load_eq rq (spad_not_dram q o n) (inSram_of_locate (locate_spad q o hq (by omega)) ho) h

/-- Descriptors that lie in the table and in no corrupted word are read without an error. -/
theorem descRead_clean {s : State} {x : Ctx} {q : Nat} {rq : Mem.Req} (hq : q < 64) : ∀ ds : List Nat,
    (∀ d ∈ ds, (Operand.descAt s x q d).isSome) → Operand.descBad s x q ds = false → Operand.descRead s x q ds rq = s := by
  intro ds
  induction ds with
  | nil => intros; rfl
  | cons d ds ih =>
    intro hx h
    simp only [Operand.descBad, List.any_cons, Bool.or_eq_false_iff] at h
    have hd := hx d (by simp)
    unfold Operand.descAt at hd; split at hd <;> [skip; simp at hd]
    rename_i hd
    have := load_clean s q (x.fields.descBase + 32 * d) 32 rq hq (by omega) (by omega) (by simpa [Operand.descAddr, Nat.add_assoc] using h.1)
    simp only [Operand.descRead, List.foldl]
    rw [show Operand.descAddr x q d = Mem.spadBase q + (x.fields.descBase + 32 * d) by simp [Operand.descAddr, Nat.add_assoc], this]
    exact ih (fun d hd => hx d (by simp [hd])) (by simpa [Operand.descBad] using h.2)

/-- A packet that is delivered changes the credits of a port, and nothing else. -/
theorem unloaded_eq (s : State) (p : Pkt) : unloaded s p = { s with fabric := (unloaded s p).fabric } := by
  unfold unloaded
  dsimp only
  split <;> rfl

@[simp] theorem unloaded_remote (s : State) (p : Pkt) : (unloaded s p).remote = s.remote := (congrArg State.remote (unloaded_eq s p) :)
@[simp] theorem unloaded_dex (s : State) (p : Pkt) : (unloaded s p).dex = s.dex := (congrArg State.dex (unloaded_eq s p) :)
@[simp] theorem unloaded_resetSeq (s : State) (p : Pkt) : (unloaded s p).resetSeq = s.resetSeq := (congrArg State.resetSeq (unloaded_eq s p) :)
@[simp] theorem unloaded_ns (s : State) (p : Pkt) : (unloaded s p).ns = s.ns := (congrArg State.ns (unloaded_eq s p) :)
@[simp] theorem unloaded_ftime (s : State) (p : Pkt) : (unloaded s p).ftime = s.ftime := (congrArg State.ftime (unloaded_eq s p) :)

end Sys2Proof.Laws
end

