-- ==== Sys2Proof/Laws/Memory.lean ====
section
/-! SUPPORT. Storage (R209, R212, R219): reading a byte after bytes are written, and the canonical form of the cells. -/

namespace Sys2Proof.Machine.Mem

open Bits Ops

/-- Every write of bytes keeps the canonical form. -/
theorem canon_pokeCells {m : SMap Byte} (h : SMap.canon 0#8 m = true) (a : Nat) (d : Bytes) : SMap.canon 0#8 (pokeCells m a d) = true := by
  induction d generalizing m a with
  | nil => exact h
  | cons b r ih => exact ih (SMap.canon_put h a b) (a + 1)

theorem val_pokeCells_below (m : SMap Byte) {a x : Nat} (d : Bytes) (l : x < a) :
    SMap.val 0#8 (pokeCells m a d) x = SMap.val 0#8 m x := by
  induction d generalizing m a with
  | nil => rfl
  | cons b r ih => simp only [pokeCells]; rw [ih _ (by omega), SMap.val_put_ne m b (by omega)]

/-- A byte outside the bytes written keeps its value. -/
theorem val_pokeCells_outside (m : SMap Byte) {a x : Nat} (d : Bytes) (l : x < a ∨ a + d.length ≤ x) :
    SMap.val 0#8 (pokeCells m a d) x = SMap.val 0#8 m x := by
  induction d generalizing m a with
  | nil => rfl
  | cons b r ih =>
    simp only [pokeCells]
    rw [ih _ (by simp only [List.length_cons] at l; omega), SMap.val_put_ne m b (by simp only [List.length_cons] at l; omega)]

/-- A byte written reads as written. -/
theorem val_pokeCells_inside (m : SMap Byte) {a i : Nat} (d : Bytes) (l : i < d.length) :
    SMap.val 0#8 (pokeCells m a d) (a + i) = d[i] := by
  induction d generalizing m a i with
  | nil => simp at l
  | cons b r ih =>
    simp only [pokeCells]
    cases i with
    | zero => rw [val_pokeCells_below _ r (by omega)]; simp
    | succ j =>
      have e : a + (j + 1) = (a + 1) + j := by omega
      rw [e, ih _ (by simpa using l)]
      rfl

theorem wf_poke {s : State} (h : wf s.mem = true) (a : Nat) (d : Bytes) (p : Bool) : wf (poke s a d p).mem = true :=
  canon_pokeCells h a d

/-- A write of bytes leaves every byte outside them as it was. -/
theorem byteAt_poke_outside (s : State) {a x : Nat} (d : Bytes) (p : Bool) (l : x < a ∨ a + d.length ≤ x) :
    byteAt (poke s a d p) x = byteAt s x := val_pokeCells_outside s.mem.cells d l

/-- Bytes written read as written. -/
theorem byteAt_poke_inside (s : State) {a i : Nat} (d : Bytes) (p : Bool) (l : i < d.length) :
    byteAt (poke s a d p) (a + i) = d[i] := val_pokeCells_inside s.mem.cells d l

end Sys2Proof.Machine.Mem
end

