-- ==== Sys2Proof/Laws/Registers.lean ====
section
/-! SUPPORT. What the fields of a register's value are (R11, R503): the one lemma about `word` that the statements on reads rest on. -/

namespace Sys2Proof.Laws

open Sys2Proof.Machine Sys2Proof.Machine.Bits

/-- The fields stand from the top down, apart from each other, below a bit. -/
def tidyBelow : Nat → List (Nat × Nat × Nat) → Bool
  | _, [] => true
  | n, f :: rest => decide (f.2.1 ≤ f.1 ∧ f.1 < n) && tidyBelow f.2.1 rest

theorem word_cons (f : Nat × Nat × Nat) (fs : List (Nat × Nat × Nat)) :
    word (f :: fs) = f.2.2 % 2 ^ (f.1 + 1 - f.2.1) * 2 ^ f.2.1 + word fs := rfl

/-- A tidy word stays below its bound. -/
theorem word_lt : ∀ (fs : List (Nat × Nat × Nat)) (n : Nat), tidyBelow n fs = true → word fs < 2 ^ n
  | [], n, _ => Nat.two_pow_pos n
  | f :: rest, n, h => by
    simp only [tidyBelow, Bool.and_eq_true, decide_eq_true_eq] at h
    have hr := word_lt rest f.2.1 h.2
    have hm : f.2.2 % 2 ^ (f.1 + 1 - f.2.1) < 2 ^ (f.1 + 1 - f.2.1) := Nat.mod_lt _ (Nat.two_pow_pos _)
    have e : (2 : Nat) ^ (f.1 + 1) = 2 ^ (f.1 + 1 - f.2.1) * 2 ^ f.2.1 := by rw [← Nat.pow_add]; congr 1; omega
    have l : (2 : Nat) ^ (f.1 + 1) ≤ 2 ^ n := Nat.pow_le_pow_right (by decide) (by omega)
    have k : (f.2.2 % 2 ^ (f.1 + 1 - f.2.1) + 1) * 2 ^ f.2.1 ≤ 2 ^ (f.1 + 1 - f.2.1) * 2 ^ f.2.1 := Nat.mul_le_mul_right _ hm
    rw [word_cons]
    rw [Nat.add_mul] at k
    omega

/-- The bits of a tidy word: the top field's above its lowest bit, the rest's below. -/
theorem word_testBit (f : Nat × Nat × Nat) (fs : List (Nat × Nat × Nat)) (h : tidyBelow f.2.1 fs = true) (i : Nat) :
    (word (f :: fs)).testBit i =
      if i < f.2.1 then (word fs).testBit i else decide (i ≤ f.1) && f.2.2.testBit (i - f.2.1) := by
  rw [word_cons, Nat.mul_comm, Nat.testBit_two_pow_mul_add _ (word_lt fs _ h)]
  split
  · rfl
  · rw [Nat.testBit_mod_two_pow]
    congr 1
    have : i - f.2.1 < f.1 + 1 - f.2.1 ↔ i ≤ f.1 := by omega
    simp [this]

/-- What stands above every field of a tidy word is zero. -/
theorem word_testBit_out : ∀ (fs : List (Nat × Nat × Nat)) (n i : Nat), tidyBelow n fs = true → (∀ f ∈ fs, i < f.2.1 ∨ f.1 < i) →
    (word fs).testBit i = false
  | [], _, i, _, _ => Nat.zero_testBit i
  | f :: rest, n, i, h, o => by
    simp only [tidyBelow, Bool.and_eq_true, decide_eq_true_eq] at h
    rw [word_testBit f rest h.2]
    split
    · exact word_testBit_out rest _ i h.2 (fun g hg => o g (List.mem_cons_of_mem _ hg))
    · have := o f (List.mem_cons_self)
      have n : ¬ i ≤ f.1 := by omega
      simp [n]

/-- The fields below a bit are below it. -/
theorem tidy_mem : ∀ (fs : List (Nat × Nat × Nat)) (n : Nat) (g : Nat × Nat × Nat), tidyBelow n fs = true → g ∈ fs → g.1 < n
  | f :: rest, n, g, h, m => by
    simp only [tidyBelow, Bool.and_eq_true, decide_eq_true_eq] at h
    rcases List.mem_cons.mp m with rfl | m
    · exact h.1.2
    · have := tidy_mem rest _ g h.2 m
      omega

/-- A field of a tidy word holds what was put there. -/
theorem word_testBit_in : ∀ (fs : List (Nat × Nat × Nat)) (n : Nat) (g : Nat × Nat × Nat) (i : Nat), tidyBelow n fs = true → g ∈ fs →
    g.2.1 ≤ i → i ≤ g.1 → (word fs).testBit i = g.2.2.testBit (i - g.2.1)
  | f :: rest, n, g, i, h, m, lo, hi => by
    simp only [tidyBelow, Bool.and_eq_true, decide_eq_true_eq] at h
    rw [word_testBit f rest h.2]
    rcases List.mem_cons.mp m with rfl | m
    · rw [if_neg (by omega)]; simp [hi]
    · have below : g.1 < f.2.1 := tidy_mem rest _ g h.2 m
      rw [if_pos (by omega)]
      exact word_testBit_in rest _ g i h.2 m lo hi

/-- The value that `word` gives to tidy fields holds them: the one fact about a register's layout. -/
theorem word_holds (fs : List (Nat × Nat × Nat)) (h : tidyBelow 64 fs = true) : Safety.Holds (word fs) fs := by
  refine ⟨word_lt fs 64 h, ?_, fun i o => word_testBit_out fs 64 i h o⟩
  intro f m
  have g := fun i => word_testBit_in fs 64 f i h m
  apply Nat.eq_of_testBit_eq
  intro i
  rw [field, Nat.testBit_mod_two_pow, Nat.testBit_mod_two_pow, Nat.testBit_shiftRight]
  by_cases hi : i < f.1 + 1 - f.2.1
  · simp only [hi, decide_true, Bool.true_and]
    rw [g (f.2.1 + i) (by omega) (by omega)]
    congr 1
    omega
  · simp [hi]

end Sys2Proof.Laws
end

