-- ==== Sys2Proof/Laws/Steady.lean ====
section
/-! SUPPORT. What no operation of the model does, said once: `Steady s t` holds when `t` came from `s` without touching the queue or the
clock, without giving back a free value or an output, with memory kept in its canonical form, and with every register that has a range
kept in it. Every shared operation has a lemma `…_steady` in Laws/SteadyOps.lean; the lemmas compose along the operations a meaning is
made of. -/

namespace Sys2Proof.Laws

open Sys2Proof.Machine Sys2Proof.Safety

/-- What stays true from one state to a later one of the same command. -/
structure Steady (s t : State) : Prop where
  pending : t.pending = s.pending
  ns : t.ns = s.ns
  free : s.free ≤ t.free
  out : s.out <:+ t.out
  mem : Mem.wf s.mem = true → Mem.wf t.mem = true
  scrub : scrubOk s.mem → scrubOk t.mem
  health : healthOk s.health → healthOk t.health
  timeouts : timeoutsOk s.remote → timeoutsOk t.remote
  quantum : quantumOk s.quantum → quantumOk t.quantum
  swapCtl : swapCtlOk s.weevil → swapCtlOk t.weevil
  governor : governorOk s.gov → governorOk t.gov

/-- The outcome is a next state that the operation reached steadily. -/
def Goes (s : State) (o : Host.Outcome State Fault Refusal) : Prop := ∃ t, o = .next t ∧ Steady s t

namespace Steady

theorem refl (s : State) : Steady s s := ⟨rfl, rfl, Nat.le_refl _, List.suffix_rfl, id, id, id, id, id, id, id⟩

theorem trans {a b c : State} (h : Steady a b) (k : Steady b c) : Steady a c :=
  ⟨k.pending.trans h.pending, k.ns.trans h.ns, Nat.le_trans h.free k.free, h.out.trans k.out, fun m => k.mem (h.mem m),
   fun m => k.scrub (h.scrub m), fun m => k.health (h.health m), fun m => k.timeouts (h.timeouts m), fun m => k.quantum (h.quantum m),
   fun m => k.swapCtl (h.swapCtl m), fun m => k.governor (h.governor m)⟩

/-- One nanosecond later, what was steady is steady. -/
theorem later {s t : State} (h : Steady s t) : Steady { s with ns := s.ns + 1 } { t with ns := t.ns + 1 } :=
  ⟨h.pending, congrArg (· + 1) h.ns, h.free, h.out, h.mem, h.scrub, h.health, h.timeouts, h.quantum, h.swapCtl, h.governor⟩

/-- The ranges survive every steady operation. -/
theorem ranges {s t : State} (h : Steady s t) (r : RangesOk s) : RangesOk t :=
  ⟨h.health r.health, h.timeouts r.timeouts, h.scrub r.scrub, h.quantum r.quantum, h.swapCtl r.swapCtl, h.governor r.governor⟩

/-- A record update of fields that `Steady` says nothing of. -/
theorem sameMk {a s : State}
    {x0 : FabTime}
    {x1 : SMap SchedSlot} {x2 : SMap ArrayCore} {x3 : SMap ArrayPhys} {x4 : SMap (List VecOp)} {x5 : SMap RmCore} {x6 : SMap Ctx} {x7 : Nat} {x8 : List Nat} {x23 : SMap IssueRec} {x9 : SMap (Nat × Nat × Nat)} {x10 : SMap Churn} {x11 : SMap W64} {x12 : SMap Press} {x13 : SMap Hive} {x14 : Flags} {x15 : Fabric} {x16 : ErrLog} {x17 : Option ResetSeq} {x18 : Ckpt} {x19 : HostPort} {x20 : Dexhorn} {x21 : Security} {x22 : Power}
    (h : Steady a s) : Steady a { s with
      ftime := x0, sched := x1, arrays := x2, phys := x3, vecq := x4, rm := x5, ctxs := x6, defined := x7, gone := x8, issued := x23, census := x9,
      churns := x10, dacc := x11, presses := x12, hives := x13, flags := x14, fabric := x15, err := x16, resetSeq := x17, ckpt := x18,
      host := x19, dex := x20, sec := x21, power := x22 } :=
  ⟨h.pending, h.ns, h.free, h.out, h.mem, h.scrub, h.health, h.timeouts, h.quantum, h.swapCtl, h.governor⟩

/-- A state built anew from the queue, the clock, the free values and the outputs of another, every other field but four at its reset
value; the Weevil keeps the reset values of ARR_SWAP_CTL. -/
theorem anew {a s t : State} (h : Steady a s) {d : Dexhorn} {x : Security} {p : Power} {w : Weevil} (hw : w.window = 60 ∧ w.count = 2)
    (e : t = { pending := s.pending, ns := s.ns, free := s.free, out := s.out, dex := d, sec := x, power := p, weevil := w }) : Steady a t := by
  subst e
  refine ⟨h.pending, h.ns, h.free, h.out, fun _ => rfl, fun _ => ?_, fun _ => ?_, fun _ => ?_, fun _ => ?_, fun _ => ?_, fun _ => ?_⟩ <;>
    simp [scrubOk, healthOk, timeoutsOk, quantumOk, swapCtlOk, governorOk, limitOk, hw.1, hw.2]

theorem ite {a s t : State} {c : Prop} [Decidable c] (h : Steady a s) (k : Steady a t) : Steady a (if c then s else t) := by
  split
  · exact h
  · exact k

theorem iteFst {α : Type} {a : State} {s t : State × α} {c : Prop} [Decidable c] (h : Steady a s.1) (k : Steady a t.1) :
    Steady a (if c then s else t).1 := by
  split
  · exact h
  · exact k

theorem iteFstNot {α : Type} {a : State} {s t : State × α} {c : Prop} [Decidable c] (h : Steady a s.1) (k : ¬c → Steady a t.1) :
    Steady a (if c then s else t).1 := by
  split
  · exact h
  · rename_i n; exact k n

/-- An option of a state, with another in its place. -/
theorem getD {a s : State} {o : Option State} (h : Steady a s) (k : ∀ t, o = some t → Steady a t) : Steady a (o.getD s) := by
  cases o with
  | none => exact h
  | some t => exact k t rfl

theorem foldl {α : Type} {a : State} {f : State → α → State} {l : List α} : ∀ {s : State}, Steady a s →
    (∀ x y, Steady a x → Steady a (f x y)) → Steady a (l.foldl f s) := by
  induction l with
  | nil => intro s h _; exact h
  | cons y l ih => intro s h k; exact ih (k s y h) k

theorem foldlFst {α β : Type} {a : State} {f : State × β → α → State × β} {l : List α} : ∀ {s : State × β}, Steady a s.1 →
    (∀ x y, Steady a x.1 → Steady a (f x y).1) → Steady a (l.foldl f s).1 := by
  induction l with
  | nil => intro s h _; exact h
  | cons y l ih => intro s h k; exact ih (k s y h) k

end Steady

end Sys2Proof.Laws
end

