-- ==== Sys2Proof/Laws/SteadyOps.lean ====
section
/-! SUPPORT. Every operation and every meaning of the model is steady: one lemma each, in the order of the files of Machine/. -/

namespace Sys2Proof.Laws

open Sys2Proof Machine

set_option linter.unusedTactic false
set_option linter.unreachableTactic false

/-! ## Machine/Ops.lean -/

section

open Machine.Bits Machine.Ops Machine.Report
open Machine.Bits
open Machine.Ops

theorem Ops_emit_steady {a : State} (s : State) (o : Out) (h : Steady a s) : Steady a (Ops.emit s o) :=
  ⟨h.pending, h.ns, h.free, h.out.trans (List.suffix_cons _ _), h.mem, h.scrub, h.health, h.timeouts, h.quantum, h.swapCtl, h.governor⟩

theorem Ops_drawn_steady {a : State} (s : State) (h : Steady a s) : Steady a (Ops.drawn s) :=
  ⟨h.pending, h.ns, Nat.le_succ_of_le h.free, h.out, h.mem, h.scrub, h.health, h.timeouts, h.quantum, h.swapCtl, h.governor⟩

theorem Ops_modMem_steady {a : State} (s : State) (f : Memory → Memory) (h : Steady a s) (k : Mem.wf s.mem = true → Mem.wf (f s.mem) = true)
    (l : Safety.scrubOk s.mem → Safety.scrubOk (f s.mem)) : Steady a (Ops.modMem s f) :=
  ⟨h.pending, h.ns, h.free, h.out, fun w => k (h.mem w), fun w => l (h.scrub w), h.health, h.timeouts, h.quantum, h.swapCtl, h.governor⟩

theorem Ops_modFlags_steady {σ : State} (s : State) (f : Flags → Flags) (hσ : Steady σ s) : Steady σ (Ops.modFlags s f) := by
  unfold Ops.modFlags
  try dsimp only
  repeat' (first | with_reducible assumption | (fail_if_no_progress with_reducible apply Steady.sameMk))

theorem Ops_modRemote_steady {a : State} (s : State) (f : Remote → Remote) (h : Steady a s) (k : Safety.timeoutsOk s.remote → Safety.timeoutsOk (f s.remote)) :
    Steady a (Ops.modRemote s f) :=
  ⟨h.pending, h.ns, h.free, h.out, h.mem, h.scrub, h.health, fun w => k (h.timeouts w), h.quantum, h.swapCtl, h.governor⟩

theorem Ops_modFabric_steady {σ : State} (s : State) (f : Fabric → Fabric) (hσ : Steady σ s) : Steady σ (Ops.modFabric s f) := by
  unfold Ops.modFabric
  try dsimp only
  repeat' (first | with_reducible assumption | (fail_if_no_progress with_reducible apply Steady.sameMk))

theorem Ops_modErr_steady {σ : State} (s : State) (f : ErrLog → ErrLog) (hσ : Steady σ s) : Steady σ (Ops.modErr s f) := by
  unfold Ops.modErr
  try dsimp only
  repeat' (first | with_reducible assumption | (fail_if_no_progress with_reducible apply Steady.sameMk))

theorem Ops_modWeevil_steady {a : State} (s : State) (f : Weevil → Weevil) (h : Steady a s) (k : Safety.swapCtlOk s.weevil → Safety.swapCtlOk (f s.weevil)) :
    Steady a (Ops.modWeevil s f) :=
  ⟨h.pending, h.ns, h.free, h.out, h.mem, h.scrub, h.health, h.timeouts, h.quantum, fun w => k (h.swapCtl w), h.governor⟩

/-- An update of the Weevil that leaves ARR_SWAP_CTL. -/
theorem Ops_setWeevil_steady {a : State} (s : State) (f : Weevil → Weevil) (h : Steady a s)
    (k : ∀ w, (f w).window = w.window ∧ (f w).count = w.count) : Steady a (Ops.modWeevil s f) :=
  Ops_modWeevil_steady s f h (fun w => by simpa [Safety.swapCtlOk, (k _).1, (k _).2] using w)

theorem Ops_modCkpt_steady {σ : State} (s : State) (f : Ckpt → Ckpt) (hσ : Steady σ s) : Steady σ (Ops.modCkpt s f) := by
  unfold Ops.modCkpt
  try dsimp only
  repeat' (first | with_reducible assumption | (fail_if_no_progress with_reducible apply Steady.sameMk))

theorem Ops_modHost_steady {σ : State} (s : State) (f : HostPort → HostPort) (hσ : Steady σ s) : Steady σ (Ops.modHost s f) := by
  unfold Ops.modHost
  try dsimp only
  repeat' (first | with_reducible assumption | (fail_if_no_progress with_reducible apply Steady.sameMk))

theorem Ops_modDex_steady {σ : State} (s : State) (f : Dexhorn → Dexhorn) (hσ : Steady σ s) : Steady σ (Ops.modDex s f) := by
  unfold Ops.modDex
  try dsimp only
  repeat' (first | with_reducible assumption | (fail_if_no_progress with_reducible apply Steady.sameMk))

theorem Ops_modSec_steady {σ : State} (s : State) (f : Security → Security) (hσ : Steady σ s) : Steady σ (Ops.modSec s f) := by
  unfold Ops.modSec
  try dsimp only
  repeat' (first | with_reducible assumption | (fail_if_no_progress with_reducible apply Steady.sameMk))

theorem Ops_modPower_steady {σ : State} (s : State) (f : Power → Power) (hσ : Steady σ s) : Steady σ (Ops.modPower s f) := by
  unfold Ops.modPower
  try dsimp only
  repeat' (first | with_reducible assumption | (fail_if_no_progress with_reducible apply Steady.sameMk))

theorem Ops_modGov_steady {a : State} (s : State) (f : Governor → Governor) (h : Steady a s) (k : Safety.governorOk s.gov → Safety.governorOk (f s.gov)) :
    Steady a (Ops.modGov s f) :=
  ⟨h.pending, h.ns, h.free, h.out, h.mem, h.scrub, h.health, h.timeouts, h.quantum, h.swapCtl, fun w => k (h.governor w)⟩

theorem Ops_modTime_steady {σ : State} (s : State) (f : FabTime → FabTime) (hσ : Steady σ s) : Steady σ (Ops.modTime s f) := by
  unfold Ops.modTime
  try dsimp only
  repeat' (first | with_reducible assumption | (fail_if_no_progress with_reducible apply Steady.sameMk))

theorem Ops_modCtx_steady {σ : State} (s : State) (c : Nat) (f : Ctx → Ctx) (hσ : Steady σ s) : Steady σ (Ops.modCtx s c f) := by
  unfold Ops.modCtx
  try dsimp only
  repeat' (first | with_reducible assumption | split | (fail_if_no_progress with_reducible apply Steady.sameMk))

theorem Ops_modCore_steady {σ : State} (s : State) (c q : Nat) (f : CoreCtx → CoreCtx) (hσ : Steady σ s) : Steady σ (Ops.modCore s c q f) := by
  unfold Ops.modCore
  try dsimp only
  repeat' (first | with_reducible assumption | with_reducible apply Ops_modCtx_steady | (fail_if_no_progress with_reducible apply Steady.sameMk) | intro _)

theorem Ops_modStream_steady {σ : State} (s : State) (c q t : Nat) (f : StreamState → StreamState) (hσ : Steady σ s) : Steady σ (Ops.modStream s c q t f) := by
  unfold Ops.modStream
  try dsimp only
  repeat' (first | with_reducible assumption | with_reducible apply Ops_modCore_steady | (fail_if_no_progress with_reducible apply Steady.sameMk) | intro _)

theorem Ops_modStep_steady {σ : State} (s : State) (c : Nat) (f : StepState → StepState) (hσ : Steady σ s) : Steady σ (Ops.modStep s c f) := by
  unfold Ops.modStep
  try dsimp only
  repeat' (first | with_reducible assumption | with_reducible apply Ops_modCtx_steady | (fail_if_no_progress with_reducible apply Steady.sameMk) | intro _)

theorem Ops_fromHost_steady {a : State} (s t : State) (h : Steady a s) (k : Steady a t) : Steady a (Ops.fromHost s t) := by
  unfold Ops.fromHost
  exact Steady.ite k (Steady.ite (Ops_emit_steady _ _ h) h)


theorem Ops_setRing_steady {σ : State} (s : State) (r : Nat) (x : Ring) (hσ : Steady σ s) : Steady σ (Ops.setRing s r x) := by
  unfold Ops.setRing
  try dsimp only
  repeat' (first | with_reducible assumption | with_reducible apply Ops_modHost_steady | (fail_if_no_progress with_reducible apply Steady.sameMk) | intro _)

theorem Ops_modRing_steady {σ : State} (s : State) (r : Nat) (f : Ring → Ring) (hσ : Steady σ s) : Steady σ (Ops.modRing s r f) := by
  unfold Ops.modRing
  try dsimp only
  repeat' (first | with_reducible assumption | with_reducible apply Ops_setRing_steady)

theorem Ops_signal_steady {σ : State} (s : State) (v : Nat) (hσ : Steady σ s) : Steady σ (Ops.signal s v) := by
  unfold Ops.signal
  try dsimp only
  repeat' (first | with_reducible assumption | with_reducible apply Ops_modHost_steady | with_reducible apply Ops_emit_steady | with_reducible apply Steady.ite | with_reducible apply Steady.iteFst | split | (fail_if_no_progress with_reducible apply Steady.sameMk) | intro _)

theorem Ops_stopRing_steady {σ : State} (s : State) (r code : Nat) (hσ : Steady σ s) : Steady σ (Ops.stopRing s r code) := by
  unfold Ops.stopRing
  try dsimp only
  repeat' (first | with_reducible assumption | with_reducible apply Ops_modRing_steady | (fail_if_no_progress with_reducible apply Steady.sameMk) | intro _)

theorem Ops_emitEntry_steady {σ : State} (s : State) (r slot : Nat) (b : Bytes) (hσ : Steady σ s) : Steady σ (Ops.emitEntry s r slot b) := by
  unfold Ops.emitEntry
  try dsimp only
  repeat' (first | with_reducible assumption | with_reducible apply Ops_emit_steady)

theorem Ops_writeCq_steady {σ : State} (s : State) (r : Nat) (e : CqEntry) (hσ : Steady σ s) : Steady σ (Ops.writeCq s r e) := by
  unfold Ops.writeCq
  try dsimp only
  repeat' (first | with_reducible assumption | with_reducible apply Ops_emitEntry_steady | with_reducible apply Ops_setRing_steady | with_reducible apply Ops_signal_steady | with_reducible apply Steady.ite | with_reducible apply Steady.iteFst | split | (fail_if_no_progress with_reducible apply Steady.sameMk))

theorem Ops_putCq_steady {σ : State} (s : State) (r : Nat) (e : CqEntry) (ok : Bool) (hσ : Steady σ s) : Steady σ (Ops.putCq s r e ok) := by
  unfold Ops.putCq
  try dsimp only
  repeat' (first | with_reducible assumption | with_reducible apply Ops_writeCq_steady | with_reducible apply Ops_stopRing_steady | with_reducible apply Steady.ite | with_reducible apply Steady.iteFst | split)

theorem Ops_postCq_steady {σ : State} (s : State) (r : Nat) (isDesc : Bool) (e : CqEntry) (ok : Bool := true) (hσ : Steady σ s) : Steady σ (Ops.postCq s r isDesc e ok) := by
  unfold Ops.postCq
  try dsimp only
  repeat' (first | with_reducible assumption | with_reducible apply Ops_putCq_steady | with_reducible apply Ops_setRing_steady | with_reducible apply Steady.ite | with_reducible apply Steady.iteFst | split | (fail_if_no_progress with_reducible apply Steady.sameMk) | intro _)

theorem Ops_flushHeld_steady {a : State} (n : Nat) (s : State) (r : Nat) (ok : Bool) (h : Steady a s) : Steady a (Ops.flushHeld n s r ok) := by
  induction n generalizing s with
  | zero => exact h
  | succ n ih =>
    simp only [Ops.flushHeld]
    split
    · exact h
    · exact Steady.ite h (Steady.ite (ih _ (Ops_putCq_steady _ _ _ _ (Ops_setRing_steady _ _ _ h))) h)


theorem Ops_postCtx_steady {σ : State} (s : State) (c : Nat) (e : CqEntry) (hσ : Steady σ s) : Steady σ (Ops.postCtx s c e) := by
  unfold Ops.postCtx
  try dsimp only
  repeat' (first | with_reducible assumption | with_reducible apply Ops_postCq_steady | split | (fail_if_no_progress with_reducible apply Steady.sameMk))

theorem Ops_fetch_steady {σ : State} (s : State) (r : Nat) (ok : Bool) (hσ : Steady σ s) : Steady σ (Ops.fetch s r ok) := by
  unfold Ops.fetch
  try dsimp only
  repeat' (first | with_reducible assumption | with_reducible apply Ops_setRing_steady | with_reducible apply Ops_stopRing_steady | with_reducible apply Steady.ite | with_reducible apply Steady.iteFst | split | (fail_if_no_progress with_reducible apply Steady.sameMk))

theorem Ops_endDesc_steady {σ : State} (s : State) (r t status : Nat) (body : List (Nat × Bytes)) (hσ : Steady σ s) : Steady σ (Ops.endDesc s r t status body) := by
  unfold Ops.endDesc
  try dsimp only
  repeat' (first | with_reducible assumption | with_reducible apply Ops_setRing_steady | with_reducible apply Ops_postCq_steady | with_reducible apply Ops_fetch_steady | with_reducible apply Steady.ite | with_reducible apply Steady.iteFst | split | (fail_if_no_progress with_reducible apply Steady.sameMk) | intro _)

theorem Ops_modProg_steady {σ : State} (s : State) (r t : Nat) (f : InProgress → InProgress) (hσ : Steady σ s) : Steady σ (Ops.modProg s r t f) := by
  unfold Ops.modProg
  try dsimp only
  repeat' (first | with_reducible assumption | with_reducible apply Ops_modRing_steady | (fail_if_no_progress with_reducible apply Steady.sameMk) | intro _)

theorem Ops_sendPkt_steady {σ : State} (s : State) (p : Pkt) (hσ : Steady σ s) : Steady σ (Ops.sendPkt s p) := by
  unfold Ops.sendPkt
  try dsimp only
  repeat' (first | with_reducible assumption | with_reducible apply Ops_modFabric_steady | (fail_if_no_progress with_reducible apply Steady.sameMk) | intro _)

theorem Ops_answer_steady {σ : State} (s : State) (q : Pkt) (status : Nat) (hσ : Steady σ s) : Steady σ (Ops.answer s q status) := by
  unfold Ops.answer
  try dsimp only
  repeat' (first | with_reducible assumption | with_reducible apply Ops_sendPkt_steady | with_reducible apply Steady.ite | with_reducible apply Steady.iteFst | split | (fail_if_no_progress with_reducible apply Steady.sameMk))

theorem Ops_setPair_steady {σ : State} (s : State) (k : Nat) (x : Pair) (hσ : Steady σ s) : Steady σ (Ops.setPair s k x) := by
  unfold Ops.setPair
  try dsimp only
  repeat' (first | with_reducible assumption | (intro w; exact ⟨w.1, w.2⟩) | (intro w; unfold Mem.wf at w ⊢; exact w) | with_reducible apply Ops_modRemote_steady | (fail_if_no_progress with_reducible apply Steady.sameMk) | intro _)

theorem Ops_setPort_steady {σ : State} (s : State) (p : Nat) (x : Port) (hσ : Steady σ s) : Steady σ (Ops.setPort s p x) := by
  unfold Ops.setPort
  try dsimp only
  repeat' (first | with_reducible assumption | with_reducible apply Ops_modFabric_steady | (fail_if_no_progress with_reducible apply Steady.sameMk) | intro _)

theorem Ops_modPort_steady {σ : State} (s : State) (p : Nat) (g : Port → Port) (hσ : Steady σ s) : Steady σ (Ops.modPort s p g) := by
  unfold Ops.modPort
  try dsimp only
  repeat' (first | with_reducible assumption | with_reducible apply Ops_setPort_steady)

theorem Ops_freed_steady {σ : State} (s : State) (q b n : Nat) (hσ : Steady σ s) : Steady σ (Ops.freed s q b n) := by
  unfold Ops.freed
  try dsimp only
  repeat' (first | with_reducible assumption | with_reducible apply Ops_modPort_steady | (fail_if_no_progress with_reducible apply Steady.sameMk) | intro _)

theorem Ops_freeOrigins_steady {σ : State} (s : State) (fs : List QueuedFlit) (hσ : Steady σ s) : Steady σ (Ops.freeOrigins s fs) := by
  unfold Ops.freeOrigins
  try dsimp only
  repeat' (first | with_reducible assumption | with_reducible apply Ops_freed_steady | split | (with_reducible apply Steady.foldl <;> intros) | (with_reducible apply Steady.foldlFst <;> intros) | (fail_if_no_progress with_reducible apply Steady.sameMk) | intro _)

theorem Ops_unloaded_steady {σ : State} (s : State) (p : Pkt) (hσ : Steady σ s) : Steady σ (Ops.unloaded s p) := by
  unfold Ops.unloaded
  try dsimp only
  repeat' (first | with_reducible assumption | with_reducible apply Ops_freed_steady | split | intro _)

theorem Ops_sendControl_steady {σ : State} (s : State) (p : Nat) (b : Bytes) (hσ : Steady σ s) : Steady σ (Ops.sendControl s p b) := by
  unfold Ops.sendControl
  try dsimp only
  repeat' (first | with_reducible assumption | with_reducible apply Ops_emit_steady | with_reducible apply Ops_modPort_steady | (fail_if_no_progress with_reducible apply Steady.sameMk) | intro _)

theorem Ops_sendFirefly_steady {σ : State} (s : State) (p : Nat) (b : Bytes) (hσ : Steady σ s) : Steady σ (Ops.sendFirefly s p b) := by
  unfold Ops.sendFirefly
  try dsimp only
  repeat' (first | with_reducible assumption | with_reducible apply Ops_emit_steady | with_reducible apply Ops_modPort_steady | (fail_if_no_progress with_reducible apply Steady.sameMk) | intro _)

theorem Ops_sendControls_steady {σ : State} (s : State) (ps : List Nat) (b : Bytes) (hσ : Steady σ s) : Steady σ (Ops.sendControls s ps b) := by
  unfold Ops.sendControls
  try dsimp only
  repeat' (first | with_reducible assumption | with_reducible apply Ops_sendControl_steady | (with_reducible apply Steady.foldl <;> intros) | (with_reducible apply Steady.foldlFst <;> intros) | intro _)

end

/-! ## Machine/Report.lean -/

section

open Machine.Bits Machine.Ops Machine.Report
open Machine.Bits Machine.Ops
open Machine.Report

theorem Report_logWrite_steady {σ : State} (s : State) (r : ErrRec) (hσ : Steady σ s) : Steady σ (Report.logWrite s r) := by
  unfold Report.logWrite
  try dsimp only
  repeat' (first | with_reducible assumption | with_reducible apply Ops_emit_steady | with_reducible apply Ops_modErr_steady | with_reducible apply Steady.ite | with_reducible apply Steady.iteFst | split | (fail_if_no_progress with_reducible apply Steady.sameMk) | intro _)

theorem Report_logRec_steady {σ : State} (s : State) (r : ErrRec) (hσ : Steady σ s) : Steady σ (Report.logRec s r) := by
  unfold Report.logRec
  try dsimp only
  repeat' (first | with_reducible assumption | with_reducible apply Ops_modErr_steady | (fail_if_no_progress with_reducible apply Steady.sameMk) | intro _)

theorem Report_logOne_steady {σ : State} (s : State) (r : ErrRec) (hσ : Steady σ s) : Steady σ (Report.logOne s r) := by
  unfold Report.logOne
  try dsimp only
  repeat' (first | with_reducible assumption | with_reducible apply Report_logWrite_steady | with_reducible apply Ops_modErr_steady | with_reducible apply Steady.ite | with_reducible apply Steady.iteFst | split | (fail_if_no_progress with_reducible apply Steady.sameMk) | intro _)

theorem Report_flushLog_steady {a : State} (n : Nat) (s : State) (h : Steady a s) : Steady a (Report.flushLog n s) := by
  induction n generalizing s with
  | zero => exact h
  | succ n ih =>
    simp only [Report.flushLog]
    split
    · exact h
    · split
      · exact ih _ (Report_logWrite_steady _ _ (Ops_modErr_steady _ _ h))
      · exact h

theorem Report_endCycle_steady {σ : State} (s : State) (hσ : Steady σ s) : Steady σ (Report.endCycle s) := by
  unfold Report.endCycle
  try dsimp only
  repeat' (first | with_reducible assumption | with_reducible apply Report_logOne_steady | with_reducible apply Ops_modErr_steady | (with_reducible apply Steady.foldl <;> intros) | (with_reducible apply Steady.foldlFst <;> intros) | (fail_if_no_progress with_reducible apply Steady.sameMk) | intro _)

theorem Report_notify_steady {σ : State} (s : State) (kind : Nat) (data : Bytes) (hσ : Steady σ s) : Steady σ (Report.notify s kind data) := by
  unfold Report.notify
  try dsimp only
  repeat' (first | with_reducible assumption | with_reducible apply Ops_emit_steady | with_reducible apply Steady.ite | with_reducible apply Steady.iteFst | split)

theorem Report_addEvent_steady {σ : State} (s : State) (w : Nat) (hσ : Steady σ s) : Steady σ (Report.addEvent s w) := by
  unfold Report.addEvent
  try dsimp only
  repeat' (first | with_reducible assumption | with_reducible apply Ops_modDex_steady | with_reducible apply Steady.ite | with_reducible apply Steady.iteFst | split | (fail_if_no_progress with_reducible apply Steady.sameMk) | intro _)

theorem Report_addCorrected_steady {σ : State} (s : State) (n : Nat) (hσ : Steady σ s) : Steady σ (Report.addCorrected s n) := by
  unfold Report.addCorrected
  try dsimp only
  repeat' (first | with_reducible assumption | with_reducible apply Ops_modDex_steady | (fail_if_no_progress with_reducible apply Steady.sameMk) | intro _)

theorem Report_setFail_steady {σ : State} (s : State) (c bitNo : Nat) (hσ : Steady σ s) : Steady σ (Report.setFail s c bitNo) := by
  unfold Report.setFail
  try dsimp only
  repeat' (first | with_reducible assumption | with_reducible apply Ops_modStep_steady | with_reducible apply Steady.ite | with_reducible apply Steady.iteFst | split | (fail_if_no_progress with_reducible apply Steady.sameMk) | intro _)

theorem Report_abortProg_steady {σ : State} (s : State) (c : Nat) (which : InProgress → Bool) (hσ : Steady σ s) : Steady σ (Report.abortProg s c which) := by
  unfold Report.abortProg
  try dsimp only
  repeat' (first | with_reducible assumption | with_reducible apply Ops_endDesc_steady | with_reducible apply Steady.ite | with_reducible apply Steady.iteFst | split | (with_reducible apply Steady.foldl <;> intros) | (with_reducible apply Steady.foldlFst <;> intros) | intro _)

theorem Report_faultCore_steady {σ : State} (s : State) (c q : Nat) (hσ : Steady σ s) : Steady σ (Report.faultCore s c q) := by
  unfold Report.faultCore
  try dsimp only
  repeat' (first | with_reducible assumption | with_reducible apply Ops_modCtx_steady | with_reducible apply Report_abortProg_steady | with_reducible apply Report_setFail_steady | with_reducible apply Steady.ite | with_reducible apply Steady.iteFst | split | (fail_if_no_progress with_reducible apply Steady.sameMk) | intro _)

theorem Report_freshPackage_steady {a : State} (s : State) (h : Steady a s) : Steady a (Report.freshPackage s) :=
  Steady.anew h (w := { since := s.dex.powered }) ⟨rfl, rfl⟩ rfl


theorem Report_assertion_steady {σ : State} (s : State) (cold : Nat) (hσ : Steady σ s) : Steady σ (Report.assertion s cold) := by
  unfold Report.assertion
  try dsimp only
  repeat' (first | with_reducible assumption | with_reducible apply Report_freshPackage_steady | (fail_if_no_progress with_reducible apply Steady.sameMk))

theorem Report_packageReset_steady {σ : State} (s : State) (cause cls : Nat) (hσ : Steady σ s) : Steady σ (Report.packageReset s cause cls) := by
  unfold Report.packageReset
  try dsimp only
  repeat' (first | with_reducible assumption | with_reducible apply Report_assertion_steady | with_reducible apply Ops_modDex_steady | (fail_if_no_progress with_reducible apply Steady.sameMk) | intro _)

theorem Report_railsOff_steady {σ : State} (s : State) (st : MgmtState) (hσ : Steady σ s) : Steady σ (Report.railsOff s st) := by
  unfold Report.railsOff
  try dsimp only
  repeat' (first | with_reducible assumption | with_reducible apply Ops_modPower_steady | with_reducible apply Ops_modDex_steady | with_reducible apply Report_freshPackage_steady | (fail_if_no_progress with_reducible apply Steady.sameMk) | intro _)

theorem Report_enterState_steady {σ : State} (s : State) (st : MgmtState) (hσ : Steady σ s) : Steady σ (Report.enterState s st) := by
  unfold Report.enterState
  try dsimp only
  repeat' (first | with_reducible assumption | with_reducible apply Report_notify_steady | with_reducible apply Ops_modDex_steady | (fail_if_no_progress with_reducible apply Steady.sameMk) | intro _)

theorem Report_declareFailed_steady {σ : State} (s : State) (hσ : Steady σ s) : Steady σ (Report.declareFailed s) := by
  unfold Report.declareFailed
  try dsimp only
  repeat' (first | with_reducible assumption | with_reducible apply Report_notify_steady | with_reducible apply Report_railsOff_steady)

theorem Report_fenceHeld_steady {σ : State} (s : State) (hσ : Steady σ s) : Steady σ (Report.fenceHeld s) := by
  unfold Report.fenceHeld
  try dsimp only
  repeat' (first | with_reducible assumption | (intro w; exact ⟨w.1, w.2⟩) | (intro w; unfold Mem.wf at w ⊢; exact w) | with_reducible apply Ops_answer_steady | with_reducible apply Ops_modRemote_steady | (with_reducible apply Steady.foldl <;> intros) | (with_reducible apply Steady.foldlFst <;> intros) | (fail_if_no_progress with_reducible apply Steady.sameMk) | intro _)

theorem Report_fenceHost_steady {σ : State} (s : State) (hσ : Steady σ s) : Steady σ (Report.fenceHost s) := by
  unfold Report.fenceHost
  try dsimp only
  repeat' (first | with_reducible assumption | with_reducible apply Ops_endDesc_steady | (with_reducible apply Steady.foldl <;> intros) | (with_reducible apply Steady.foldlFst <;> intros) | intro _)

theorem Report_fence_steady {σ : State} (s : State) (q : ResetSeq) (hσ : Steady σ s) : Steady σ (Report.fence s q) := by
  unfold Report.fence
  try dsimp only
  repeat' (first | with_reducible assumption | with_reducible apply Ops_modFabric_steady | with_reducible apply Ops_sendControls_steady | with_reducible apply Report_fenceHost_steady | with_reducible apply Report_fenceHeld_steady | (fail_if_no_progress with_reducible apply Steady.sameMk) | intro _)

theorem Report_trigger_steady {σ : State} (s : State) (abort cause cls : Nat) (failed : Bool) (hσ : Steady σ s) : Steady σ (Report.trigger s abort cause cls failed) := by
  unfold Report.trigger
  try dsimp only
  repeat' (first | with_reducible assumption | with_reducible apply Ops_modDex_steady | with_reducible apply Report_fence_steady | with_reducible apply Report_declareFailed_steady | with_reducible apply Report_packageReset_steady | with_reducible apply Steady.ite | with_reducible apply Steady.iteFst | split | (fail_if_no_progress with_reducible apply Steady.sameMk) | intro _)

theorem Report_record_steady {σ : State} (s : State) (r : ErrRec) (hσ : Steady σ s) : Steady σ (Report.record s r) := by
  unfold Report.record
  try dsimp only
  repeat' (first | with_reducible assumption | with_reducible apply Report_logRec_steady | with_reducible apply Ops_modDex_steady | with_reducible apply Report_notify_steady | with_reducible apply Ops_postCtx_steady | with_reducible apply Steady.ite | with_reducible apply Steady.iteFst | split | (fail_if_no_progress with_reducible apply Steady.sameMk) | intro _)

theorem Report_raise_steady {σ : State} (s : State) (r : ErrRec) (effect : Nat) (drill : Bool := false) (hσ : Steady σ s) : Steady σ (Report.raise s r effect drill) := by
  unfold Report.raise
  try dsimp only
  repeat' (first | with_reducible assumption | with_reducible apply Report_record_steady | with_reducible apply Report_addEvent_steady | with_reducible apply Report_setFail_steady | with_reducible apply Report_trigger_steady | with_reducible apply Steady.ite | with_reducible apply Steady.iteFst | split)

theorem Report_countUnmapped_steady {σ : State} (s : State) (hσ : Steady σ s) : Steady σ (Report.countUnmapped s) := by
  unfold Report.countUnmapped
  try dsimp only
  repeat' (first | with_reducible assumption | (intro w; exact ⟨w.1, w.2⟩) | (intro w; unfold Mem.wf at w ⊢; exact w) | with_reducible apply Ops_modMem_steady | (fail_if_no_progress with_reducible apply Steady.sameMk) | intro _)

theorem Report_lateRecord_steady {σ : State} (s : State) (r : ErrRec) (drill : Bool := false) (hσ : Steady σ s) : Steady σ (Report.lateRecord s r drill) := by
  unfold Report.lateRecord
  try dsimp only
  repeat' (first | with_reducible assumption | with_reducible apply Report_record_steady | with_reducible apply Steady.ite | with_reducible apply Steady.iteFst | split | (fail_if_no_progress with_reducible apply Steady.sameMk))

end

/-! ## Machine/Memory.lean -/

section

open Machine.Bits Machine.Ops Machine.Report
open Machine.Bits Machine.Ops Machine.Report
open Machine.Mem

theorem Mem_corrected_steady {σ : State} (s : State) (a : Nat) (scrub drill : Bool) (q : Req) (hσ : Steady σ s) : Steady σ (Mem.corrected s a scrub drill q) := by
  unfold Mem.corrected
  try dsimp only
  repeat' (first | with_reducible assumption | (intro w; exact ⟨w.1, w.2⟩) | (intro w; unfold Mem.wf at w ⊢; exact w) | with_reducible apply Report_addCorrected_steady | with_reducible apply Ops_modMem_steady | with_reducible apply Report_raise_steady | with_reducible apply Ops_drawn_steady | with_reducible apply Steady.ite | with_reducible apply Steady.iteFst | split | (fail_if_no_progress with_reducible apply Steady.sameMk) | intro _)

theorem Mem_loseChannel_steady {σ : State} (s : State) (i a : Nat) (scrub : Bool) (q : Req) (symbols : Nat) (hσ : Steady σ s) : Steady σ (Mem.loseChannel s i a scrub q symbols) := by
  unfold Mem.loseChannel
  try dsimp only
  repeat' (first | with_reducible assumption | with_reducible apply Ops_modDex_steady | with_reducible apply Report_raise_steady | with_reducible apply Steady.ite | with_reducible apply Steady.iteFst | split | (fail_if_no_progress with_reducible apply Steady.sameMk) | intro _)

theorem Mem_uncorrectable_steady {σ : State} (s : State) (a : Nat) (scrub : Bool) (q : Req) (hσ : Steady σ s) : Steady σ (Mem.uncorrectable s a scrub q) := by
  unfold Mem.uncorrectable
  try dsimp only
  repeat' (first | with_reducible assumption | (intro w; exact ⟨w.1, w.2⟩) | (intro w; unfold Mem.wf at w ⊢; exact w) | with_reducible apply Ops_modMem_steady | with_reducible apply Report_raise_steady | with_reducible apply Ops_drawn_steady | with_reducible apply Mem_loseChannel_steady | with_reducible apply Steady.ite | with_reducible apply Steady.iteFst | split | (fail_if_no_progress with_reducible apply Steady.sameMk) | intro _)

theorem Mem_sramError_steady {σ : State} (s : State) (a bank idx : Nat) (q : Req) (hσ : Steady σ s) : Steady σ (Mem.sramError s a bank idx q) := by
  unfold Mem.sramError
  try dsimp only
  repeat' (first | with_reducible assumption | with_reducible apply Report_raise_steady)

theorem Mem_badSram_steady {σ : State} (s : State) (a : Nat) (q : Req) (hσ : Steady σ s) : Steady σ (Mem.badSram s a q) := by
  unfold Mem.badSram
  try dsimp only
  repeat' (first | with_reducible assumption | (intro w; exact ⟨w.1, w.2⟩) | (intro w; unfold Mem.wf at w ⊢; exact w) | with_reducible apply Ops_modMem_steady | with_reducible apply Mem_sramError_steady | with_reducible apply Ops_modDex_steady | split | (fail_if_no_progress with_reducible apply Steady.sameMk) | intro _)

theorem Mem_countCorrected_steady {σ : State} (s : State) (a : Nat) (scrub : Bool) (q : Req) (hσ : Steady σ s) : Steady σ (Mem.countCorrected s a scrub q) := by
  unfold Mem.countCorrected
  try dsimp only
  repeat' (first | with_reducible assumption | (intro w; exact ⟨w.1, w.2⟩) | (intro w; unfold Mem.wf at w ⊢; exact w) | with_reducible apply Mem_corrected_steady | with_reducible apply Report_addCorrected_steady | with_reducible apply Ops_modMem_steady | split | (fail_if_no_progress with_reducible apply Steady.sameMk) | intro _)

theorem Mem_report1_steady {σ : State} (s : State) (q : Req) (h : CodeHit) (hσ : Steady σ s) : Steady σ (Mem.report1 s q h) := by
  unfold Mem.report1
  try dsimp only
  repeat' (first | with_reducible assumption | (intro w; exact ⟨w.1, w.2⟩) | (intro w; unfold Mem.wf at w ⊢; exact w) | with_reducible apply Mem_corrected_steady | with_reducible apply Mem_countCorrected_steady | with_reducible apply Mem_uncorrectable_steady | with_reducible apply Ops_modMem_steady | with_reducible apply Mem_badSram_steady | with_reducible apply Mem_loseChannel_steady | split | (fail_if_no_progress with_reducible apply Steady.sameMk) | intro _)

theorem Mem_inject_steady {σ : State} (s : State) (hits : List CodeHit) (q : Req) (hσ : Steady σ s) : Steady σ (Mem.inject s hits q) := by
  unfold Mem.inject
  try dsimp only
  repeat' (first | with_reducible assumption | with_reducible apply Mem_report1_steady | (with_reducible apply Steady.foldl <;> intros) | (with_reducible apply Steady.foldlFst <;> intros) | intro _)

theorem Mem_checkFail_steady {σ : State} (s : State) (a : Nat) (q : Req) (hσ : Steady σ s) : Steady σ (Mem.checkFail s a q) := by
  unfold Mem.checkFail
  try dsimp only
  repeat' (first | with_reducible assumption | with_reducible apply Report_raise_steady)

theorem Mem_drillReads_steady {σ : State} (s : State) (a n : Nat) (q : Req) (hσ : Steady σ s) : Steady σ (Mem.drillReads s a n q) := by
  unfold Mem.drillReads
  try dsimp only
  repeat' (first | with_reducible assumption | (intro w; exact ⟨w.1, w.2⟩) | (intro w; unfold Mem.wf at w ⊢; exact w) | with_reducible apply Mem_corrected_steady | with_reducible apply Ops_modMem_steady | with_reducible apply Steady.ite | with_reducible apply Steady.iteFst | split | (with_reducible apply Steady.foldl <;> intros) | (with_reducible apply Steady.foldlFst <;> intros) | (fail_if_no_progress with_reducible apply Steady.sameMk) | intro _)

theorem Mem_reactRead_steady {σ : State} (s : State) (a n : Nat) (r : Read) (q : Req) (hσ : Steady σ s) : Steady σ (Mem.reactRead s a n r q) := by
  unfold Mem.reactRead
  try dsimp only
  repeat' (first | with_reducible assumption | with_reducible apply Report_countUnmapped_steady | with_reducible apply Mem_uncorrectable_steady | with_reducible apply Mem_badSram_steady | with_reducible apply Mem_checkFail_steady | with_reducible apply Steady.ite | with_reducible apply Steady.iteFst | split | (with_reducible apply Steady.foldl <;> intros) | (with_reducible apply Steady.foldlFst <;> intros) | intro _)

theorem Mem_load_steady {σ : State} (s : State) (a n : Nat) (verify : Bool) (q : Req) (hσ : Steady σ s) : Steady σ (Mem.load s a n verify q).1 := by
  unfold Mem.load
  try dsimp only
  repeat' (first | with_reducible assumption | with_reducible apply Mem_drillReads_steady | with_reducible apply Mem_reactRead_steady)

theorem Mem_poke_steady {a : State} (s : State) (x : Nat) (data : Bytes) (press : Bool) (h : Steady a s) : Steady a (Mem.poke s x data press) := by
  unfold Mem.poke
  refine Ops_modMem_steady s _ h ?_ ?_
  · intro w; exact Mem.canon_pokeCells w x data
  · intro w; exact ⟨w.1, w.2⟩

theorem Mem_reactWrite_steady {σ : State} (s : State) (a n : Nat) (q : Req) (hσ : Steady σ s) : Steady σ (Mem.reactWrite s a n q) := by
  unfold Mem.reactWrite
  try dsimp only
  repeat' (first | with_reducible assumption | with_reducible apply Mem_checkFail_steady | with_reducible apply Mem_uncorrectable_steady | with_reducible apply Mem_badSram_steady | with_reducible apply Steady.ite | with_reducible apply Steady.iteFst | split | (with_reducible apply Steady.foldl <;> intros) | (with_reducible apply Steady.foldlFst <;> intros) | intro _)

theorem Mem_storeRaw_steady {σ : State} (s : State) (a : Nat) (data : Bytes) (press : Bool) (q : Req) (hσ : Steady σ s) : Steady σ (Mem.storeRaw s a data press q).1 := by
  unfold Mem.storeRaw
  try dsimp only
  repeat' (first | with_reducible assumption | with_reducible apply Report_countUnmapped_steady | with_reducible apply Mem_poke_steady | with_reducible apply Mem_reactWrite_steady | with_reducible apply Steady.ite | with_reducible apply Steady.iteFst | split)

theorem Mem_clearRecords_steady {a : State} (s : State) (x n : Nat) (h : Steady a s) : Steady a (Mem.clearRecords s x n) := by
  unfold Mem.clearRecords
  refine Steady.ite (Ops_modMem_steady s _ h ?_ ?_) h
  · intro w; exact SMap.canon_filter w _
  · intro w; exact ⟨w.1, w.2⟩

theorem Mem_store_steady {σ : State} (s : State) (a : Nat) (data : Bytes) (press : Bool) (q : Req) (hσ : Steady σ s) : Steady σ (Mem.store s a data press q).1 := by
  unfold Mem.store
  try dsimp only
  repeat' (first | with_reducible assumption | with_reducible apply Mem_storeRaw_steady | with_reducible apply Mem_clearRecords_steady)

theorem Mem_store'_steady {σ : State} (s : State) (a : Nat) (data : Bytes) (q : Req) (hσ : Steady σ s) : Steady σ (Mem.store' s a data q) := by
  unfold Mem.store'
  try dsimp only
  repeat' (first | with_reducible assumption | with_reducible apply Mem_store_steady)

theorem Mem_storeMap_steady {σ : State} (s : State) (m : SMap Byte) (q : Req) (hσ : Steady σ s) : Steady σ (Mem.storeMap s m q) := by
  unfold Mem.storeMap
  try dsimp only
  repeat' (first | with_reducible assumption | with_reducible apply Mem_store'_steady | (with_reducible apply Steady.foldl <;> intros) | (with_reducible apply Steady.foldlFst <;> intros) | intro _)

theorem Mem_poisonAll_steady {σ : State} (s : State) (a n : Nat) (hσ : Steady σ s) : Steady σ (Mem.poisonAll s a n) := by
  unfold Mem.poisonAll
  try dsimp only
  repeat' (first | with_reducible assumption | (intro w; exact ⟨w.1, w.2⟩) | (intro w; unfold Mem.wf at w ⊢; exact w) | with_reducible apply Ops_modMem_steady | (fail_if_no_progress with_reducible apply Steady.sameMk) | intro _)

end

/-! ## Machine/Operands.lean -/

section

open Machine.Bits Machine.Ops Machine.Report
open Machine.Bits Machine.Ops Machine.Report Machine.Numeric
open Machine.Operand

theorem Operand_descRead_steady {σ : State} (s : State) (x : Ctx) (q : Nat) (idx : List Nat) (rq : Mem.Req) (hσ : Steady σ s) : Steady σ (Operand.descRead s x q idx rq) := by
  unfold Operand.descRead
  try dsimp only
  repeat' (first | with_reducible assumption | with_reducible apply Mem_load_steady | (with_reducible apply Steady.foldl <;> intros) | (with_reducible apply Steady.foldlFst <;> intros) | intro _)

theorem Operand_loadAll_steady {σ : State} (s : State) (d : StreamDesc) (q : Mem.Req) (hσ : Steady σ s) : Steady σ (Operand.loadAll s d q) := by
  unfold Operand.loadAll
  try dsimp only
  repeat' (first | with_reducible assumption | with_reducible apply Mem_load_steady | (with_reducible apply Steady.foldl <;> intros) | (with_reducible apply Steady.foldlFst <;> intros) | intro _)

theorem Operand_censusAdd_steady {σ : State} (s : State) (c tensor : Nat) (n : Count) (loss mode1 : Bool) (q : Mem.Req) (hσ : Steady σ s) : Steady σ (Operand.censusAdd s c tensor n loss mode1 q) := by
  unfold Operand.censusAdd
  try dsimp only
  repeat' (first | with_reducible assumption | with_reducible apply Mem_storeRaw_steady | with_reducible apply Steady.ite | with_reducible apply Steady.iteFst | split | (fail_if_no_progress with_reducible apply Steady.sameMk) | intro _)

theorem Operand_censusClear_steady {a : State} (s : State) (c : Nat) (h : Steady a s) : Steady a (Operand.censusClear s c) := by
  unfold Operand.censusClear
  refine Ops_modMem_steady s _ h ?_ ?_
  · intro w; exact SMap.canon_filter w _
  · intro w; exact ⟨w.1, w.2⟩

end

/-! ## Machine/Pairs.lean -/

section

open Machine.Bits Machine.Ops Machine.Report
open Machine.Bits Machine.Ops Machine.Report Machine.Operand
open Machine.Pairs

theorem Pairs_differ_steady {σ : State} (s : State) (x : Site) (addr : Nat) (found expect : Bytes) (hσ : Steady σ s) : Steady σ (Pairs.differ s x addr found expect) := by
  unfold Pairs.differ
  try dsimp only
  repeat' (first | with_reducible assumption | (intro w; exact ⟨w.1, w.2⟩) | (intro w; unfold Mem.wf at w ⊢; exact w) | with_reducible apply Report_raise_steady | with_reducible apply Ops_modWeevil_steady | (fail_if_no_progress with_reducible apply Steady.sameMk) | intro _)

theorem Pairs_compare_steady {σ : State} (s : State) (x : Site) (own other : SMap Byte) (hσ : Steady σ s) : Steady σ (Pairs.compare s x own other) := by
  unfold Pairs.compare
  try dsimp only
  repeat' (first | with_reducible assumption | with_reducible apply Pairs_differ_steady | split | intro _)

theorem Pairs_bytes_steady {σ : State} (s : State) (x : Site) (w : SMap Byte) (pair : Option PairFault) (hσ : Steady σ s) : Steady σ (Pairs.bytes s x w pair).1 := by
  unfold Pairs.bytes
  try dsimp only
  repeat' (first | with_reducible assumption | with_reducible apply Pairs_differ_steady | with_reducible apply Pairs_compare_steady | with_reducible apply Steady.ite | with_reducible apply Steady.iteFst | split)

theorem Pairs_output_steady {σ : State} (s : State) (x : Site) (own other : SMap Byte) (pair : Option PairFault) (hσ : Steady σ s) : Steady σ (Pairs.output s x own other pair).1 := by
  unfold Pairs.output
  try dsimp only
  repeat' (first | with_reducible assumption | with_reducible apply Pairs_bytes_steady | with_reducible apply Pairs_compare_steady | with_reducible apply Steady.ite | with_reducible apply Steady.iteFst | split | intro _)

theorem Pairs_field_steady {σ : State} (s : State) (x : Site) (addr width v : Nat) (pair : Option PairFault) (hσ : Steady σ s) : Steady σ (Pairs.field s x addr width v pair).1 := by
  unfold Pairs.field
  try dsimp only
  repeat' (first | with_reducible assumption | with_reducible apply Pairs_differ_steady | with_reducible apply Steady.ite | with_reducible apply Steady.iteFst | split)

theorem Pairs_action_steady {σ : State} (s : State) (x : Site) (fact flag : Nat) (pair : Option PairFault) (hσ : Steady σ s) : Steady σ (Pairs.action s x fact flag pair).1 := by
  unfold Pairs.action
  try dsimp only
  repeat' (first | with_reducible assumption | with_reducible apply Pairs_field_steady | with_reducible apply Steady.ite | with_reducible apply Steady.iteFst | split)

end

/-! ## Machine/Flags.lean -/

section

open Machine.Bits Machine.Ops Machine.Report
open Machine.Bits Machine.Ops Machine.Report
open Machine.FlagOps

theorem FlagOps_report_steady {σ : State} (s : State) (cls q f : Nat) (act : Party) (prev : Option Party) (prevTime : Nat) (hσ : Steady σ s) : Steady σ (FlagOps.report s cls q f act prev prevTime) := by
  unfold FlagOps.report
  try dsimp only
  repeat' (first | with_reducible assumption | with_reducible apply Report_raise_steady | with_reducible apply Report_faultCore_steady | with_reducible apply Steady.ite | with_reducible apply Steady.iteFst | split)

theorem FlagOps_late_steady {σ : State} (s : State) (q f : Nat) (hσ : Steady σ s) : Steady σ (FlagOps.late s q f) := by
  unfold FlagOps.late
  try dsimp only
  repeat' (first | with_reducible assumption | (intro w; exact ⟨w.1, w.2⟩) | (intro w; unfold Mem.wf at w ⊢; exact w) | with_reducible apply Ops_modFlags_steady | with_reducible apply Ops_modRemote_steady | with_reducible apply Report_lateRecord_steady | with_reducible apply Report_setFail_steady | with_reducible apply Steady.ite | with_reducible apply Steady.iteFst | split | (fail_if_no_progress with_reducible apply Steady.sameMk) | intro _)

theorem FlagOps_double_steady {σ : State} (s : State) (q f : Nat) (hσ : Steady σ s) : Steady σ (FlagOps.double s q f) := by
  unfold FlagOps.double
  try dsimp only
  repeat' (first | with_reducible assumption | with_reducible apply Ops_modFlags_steady | with_reducible apply Steady.ite | with_reducible apply Steady.iteFst | split | intro _)

theorem FlagOps_setFlag_steady {σ : State} (s : State) (q f : Nat) (p : Party) (hσ : Steady σ s) : Steady σ (FlagOps.setFlag s q f p) := by
  unfold FlagOps.setFlag
  try dsimp only
  repeat' (first | with_reducible assumption | with_reducible apply FlagOps_double_steady | with_reducible apply Ops_modFlags_steady | with_reducible apply FlagOps_report_steady | with_reducible apply Steady.ite | with_reducible apply Steady.iteFst | split | (fail_if_no_progress with_reducible apply Steady.sameMk) | intro _)

theorem FlagOps_clearFlag_steady {σ : State} (s : State) (q f : Nat) (p : Party) (hσ : Steady σ s) : Steady σ (FlagOps.clearFlag s q f p) := by
  unfold FlagOps.clearFlag
  try dsimp only
  repeat' (first | with_reducible assumption | with_reducible apply FlagOps_double_steady | with_reducible apply Ops_modFlags_steady | with_reducible apply FlagOps_report_steady | with_reducible apply Steady.ite | with_reducible apply Steady.iteFst | split | (fail_if_no_progress with_reducible apply Steady.sameMk) | intro _)

theorem FlagOps_noteIssue_steady {σ : State} (s : State) (q f : Nat) (hσ : Steady σ s) : Steady σ (FlagOps.noteIssue s q f) := by
  unfold FlagOps.noteIssue
  try dsimp only
  repeat' (first | with_reducible assumption | with_reducible apply Ops_modFlags_steady | with_reducible apply Steady.ite | with_reducible apply Steady.iteFst | split | (fail_if_no_progress with_reducible apply Steady.sameMk) | intro _)

theorem FlagOps_acted_steady {σ : State} (s : State) (q f : Nat) (hσ : Steady σ s) : Steady σ (FlagOps.acted s q f) := by
  unfold FlagOps.acted
  try dsimp only
  repeat' (first | with_reducible assumption | with_reducible apply Ops_modFlags_steady | with_reducible apply FlagOps_late_steady | (fail_if_no_progress with_reducible apply Steady.sameMk) | intro _)

theorem FlagOps_consume_steady {a : State} (n : Nat) (s : State) (q f : Nat) (p : Party) (h : Steady a s) : Steady a (FlagOps.consume n s q f p) := by
  induction n generalizing s f with
  | zero => exact h
  | succ n ih => exact ih _ _ (FlagOps_clearFlag_steady _ _ _ _ (FlagOps_acted_steady _ _ _ (FlagOps_noteIssue_steady _ _ _ h)))

theorem FlagOps_passWait_steady {σ : State} (s : State) (c q t : Nat) (w : WaitState) (hσ : Steady σ s) : Steady σ (FlagOps.passWait s c q t w) := by
  unfold FlagOps.passWait
  try dsimp only
  repeat' (first | with_reducible assumption | with_reducible apply FlagOps_consume_steady | with_reducible apply Ops_modStream_steady | with_reducible apply Steady.ite | with_reducible apply Steady.iteFst | split | (fail_if_no_progress with_reducible apply Steady.sameMk) | intro _)

theorem FlagOps_takeAttrs_steady {σ : State} (s : State) (hσ : Steady σ s) : Steady σ (FlagOps.takeAttrs s) := by
  unfold FlagOps.takeAttrs
  try dsimp only
  repeat' (first | with_reducible assumption | with_reducible apply Ops_modFlags_steady | (with_reducible apply Steady.foldl <;> intros) | (with_reducible apply Steady.foldlFst <;> intros) | (fail_if_no_progress with_reducible apply Steady.sameMk) | intro _)

theorem FlagOps_act_steady {σ : State} (s : State) (q f fact : Nat) (p : Party) (hσ : Steady σ s) : Steady σ (FlagOps.act s q f fact p) := by
  unfold FlagOps.act
  try dsimp only
  repeat' (first | with_reducible assumption | with_reducible apply FlagOps_setFlag_steady | with_reducible apply FlagOps_late_steady | with_reducible apply FlagOps_clearFlag_steady | with_reducible apply Steady.ite | with_reducible apply Steady.iteFst | split)

theorem FlagOps_arrive_steady {σ : State} (s : State) (q f fact : Nat) (p : Party) (hσ : Steady σ s) : Steady σ (FlagOps.arrive s q f fact p) := by
  unfold FlagOps.arrive
  try dsimp only
  repeat' (first | with_reducible assumption | with_reducible apply Ops_modFlags_steady | with_reducible apply FlagOps_act_steady | with_reducible apply Steady.ite | with_reducible apply Steady.iteFst | split | (fail_if_no_progress with_reducible apply Steady.sameMk) | intro _)

theorem FlagOps_commitFlags_steady {σ : State} (s : State) (c : Nat) (hσ : Steady σ s) : Steady σ (FlagOps.commitFlags s c) := by
  unfold FlagOps.commitFlags
  try dsimp only
  repeat' (first | with_reducible assumption | with_reducible apply Ops_modFlags_steady | with_reducible apply Steady.ite | with_reducible apply Steady.iteFst | split | (with_reducible apply Steady.foldl <;> intros) | (with_reducible apply Steady.foldlFst <;> intros) | (fail_if_no_progress with_reducible apply Steady.sameMk) | intro _)

theorem FlagOps_restoreFlags_steady {σ : State} (s : State) (c : Nat) (hσ : Steady σ s) : Steady σ (FlagOps.restoreFlags s c) := by
  unfold FlagOps.restoreFlags
  try dsimp only
  repeat' (first | with_reducible assumption | with_reducible apply Ops_modFlags_steady | with_reducible apply Steady.ite | with_reducible apply Steady.iteFst | split | (with_reducible apply Steady.foldl <;> intros) | (with_reducible apply Steady.foldlFst <;> intros) | (fail_if_no_progress with_reducible apply Steady.sameMk) | intro _)

end

/-! ## Machine/Streams.lean -/

section

open Machine.Bits Machine.Ops Machine.Report
open Machine.Bits Machine.Ops Machine.Report
open Machine.Issue

theorem Issue_illegal_steady {σ : State} (s : State) (c q t pc op : Nat) (hσ : Steady σ s) : Steady σ (Issue.illegal s c q t pc op) := by
  unfold Issue.illegal
  try dsimp only
  repeat' (first | with_reducible assumption | with_reducible apply Report_faultCore_steady | with_reducible apply Ops_drawn_steady | with_reducible apply Ops_postCtx_steady)

theorem Issue_heard_steady {σ : State} (s : State) (i : Issuer) (hσ : Steady σ s) : Steady σ (Issue.heard s i) := by
  unfold Issue.heard
  try dsimp only
  repeat' (first | with_reducible assumption | with_reducible apply Mem_inject_steady)

theorem Issue_fetchFault_steady {σ : State} (s0 : State) (i : Issuer) (r : Runner) (hσ : Steady σ s0) : Steady σ (Issue.fetchFault s0 i r) := by
  unfold Issue.fetchFault
  try dsimp only
  repeat' (first | with_reducible assumption | with_reducible apply Issue_heard_steady | with_reducible apply Mem_uncorrectable_steady | with_reducible apply Report_countUnmapped_steady | with_reducible apply Issue_illegal_steady | with_reducible apply Steady.ite | with_reducible apply Steady.iteFst | split | (with_reducible apply Steady.foldl <;> intros) | (with_reducible apply Steady.foldlFst <;> intros) | intro _)

theorem Issue_noted_steady {σ : State} (s0 : State) (i : Issuer) (hσ : Steady σ s0) : Steady σ (Issue.noted s0 i) := by
  unfold Issue.noted
  try dsimp only
  repeat' (first | with_reducible assumption | with_reducible apply Issue_heard_steady | (fail_if_no_progress with_reducible apply Steady.sameMk))

theorem Issue_passPending_steady {σ : State} (s : State) (i : Issuer) (hσ : Steady σ s) : Steady σ (Issue.passPending s i) := by
  unfold Issue.passPending
  try dsimp only
  repeat' (first | with_reducible assumption | with_reducible apply FlagOps_passWait_steady | with_reducible apply Issue_noted_steady | split)

theorem Issue_passWaits_steady {a : State} (n : Nat) (s : State) (q : Nat) (h : Steady a s) : Steady a (Issue.passWaits n s q) := by
  induction n generalizing s with
  | zero => exact h
  | succ n ih =>
    simp only [Issue.passWaits]
    split
    · exact ih _ (Issue_passPending_steady _ _ h)
    · exact h


theorem Issue_endCycle_steady {a : State} (s : State) (h : Steady a s) : Steady a (Issue.endCycle s) := by
  unfold Issue.endCycle
  exact FlagOps_takeAttrs_steady _ (Steady.foldl h (fun x q k => Issue_passWaits_steady 2 x q k))


theorem Issue_refuse_steady {σ : State} (s : State) (i : Issuer) (r : Runner) (cls code : Nat) (hσ : Steady σ s) : Steady σ (Issue.refuse s i r cls code) := by
  unfold Issue.refuse
  try dsimp only
  repeat' (first | with_reducible assumption | with_reducible apply Issue_illegal_steady)

theorem Issue_reject_steady {σ : State} (s : State) (i : Issuer) (r : Runner) (cls code : Nat) (hσ : Steady σ s) : Steady σ (Issue.reject s i r cls code) := by
  unfold Issue.reject
  try dsimp only
  repeat' (first | with_reducible assumption | with_reducible apply Issue_refuse_steady | with_reducible apply Issue_heard_steady)

theorem Issue_fetched_steady {σ : State} (s : State) (i : Issuer) (word : StreamWord) (body : Runner → State) (hσ : Steady σ s) (k_body : ∀ v0, Steady σ (body v0)) : Steady σ (Issue.fetched s i word body) := by
  unfold Issue.fetched
  try dsimp only
  repeat' (first | with_reducible assumption | apply k_body | with_reducible apply Issue_fetchFault_steady | with_reducible apply Issue_reject_steady | with_reducible apply Steady.ite | with_reducible apply Steady.iteFst | split)

theorem Issue_issue_steady {σ : State} (s : State) (i : Issuer) (word : StreamWord) (body : Runner → State) (hσ : Steady σ s) (k_body : ∀ v0, Steady σ (body v0)) : Steady σ (Issue.issue s i word body) := by
  unfold Issue.issue
  try dsimp only
  repeat' (first | with_reducible assumption | apply k_body | with_reducible apply Issue_fetched_steady | with_reducible apply Steady.ite | with_reducible apply Steady.iteFst | split | intro _)

theorem Issue_rejectRead_steady {σ : State} (s : State) (i : Issuer) (r : Runner) (cls code : Nat) (ds : List Nat) (hσ : Steady σ s) : Steady σ (Issue.rejectRead s i r cls code ds) := by
  unfold Issue.rejectRead
  try dsimp only
  repeat' (first | with_reducible assumption | with_reducible apply Issue_refuse_steady | with_reducible apply Operand_descRead_steady | with_reducible apply Issue_heard_steady | (fail_if_no_progress with_reducible apply Steady.sameMk))

theorem Issue_advance_steady {σ : State} (s : State) (c : Nat) (i : Issuer) (hσ : Steady σ s) : Steady σ (Issue.advance s c i) := by
  unfold Issue.advance
  try dsimp only
  repeat' (first | with_reducible assumption | with_reducible apply Ops_modStream_steady | (fail_if_no_progress with_reducible apply Steady.sameMk) | intro _)

theorem Issue_launched_steady {σ : State} (s : State) (c : Nat) (i : Issuer) (hσ : Steady σ s) : Steady σ (Issue.launched s c i) := by
  unfold Issue.launched
  try dsimp only
  repeat' (first | with_reducible assumption | with_reducible apply Ops_modStream_steady | (fail_if_no_progress with_reducible apply Steady.sameMk) | intro _)

theorem Issue_orStatus_steady {σ : State} (s : State) (c q t : Nat) (bits : BitVec 8) (hσ : Steady σ s) : Steady σ (Issue.orStatus s c q t bits) := by
  unfold Issue.orStatus
  try dsimp only
  repeat' (first | with_reducible assumption | with_reducible apply Ops_modStream_steady | with_reducible apply Ops_modHost_steady | with_reducible apply Steady.ite | with_reducible apply Steady.iteFst | split | (fail_if_no_progress with_reducible apply Steady.sameMk) | intro _)

theorem Issue_complete_steady {σ : State} (s : State) (c q t : Nat) (bits : BitVec 8) (fact flag : Nat) (hσ : Steady σ s) : Steady σ (Issue.complete s c q t bits fact flag) := by
  unfold Issue.complete
  try dsimp only
  repeat' (first | with_reducible assumption | with_reducible apply Ops_modStream_steady | with_reducible apply Issue_orStatus_steady | with_reducible apply FlagOps_act_steady | (fail_if_no_progress with_reducible apply Steady.sameMk) | intro _)

theorem Issue_setCounter_steady {σ : State} (s : State) (c q n : Nat) (v : W32) (hσ : Steady σ s) : Steady σ (Issue.setCounter s c q n v) := by
  unfold Issue.setCounter
  try dsimp only
  repeat' (first | with_reducible assumption | with_reducible apply Ops_modCore_steady | (fail_if_no_progress with_reducible apply Steady.sameMk) | intro _)

end

/-! ## Machine/Remote.lean -/

section

open Machine.Bits Machine.Ops Machine.Report
open Machine.Bits Machine.Ops Machine.Report Machine.Operand
open Machine.RemoteOps

theorem RemoteOps_modOp_steady {σ : State} (s : State) (tag : Nat) (f : RemoteOp → RemoteOp) (hσ : Steady σ s) : Steady σ (RemoteOps.modOp s tag f) := by
  unfold RemoteOps.modOp
  try dsimp only
  repeat' (first | with_reducible assumption | (intro w; exact ⟨w.1, w.2⟩) | (intro w; unfold Mem.wf at w ⊢; exact w) | with_reducible apply Ops_modRemote_steady | split | (fail_if_no_progress with_reducible apply Steady.sameMk) | intro _)

theorem RemoteOps_noteStatus_steady {σ : State} (s : State) (tag st : Nat) (hσ : Steady σ s) : Steady σ (RemoteOps.noteStatus s tag st) := by
  unfold RemoteOps.noteStatus
  try dsimp only
  repeat' (first | with_reducible assumption | with_reducible apply RemoteOps_modOp_steady | with_reducible apply Steady.ite | with_reducible apply Steady.iteFst | split | (fail_if_no_progress with_reducible apply Steady.sameMk) | intro _)

theorem RemoteOps_fill_steady {σ : State} (s : State) (w : Sent) (hσ : Steady σ s) : Steady σ (RemoteOps.fill s w).1 := by
  unfold RemoteOps.fill
  try dsimp only
  repeat' (first | with_reducible assumption | with_reducible apply Mem_load_steady | with_reducible apply Steady.ite | with_reducible apply Steady.iteFst | split | (fail_if_no_progress with_reducible apply Steady.sameMk))

theorem RemoteOps_pump_steady {a : State} (n : Nat) (s : State) (k : Nat) (h : Steady a s) : Steady a (RemoteOps.pump n s k) := by
  induction n generalizing s with
  | zero => exact h
  | succ n ih =>
    simp only [RemoteOps.pump]
    split
    · exact h
    · rename_i w rest _
      have hf := RemoteOps_fill_steady s w h
      refine Steady.ite h ?_
      split
      · exact ih _ (Ops_setPair_steady _ _ _ (RemoteOps_noteStatus_steady _ _ _ hf))
      · exact ih _ (Ops_sendPkt_steady _ _ (Ops_setPair_steady _ _ _ hf))

theorem RemoteOps_pumpAll_steady {σ : State} (s : State) (k : Nat) (hσ : Steady σ s) : Steady σ (RemoteOps.pumpAll s k) := by
  unfold RemoteOps.pumpAll
  try dsimp only
  repeat' (first | with_reducible assumption | with_reducible apply RemoteOps_pump_steady)

theorem RemoteOps_submit_steady {σ : State} (s : State) (k : Nat) (ps : List (Pkt × Option Nat)) (hσ : Steady σ s) : Steady σ (RemoteOps.submit s k ps) := by
  unfold RemoteOps.submit
  try dsimp only
  repeat' (first | with_reducible assumption | with_reducible apply RemoteOps_pumpAll_steady | with_reducible apply Ops_setPair_steady | with_reducible apply Steady.ite | with_reducible apply Steady.iteFst | split | (fail_if_no_progress with_reducible apply Steady.sameMk) | intro _)

theorem RemoteOps_launch_steady {σ : State} (s : State) (tag : Nat) (o : RemoteOp) (ps : List (Pkt × Option Nat)) (hσ : Steady σ s) : Steady σ (RemoteOps.launch s tag o ps) := by
  unfold RemoteOps.launch
  try dsimp only
  repeat' (first | with_reducible assumption | (intro w; exact ⟨w.1, w.2⟩) | (intro w; unfold Mem.wf at w ⊢; exact w) | with_reducible apply Ops_modRemote_steady | with_reducible apply Ops_modErr_steady | with_reducible apply RemoteOps_submit_steady | (fail_if_no_progress with_reducible apply Steady.sameMk) | intro _)

theorem RemoteOps_modRun_steady {σ : State} (s : State) (d ring : Nat) (f : PressRun → PressRun) (hσ : Steady σ s) : Steady σ (RemoteOps.modRun s d ring f) := by
  unfold RemoteOps.modRun
  try dsimp only
  repeat' (first | with_reducible assumption | (fail_if_no_progress with_reducible apply Steady.sameMk) | intro _)

theorem RemoteOps_noRank_steady {σ : State} (s : State) (c stream op pc rank : Nat) (hσ : Steady σ s) : Steady σ (RemoteOps.noRank s c stream op pc rank) := by
  unfold RemoteOps.noRank
  try dsimp only
  repeat' (first | with_reducible assumption | with_reducible apply Report_raise_steady)

theorem RemoteOps_pressIssue_steady {σ : State} (s : State) (d : Nat) (u : PressRun) (m tag : Nat) (hσ : Steady σ s) : Steady σ (RemoteOps.pressIssue s d u m tag) := by
  unfold RemoteOps.pressIssue
  try dsimp only
  repeat' (first | with_reducible assumption | with_reducible apply RemoteOps_launch_steady | with_reducible apply RemoteOps_modRun_steady | split | (fail_if_no_progress with_reducible apply Steady.sameMk) | intro _)

theorem RemoteOps_pressPump_steady {a : State} (n : Nat) (s : State) (d r : Nat) (h : Steady a s) : Steady a (RemoteOps.pressPump n s d r) := by
  induction n generalizing s with
  | zero => exact h
  | succ n ih =>
    simp only [RemoteOps.pressPump]
    split
    · exact h
    · refine Steady.ite h ?_
      split
      · exact RemoteOps_modRun_steady _ _ _ _ (RemoteOps_noRank_steady _ _ _ _ _ _ h)
      · exact h
      · exact ih _ (RemoteOps_pressIssue_steady _ _ _ _ _ h)

theorem RemoteOps_pressNext_steady {σ : State} (s : State) (d ring status : Nat) (hσ : Steady σ s) : Steady σ (RemoteOps.pressNext s d ring status) := by
  unfold RemoteOps.pressNext
  try dsimp only
  repeat' (first | with_reducible assumption | with_reducible apply RemoteOps_modRun_steady | with_reducible apply RemoteOps_pressPump_steady | with_reducible apply Steady.ite | with_reducible apply Steady.iteFst | split | (fail_if_no_progress with_reducible apply Steady.sameMk) | intro _)

theorem RemoteOps_wakeRuns_steady {σ : State} (s : State) (hσ : Steady σ s) : Steady σ (RemoteOps.wakeRuns s) := by
  unfold RemoteOps.wakeRuns
  try dsimp only
  repeat' (first | with_reducible assumption | with_reducible apply RemoteOps_pressPump_steady | (with_reducible apply Steady.foldl <;> intros) | (with_reducible apply Steady.foldlFst <;> intros) | intro _)

theorem RemoteOps_finishOp_steady {σ : State} (s : State) (tag : Nat) (hσ : Steady σ s) : Steady σ (RemoteOps.finishOp s tag) := by
  unfold RemoteOps.finishOp
  try dsimp only
  repeat' (first | with_reducible assumption | (intro w; exact ⟨w.1, w.2⟩) | (intro w; unfold Mem.wf at w ⊢; exact w) | with_reducible apply Ops_modRemote_steady | with_reducible apply RemoteOps_wakeRuns_steady | with_reducible apply Pairs_action_steady | with_reducible apply Issue_complete_steady | with_reducible apply RemoteOps_pressNext_steady | with_reducible apply Steady.ite | with_reducible apply Steady.iteFst | split | (fail_if_no_progress with_reducible apply Steady.sameMk) | intro _)

theorem RemoteOps_checkOp_steady {σ : State} (s : State) (tag : Nat) (hσ : Steady σ s) : Steady σ (RemoteOps.checkOp s tag) := by
  unfold RemoteOps.checkOp
  try dsimp only
  repeat' (first | with_reducible assumption | with_reducible apply RemoteOps_finishOp_steady | with_reducible apply Steady.ite | with_reducible apply Steady.iteFst | split)

theorem RemoteOps_settlePair_steady {σ : State} (s : State) (k : Nat) (hσ : Steady σ s) : Steady σ (RemoteOps.settlePair s k) := by
  unfold RemoteOps.settlePair
  try dsimp only
  repeat' (first | with_reducible assumption | with_reducible apply RemoteOps_checkOp_steady | (with_reducible apply Steady.foldl <;> intros) | (with_reducible apply Steady.foldlFst <;> intros) | intro _)

theorem RemoteOps_noteFenced_steady {σ : State} (s : State) (tag st m : Nat) (hσ : Steady σ s) : Steady σ (RemoteOps.noteFenced s tag st m) := by
  unfold RemoteOps.noteFenced
  try dsimp only
  repeat' (first | with_reducible assumption | with_reducible apply Report_raise_steady | with_reducible apply RemoteOps_modOp_steady | with_reducible apply Steady.ite | with_reducible apply Steady.iteFst | split | (fail_if_no_progress with_reducible apply Steady.sameMk) | intro _)

theorem RemoteOps_answerSeq_steady {σ : State} (s : State) (p : Pkt) (m seq : Nat) (hσ : Steady σ s) : Steady σ (RemoteOps.answerSeq s p m seq) := by
  unfold RemoteOps.answerSeq
  try dsimp only
  repeat' (first | with_reducible assumption | with_reducible apply RemoteOps_pumpAll_steady | with_reducible apply Ops_setPair_steady | split | (fail_if_no_progress with_reducible apply Steady.sameMk))

theorem RemoteOps_lateResponse_steady {σ : State} (s : State) (p : Pkt) (hσ : Steady σ s) : Steady σ (RemoteOps.lateResponse s p) := by
  unfold RemoteOps.lateResponse
  try dsimp only
  repeat' (first | with_reducible assumption | (intro w; exact ⟨w.1, w.2⟩) | (intro w; unfold Mem.wf at w ⊢; exact w) | with_reducible apply Ops_modRemote_steady | with_reducible apply Report_lateRecord_steady | (fail_if_no_progress with_reducible apply Steady.sameMk) | intro _)

theorem RemoteOps_badHeader_steady {σ : State} (s : State) (hσ : Steady σ s) : Steady σ (RemoteOps.badHeader s) := by
  unfold RemoteOps.badHeader
  try dsimp only
  repeat' (first | with_reducible assumption | (intro w; exact ⟨w.1, w.2⟩) | (intro w; unfold Mem.wf at w ⊢; exact w) | with_reducible apply Ops_modRemote_steady | (fail_if_no_progress with_reducible apply Steady.sameMk) | intro _)

theorem RemoteOps_busyAnswer_steady {σ : State} (s : State) (k : Nat) (p : Pkt) (hσ : Steady σ s) : Steady σ (RemoteOps.busyAnswer s k p) := by
  unfold RemoteOps.busyAnswer
  try dsimp only
  repeat' (first | with_reducible assumption | with_reducible apply Ops_setPair_steady | with_reducible apply Steady.ite | with_reducible apply Steady.iteFst | split | (fail_if_no_progress with_reducible apply Steady.sameMk) | intro _)

theorem RemoteOps_probeAnswer_steady {σ : State} (s : State) (p : Pkt) (hσ : Steady σ s) : Steady σ (RemoteOps.probeAnswer s p) := by
  unfold RemoteOps.probeAnswer
  try dsimp only
  repeat' (first | with_reducible assumption | (intro w; exact ⟨w.1, w.2⟩) | (intro w; unfold Mem.wf at w ⊢; exact w) | with_reducible apply RemoteOps_busyAnswer_steady | with_reducible apply Ops_modRemote_steady | with_reducible apply Steady.ite | with_reducible apply Steady.iteFst | split | (fail_if_no_progress with_reducible apply Steady.sameMk) | intro _)

theorem RemoteOps_response_steady {σ : State} (s : State) (p : Pkt) (codes : Bool) (f : RemoteOp → State) (hσ : Steady σ s) (k_f : ∀ v0, Steady σ (f v0)) : Steady σ (RemoteOps.response s p codes f) := by
  unfold RemoteOps.response
  try dsimp only
  repeat' (first | with_reducible assumption | apply k_f | with_reducible apply RemoteOps_badHeader_steady | with_reducible apply RemoteOps_lateResponse_steady | with_reducible apply RemoteOps_probeAnswer_steady | with_reducible apply Steady.ite | with_reducible apply Steady.iteFst | split | intro _)

theorem RemoteOps_ackIn_steady {σ : State} (s : State) (p : Pkt) (hσ : Steady σ s) : Steady σ (RemoteOps.ackIn s p) := by
  unfold RemoteOps.ackIn
  try dsimp only
  repeat' (first | with_reducible assumption | with_reducible apply RemoteOps_response_steady | with_reducible apply RemoteOps_settlePair_steady | with_reducible apply RemoteOps_answerSeq_steady | (with_reducible apply Steady.foldl <;> intros) | (with_reducible apply Steady.foldlFst <;> intros) | intro _)

theorem RemoteOps_errorIn_steady {σ : State} (s : State) (p : Pkt) (hσ : Steady σ s) : Steady σ (RemoteOps.errorIn s p) := by
  unfold RemoteOps.errorIn
  try dsimp only
  repeat' (first | with_reducible assumption | with_reducible apply RemoteOps_response_steady | with_reducible apply RemoteOps_busyAnswer_steady | with_reducible apply RemoteOps_settlePair_steady | with_reducible apply RemoteOps_answerSeq_steady | with_reducible apply RemoteOps_noteFenced_steady | with_reducible apply RemoteOps_noteStatus_steady | with_reducible apply Steady.ite | with_reducible apply Steady.iteFst | split | intro _)

theorem RemoteOps_landing_steady {σ : State} (s : State) (o : RemoteOp) (a : Nat) (p : Pkt) (hσ : Steady σ s) : Steady σ (RemoteOps.landing s o a p).1 := by
  unfold RemoteOps.landing
  try dsimp only
  repeat' (first | with_reducible assumption | with_reducible apply Mem_store_steady | with_reducible apply RemoteOps_modRun_steady | with_reducible apply Steady.ite | with_reducible apply Steady.iteFst | split | (with_reducible apply Steady.foldl <;> intros) | (with_reducible apply Steady.foldlFst <;> intros) | (fail_if_no_progress with_reducible apply Steady.sameMk) | intro _)

theorem RemoteOps_readRspIn_steady {σ : State} (s : State) (p : Pkt) (hσ : Steady σ s) : Steady σ (RemoteOps.readRspIn s p) := by
  unfold RemoteOps.readRspIn
  try dsimp only
  repeat' (first | with_reducible assumption | with_reducible apply RemoteOps_response_steady | with_reducible apply RemoteOps_landing_steady | with_reducible apply RemoteOps_noteStatus_steady | with_reducible apply Report_raise_steady | with_reducible apply RemoteOps_settlePair_steady | with_reducible apply RemoteOps_pumpAll_steady | with_reducible apply Ops_setPair_steady | with_reducible apply Steady.ite | with_reducible apply Steady.iteFst | split | (fail_if_no_progress with_reducible apply Steady.sameMk) | intro _)

theorem RemoteOps_timeout_steady {σ : State} (s : State) (tag : Nat) (hσ : Steady σ s) : Steady σ (RemoteOps.timeout s tag) := by
  unfold RemoteOps.timeout
  try dsimp only
  repeat' (first | with_reducible assumption | with_reducible apply Report_raise_steady | with_reducible apply Ops_setPair_steady | with_reducible apply RemoteOps_settlePair_steady | with_reducible apply RemoteOps_finishOp_steady | with_reducible apply RemoteOps_noteStatus_steady | with_reducible apply RemoteOps_pumpAll_steady | with_reducible apply Steady.ite | with_reducible apply Steady.iteFst | split | (fail_if_no_progress with_reducible apply Steady.sameMk) | intro _)

theorem RemoteOps_resend_steady {σ : State} (s : State) (key seq : Nat) (hσ : Steady σ s) : Steady σ (RemoteOps.resend s key seq) := by
  unfold RemoteOps.resend
  try dsimp only
  repeat' (first | with_reducible assumption | with_reducible apply Ops_sendPkt_steady | with_reducible apply Ops_setPair_steady | with_reducible apply Steady.ite | with_reducible apply Steady.iteFst | split | (fail_if_no_progress with_reducible apply Steady.sameMk) | intro _)

theorem RemoteOps_skipPairs_steady {σ : State} (s : State) (c : Nat) (hσ : Steady σ s) : Steady σ (RemoteOps.skipPairs s c) := by
  unfold RemoteOps.skipPairs
  try dsimp only
  repeat' (first | with_reducible assumption | (intro w; exact ⟨w.1, w.2⟩) | (intro w; unfold Mem.wf at w ⊢; exact w) | with_reducible apply Ops_modRemote_steady | with_reducible apply Steady.ite | with_reducible apply Steady.iteFst | split | (fail_if_no_progress with_reducible apply Steady.sameMk) | intro _)

theorem RemoteOps_settleOps_steady {σ : State} (s : State) (hσ : Steady σ s) : Steady σ (RemoteOps.settleOps s) := by
  unfold RemoteOps.settleOps
  try dsimp only
  repeat' (first | with_reducible assumption | with_reducible apply RemoteOps_checkOp_steady | (with_reducible apply Steady.foldl <;> intros) | (with_reducible apply Steady.foldlFst <;> intros) | intro _)

theorem RemoteOps_abandon_steady {σ : State} (s : State) (hσ : Steady σ s) : Steady σ (RemoteOps.abandon s) := by
  unfold RemoteOps.abandon
  try dsimp only
  repeat' (first | with_reducible assumption | (intro w; exact ⟨w.1, w.2⟩) | (intro w; unfold Mem.wf at w ⊢; exact w) | with_reducible apply Ops_modRemote_steady | (fail_if_no_progress with_reducible apply Steady.sameMk) | intro _)

theorem RemoteOps_send_steady {σ : State} (s : State) (i : Issuer) (r : Issue.Runner) (rop : Nat) (w : RemWord) (d : Option StreamDesc) (ms : List Nat) (tag : Nat) (pair : Option PairFault := none) (hσ : Steady σ s) : Steady σ (RemoteOps.send s i r rop w d ms tag pair) := by
  unfold RemoteOps.send
  try dsimp only
  repeat' (first | with_reducible assumption | with_reducible apply RemoteOps_settlePair_steady | with_reducible apply RemoteOps_launch_steady | with_reducible apply Issue_launched_steady | with_reducible apply Steady.ite | with_reducible apply Steady.iteFst | split | (fail_if_no_progress with_reducible apply Steady.sameMk))

theorem RemoteOps_header_steady {σ : State} (s : State) (i : Issuer) (r : Issue.Runner) (rop : Nat) (w : RemWord) (pair : Option PairFault) (hσ : Steady σ s) : Steady σ (RemoteOps.header s i r rop w pair).1 := by
  unfold RemoteOps.header
  try dsimp only
  repeat' (first | with_reducible assumption | with_reducible apply FlagOps_act_steady | with_reducible apply Pairs_field_steady | with_reducible apply Steady.ite | with_reducible apply Steady.iteFst | split | (fail_if_no_progress with_reducible apply Steady.sameMk))

theorem RemoteOps_start_steady {σ : State} (s : State) (i : Issuer) (rop : Nat) (w : RemWord) (hits : List CodeHit) (pair : Option PairFault) (hσ : Steady σ s) : Steady σ (RemoteOps.start s i rop w hits pair) := by
  unfold RemoteOps.start
  try dsimp only
  repeat' (first | with_reducible assumption | with_reducible apply Issue_issue_steady | with_reducible apply Issue_rejectRead_steady | with_reducible apply Operand_descRead_steady | with_reducible apply Mem_inject_steady | with_reducible apply Issue_noted_steady | with_reducible apply RemoteOps_header_steady | with_reducible apply RemoteOps_noRank_steady | with_reducible apply Issue_launched_steady | with_reducible apply Issue_complete_steady | with_reducible apply RemoteOps_send_steady | with_reducible apply Steady.ite | with_reducible apply Steady.iteFst | split | intro _)

theorem RemoteOps_execPut_goes (i : Issuer) (w : RemCmd) (hits : List CodeHit) (s : State) : Goes s (RemoteOps.execPut i w hits s) := by
  refine ⟨_, rfl, ?_⟩
  try dsimp only
  repeat' (first | with_reducible exact Steady.refl _ | with_reducible assumption | with_reducible apply RemoteOps_start_steady)

theorem RemoteOps_execGet_goes (i : Issuer) (w : RemCmd) (s : State) : Goes s (RemoteOps.execGet i w s) := by
  refine ⟨_, rfl, ?_⟩
  try dsimp only
  repeat' (first | with_reducible exact Steady.refl _ | with_reducible assumption | with_reducible apply RemoteOps_start_steady)

theorem RemoteOps_execPutf_goes (i : Issuer) (w : RemCmd) (hits : List CodeHit) (s : State) : Goes s (RemoteOps.execPutf i w hits s) := by
  refine ⟨_, rfl, ?_⟩
  try dsimp only
  repeat' (first | with_reducible exact Steady.refl _ | with_reducible assumption | with_reducible apply RemoteOps_start_steady)

theorem RemoteOps_execFset_goes (i : Issuer) (w : RemCmd) (s : State) : Goes s (RemoteOps.execFset i w s) := by
  refine ⟨_, rfl, ?_⟩
  try dsimp only
  repeat' (first | with_reducible exact Steady.refl _ | with_reducible assumption | with_reducible apply RemoteOps_start_steady)

theorem RemoteOps_execFclr_goes (i : Issuer) (w : RemCmd) (s : State) : Goes s (RemoteOps.execFclr i w s) := by
  refine ⟨_, rfl, ?_⟩
  try dsimp only
  repeat' (first | with_reducible exact Steady.refl _ | with_reducible assumption | with_reducible apply RemoteOps_start_steady)

theorem RemoteOps_execMput_goes (i : Issuer) (w : RemCmd) (hits : List CodeHit) (s : State) : Goes s (RemoteOps.execMput i w hits s) := by
  refine ⟨_, rfl, ?_⟩
  try dsimp only
  repeat' (first | with_reducible exact Steady.refl _ | with_reducible assumption | with_reducible apply RemoteOps_start_steady)

theorem RemoteOps_execChain_goes (i : Issuer) (w : RemCmd) (hits : List CodeHit) (s : State) : Goes s (RemoteOps.execChain i w hits s) := by
  refine ⟨_, rfl, ?_⟩
  try dsimp only
  repeat' (first | with_reducible exact Steady.refl _ | with_reducible assumption | with_reducible apply RemoteOps_start_steady)

theorem RemoteOps_execReadRsp_goes (p : PktIn) (s : State) : Goes s (RemoteOps.execReadRsp p s) := by
  refine ⟨_, rfl, ?_⟩
  try dsimp only
  repeat' (first | with_reducible exact Steady.refl _ | with_reducible assumption | with_reducible apply RemoteOps_readRspIn_steady | with_reducible apply Mem_inject_steady | with_reducible apply Ops_unloaded_steady | with_reducible apply Steady.ite | with_reducible apply Steady.iteFst | split)

theorem RemoteOps_execAck_goes (p : Pkt) (s : State) : Goes s (RemoteOps.execAck p s) := by
  refine ⟨_, rfl, ?_⟩
  try dsimp only
  repeat' (first | with_reducible exact Steady.refl _ | with_reducible assumption | with_reducible apply RemoteOps_ackIn_steady | with_reducible apply Ops_unloaded_steady | with_reducible apply Steady.ite | with_reducible apply Steady.iteFst | split)

theorem RemoteOps_execErrorRsp_goes (p : Pkt) (s : State) : Goes s (RemoteOps.execErrorRsp p s) := by
  refine ⟨_, rfl, ?_⟩
  try dsimp only
  repeat' (first | with_reducible exact Steady.refl _ | with_reducible assumption | with_reducible apply RemoteOps_errorIn_steady | with_reducible apply Ops_unloaded_steady | with_reducible apply Steady.ite | with_reducible apply Steady.iteFst | split)

theorem RemoteOps_execOperationTimeout_goes (tag : Nat) (s : State) : Goes s (RemoteOps.execOperationTimeout tag s) := by
  refine ⟨_, rfl, ?_⟩
  try dsimp only
  repeat' (first | with_reducible exact Steady.refl _ | with_reducible assumption | with_reducible apply RemoteOps_timeout_steady)

theorem RemoteOps_execPacketResend_goes (key seq : Nat) (s : State) : Goes s (RemoteOps.execPacketResend key seq s) := by
  refine ⟨_, rfl, ?_⟩
  try dsimp only
  repeat' (first | with_reducible exact Steady.refl _ | with_reducible assumption | with_reducible apply RemoteOps_resend_steady)

end

/-! ## Machine/Press.lean -/

section

open Machine.Bits Machine.Ops Machine.Report
open Machine.Bits Machine.Ops Machine.Report Machine.Numeric
open Machine.PressOps

theorem PressOps_setPress_steady {σ : State} (s : State) (d : Nat) (x : Press) (hσ : Steady σ s) : Steady σ (PressOps.setPress s d x) := by
  unfold PressOps.setPress
  try dsimp only
  repeat' (first | with_reducible assumption | (fail_if_no_progress with_reducible apply Steady.sameMk))

theorem PressOps_slotWrite_steady {σ : State} (s : State) (d off : Nat) (data : Bytes) (hσ : Steady σ s) : Steady σ (PressOps.slotWrite s d off data).1 := by
  unfold PressOps.slotWrite
  try dsimp only
  repeat' (first | with_reducible assumption | with_reducible apply PressOps_setPress_steady | with_reducible apply Steady.ite | with_reducible apply Steady.iteFst | split | (fail_if_no_progress with_reducible apply Steady.sameMk))

theorem PressOps_pack_steady {σ : State} (s : State) (n r : Nat) (d : PressDesc) (hσ : Steady σ s) : Steady σ (PressOps.pack s n r d).1 := by
  unfold PressOps.pack
  try dsimp only
  repeat' (first | with_reducible assumption | with_reducible apply Mem_drillReads_steady | with_reducible apply Mem_reactRead_steady | with_reducible apply Steady.ite | with_reducible apply Steady.iteFst | split | (fail_if_no_progress with_reducible apply Steady.sameMk) | intro _)

theorem PressOps_unpackLocal_steady {σ : State} (s : State) (n r : Nat) (d : PressDesc) (hσ : Steady σ s) : Steady σ (PressOps.unpackLocal s n r d).1 := by
  unfold PressOps.unpackLocal
  try dsimp only
  repeat' (first | with_reducible assumption | with_reducible apply Mem_load_steady | with_reducible apply Mem_reactRead_steady | with_reducible apply Ops_drawn_steady | with_reducible apply Steady.ite | with_reducible apply Steady.iteFst | split | (fail_if_no_progress with_reducible apply Steady.sameMk) | intro _)

theorem PressOps_unpack_steady {σ : State} (s : State) (n r : Nat) (d : PressDesc) (image : Option Bytes) (hσ : Steady σ s) : Steady σ (PressOps.unpack s n r d image).1 := by
  unfold PressOps.unpack
  try dsimp only
  repeat' (first | with_reducible assumption | with_reducible apply PressOps_unpackLocal_steady | with_reducible apply Ops_drawn_steady | with_reducible apply Steady.ite | with_reducible apply Steady.iteFst | split | (fail_if_no_progress with_reducible apply Steady.sameMk) | intro _)

theorem PressOps_start_steady {σ : State} (s0 : State) (n r op : Nat) (image : Option Bytes) (hits : List CodeHit) (hσ : Steady σ s0) : Steady σ (PressOps.start s0 n r op image hits) := by
  unfold PressOps.start
  try dsimp only
  repeat' (first | with_reducible assumption | with_reducible apply Mem_inject_steady | with_reducible apply PressOps_pack_steady | with_reducible apply PressOps_unpack_steady | with_reducible apply RemoteOps_pressPump_steady | with_reducible apply PressOps_setPress_steady | with_reducible apply Steady.ite | with_reducible apply Steady.iteFst | split | (fail_if_no_progress with_reducible apply Steady.sameMk))

theorem PressOps_deliver_steady {σ : State} (s : State) (n : Nat) (u : PressRun) (ws : List (Nat × Bytes)) (ok : Bool) (hσ : Steady σ s) : Steady σ (PressOps.deliver s n u ws ok) := by
  unfold PressOps.deliver
  try dsimp only
  repeat' (first | with_reducible assumption | with_reducible apply Mem_store_steady | with_reducible apply Ops_emit_steady | with_reducible apply Steady.ite | with_reducible apply Steady.iteFst | split | (with_reducible apply Steady.foldl <;> intros) | (with_reducible apply Steady.foldlFst <;> intros) | intro _)

theorem PressOps_finishRun_steady {σ : State} (s : State) (n : Nat) (u : PressRun) (status : Nat) (ok : Bool := true) (hσ : Steady σ s) : Steady σ (PressOps.finishRun s n u status ok) := by
  unfold PressOps.finishRun
  try dsimp only
  repeat' (first | with_reducible assumption | with_reducible apply PressOps_deliver_steady | with_reducible apply Report_setFail_steady | with_reducible apply Mem_store'_steady | with_reducible apply FlagOps_report_steady | with_reducible apply FlagOps_arrive_steady | with_reducible apply PressOps_setPress_steady | with_reducible apply Steady.ite | with_reducible apply Steady.iteFst | split | (fail_if_no_progress with_reducible apply Steady.sameMk) | intro _)

theorem PressOps_finish_steady {σ : State} (s : State) (n r : Nat) (ok : Bool) (hσ : Steady σ s) : Steady σ (PressOps.finish s n r ok) := by
  unfold PressOps.finish
  try dsimp only
  repeat' (first | with_reducible assumption | with_reducible apply Issue_fetched_steady | with_reducible apply PressOps_finishRun_steady | with_reducible apply Ops_drawn_steady | with_reducible apply PressOps_setPress_steady | with_reducible apply Steady.ite | with_reducible apply Steady.iteFst | split | (with_reducible apply Steady.foldl <;> intros) | (with_reducible apply Steady.foldlFst <;> intros) | (fail_if_no_progress with_reducible apply Steady.sameMk) | intro _)

theorem PressOps_abort_steady {σ : State} (s : State) (c : Nat) (hσ : Steady σ s) : Steady σ (PressOps.abort s c) := by
  unfold PressOps.abort
  try dsimp only
  repeat' (first | with_reducible assumption | with_reducible apply Ops_drawn_steady | with_reducible apply Steady.ite | with_reducible apply Steady.iteFst | split | (fail_if_no_progress with_reducible apply Steady.sameMk) | intro _)

theorem PressOps_execPressSlotWrite_goes (addr : Nat) (data : Bytes) (s : State) : Goes s (PressOps.execPressSlotWrite addr data s) := by
  refine ⟨_, rfl, ?_⟩
  try dsimp only
  repeat' (first | with_reducible exact Steady.refl _ | with_reducible assumption | with_reducible apply PressOps_slotWrite_steady | with_reducible apply Ops_emit_steady | with_reducible apply Ops_answer_steady | split)

theorem PressOps_execPack_goes (d r : Nat) (hits : List CodeHit) (s : State) : Goes s (PressOps.execPack d r hits s) := by
  refine ⟨_, rfl, ?_⟩
  try dsimp only
  repeat' (first | with_reducible exact Steady.refl _ | with_reducible assumption | with_reducible apply RemoteOps_start_steady | with_reducible apply PressOps_start_steady)

theorem PressOps_execUnpack_goes (d r : Nat) (image : Option Bytes) (hits : List CodeHit) (s : State) : Goes s (PressOps.execUnpack d r image hits s) := by
  refine ⟨_, rfl, ?_⟩
  try dsimp only
  repeat' (first | with_reducible exact Steady.refl _ | with_reducible assumption | with_reducible apply RemoteOps_start_steady | with_reducible apply PressOps_start_steady)

theorem PressOps_execPressDescriptorFinish_goes (d r : Nat) (ok : Bool) (s : State) : Goes s (PressOps.execPressDescriptorFinish d r ok s) := by
  refine ⟨_, rfl, ?_⟩
  try dsimp only
  repeat' (first | with_reducible exact Steady.refl _ | with_reducible assumption | with_reducible apply PressOps_finish_steady)

end

/-! ## Machine/Slots.lean -/

section

open Machine.Bits Machine.Ops Machine.Report
open Machine.Bits Machine.Ops Machine.Report Machine.Issue
open Machine.Slots

theorem Slots_makeDue_steady {σ : State} (s : State) (c q : Nat) (hσ : Steady σ s) : Steady σ (Slots.makeDue s c q) := by
  unfold Slots.makeDue
  try dsimp only
  repeat' (first | with_reducible assumption | with_reducible apply Ops_modCore_steady | (fail_if_no_progress with_reducible apply Steady.sameMk) | intro _)

theorem Slots_mirror_steady {σ : State} (s : State) (x : Ctx) (q : Nat) (hσ : Steady σ s) : Steady σ (Slots.mirror s x q) := by
  unfold Slots.mirror
  try dsimp only
  repeat' (first | with_reducible assumption | with_reducible apply Steady.ite | with_reducible apply Steady.iteFst | split | (fail_if_no_progress with_reducible apply Steady.sameMk))

theorem Slots_save_steady {σ : State} (s : State) (c q : Nat) (pair : Option PairFault) (hσ : Steady σ s) : Steady σ (Slots.save s c q pair) := by
  unfold Slots.save
  try dsimp only
  repeat' (first | with_reducible assumption | with_reducible apply Mem_store'_steady | with_reducible apply Ops_drawn_steady | with_reducible apply Pairs_output_steady | with_reducible apply Ops_modCore_steady | with_reducible apply Mem_storeMap_steady | with_reducible apply Steady.ite | with_reducible apply Steady.iteFst | split | (fail_if_no_progress with_reducible apply Steady.sameMk) | intro _)

theorem Slots_restoreOwn_steady {σ : State} (s : State) (c q : Nat) (hσ : Steady σ s) : Steady σ (Slots.restoreOwn s c q) := by
  unfold Slots.restoreOwn
  try dsimp only
  repeat' (first | with_reducible assumption | with_reducible apply Mem_load_steady | with_reducible apply Steady.ite | with_reducible apply Steady.iteFst | split | (with_reducible apply Steady.foldl <;> intros) | (with_reducible apply Steady.foldlFst <;> intros) | (fail_if_no_progress with_reducible apply Steady.sameMk) | intro _)

theorem Slots_restore_steady {σ : State} (s : State) (c q : Nat) (hσ : Steady σ s) : Steady σ (Slots.restore s c q) := by
  unfold Slots.restore
  try dsimp only
  repeat' (first | with_reducible assumption | with_reducible apply Slots_mirror_steady | with_reducible apply Slots_restoreOwn_steady | split)

theorem Slots_endCheck_steady {σ : State} (s : State) (c : Nat) (hσ : Steady σ s) : Steady σ (Slots.endCheck s c) := by
  unfold Slots.endCheck
  try dsimp only
  repeat' (first | with_reducible assumption | with_reducible apply Ops_postCtx_steady | with_reducible apply Ops_modCtx_steady | with_reducible apply Steady.ite | with_reducible apply Steady.iteFst | split | (fail_if_no_progress with_reducible apply Steady.sameMk) | intro _)

theorem Slots_becomeResident_steady {σ : State} (s : State) (c q slot : Nat) (hσ : Steady σ s) : Steady σ (Slots.becomeResident s c q slot) := by
  unfold Slots.becomeResident
  try dsimp only
  repeat' (first | with_reducible assumption | with_reducible apply Slots_endCheck_steady | with_reducible apply Ops_modCore_steady | with_reducible apply Slots_restore_steady | split | intro _)

theorem Slots_takeSlot_steady {σ : State} (s : State) (c q slot : Nat) (hσ : Steady σ s) : Steady σ (Slots.takeSlot s c q slot) := by
  unfold Slots.takeSlot
  try dsimp only
  repeat' (first | with_reducible assumption | with_reducible apply Ops_modCore_steady | with_reducible apply Slots_becomeResident_steady | with_reducible apply Steady.ite | with_reducible apply Steady.iteFst | split | (fail_if_no_progress with_reducible apply Steady.sameMk) | intro _)

theorem Slots_fillSlots_steady {a : State} (n : Nat) (s : State) (q : Nat) (h : Steady a s) : Steady a (Slots.fillSlots n s q) := by
  induction n generalizing s with
  | zero => exact h
  | succ n ih =>
    simp only [Slots.fillSlots]
    split
    · exact ih _ (Slots_takeSlot_steady _ _ _ _ h)
    · exact h

theorem Slots_fill_steady {σ : State} (s : State) (q : Nat) (hσ : Steady σ s) : Steady σ (Slots.fill s q) := by
  unfold Slots.fill
  try dsimp only
  repeat' (first | with_reducible assumption | with_reducible apply Slots_fillSlots_steady)

theorem Slots_settle_steady {σ : State} (s : State) (c : Nat) (cores : List Nat) (hσ : Steady σ s) : Steady σ (Slots.settle s c cores) := by
  unfold Slots.settle
  try dsimp only
  repeat' (first | with_reducible assumption | with_reducible apply Slots_endCheck_steady | with_reducible apply RemoteOps_fill_steady | with_reducible apply Slots_fill_steady | (with_reducible apply Steady.foldl <;> intros) | (with_reducible apply Steady.foldlFst <;> intros) | intro _)

theorem Slots_onCores_steady {σ : State} (s : State) (c : Nat) (f : CoreCtx → CoreCtx) (hσ : Steady σ s) : Steady σ (Slots.onCores s c f) := by
  unfold Slots.onCores
  try dsimp only
  repeat' (first | with_reducible assumption | with_reducible apply Slots_settle_steady | with_reducible apply Ops_modCtx_steady | split | (fail_if_no_progress with_reducible apply Steady.sameMk) | intro _)

theorem Slots_applyResult_steady {σ : State} (s : State) (c r : Nat) (hσ : Steady σ s) : Steady σ (Slots.applyResult s c r) := by
  unfold Slots.applyResult
  try dsimp only
  repeat' (first | with_reducible assumption | with_reducible apply Slots_onCores_steady)

theorem Slots_stopAll_steady {σ : State} (s : State) (c : Nat) (hσ : Steady σ s) : Steady σ (Slots.stopAll s c) := by
  unfold Slots.stopAll
  try dsimp only
  repeat' (first | with_reducible assumption | with_reducible apply Slots_onCores_steady)

theorem Slots_streamEnd_steady {σ : State} (s : State) (c q : Nat) (hσ : Steady σ s) : Steady σ (Slots.streamEnd s c q) := by
  unfold Slots.streamEnd
  try dsimp only
  repeat' (first | with_reducible assumption | with_reducible apply Slots_settle_steady | with_reducible apply Ops_modCore_steady | with_reducible apply Steady.ite | with_reducible apply Steady.iteFst | split | (fail_if_no_progress with_reducible apply Steady.sameMk) | intro _)

end

/-! ## Machine/Roles.lean -/

section

open Machine.Bits Machine.Ops Machine.Report
open Machine.Bits Machine.Ops Machine.Report
open Machine.Swaps

theorem Swaps_setRole_steady {σ : State} (s : State) (n : Nat) (r : Role) (hσ : Steady σ s) : Steady σ (Swaps.setRole s n r) := by
  unfold Swaps.setRole
  try dsimp only
  repeat' (first | with_reducible assumption | with_reducible apply Ops_modDex_steady | (fail_if_no_progress with_reducible apply Steady.sameMk) | intro _)

end

/-! ## Machine/Cicada.lean -/

section

open Machine.Bits Machine.Ops Machine.Report
open Machine.Ops
open Machine.Cicada

theorem Cicada_setPhys_steady {σ : State} (s : State) (k : Nat) (a : ArrayPhys) (hσ : Steady σ s) : Steady σ (Cicada.setPhys s k a) := by
  unfold Cicada.setPhys
  try dsimp only
  repeat' (first | with_reducible assumption | (fail_if_no_progress with_reducible apply Steady.sameMk))

theorem Cicada_bump_steady {σ : State} (s : State) (k j n : Nat) (hσ : Steady σ s) : Steady σ (Cicada.bump s k j n) := by
  unfold Cicada.bump
  try dsimp only
  repeat' (first | with_reducible assumption | with_reducible apply Cicada_setPhys_steady)

theorem Cicada_tick_steady {σ : State} (s : State) (n : Nat) (hσ : Steady σ s) : Steady σ (Cicada.tick s n) := by
  unfold Cicada.tick
  try dsimp only
  repeat' (first | with_reducible assumption | (with_reducible apply Steady.foldl <;> intros) | (with_reducible apply Steady.foldlFst <;> intros) | (fail_if_no_progress with_reducible apply Steady.sameMk) | intro _)

end

/-! ## Machine/Swaps.lean -/

section

open Machine.Bits Machine.Ops Machine.Report
open Machine.Bits Machine.Ops Machine.Report
open Machine.Swaps

theorem Swaps_unreplaceable_steady {σ : State} (s : State) (q : Nat) (hσ : Steady σ s) : Steady σ (Swaps.unreplaceable s q) := by
  unfold Swaps.unreplaceable
  try dsimp only
  repeat' (first | with_reducible assumption | with_reducible apply Ops_modDex_steady | with_reducible apply Report_record_steady | with_reducible apply RemoteOps_fill_steady | with_reducible apply Slots_fill_steady | with_reducible apply Steady.ite | with_reducible apply Steady.iteFst | split | (fail_if_no_progress with_reducible apply Steady.sameMk) | intro _)

theorem Swaps_begin'_steady {σ : State} (s : State) (n j : Nat) (rotation : Bool) (hσ : Steady σ s) : Steady σ (Swaps.begin' s n j rotation) := by
  unfold Swaps.begin'
  try dsimp only
  repeat' (first | with_reducible assumption | (intro w; exact ⟨w.1, w.2⟩) | (intro w; unfold Mem.wf at w ⊢; exact w) | with_reducible apply Ops_modWeevil_steady | with_reducible apply Ops_modDex_steady | with_reducible apply Cicada_setPhys_steady | with_reducible apply Steady.ite | with_reducible apply Steady.iteFst | split | (fail_if_no_progress with_reducible apply Steady.sameMk) | intro _)

theorem Swaps_inWindow_steady {σ : State} (s : State) (n : Nat) (swap : State → State) (hσ : Steady σ s) (k_swap : ∀ v0, Steady σ v0 → Steady σ (swap v0)) : Steady σ (Swaps.inWindow s n swap) := by
  unfold Swaps.inWindow
  try dsimp only
  repeat' (first | with_reducible assumption | apply k_swap | (intro w; exact ⟨w.1, w.2⟩) | (intro w; unfold Mem.wf at w ⊢; exact w) | with_reducible apply Ops_modWeevil_steady | with_reducible apply Steady.ite | with_reducible apply Steady.iteFst | split | (fail_if_no_progress with_reducible apply Steady.sameMk) | intro _)

theorem Swaps_startDue_steady {σ : State} (s0 : State) (n : Nat) (hσ : Steady σ s0) : Steady σ (Swaps.startDue s0 n) := by
  unfold Swaps.startDue
  try dsimp only
  repeat' (first | with_reducible assumption | (intro w; exact ⟨w.1, w.2⟩) | (intro w; unfold Mem.wf at w ⊢; exact w) | with_reducible apply Ops_modWeevil_steady | with_reducible apply Swaps_inWindow_steady | with_reducible apply Swaps_begin'_steady | with_reducible apply Swaps_unreplaceable_steady | with_reducible apply Steady.ite | with_reducible apply Steady.iteFst | split | (with_reducible apply Steady.foldl <;> intros) | (with_reducible apply Steady.foldlFst <;> intros) | (fail_if_no_progress with_reducible apply Steady.sameMk) | intro _)

theorem Swaps_atWindow_steady {σ : State} (s : State) (hσ : Steady σ s) : Steady σ (Swaps.atWindow s) := by
  unfold Swaps.atWindow
  try dsimp only
  repeat' (first | with_reducible assumption | with_reducible apply Swaps_startDue_steady | with_reducible apply Steady.ite | with_reducible apply Steady.iteFst | split | (with_reducible apply Steady.foldl <;> intros) | (with_reducible apply Steady.foldlFst <;> intros) | intro _)

theorem Swaps_atBoundary_steady {σ : State} (s : State) (hσ : Steady σ s) : Steady σ (Swaps.atBoundary s) := by
  unfold Swaps.atBoundary
  try dsimp only
  repeat' (first | with_reducible assumption | with_reducible apply Swaps_startDue_steady | (with_reducible apply Steady.foldl <;> intros) | (with_reducible apply Steady.foldlFst <;> intros) | intro _)

theorem Swaps_atPass_steady {σ : State} (s : State) (q : Nat) (due : Bool) (hσ : Steady σ s) : Steady σ (Swaps.atPass s q due) := by
  unfold Swaps.atPass
  try dsimp only
  repeat' (first | with_reducible assumption | with_reducible apply Swaps_startDue_steady | with_reducible apply Steady.ite | with_reducible apply Steady.iteFst | split)

theorem Swaps_countError_steady {σ : State} (s : State) (q c tile : Nat) (hσ : Steady σ s) : Steady σ (Swaps.countError s q c tile) := by
  unfold Swaps.countError
  try dsimp only
  repeat' (first | with_reducible assumption | (intro w; exact ⟨w.1, w.2⟩) | (intro w; unfold Mem.wf at w ⊢; exact w) | with_reducible apply Cicada_setPhys_steady | with_reducible apply Ops_modWeevil_steady | with_reducible apply Steady.ite | with_reducible apply Steady.iteFst | split | (fail_if_no_progress with_reducible apply Steady.sameMk) | intro _)

theorem Swaps_atSwitchEnd_steady {σ : State} (s : State) (q : Nat) (hσ : Steady σ s) : Steady σ (Swaps.atSwitchEnd s q) := by
  unfold Swaps.atSwitchEnd
  try dsimp only
  repeat' (first | with_reducible assumption | with_reducible apply Swaps_startDue_steady | with_reducible apply Steady.ite | with_reducible apply Steady.iteFst | split)

theorem Swaps_rest_steady {σ : State} (s : State) (k : Nat) (hσ : Steady σ s) : Steady σ (Swaps.rest s k) := by
  unfold Swaps.rest
  try dsimp only
  repeat' (first | with_reducible assumption | with_reducible apply Cicada_setPhys_steady | (fail_if_no_progress with_reducible apply Steady.sameMk))

end

/-! ## Machine/Churn.lean -/

section

open Machine.Bits Machine.Ops Machine.Report
open Machine.Bits Machine.Ops Machine.Report Machine.Numeric
open Machine.ChurnOps

theorem ChurnOps_setChurn_steady {σ : State} (s : State) (n : Nat) (x : Churn) (hσ : Steady σ s) : Steady σ (ChurnOps.setChurn s n x) := by
  unfold ChurnOps.setChurn
  try dsimp only
  repeat' (first | with_reducible assumption | (fail_if_no_progress with_reducible apply Steady.sameMk))

theorem ChurnOps_slotWrite_steady {σ : State} (s : State) (n off : Nat) (data : Bytes) (hσ : Steady σ s) : Steady σ (ChurnOps.slotWrite s n off data).1 := by
  unfold ChurnOps.slotWrite
  try dsimp only
  repeat' (first | with_reducible assumption | with_reducible apply ChurnOps_setChurn_steady | with_reducible apply Steady.ite | with_reducible apply Steady.iteFst | split | (fail_if_no_progress with_reducible apply Steady.sameMk))

theorem ChurnOps_digestStart_steady {σ : State} (s : State) (n r : Nat) (d : ChurnDesc) (hσ : Steady σ s) : Steady σ (ChurnOps.digestStart s n r d).1 := by
  unfold ChurnOps.digestStart
  try dsimp only
  repeat' (first | with_reducible assumption | with_reducible apply Report_raise_steady | with_reducible apply Steady.ite | with_reducible apply Steady.iteFst | split | (fail_if_no_progress with_reducible apply Steady.sameMk))

theorem ChurnOps_begin'_steady {σ : State} (s : State) (n r : Nat) (d : ChurnDesc) (hσ : Steady σ s) : Steady σ (ChurnOps.begin' s n r d).1 := by
  unfold ChurnOps.begin'
  try dsimp only
  repeat' (first | with_reducible assumption | with_reducible apply ChurnOps_digestStart_steady | with_reducible apply Mem_load_steady | with_reducible apply Mem_drillReads_steady | with_reducible apply Mem_reactRead_steady | with_reducible apply Steady.ite | with_reducible apply Steady.iteFst | split | (with_reducible apply Steady.foldl <;> intros) | (with_reducible apply Steady.foldlFst <;> intros) | (fail_if_no_progress with_reducible apply Steady.sameMk) | intro _)

theorem ChurnOps_start_steady {σ : State} (s : State) (n r opt : Nat) (hits : List CodeHit) (hσ : Steady σ s) : Steady σ (ChurnOps.start s n r opt hits) := by
  unfold ChurnOps.start
  try dsimp only
  repeat' (first | with_reducible assumption | with_reducible apply Swaps_begin'_steady | with_reducible apply ChurnOps_begin'_steady | with_reducible apply Mem_inject_steady | with_reducible apply ChurnOps_setChurn_steady | with_reducible apply Steady.ite | with_reducible apply Steady.iteFst | split | (fail_if_no_progress with_reducible apply Steady.sameMk))

theorem ChurnOps_tick_steady {σ : State} (s : State) (n : Nat) (hσ : Steady σ s) : Steady σ (ChurnOps.tick s n) := by
  unfold ChurnOps.tick
  try dsimp only
  repeat' (first | with_reducible assumption | with_reducible apply Steady.ite | with_reducible apply Steady.iteFst | split | (fail_if_no_progress with_reducible apply Steady.sameMk) | intro _)

theorem ChurnOps_finishRun_steady {σ : State} (s : State) (n : Nat) (u : ChurnRun) (hσ : Steady σ s) : Steady σ (ChurnOps.finishRun s n u) := by
  unfold ChurnOps.finishRun
  try dsimp only
  repeat' (first | with_reducible assumption | with_reducible apply Mem_store'_steady | with_reducible apply Report_setFail_steady | with_reducible apply FlagOps_report_steady | with_reducible apply FlagOps_arrive_steady | with_reducible apply ChurnOps_setChurn_steady | with_reducible apply Steady.ite | with_reducible apply Steady.iteFst | split | (with_reducible apply Steady.foldl <;> intros) | (with_reducible apply Steady.foldlFst <;> intros) | (fail_if_no_progress with_reducible apply Steady.sameMk) | intro _)

theorem ChurnOps_finish_steady {σ : State} (s : State) (n : Nat) (hσ : Steady σ s) : Steady σ (ChurnOps.finish s n) := by
  unfold ChurnOps.finish
  try dsimp only
  repeat' (first | with_reducible assumption | with_reducible apply PressOps_finishRun_steady | with_reducible apply ChurnOps_finishRun_steady | with_reducible apply Steady.ite | with_reducible apply Steady.iteFst | split)

theorem ChurnOps_abort_steady {σ : State} (s : State) (c : Nat) (hσ : Steady σ s) : Steady σ (ChurnOps.abort s c) := by
  unfold ChurnOps.abort
  try dsimp only
  repeat' (first | with_reducible assumption | with_reducible apply Ops_drawn_steady | with_reducible apply Steady.ite | with_reducible apply Steady.iteFst | split | (fail_if_no_progress with_reducible apply Steady.sameMk) | intro _)

theorem ChurnOps_execChurnSlotWrite_goes (addr : Nat) (data : Bytes) (s : State) : Goes s (ChurnOps.execChurnSlotWrite addr data s) := by
  refine ⟨_, rfl, ?_⟩
  try dsimp only
  repeat' (first | with_reducible exact Steady.refl _ | with_reducible assumption | with_reducible apply PressOps_slotWrite_steady | with_reducible apply ChurnOps_slotWrite_steady | with_reducible apply Ops_emit_steady | with_reducible apply Ops_answer_steady | split)

theorem ChurnOps_execSgdMomentum_goes (n r : Nat) (hits : List CodeHit) (s : State) : Goes s (ChurnOps.execSgdMomentum n r hits s) := by
  refine ⟨_, rfl, ?_⟩
  try dsimp only
  repeat' (first | with_reducible exact Steady.refl _ | with_reducible assumption | with_reducible apply RemoteOps_start_steady | with_reducible apply PressOps_start_steady | with_reducible apply ChurnOps_start_steady)

theorem ChurnOps_execAdam_goes (n r : Nat) (hits : List CodeHit) (s : State) : Goes s (ChurnOps.execAdam n r hits s) := by
  refine ⟨_, rfl, ?_⟩
  try dsimp only
  repeat' (first | with_reducible exact Steady.refl _ | with_reducible assumption | with_reducible apply RemoteOps_start_steady | with_reducible apply PressOps_start_steady | with_reducible apply ChurnOps_start_steady)

theorem ChurnOps_execFactoredSecondMoment_goes (n r : Nat) (hits : List CodeHit) (s : State) : Goes s (ChurnOps.execFactoredSecondMoment n r hits s) := by
  refine ⟨_, rfl, ?_⟩
  try dsimp only
  repeat' (first | with_reducible exact Steady.refl _ | with_reducible assumption | with_reducible apply RemoteOps_start_steady | with_reducible apply PressOps_start_steady | with_reducible apply ChurnOps_start_steady)

theorem ChurnOps_execSignMomentum_goes (n r : Nat) (hits : List CodeHit) (s : State) : Goes s (ChurnOps.execSignMomentum n r hits s) := by
  refine ⟨_, rfl, ?_⟩
  try dsimp only
  repeat' (first | with_reducible exact Steady.refl _ | with_reducible assumption | with_reducible apply RemoteOps_start_steady | with_reducible apply PressOps_start_steady | with_reducible apply ChurnOps_start_steady)

theorem ChurnOps_execSumsq_goes (n r : Nat) (hits : List CodeHit) (s : State) : Goes s (ChurnOps.execSumsq n r hits s) := by
  refine ⟨_, rfl, ?_⟩
  try dsimp only
  repeat' (first | with_reducible exact Steady.refl _ | with_reducible assumption | with_reducible apply RemoteOps_start_steady | with_reducible apply PressOps_start_steady | with_reducible apply ChurnOps_start_steady)

theorem ChurnOps_execCast_goes (n r : Nat) (hits : List CodeHit) (s : State) : Goes s (ChurnOps.execCast n r hits s) := by
  refine ⟨_, rfl, ?_⟩
  try dsimp only
  repeat' (first | with_reducible exact Steady.refl _ | with_reducible assumption | with_reducible apply RemoteOps_start_steady | with_reducible apply PressOps_start_steady | with_reducible apply ChurnOps_start_steady)

theorem ChurnOps_execChurnDigest_goes (n r : Nat) (s : State) : Goes s (ChurnOps.execChurnDigest n r s) := by
  refine ⟨_, rfl, ?_⟩
  try dsimp only
  repeat' (first | with_reducible exact Steady.refl _ | with_reducible assumption | with_reducible apply RemoteOps_start_steady | with_reducible apply PressOps_start_steady | with_reducible apply ChurnOps_start_steady)

theorem ChurnOps_execChurnDescriptorFinish_goes (n : Nat) (s : State) : Goes s (ChurnOps.execChurnDescriptorFinish n s) := by
  refine ⟨_, rfl, ?_⟩
  try dsimp only
  repeat' (first | with_reducible exact Steady.refl _ | with_reducible assumption | with_reducible apply PressOps_finish_steady | with_reducible apply ChurnOps_finish_steady)

end

/-! ## Machine/FlagWindow.lean -/

section

open Machine.Bits Machine.Ops Machine.Report
open Machine.Bits Machine.Ops Machine.Report
open Machine.FlagWindow

theorem FlagWindow_actWrite_steady {σ : State} (s : State) (q : Nat) (v : W64) (p : Party) (hσ : Steady σ s) : Steady σ (FlagWindow.actWrite s q v p).1 := by
  unfold FlagWindow.actWrite
  try dsimp only
  repeat' (first | with_reducible assumption | with_reducible apply Pairs_field_steady | with_reducible apply FlagOps_arrive_steady | with_reducible apply Steady.ite | with_reducible apply Steady.iteFst | split)

theorem FlagWindow_writeAttrs_steady {a : State} (n : Nat) (s : State) (q f : Nat) (b : Bytes) (h : Steady a s) :
    Steady a (FlagWindow.writeAttrs n s q f b) := by
  induction n generalizing s f b with
  | zero => exact h
  | succ n ih => exact ih _ _ _ (Ops_modFlags_steady _ _ h)

theorem FlagWindow_write_steady {σ : State} (s : State) (q o : Nat) (data : Bytes) (p : Party) (hσ : Steady σ s) : Steady σ (FlagWindow.write s q o data p).1 := by
  unfold FlagWindow.write
  try dsimp only
  repeat' (first | with_reducible assumption | with_reducible apply FlagWindow_actWrite_steady | with_reducible apply Ops_modFlags_steady | with_reducible apply Pairs_field_steady | with_reducible apply FlagWindow_writeAttrs_steady | with_reducible apply Report_countUnmapped_steady | with_reducible apply Steady.ite | with_reducible apply Steady.iteFst | split | (fail_if_no_progress with_reducible apply Steady.sameMk) | intro _)

theorem FlagWindow_hostAct_steady {σ : State} (s : State) (core : Nat) (v : W64) (fact : Nat) (hσ : Steady σ s) : Steady σ (FlagWindow.hostAct s core v fact) := by
  unfold FlagWindow.hostAct
  try dsimp only
  repeat' (first | with_reducible assumption | with_reducible apply Pairs_field_steady | with_reducible apply Ops_fromHost_steady | with_reducible apply Ops_emit_steady | with_reducible apply Ops_answer_steady | with_reducible apply FlagWindow_actWrite_steady | with_reducible apply Steady.ite | with_reducible apply Steady.iteFst | split)

theorem FlagWindow_execFlgActSet_goes (core : Nat) (v : W64) (s : State) : Goes s (FlagWindow.execFlgActSet core v s) := by
  refine ⟨_, rfl, ?_⟩
  try dsimp only
  repeat' (first | with_reducible exact Steady.refl _ | with_reducible assumption | with_reducible apply FlagWindow_hostAct_steady)

theorem FlagWindow_execFlgActClear_goes (core : Nat) (v : W64) (s : State) : Goes s (FlagWindow.execFlgActClear core v s) := by
  refine ⟨_, rfl, ?_⟩
  try dsimp only
  repeat' (first | with_reducible exact Steady.refl _ | with_reducible assumption | with_reducible apply FlagWindow_hostAct_steady)

theorem FlagWindow_execFlgActNone_goes (core : Nat) (v : W64) (s : State) : Goes s (FlagWindow.execFlgActNone core v s) := by
  refine ⟨_, rfl, ?_⟩
  try dsimp only
  repeat' (first | with_reducible exact Steady.refl _ | with_reducible assumption | with_reducible apply FlagWindow_hostAct_steady)

end

/-! ## Machine/Hive.lean -/

section

open Machine.Bits Machine.Ops Machine.Report
open Machine.Bits Machine.Ops Machine.Report
open Machine.HiveOps

theorem HiveOps_setHive_steady {σ : State} (s : State) (n : Nat) (h : Hive) (hσ : Steady σ s) : Steady σ (HiveOps.setHive s n h) := by
  unfold HiveOps.setHive
  try dsimp only
  repeat' (first | with_reducible assumption | (fail_if_no_progress with_reducible apply Steady.sameMk))

theorem HiveOps_push_steady {a : State} (s : State) (n q off : Nat) (data : Bytes) (check : W32) (h : Steady a s) :
    Steady a (HiveOps.push s n q off data check).1 := by
  simp only [HiveOps.push]
  split
  · exact HiveOps_setHive_steady _ _ _ h
  · exact HiveOps_setHive_steady _ _ _ ⟨h.pending, h.ns, Nat.le_add_right_of_le h.free, h.out, h.mem, h.scrub, h.health, h.timeouts, h.quantum, h.swapCtl, h.governor⟩

theorem HiveOps_read_steady {σ : State} (s : State) (n q len : Nat) (move : Bool) (hσ : Steady σ s) : Steady σ (HiveOps.read s n q len move).1 := by
  unfold HiveOps.read
  try dsimp only
  repeat' (first | with_reducible assumption | with_reducible apply HiveOps_setHive_steady | with_reducible apply Steady.ite | with_reducible apply Steady.iteFst | split | (fail_if_no_progress with_reducible apply Steady.sameMk))

theorem HiveOps_command_steady {a : State} (s : State) (n q cmd rsvd : Nat) (h : Steady a s) :
    ∀ t, HiveOps.command s n q cmd rsvd = some t → Steady a t := by
  intro t e
  simp only [HiveOps.command] at e
  repeat' split at e
  all_goals first
    | (cases e; done)
    | (simp only [Option.some.injEq] at e; subst e; exact HiveOps_setHive_steady _ _ _ h)

theorem HiveOps_answerTo_steady {a : State} (s : State) (r : Option State) (h : Steady a s) (k : ∀ t, r = some t → Steady a t) :
    Steady a (HiveOps.answerTo s r) := by
  simp only [HiveOps.answerTo]
  split
  · exact Ops_emit_steady _ _ (k _ rfl)
  · exact Ops_emit_steady _ _ h

theorem HiveOps_config_steady {a : State} (s : State) (n q : Nat) (v : W64) (h : Steady a s) :
    ∀ t, HiveOps.config s n q v = some t → Steady a t := by
  intro t e
  simp only [HiveOps.config] at e
  split at e
  · cases e
  · simp only [Option.some.injEq] at e; subst e; exact HiveOps_setHive_steady _ _ _ h

theorem HiveOps_applyResult_steady {σ : State} (s : State) (c r : Nat) (hσ : Steady σ s) : Steady σ (HiveOps.applyResult s c r) := by
  unfold HiveOps.applyResult
  try dsimp only
  repeat' (first | with_reducible assumption | (with_reducible apply Steady.foldl <;> intros) | (with_reducible apply Steady.foldlFst <;> intros) | (fail_if_no_progress with_reducible apply Steady.sameMk) | intro _)

theorem HiveOps_countCe_steady {σ : State} (s : State) (n : Nat) (hσ : Steady σ s) : Steady σ (HiveOps.countCe s n) := by
  unfold HiveOps.countCe
  try dsimp only
  repeat' (first | with_reducible assumption | with_reducible apply Report_addCorrected_steady | with_reducible apply HiveOps_setHive_steady | (fail_if_no_progress with_reducible apply Steady.sameMk))

theorem HiveOps_cellError_steady {σ : State} (s : State) (n q cell unit ctx : Nat) (hσ : Steady σ s) : Steady σ (HiveOps.cellError s n q cell unit ctx) := by
  unfold HiveOps.cellError
  try dsimp only
  repeat' (first | with_reducible assumption | with_reducible apply Report_raise_steady)

theorem HiveOps_scrub_steady {σ : State} (s : State) (n q cell : Nat) (ecc : Ecc) (hσ : Steady σ s) : Steady σ (HiveOps.scrub s n q cell ecc) := by
  unfold HiveOps.scrub
  try dsimp only
  repeat' (first | with_reducible assumption | with_reducible apply Mem_corrected_steady | with_reducible apply HiveOps_countCe_steady | with_reducible apply Mem_uncorrectable_steady | with_reducible apply HiveOps_cellError_steady | split)

theorem HiveOps_reports_steady {σ : State} (s : State) (n base len : Nat) (hits : List CodeHit) (unit ctx : Nat) (hσ : Steady σ s) : Steady σ (HiveOps.reports s n base len hits unit ctx).1 := by
  unfold HiveOps.reports
  try dsimp only
  repeat' (first | with_reducible assumption | with_reducible apply Mem_corrected_steady | with_reducible apply HiveOps_countCe_steady | with_reducible apply Mem_uncorrectable_steady | with_reducible apply HiveOps_cellError_steady | with_reducible apply Steady.ite | with_reducible apply Steady.iteFst | split | (with_reducible apply Steady.foldl <;> intros) | (with_reducible apply Steady.foldlFst <;> intros) | intro _)

theorem HiveOps_portRead_steady {σ : State} (s : State) (n q len : Nat) (move : Bool) (hits : List CodeHit) (hσ : Steady σ s) : Steady σ (HiveOps.portRead s n q len move hits) := by
  unfold HiveOps.portRead
  try dsimp only
  repeat' (first | with_reducible assumption | with_reducible apply HiveOps_reports_steady | with_reducible apply Ops_emit_steady | with_reducible apply HiveOps_read_steady | with_reducible apply Steady.ite | with_reducible apply Steady.iteFst | split)

theorem HiveOps_execHivePush_goes (n q off : Nat) (data : Bytes) (check : W32) (s : State) : Goes s (HiveOps.execHivePush n q off data check s) := by
  refine ⟨_, rfl, ?_⟩
  try dsimp only
  repeat' (first | exact HiveOps_config_steady _ _ _ _ (Steady.refl _) _ (by assumption) | exact HiveOps_command_steady _ _ _ _ _ (Steady.refl _) _ (by assumption) | with_reducible exact Steady.refl _ | with_reducible assumption | with_reducible apply HiveOps_push_steady | with_reducible apply Ops_emit_steady | with_reducible apply Ops_answer_steady)

theorem HiveOps_execHiveTake_goes (n q : Nat) (x : PortRead) (s : State) : Goes s (HiveOps.execHiveTake n q x s) := by
  refine ⟨_, rfl, ?_⟩
  try dsimp only
  repeat' (first | exact HiveOps_config_steady _ _ _ _ (Steady.refl _) _ (by assumption) | exact HiveOps_command_steady _ _ _ _ _ (Steady.refl _) _ (by assumption) | with_reducible exact Steady.refl _ | with_reducible assumption | with_reducible apply HiveOps_portRead_steady)

theorem HiveOps_execHivePeek_goes (n q : Nat) (x : PortRead) (s : State) : Goes s (HiveOps.execHivePeek n q x s) := by
  refine ⟨_, rfl, ?_⟩
  try dsimp only
  repeat' (first | exact HiveOps_config_steady _ _ _ _ (Steady.refl _) _ (by assumption) | exact HiveOps_command_steady _ _ _ _ _ (Steady.refl _) _ (by assumption) | with_reducible exact Steady.refl _ | with_reducible assumption | with_reducible apply HiveOps_portRead_steady)

theorem HiveOps_execQueueConfigWrite_goes (n q : Nat) (v : W64) (s : State) : Goes s (HiveOps.execQueueConfigWrite n q v s) := by
  refine ⟨_, rfl, ?_⟩
  try dsimp only
  repeat' (first | exact HiveOps_config_steady _ _ _ _ (Steady.refl _) _ (by assumption) | exact HiveOps_command_steady _ _ _ _ _ (Steady.refl _) _ (by assumption) | with_reducible exact Steady.refl _ | with_reducible assumption | with_reducible apply HiveOps_answerTo_steady | intro _)

theorem HiveOps_execHiveMark_goes (n q rsvd : Nat) (s : State) : Goes s (HiveOps.execHiveMark n q rsvd s) := by
  refine ⟨_, rfl, ?_⟩
  try dsimp only
  repeat' (first | exact HiveOps_config_steady _ _ _ _ (Steady.refl _) _ (by assumption) | exact HiveOps_command_steady _ _ _ _ _ (Steady.refl _) _ (by assumption) | with_reducible exact Steady.refl _ | with_reducible assumption | with_reducible apply HiveOps_answerTo_steady | intro _)

theorem HiveOps_execRewind_goes (n q rsvd : Nat) (s : State) : Goes s (HiveOps.execRewind n q rsvd s) := by
  refine ⟨_, rfl, ?_⟩
  try dsimp only
  repeat' (first | exact HiveOps_config_steady _ _ _ _ (Steady.refl _) _ (by assumption) | exact HiveOps_command_steady _ _ _ _ _ (Steady.refl _) _ (by assumption) | with_reducible exact Steady.refl _ | with_reducible assumption | with_reducible apply HiveOps_answerTo_steady | intro _)

theorem HiveOps_execRelease_goes (n q rsvd : Nat) (s : State) : Goes s (HiveOps.execRelease n q rsvd s) := by
  refine ⟨_, rfl, ?_⟩
  try dsimp only
  repeat' (first | exact HiveOps_config_steady _ _ _ _ (Steady.refl _) _ (by assumption) | exact HiveOps_command_steady _ _ _ _ _ (Steady.refl _) _ (by assumption) | with_reducible exact Steady.refl _ | with_reducible assumption | with_reducible apply HiveOps_answerTo_steady | intro _)

theorem HiveOps_execAdvance_goes (n q rsvd : Nat) (s : State) : Goes s (HiveOps.execAdvance n q rsvd s) := by
  refine ⟨_, rfl, ?_⟩
  try dsimp only
  repeat' (first | exact HiveOps_config_steady _ _ _ _ (Steady.refl _) _ (by assumption) | exact HiveOps_command_steady _ _ _ _ _ (Steady.refl _) _ (by assumption) | with_reducible exact Steady.refl _ | with_reducible assumption | with_reducible apply HiveOps_answerTo_steady | intro _)

theorem HiveOps_execHiveReset_goes (n q rsvd : Nat) (s : State) : Goes s (HiveOps.execHiveReset n q rsvd s) := by
  refine ⟨_, rfl, ?_⟩
  try dsimp only
  repeat' (first | exact HiveOps_config_steady _ _ _ _ (Steady.refl _) _ (by assumption) | exact HiveOps_command_steady _ _ _ _ _ (Steady.refl _) _ (by assumption) | with_reducible exact Steady.refl _ | with_reducible assumption | with_reducible apply HiveOps_answerTo_steady | intro _)

theorem HiveOps_execHivePatrolScrub_goes (n q cell : Nat) (ecc : Ecc) (s : State) : Goes s (HiveOps.execHivePatrolScrub n q cell ecc s) := by
  refine ⟨_, rfl, ?_⟩
  try dsimp only
  repeat' (first | exact HiveOps_config_steady _ _ _ _ (Steady.refl _) _ (by assumption) | exact HiveOps_command_steady _ _ _ _ _ (Steady.refl _) _ (by assumption) | with_reducible exact Steady.refl _ | with_reducible assumption | with_reducible apply HiveOps_scrub_steady)

end

/-! ## Machine/RegMode.lean -/

section

open Machine.Bits Machine.Ops Machine.Report
open Machine.Bits Machine.Ops Machine.Numeric Machine.Operand Machine.VecMath
open Machine.RegMode

theorem RegMode_setCore_steady {σ : State} (s : State) (k : Nat) (x : RmCore) (hσ : Steady σ s) : Steady σ (RegMode.setCore s k x) := by
  unfold RegMode.setCore
  try dsimp only
  repeat' (first | with_reducible assumption | (fail_if_no_progress with_reducible apply Steady.sameMk))

theorem RegMode_run_steady {σ : State} (s : State) (k op : Nat) (w : RmWord) (f : RmCore → Option RmCore) (hσ : Steady σ s) : Steady σ (RegMode.run s k op w f) := by
  unfold RegMode.run
  try dsimp only
  repeat' (first | with_reducible assumption | with_reducible apply RegMode_setCore_steady | with_reducible apply Steady.ite | with_reducible apply Steady.iteFst | split)

theorem RegMode_ldOp_steady {σ : State} (s0 : State) (k : Nat) (w : RmWord) (hits : List CodeHit) (hσ : Steady σ s0) : Steady σ (RegMode.ldOp s0 k w hits) := by
  unfold RegMode.ldOp
  try dsimp only
  repeat' (first | with_reducible assumption | with_reducible apply Mem_inject_steady | with_reducible apply RegMode_run_steady | with_reducible apply Mem_load_steady | with_reducible apply Steady.ite | with_reducible apply Steady.iteFst | split | intro _)

theorem RegMode_stOp_steady {σ : State} (s0 : State) (k : Nat) (w : RmWord) (hits : List CodeHit) (hσ : Steady σ s0) : Steady σ (RegMode.stOp s0 k w hits) := by
  unfold RegMode.stOp
  try dsimp only
  repeat' (first | with_reducible assumption | with_reducible apply Mem_inject_steady | with_reducible apply RegMode_run_steady | with_reducible apply Mem_store'_steady | with_reducible apply Steady.ite | with_reducible apply Steady.iteFst | split | (fail_if_no_progress with_reducible apply Steady.sameMk) | intro _)

theorem RegMode_haltOp_steady {σ : State} (s : State) (k : Nat) (w : RmWord) (hσ : Steady σ s) : Steady σ (RegMode.haltOp s k w) := by
  unfold RegMode.haltOp
  try dsimp only
  repeat' (first | with_reducible assumption | with_reducible apply RegMode_setCore_steady | with_reducible apply Steady.ite | with_reducible apply Steady.iteFst | split | (fail_if_no_progress with_reducible apply Steady.sameMk))

theorem RegMode_rmLoopOp_steady {σ : State} (s : State) (k : Nat) (w : RmWord) (hσ : Steady σ s) : Steady σ (RegMode.rmLoopOp s k w) := by
  unfold RegMode.rmLoopOp
  try dsimp only
  repeat' (first | with_reducible assumption | with_reducible apply RegMode_setCore_steady | with_reducible apply Steady.ite | with_reducible apply Steady.iteFst | split | (fail_if_no_progress with_reducible apply Steady.sameMk))

theorem RegMode_enter_steady {σ : State} (s : State) (k limit : Nat) (hσ : Steady σ s) : Steady σ (RegMode.enter s k limit) := by
  unfold RegMode.enter
  try dsimp only
  repeat' (first | with_reducible assumption | with_reducible apply RegMode_setCore_steady | with_reducible apply Ops_drawn_steady | (fail_if_no_progress with_reducible apply Steady.sameMk) | intro _)

theorem RegMode_ctlWrite_steady {σ : State} (s : State) (k : Nat) (v : W64) (hσ : Steady σ s) : Steady σ (RegMode.ctlWrite s k v).1 := by
  unfold RegMode.ctlWrite
  try dsimp only
  repeat' (first | with_reducible assumption | with_reducible apply Pairs_field_steady | with_reducible apply RegMode_enter_steady | with_reducible apply RegMode_setCore_steady | with_reducible apply Steady.ite | with_reducible apply Steady.iteFst | split | (fail_if_no_progress with_reducible apply Steady.sameMk) | intro _)

theorem RegMode_modeSet_steady {σ : State} (s : State) (k : Nat) (v : W64) (program : List W64) (hσ : Steady σ s) : Steady σ (RegMode.modeSet s k v program) := by
  unfold RegMode.modeSet
  try dsimp only
  repeat' (first | with_reducible assumption | with_reducible apply RegMode_ctlWrite_steady | with_reducible apply RegMode_setCore_steady | with_reducible apply Steady.ite | with_reducible apply Steady.iteFst | split | (fail_if_no_progress with_reducible apply Steady.sameMk) | intro _)

theorem RegMode_modeClear_steady {σ : State} (s : State) (k : Nat) (v : W64) (hσ : Steady σ s) : Steady σ (RegMode.modeClear s k v) := by
  unfold RegMode.modeClear
  try dsimp only
  repeat' (first | with_reducible assumption | with_reducible apply RegMode_ctlWrite_steady | with_reducible apply Steady.ite | with_reducible apply Steady.iteFst | split)

theorem RegMode_execRmLaneOp_goes (k : Nat) (w : RmWord) (s : State) : Goes s (RegMode.execRmLaneOp k w s) := by
  refine ⟨_, rfl, ?_⟩
  try dsimp only
  repeat' (first | with_reducible exact Steady.refl _ | with_reducible assumption | with_reducible apply RegMode_run_steady | with_reducible apply Steady.ite | with_reducible apply Steady.iteFst | split)

theorem RegMode_execLdi_goes (k : Nat) (w : RmWord) (s : State) : Goes s (RegMode.execLdi k w s) := by
  refine ⟨_, rfl, ?_⟩
  try dsimp only
  repeat' (first | with_reducible exact Steady.refl _ | with_reducible assumption | with_reducible apply RegMode_run_steady | intro _)

theorem RegMode_execLdgen_goes (k : Nat) (w : RmWord) (s : State) : Goes s (RegMode.execLdgen k w s) := by
  refine ⟨_, rfl, ?_⟩
  try dsimp only
  repeat' (first | with_reducible exact Steady.refl _ | with_reducible assumption | with_reducible apply RegMode_run_steady | intro _)

theorem RegMode_execLd_goes (k : Nat) (w : RmMem) (s : State) : Goes s (RegMode.execLd k w s) := by
  refine ⟨_, rfl, ?_⟩
  try dsimp only
  repeat' (first | with_reducible exact Steady.refl _ | with_reducible assumption | with_reducible apply RegMode_ldOp_steady)

theorem RegMode_execSt_goes (k : Nat) (w : RmMem) (s : State) : Goes s (RegMode.execSt k w s) := by
  refine ⟨_, rfl, ?_⟩
  try dsimp only
  repeat' (first | with_reducible exact Steady.refl _ | with_reducible assumption | with_reducible apply RegMode_stOp_steady)

theorem RegMode_execRmDigest_goes (k : Nat) (w : RmWord) (s : State) : Goes s (RegMode.execRmDigest k w s) := by
  refine ⟨_, rfl, ?_⟩
  try dsimp only
  repeat' (first | with_reducible exact Steady.refl _ | with_reducible assumption | with_reducible apply RegMode_run_steady | (fail_if_no_progress with_reducible apply Steady.sameMk) | intro _)

theorem RegMode_execChklo_goes (k : Nat) (w : RmWord) (s : State) : Goes s (RegMode.execChklo k w s) := by
  refine ⟨_, rfl, ?_⟩
  try dsimp only
  repeat' (first | with_reducible exact Steady.refl _ | with_reducible assumption | with_reducible apply RegMode_run_steady | (fail_if_no_progress with_reducible apply Steady.sameMk) | intro _)

theorem RegMode_execChkhi_goes (k : Nat) (w : RmWord) (s : State) : Goes s (RegMode.execChkhi k w s) := by
  refine ⟨_, rfl, ?_⟩
  try dsimp only
  repeat' (first | with_reducible exact Steady.refl _ | with_reducible assumption | with_reducible apply RegMode_run_steady | (fail_if_no_progress with_reducible apply Steady.sameMk) | intro _)

theorem RegMode_execRmLoop_goes (k : Nat) (w : RmWord) (s : State) : Goes s (RegMode.execRmLoop k w s) := by
  refine ⟨_, rfl, ?_⟩
  try dsimp only
  repeat' (first | with_reducible exact Steady.refl _ | with_reducible assumption | with_reducible apply RegMode_rmLoopOp_steady)

theorem RegMode_execHalt_goes (k : Nat) (w : RmWord) (s : State) : Goes s (RegMode.execHalt k w s) := by
  refine ⟨_, rfl, ?_⟩
  try dsimp only
  repeat' (first | with_reducible exact Steady.refl _ | with_reducible assumption | with_reducible apply RegMode_haltOp_steady)

theorem RegMode_execRmModeSet_goes (k : Nat) (v : W64) (program : List W64) (s : State) : Goes s (RegMode.execRmModeSet k v program s) := by
  refine ⟨_, rfl, ?_⟩
  try dsimp only
  repeat' (first | with_reducible exact Steady.refl _ | with_reducible assumption | with_reducible apply RegMode_modeSet_steady | intro _)

theorem RegMode_execRmModeClear_goes (k : Nat) (v : W64) (s : State) : Goes s (RegMode.execRmModeClear k v s) := by
  refine ⟨_, rfl, ?_⟩
  try dsimp only
  repeat' (first | with_reducible exact Steady.refl _ | with_reducible assumption | with_reducible apply RegMode_modeClear_steady | intro _)

end

/-! ## Machine/Rings.lean -/

section

open Machine.Bits Machine.Ops Machine.Report
open Machine.Bits Machine.Ops
open Machine.Rings

theorem Rings_sqDb_steady {σ : State} (s : State) (r tail : Nat) (ok : Bool) (hσ : Steady σ s) : Steady σ (Rings.sqDb s r tail ok) := by
  unfold Rings.sqDb
  try dsimp only
  repeat' (first | with_reducible assumption | with_reducible apply Ops_stopRing_steady | with_reducible apply Ops_fetch_steady | with_reducible apply Ops_setRing_steady | with_reducible apply Steady.ite | with_reducible apply Steady.iteFst | split | (fail_if_no_progress with_reducible apply Steady.sameMk))

theorem Rings_cqDb_steady {a : State} (s : State) (r head : Nat) (cqOk sqOk : Bool) (h : Steady a s) :
    Steady a (Rings.cqDb s r head cqOk sqOk) := by
  unfold Rings.cqDb
  exact Steady.ite h (Steady.ite (Ops_stopRing_steady _ _ _ h) (Ops_fetch_steady _ _ _ (Ops_flushHeld_steady _ _ _ _ (Ops_setRing_steady _ _ _ h))))


theorem Rings_renumber_steady {σ : State} (s : State) (r : Nat) (hσ : Steady σ s) : Steady σ (Rings.renumber s r) := by
  unfold Rings.renumber
  try dsimp only
  repeat' (first | with_reducible assumption | with_reducible apply Ops_modCkpt_steady | with_reducible apply Steady.ite | with_reducible apply Steady.iteFst | split | (fail_if_no_progress with_reducible apply Steady.sameMk) | intro _)

theorem Rings_settle_steady {σ : State} (s : State) (r : Nat) (hσ : Steady σ s) : Steady σ (Rings.settle s r) := by
  unfold Rings.settle
  try dsimp only
  repeat' (first | with_reducible assumption | with_reducible apply Ops_signal_steady | with_reducible apply Ops_setRing_steady | with_reducible apply Steady.ite | with_reducible apply Steady.iteFst | split | (fail_if_no_progress with_reducible apply Steady.sameMk))

theorem Rings_ctlWrite_steady {σ : State} (s : State) (r : Nat) (v : Nat) (hσ : Steady σ s) : Steady σ (Rings.ctlWrite s r v).1 := by
  unfold Rings.ctlWrite
  try dsimp only
  repeat' (first | with_reducible assumption | with_reducible apply Pairs_field_steady | with_reducible apply Rings_renumber_steady | with_reducible apply Slots_settle_steady | with_reducible apply Rings_settle_steady | with_reducible apply Ops_setRing_steady | with_reducible apply Steady.ite | with_reducible apply Steady.iteFst | split | (fail_if_no_progress with_reducible apply Steady.sameMk))

theorem Rings_coalesce_steady {σ : State} (s : State) (r : Nat) (hσ : Steady σ s) : Steady σ (Rings.coalesce s r) := by
  unfold Rings.coalesce
  try dsimp only
  repeat' (first | with_reducible assumption | with_reducible apply Ops_signal_steady | with_reducible apply Ops_setRing_steady | with_reducible apply Steady.ite | with_reducible apply Steady.iteFst | split | (fail_if_no_progress with_reducible apply Steady.sameMk))

theorem Rings_execHostSqDb_goes (r : Nat) (tail : W32) (ok : Bool) (s : State) : Goes s (Rings.execHostSqDb r tail ok s) := by
  refine ⟨_, rfl, ?_⟩
  try dsimp only
  repeat' (first | with_reducible exact Steady.refl _ | with_reducible assumption | with_reducible apply Ops_fromHost_steady | with_reducible apply Rings_sqDb_steady | with_reducible apply Steady.ite | with_reducible apply Steady.iteFst | split)

theorem Rings_execHostCqDb_goes (r : Nat) (head : CqHead) (s : State) : Goes s (Rings.execHostCqDb r head s) := by
  refine ⟨_, rfl, ?_⟩
  try dsimp only
  repeat' (first | with_reducible exact Steady.refl _ | with_reducible assumption | with_reducible apply Ops_fromHost_steady | with_reducible apply Rings_cqDb_steady | with_reducible apply Steady.ite | with_reducible apply Steady.iteFst | split)

theorem Rings_execRingEnable_goes (r : Nat) (v : W64) (s : State) : Goes s (Rings.execRingEnable r v s) := by
  refine ⟨_, rfl, ?_⟩
  try dsimp only
  repeat' (first | with_reducible exact Steady.refl _ | with_reducible assumption | with_reducible apply Ops_fromHost_steady | with_reducible apply RegMode_ctlWrite_steady | with_reducible apply Rings_ctlWrite_steady | with_reducible apply Ops_emit_steady | with_reducible apply Ops_answer_steady | with_reducible apply Steady.ite | with_reducible apply Steady.iteFst | split)

theorem Rings_execRingDisable_goes (r : Nat) (v : W64) (s : State) : Goes s (Rings.execRingDisable r v s) := by
  refine ⟨_, rfl, ?_⟩
  try dsimp only
  repeat' (first | with_reducible exact Steady.refl _ | with_reducible assumption | with_reducible apply Ops_fromHost_steady | with_reducible apply RegMode_ctlWrite_steady | with_reducible apply Rings_ctlWrite_steady | with_reducible apply Ops_emit_steady | with_reducible apply Ops_answer_steady | with_reducible apply Steady.ite | with_reducible apply Steady.iteFst | split)

theorem Rings_execCoalesceTimeout_goes (r : Nat) (s : State) : Goes s (Rings.execCoalesceTimeout r s) := by
  refine ⟨_, rfl, ?_⟩
  try dsimp only
  repeat' (first | with_reducible exact Steady.refl _ | with_reducible assumption | with_reducible apply Rings_coalesce_steady | with_reducible apply Steady.ite | with_reducible apply Steady.iteFst | split)

end

/-! ## Machine/Registers.lean -/

section

open Machine.Bits Machine.Ops Machine.Report
open Machine.Bits Machine.Ops Machine.Report
open Machine.Regs

theorem Regs_healthWrite_steady {a : State} (s : State) (v : Nat) (h : Steady a s) : Steady a (Regs.healthWrite s v).1 := by
  unfold Regs.healthWrite
  dsimp only
  split
  · rename_i e
    exact ⟨h.pending, h.ns, h.free, h.out, h.mem, h.scrub, fun _ => e, h.timeouts, h.quantum, h.swapCtl, h.governor⟩
  · exact h

theorem Regs_bankWrite_steady {σ : State} (s : State) (i o v : Nat) (hσ : Steady σ s) : Steady σ (Regs.bankWrite s i o v).1 := by
  unfold Regs.bankWrite
  try dsimp only
  repeat' (first | with_reducible assumption | with_reducible apply Report_countUnmapped_steady | with_reducible apply Ops_modFabric_steady | with_reducible apply Steady.ite | with_reducible apply Steady.iteFst | split | (fail_if_no_progress with_reducible apply Steady.sameMk) | intro _)

theorem Regs_opTimeoutWrite_steady {a : State} (s : State) (v : Nat) (h : Steady a s) : Steady a (Regs.opTimeoutWrite s v).1 := by
  unfold Regs.opTimeoutWrite
  dsimp only
  split
  · exact h
  · with_reducible apply Ops_modRemote_steady _ _ h
    intro w
    simp only [Safety.timeoutsOk] at w ⊢
    omega

theorem Regs_ordTimeoutWrite_steady {a : State} (s : State) (v : Nat) (h : Steady a s) : Steady a (Regs.ordTimeoutWrite s v).1 := by
  unfold Regs.ordTimeoutWrite
  dsimp only
  split
  · exact h
  · with_reducible apply Ops_modRemote_steady _ _ h
    intro w
    simp only [Safety.timeoutsOk] at w ⊢
    omega

theorem Regs_censusWrite_steady {σ : State} (s : State) (c : Nat) (isCount : Bool) (v : Nat) (hσ : Steady σ s) : Steady σ (Regs.censusWrite s c isCount v).1 := by
  unfold Regs.censusWrite
  try dsimp only
  repeat' (first | with_reducible assumption | with_reducible apply Pairs_field_steady | with_reducible apply Steady.ite | with_reducible apply Steady.iteFst | split | (fail_if_no_progress with_reducible apply Steady.sameMk))

theorem Regs_swapCtlWrite_steady {a : State} (s : State) (v : Nat) (h : Steady a s) : Steady a (Regs.swapCtlWrite s v).1 := by
  unfold Regs.swapCtlWrite
  dsimp only
  split
  · exact h
  · with_reducible apply Ops_modWeevil_steady _ _ h
    intro w
    have b : field v 3 0 < 16 := Nat.mod_lt _ (by decide)
    simp only [Safety.swapCtlOk]
    omega

theorem Regs_vecRmWrite_steady {σ : State} (s : State) (k j : Nat) (v : W64) (hσ : Steady σ s) : Steady σ (Regs.vecRmWrite s k j v).1 := by
  unfold Regs.vecRmWrite
  try dsimp only
  repeat' (first | with_reducible assumption | with_reducible apply RegMode_ctlWrite_steady | with_reducible apply Rings_ctlWrite_steady | with_reducible apply RegMode_setCore_steady | with_reducible apply Pairs_field_steady | with_reducible apply Steady.ite | with_reducible apply Steady.iteFst | split | (fail_if_no_progress with_reducible apply Steady.sameMk) | intro _)

theorem Regs_logSetup_steady {σ : State} (s : State) (isSize : Bool) (v : Nat) (hσ : Steady σ s) : Steady σ (Regs.logSetup s isSize v).1 := by
  unfold Regs.logSetup
  try dsimp only
  repeat' (first | with_reducible assumption | with_reducible apply Pairs_field_steady | with_reducible apply Ops_modErr_steady | with_reducible apply Report_flushLog_steady | with_reducible apply Steady.ite | with_reducible apply Steady.iteFst | split | (fail_if_no_progress with_reducible apply Steady.sameMk) | intro _)

theorem Regs_logTail_steady {a : State} (s : State) (v : Nat) (h : Steady a s) : Steady a (Regs.logTail s v).1 := by
  unfold Regs.logTail
  exact Steady.iteFst h (Report_flushLog_steady _ _ (Ops_modErr_steady _ _ h))

theorem Regs_mcastWrite_steady {a : State} (s : State) (o v : Nat) (h : Steady a s) : Steady a (Regs.mcastWrite s o v).1 := by
  unfold Regs.mcastWrite
  extract_lets g w
  refine Steady.iteFst ?_ (Steady.iteFst ?_ h) <;>
  · with_reducible apply Ops_modRemote_steady _ _ h
    intro x
    exact ⟨x.1, x.2⟩

theorem Regs_ringWrite_steady {σ : State} (s : State) (r j : Nat) (v : Nat) (hσ : Steady σ s) : Steady σ (Regs.ringWrite s r j v).1 := by
  unfold Regs.ringWrite
  try dsimp only
  repeat' (first | with_reducible assumption | with_reducible apply Ops_setRing_steady | with_reducible apply Pairs_field_steady | with_reducible apply RegMode_ctlWrite_steady | with_reducible apply Rings_ctlWrite_steady | with_reducible apply Rings_sqDb_steady | with_reducible apply Rings_cqDb_steady | with_reducible apply Steady.ite | with_reducible apply Steady.iteFst | split | (fail_if_no_progress with_reducible apply Steady.sameMk))

theorem Regs_quantumSet_steady {a : State} (s : State) (q : Nat) (h : Steady a s) (b : ¬(q < 10 ∨ 100000 < q)) :
    Steady a { s with quantum := q } :=
  ⟨h.pending, h.ns, h.free, h.out, h.mem, h.scrub, h.health, h.timeouts, fun _ => ⟨Nat.le_of_not_lt fun e => b (.inl e), Nat.le_of_not_lt fun e => b (.inr e)⟩, h.swapCtl, h.governor⟩

theorem Regs_poolSet_steady {a : State} (s : State) (f v : Nat) (h : Steady a s) :
    Steady a { s with health := { s.health with floor := f, available := v } } :=
  ⟨h.pending, h.ns, h.free, h.out, h.mem, h.scrub, h.health, h.timeouts, h.quantum, h.swapCtl, h.governor⟩

theorem Regs_scrubSet_steady {a : State} (s : State) (p : Nat) (h : Steady a s) (b : ¬(p < 1 ∨ 168 < p)) :
    Steady a (Ops.modMem s (fun m => { m with scrubPeriod := p })) :=
  Ops_modMem_steady s (fun m => { m with scrubPeriod := p }) h (fun w => by unfold Mem.wf at w ⊢; exact w)
    (fun _ => ⟨Nat.le_of_not_lt fun e => b (.inl e), Nat.le_of_not_lt fun e => b (.inr e)⟩)

theorem Regs_writeAt_steady {a : State} (s : State) (o : Nat) (v : W64) (h : Steady a s) : Steady a (Regs.writeAt s o v).1 := by
  unfold Regs.writeAt
  dsimp only
  repeat' (first
    | with_reducible assumption
    | (intro w; exact ⟨w.1, w.2⟩)
    | with_reducible apply Regs_healthWrite_steady
    | with_reducible apply Regs_ringWrite_steady
    | with_reducible apply Regs_bankWrite_steady
    | with_reducible apply Regs_opTimeoutWrite_steady
    | with_reducible apply Regs_ordTimeoutWrite_steady
    | with_reducible apply Regs_censusWrite_steady
    | with_reducible apply Regs_swapCtlWrite_steady
    | with_reducible apply Regs_vecRmWrite_steady
    | with_reducible apply Regs_logSetup_steady
    | with_reducible apply Regs_logTail_steady
    | with_reducible apply Regs_mcastWrite_steady
    | with_reducible apply Ops_modRemote_steady
    | with_reducible apply Ops_modErr_steady
    | (with_reducible apply Steady.iteFstNot h; intro b; with_reducible exact Regs_scrubSet_steady _ _ h b)
    | (with_reducible apply Steady.iteFstNot h; intro b; with_reducible exact Regs_quantumSet_steady _ _ h b)
    | with_reducible apply Regs_poolSet_steady _ _ _ h
    | with_reducible apply Steady.iteFst
    | split)

theorem Regs_msixPending_steady {σ : State} (s : State) (v : Nat) (hσ : Steady σ s) : Steady σ (Regs.msixPending s v) := by
  unfold Regs.msixPending
  try dsimp only
  repeat' (first | with_reducible assumption | with_reducible apply Ops_emit_steady | with_reducible apply Ops_modHost_steady | with_reducible apply Steady.ite | with_reducible apply Steady.iteFst | split | (fail_if_no_progress with_reducible apply Steady.sameMk) | intro _)

theorem Regs_msixWrite_steady {σ : State} (s : State) (o : Nat) (data : Bytes) (hσ : Steady σ s) : Steady σ (Regs.msixWrite s o data).1 := by
  unfold Regs.msixWrite
  try dsimp only
  repeat' (first | with_reducible assumption | with_reducible apply Regs_msixPending_steady | with_reducible apply Ops_modHost_steady | with_reducible apply Steady.ite | with_reducible apply Steady.iteFst | split | (with_reducible apply Steady.foldl <;> intros) | (with_reducible apply Steady.foldlFst <;> intros) | (fail_if_no_progress with_reducible apply Steady.sameMk) | intro _)

theorem Regs_write_steady {σ : State} (s : State) (o : Nat) (data : Bytes) (hσ : Steady σ s) : Steady σ (Regs.write s o data).1 := by
  unfold Regs.write
  try dsimp only
  repeat' (first | with_reducible assumption | with_reducible apply Regs_msixWrite_steady | with_reducible apply Report_countUnmapped_steady | with_reducible apply Regs_writeAt_steady | with_reducible apply Steady.ite | with_reducible apply Steady.iteFst | split)

theorem Regs_hostWrite_steady {a : State} (s : State) (ok : Bool) (f : State × Nat) (h : Steady a s) (k : Steady a f.1) :
    Steady a (Regs.hostWrite s ok f) :=
  Steady.ite (Ops_fromHost_steady _ _ h (Ops_emit_steady _ _ k)) h


theorem Regs_execErrLogSetupWrite_goes (off : Nat) (v : W64) (s : State) : Goes s (Regs.execErrLogSetupWrite off v s) := by
  refine ⟨_, rfl, ?_⟩
  try dsimp only
  repeat' (first | with_reducible exact Steady.refl _ | with_reducible assumption | with_reducible apply Regs_hostWrite_steady | with_reducible apply Regs_logSetup_steady)

theorem Regs_execErrLogTailWrite_goes (v : W64) (s : State) : Goes s (Regs.execErrLogTailWrite v s) := by
  refine ⟨_, rfl, ?_⟩
  try dsimp only
  repeat' (first | with_reducible exact Steady.refl _ | with_reducible assumption | with_reducible apply Regs_hostWrite_steady | with_reducible apply Regs_logTail_steady)

theorem Regs_execHealthCtlWrite_goes (v : W64) (s : State) : Goes s (Regs.execHealthCtlWrite v s) := by
  refine ⟨_, rfl, ?_⟩
  try dsimp only
  repeat' (first | with_reducible exact Steady.refl _ | with_reducible assumption | with_reducible apply Regs_hostWrite_steady | with_reducible apply Regs_healthWrite_steady)

theorem Regs_execRemTimeoutWrite_goes (off : Nat) (v : W64) (s : State) : Goes s (Regs.execRemTimeoutWrite off v s) := by
  refine ⟨_, rfl, ?_⟩
  try dsimp only
  repeat' (first | with_reducible exact Steady.refl _ | with_reducible assumption | with_reducible apply Regs_hostWrite_steady | with_reducible apply Regs_opTimeoutWrite_steady | with_reducible apply Regs_ordTimeoutWrite_steady | with_reducible apply Steady.ite | with_reducible apply Steady.iteFst | split)

theorem Regs_execCensusRegisterWrite_goes (ctx : Nat) (isCount : Bool) (v : W64) (s : State) : Goes s (Regs.execCensusRegisterWrite ctx isCount v s) := by
  refine ⟨_, rfl, ?_⟩
  try dsimp only
  repeat' (first | with_reducible exact Steady.refl _ | with_reducible assumption | with_reducible apply Regs_hostWrite_steady | with_reducible apply Regs_censusWrite_steady)

theorem Regs_execRouteBankWrite_goes (b off : Nat) (v : W64) (s : State) : Goes s (Regs.execRouteBankWrite b off v s) := by
  refine ⟨_, rfl, ?_⟩
  try dsimp only
  repeat' (first | with_reducible exact Steady.refl _ | with_reducible assumption | with_reducible apply Regs_hostWrite_steady | with_reducible apply Regs_bankWrite_steady)

theorem Regs_execSetupRegisterWrite_goes (off len : Nat) (v : W64) (s : State) : Goes s (Regs.execSetupRegisterWrite off len v s) := by
  refine ⟨_, rfl, ?_⟩
  try dsimp only
  repeat' (first | with_reducible exact Steady.refl _ | with_reducible assumption | with_reducible apply Regs_hostWrite_steady | with_reducible apply FlagWindow_write_steady | with_reducible apply Regs_write_steady)

end

/-! ## Machine/Bus.lean -/

section

open Machine.Bits Machine.Ops Machine.Report
open Machine.Bits Machine.Ops Machine.Report
open Machine.Bus

theorem Bus_hiveWrite_steady {a : State} (s : State) (n o : Nat) (data : Bytes) (x : Bus.Access) (h : Steady a s) :
    Steady a (Bus.hiveWrite s n o data x).1 := by
  unfold Bus.hiveWrite
  dsimp only
  split
  · split
    · exact HiveOps_push_steady _ _ _ _ _ _ h
    · exact h
  · split
    · split
      · rename_i e
        split at e
        · exact HiveOps_config_steady _ _ _ _ h _ e
        · split at e
          · exact HiveOps_command_steady _ _ _ _ _ h _ e
          · cases e
      · exact h
    · split
      · exact h
      · exact Report_countUnmapped_steady _ h

theorem Bus_write_steady {σ : State} (s : State) (a : Nat) (data : Bytes) (x : Access) (hσ : Steady σ s) : Steady σ (Bus.write s a data x).1 := by
  unfold Bus.write
  try dsimp only
  repeat' (first | with_reducible assumption | with_reducible apply PressOps_slotWrite_steady | with_reducible apply ChurnOps_slotWrite_steady | with_reducible apply FlagWindow_write_steady | with_reducible apply Regs_write_steady | with_reducible apply Bus_hiveWrite_steady | with_reducible apply Report_countUnmapped_steady | with_reducible apply Mem_store_steady | with_reducible apply Steady.ite | with_reducible apply Steady.iteFst | split)

theorem Bus_hiveCheck_steady {σ : State} (s : State) (n : Nat) (cs : List Cell) (q : Mem.Req) (hσ : Steady σ s) : Steady σ (Bus.hiveCheck s n cs q) := by
  unfold Bus.hiveCheck
  try dsimp only
  repeat' (first | with_reducible assumption | with_reducible apply Report_raise_steady | split | (fail_if_no_progress with_reducible apply Steady.sameMk))

theorem Bus_hiveRead_steady {σ : State} (s : State) (n o len : Nat) (q : Mem.Req) (hσ : Steady σ s) : Steady σ (Bus.hiveRead s n o len q).1 := by
  unfold Bus.hiveRead
  try dsimp only
  repeat' (first | with_reducible assumption | with_reducible apply HiveOps_read_steady | with_reducible apply Bus_hiveCheck_steady | with_reducible apply Pairs_bytes_steady | with_reducible apply Report_countUnmapped_steady | with_reducible apply Steady.ite | with_reducible apply Steady.iteFst | split | (with_reducible apply Steady.foldl <;> intros) | (with_reducible apply Steady.foldlFst <;> intros) | intro _)

theorem Bus_storeRead_steady {σ : State} (s : State) (a n : Nat) (q : Mem.Req) (hσ : Steady σ s) : Steady σ (Bus.storeRead s a n q).1 := by
  unfold Bus.storeRead
  try dsimp only
  repeat' (first | with_reducible assumption | with_reducible apply Mem_load_steady | with_reducible apply Steady.ite | with_reducible apply Steady.iteFst | split)

theorem Bus_readIn_steady {σ : State} (s : State) (a n : Nat) (q : Mem.Req) (hσ : Steady σ s) : Steady σ (Bus.readIn s a n q).1 := by
  unfold Bus.readIn
  try dsimp only
  repeat' (first | with_reducible assumption | with_reducible apply HiveOps_read_steady | with_reducible apply Report_countUnmapped_steady | with_reducible apply Bus_hiveRead_steady | with_reducible apply Bus_storeRead_steady | with_reducible apply Steady.ite | with_reducible apply Steady.iteFst | split | intro _)

theorem Bus_readParts_steady {a : State} (f : Nat) (s : State) (b n : Nat) (q : Mem.Req) (h : Steady a s) :
    Steady a (Bus.readParts f s b n q).1 := by
  induction f generalizing s b n with
  | zero => exact h
  | succ f ih =>
    simp only [Bus.readParts]
    split
    · exact Bus_readIn_steady _ _ _ _ h
    · split
      · exact Bus_readIn_steady _ _ _ _ h
      · exact ih _ _ _ (Bus_readIn_steady _ _ _ _ h)


theorem Bus_read_steady {a : State} (s : State) (b n : Nat) (q : Mem.Req) (h : Steady a s) : Steady a (Bus.read s b n q).1 := by
  unfold Bus.read
  exact Steady.iteFst (Report_countUnmapped_steady _ h) (Bus_readParts_steady _ _ _ _ _ h)


theorem Bus_hostWrite_steady {σ : State} (s0 : State) (a : Nat) (data : Bytes) (hits : List CodeHit) (hσ : Steady σ s0) : Steady σ (Bus.hostWrite s0 a data hits) := by
  unfold Bus.hostWrite
  try dsimp only
  repeat' (first | with_reducible assumption | with_reducible apply Mem_inject_steady | with_reducible apply Ops_emit_steady | with_reducible apply FlagWindow_write_steady | with_reducible apply Regs_write_steady | with_reducible apply Bus_write_steady | with_reducible apply Steady.ite | with_reducible apply Steady.iteFst | split)

theorem Bus_hostRead_steady {σ : State} (s0 : State) (a n : Nat) (e : Ecc) (hσ : Steady σ s0) : Steady σ (Bus.hostRead s0 a n e) := by
  unfold Bus.hostRead
  try dsimp only
  repeat' (first | with_reducible assumption | with_reducible apply Ops_emit_steady | with_reducible apply Mem_inject_steady | with_reducible apply HiveOps_reports_steady | with_reducible apply HiveOps_read_steady | with_reducible apply Bus_read_steady | with_reducible apply Steady.ite | with_reducible apply Steady.iteFst | split)

theorem Bus_execHostMemoryWrite_goes (addr : Nat) (data : HostData) (s : State) : Goes s (Bus.execHostMemoryWrite addr data s) := by
  refine ⟨_, rfl, ?_⟩
  try dsimp only
  repeat' (first | with_reducible exact Steady.refl _ | with_reducible assumption | with_reducible apply Regs_hostWrite_steady | with_reducible apply Bus_hostWrite_steady)

theorem Bus_execHostMemoryRead_goes (addr len : Nat) (ecc : Ecc) (s : State) : Goes s (Bus.execHostMemoryRead addr len ecc s) := by
  refine ⟨_, rfl, ?_⟩
  try dsimp only
  repeat' (first | with_reducible exact Steady.refl _ | with_reducible assumption | with_reducible apply Bus_hostRead_steady)

end

/-! ## Machine/Tracker.lean -/

section

open Machine.Bits Machine.Ops Machine.Report
open Machine.Bits Machine.Ops Machine.Report
open Machine.Tracker

theorem Tracker_lateRequest_steady {σ : State} (s : State) (p : Pkt) (ctx : Nat) (hσ : Steady σ s) : Steady σ (Tracker.lateRequest s p ctx) := by
  unfold Tracker.lateRequest
  try dsimp only
  repeat' (first | with_reducible assumption | (intro w; exact ⟨w.1, w.2⟩) | (intro w; unfold Mem.wf at w ⊢; exact w) | with_reducible apply Report_lateRecord_steady | with_reducible apply Ops_modRemote_steady | with_reducible apply Cicada_bump_steady | (fail_if_no_progress with_reducible apply Steady.sameMk) | intro _)

theorem Tracker_lateOrdered_steady {σ : State} (s : State) (k : Nat) (p : Pkt) (next : Nat) (hσ : Steady σ s) : Steady σ (Tracker.lateOrdered s k p next) := by
  unfold Tracker.lateOrdered
  try dsimp only
  repeat' (first | with_reducible assumption | (intro w; exact ⟨w.1, w.2⟩) | (intro w; unfold Mem.wf at w ⊢; exact w) | with_reducible apply Report_lateRecord_steady | with_reducible apply Ops_modRemote_steady | with_reducible apply Cicada_bump_steady | (fail_if_no_progress with_reducible apply Steady.sameMk) | intro _)

theorem Tracker_peer_steady {σ : State} (s : State) (p : Pkt) (hσ : Steady σ s) : Steady σ (Tracker.peer s p).2 := by
  unfold Tracker.peer
  try dsimp only
  repeat' (first | with_reducible assumption | (intro w; exact ⟨w.1, w.2⟩) | (intro w; unfold Mem.wf at w ⊢; exact w) | with_reducible apply Ops_modRemote_steady | split | (fail_if_no_progress with_reducible apply Steady.sameMk) | intro _)

theorem Tracker_setTrack_steady {σ : State} (s : State) (k : Nat) (t : Track) (hσ : Steady σ s) : Steady σ (Tracker.setTrack s k t) := by
  unfold Tracker.setTrack
  try dsimp only
  repeat' (first | with_reducible assumption | (intro w; exact ⟨w.1, w.2⟩) | (intro w; unfold Mem.wf at w ⊢; exact w) | with_reducible apply Ops_modRemote_steady | (fail_if_no_progress with_reducible apply Steady.sameMk) | intro _)

theorem Tracker_room_steady {a : State} (s : State) (h : Steady a s) : ∀ t, Tracker.room s = some t → Steady a t := by
  intro t e
  simp only [Tracker.room] at e
  split at e
  · simp only [Option.some.injEq] at e; subst e; exact h
  · simp only [Option.map_eq_some_iff] at e
    obtain ⟨k, -, rfl⟩ := e
    exact (Ops_modRemote_steady _ _ h (fun w => ⟨w.1, w.2⟩))

theorem Tracker_countRefused_steady {σ : State} (s : State) (st : Nat) (hσ : Steady σ s) : Steady σ (Tracker.countRefused s st) := by
  unfold Tracker.countRefused
  try dsimp only
  repeat' (first | with_reducible assumption | (intro w; exact ⟨w.1, w.2⟩) | (intro w; unfold Mem.wf at w ⊢; exact w) | with_reducible apply Ops_modRemote_steady | with_reducible apply Cicada_bump_steady | with_reducible apply Steady.ite | with_reducible apply Steady.iteFst | split | (fail_if_no_progress with_reducible apply Steady.sameMk) | intro _)

theorem Tracker_checkError_steady {σ : State} (s : State) (p : Pkt) (hσ : Steady σ s) : Steady σ (Tracker.checkError s p) := by
  unfold Tracker.checkError
  try dsimp only
  repeat' (first | with_reducible assumption | with_reducible apply Report_raise_steady | with_reducible apply Steady.ite | with_reducible apply Steady.iteFst | split)

theorem Tracker_holdAt_steady {σ : State} (s : State) (q : Nat) (p : Pkt) (hits : List CodeHit) (hσ : Steady σ s) : Steady σ (Tracker.holdAt s q p hits) := by
  unfold Tracker.holdAt
  try dsimp only
  repeat' (first | with_reducible assumption | with_reducible apply Ops_modFlags_steady | (fail_if_no_progress with_reducible apply Steady.sameMk) | intro _)

theorem Tracker_writeData_steady {σ : State} (s0 : State) (p : Pkt) (hits : List CodeHit := []) (hσ : Steady σ s0) : Steady σ (Tracker.writeData s0 p hits).1 := by
  unfold Tracker.writeData
  try dsimp only
  repeat' (first | with_reducible assumption | with_reducible apply Mem_inject_steady | with_reducible apply Tracker_checkError_steady | with_reducible apply FlagWindow_write_steady | with_reducible apply Regs_write_steady | with_reducible apply Bus_write_steady | with_reducible apply Tracker_holdAt_steady | with_reducible apply Tracker_countRefused_steady | with_reducible apply Steady.ite | with_reducible apply Steady.iteFst | split)

theorem Tracker_serve_steady {a : State} (l : List RemoteOps.Run) (s : State) (p : Pkt) (h : Steady a s) : Steady a (Tracker.serve l s p) := by
  induction l generalizing s with
  | nil => exact h
  | cons r l ih =>
    simp only [Tracker.serve]
    refine Steady.ite (ih _ (Ops_sendPkt_steady _ _ (Bus_read_steady _ _ _ _ h))) (Ops_answer_steady _ _ _ (Tracker_countRefused_steady _ _ (Bus_read_steady _ _ _ _ h)))

theorem Tracker_hiveReports_steady {σ : State} (s : State) (p : Pkt) (hits : List CodeHit) (hσ : Steady σ s) : Steady σ (Tracker.hiveReports s p hits).1 := by
  unfold Tracker.hiveReports
  try dsimp only
  repeat' (first | with_reducible assumption | with_reducible apply HiveOps_reports_steady | with_reducible apply Steady.ite | with_reducible apply Steady.iteFst | split)

theorem Tracker_readData_steady {σ : State} (s0 : State) (p : Pkt) (hits : List CodeHit) (hσ : Steady σ s0) : Steady σ (Tracker.readData s0 p hits) := by
  unfold Tracker.readData
  try dsimp only
  repeat' (first | with_reducible assumption | with_reducible apply Tracker_holdAt_steady | with_reducible apply Mem_inject_steady | with_reducible apply Ops_answer_steady | with_reducible apply Tracker_countRefused_steady | with_reducible apply Tracker_hiveReports_steady | with_reducible apply Tracker_serve_steady | with_reducible apply Steady.ite | with_reducible apply Steady.iteFst | split)

theorem Tracker_retire_steady {a : State} (n : Nat) (s : State) (k : Nat) (h : Steady a s) : Steady a (Tracker.retire n s k) := by
  induction n generalizing s with
  | zero => exact h
  | succ n ih =>
    simp only [Tracker.retire]
    split
    · exact h
    · split
      · exact h
      · exact ih _ (Ops_answer_steady _ _ _ (Steady.ite (Tracker_countRefused_steady _ _ (Tracker_setTrack_steady _ _ _ h))
          (FlagOps_arrive_steady _ _ _ _ _ (Tracker_setTrack_steady _ _ _ h))))


theorem Tracker_take_steady {σ : State} (s : State) (k : Nat) (t : Track) (p : Pkt) (hits : List CodeHit) (hσ : Steady σ s) : Steady σ (Tracker.take s k t p hits) := by
  unfold Tracker.take
  try dsimp only
  repeat' (first | with_reducible assumption | with_reducible apply Tracker_writeData_steady | with_reducible apply Tracker_setTrack_steady | with_reducible apply Ops_answer_steady | with_reducible apply Tracker_readData_steady | with_reducible apply Tracker_retire_steady | with_reducible apply Steady.ite | with_reducible apply Steady.iteFst | split | (fail_if_no_progress with_reducible apply Steady.sameMk))

theorem Tracker_onRequest_steady {a : State} (s : State) (k : Nat) (t0 : Track) (p : Pkt) (hits : List CodeHit) (h : Steady a s) :
    Steady a (Tracker.onRequest s k t0 p hits) :=
  Steady.ite (Steady.ite (Tracker_lateOrdered_steady _ _ _ _ (Tracker_setTrack_steady _ _ _ h))
    (Ops_modRemote_steady _ _ (Tracker_setTrack_steady _ _ _ h) (fun w => ⟨w.1, w.2⟩))) (Tracker_take_steady _ _ _ _ _ h)

theorem Tracker_deliver_steady {a : State} (s0 : State) (p : Pkt) (hits : List CodeHit := []) (h : Steady a s0) :
    Steady a (Tracker.deliver s0 p hits) := by
  have g := Tracker_peer_steady s0 p h
  unfold Tracker.deliver
  refine Steady.ite (RemoteOps_badHeader_steady _ h) (Steady.ite (Tracker_lateRequest_steady _ _ _ g) (Steady.ite
    (Steady.ite (Ops_sendPkt_steady _ _ g) (Ops_answer_steady _ _ _ g)) (Steady.ite (Ops_answer_steady _ _ _ g)
    (Steady.ite (Tracker_lateRequest_steady _ _ _ g) ?_))))
  dsimp only
  split
  · exact Tracker_onRequest_steady _ _ _ _ _ g
  · split
    · exact Ops_answer_steady _ _ _ g
    · rename_i e
      exact Tracker_onRequest_steady _ _ _ _ _ (Tracker_room_steady _ g _ e)

theorem Tracker_landed_steady {σ : State} (s : State) (p : Pkt) (hits : List CodeHit := []) (hσ : Steady σ s) : Steady σ (Tracker.landed s p hits) := by
  unfold Tracker.landed
  try dsimp only
  repeat' (first | with_reducible assumption | with_reducible apply PressOps_deliver_steady | with_reducible apply Tracker_deliver_steady | with_reducible apply Ops_unloaded_steady)

theorem Tracker_arrive_steady {σ : State} (s : State) (p : Pkt) (hσ : Steady σ s) : Steady σ (Tracker.arrive s p) := by
  unfold Tracker.arrive
  try dsimp only
  repeat' (first | with_reducible assumption | with_reducible apply RemoteOps_readRspIn_steady | with_reducible apply RemoteOps_ackIn_steady | with_reducible apply RemoteOps_errorIn_steady | with_reducible apply RemoteOps_badHeader_steady | with_reducible apply PressOps_deliver_steady | with_reducible apply Tracker_deliver_steady | with_reducible apply Steady.ite | with_reducible apply Steady.iteFst | split)

theorem Tracker_orderingTimeout_steady {σ : State} (s : State) (k seq : Nat) (hσ : Steady σ s) : Steady σ (Tracker.orderingTimeout s k seq) := by
  unfold Tracker.orderingTimeout
  try dsimp only
  repeat' (first | with_reducible assumption | with_reducible apply Swaps_rest_steady | with_reducible apply Report_raise_steady | with_reducible apply Ops_modErr_steady | with_reducible apply Tracker_setTrack_steady | with_reducible apply Ops_answer_steady | with_reducible apply Steady.ite | with_reducible apply Steady.iteFst | split | (fail_if_no_progress with_reducible apply Steady.sameMk) | intro _)

theorem Tracker_dropMarks_steady {σ : State} (s : State) (c tag till : Nat) (hσ : Steady σ s) : Steady σ (Tracker.dropMarks s c tag till) := by
  unfold Tracker.dropMarks
  try dsimp only
  repeat' (first | with_reducible assumption | (intro w; exact ⟨w.1, w.2⟩) | (intro w; unfold Mem.wf at w ⊢; exact w) | with_reducible apply Ops_modRemote_steady | with_reducible apply Steady.ite | with_reducible apply Steady.iteFst | split | (fail_if_no_progress with_reducible apply Steady.sameMk) | intro _)

theorem Tracker_execWrite_goes (p : PktIn) (s : State) : Goes s (Tracker.execWrite p s) := by
  refine ⟨_, rfl, ?_⟩
  try dsimp only
  repeat' (first | with_reducible exact Steady.refl _ | with_reducible assumption | with_reducible apply Tracker_landed_steady | with_reducible apply Steady.ite | with_reducible apply Steady.iteFst | split)

theorem Tracker_execWriteF_goes (p : PktIn) (s : State) : Goes s (Tracker.execWriteF p s) := by
  refine ⟨_, rfl, ?_⟩
  try dsimp only
  repeat' (first | with_reducible exact Steady.refl _ | with_reducible assumption | with_reducible apply Tracker_landed_steady | with_reducible apply Steady.ite | with_reducible apply Steady.iteFst | split)

theorem Tracker_execFlagPkt_goes (p : Pkt) (s : State) : Goes s (Tracker.execFlagPkt p s) := by
  refine ⟨_, rfl, ?_⟩
  try dsimp only
  repeat' (first | with_reducible exact Steady.refl _ | with_reducible assumption | with_reducible apply Tracker_landed_steady | with_reducible apply Steady.ite | with_reducible apply Steady.iteFst | split)

theorem Tracker_execReadReq_goes (p : Pkt) (hits : List CodeHit) (s : State) : Goes s (Tracker.execReadReq p hits s) := by
  refine ⟨_, rfl, ?_⟩
  try dsimp only
  repeat' (first | with_reducible exact Steady.refl _ | with_reducible assumption | with_reducible apply Tracker_landed_steady | with_reducible apply Steady.ite | with_reducible apply Steady.iteFst | split)

theorem Tracker_execOrderingTimeout_goes (key seq : Nat) (s : State) : Goes s (Tracker.execOrderingTimeout key seq s) := by
  refine ⟨_, rfl, ?_⟩
  try dsimp only
  repeat' (first | with_reducible exact Steady.refl _ | with_reducible assumption | with_reducible apply Tracker_orderingTimeout_steady)

end

/-! ## Machine/StepOps.lean -/

section

open Machine.Bits Machine.Ops Machine.Report
open Machine.Bits Machine.Ops Machine.Report
open Machine.StepOps

theorem StepOps_takeEgress_steady {σ : State} (s : State) (c : Nat) (hσ : Steady σ s) : Steady σ (StepOps.takeEgress s c).2 := by
  unfold StepOps.takeEgress
  try dsimp only
  repeat' (first | with_reducible assumption | with_reducible apply Ops_modCkpt_steady | (fail_if_no_progress with_reducible apply Steady.sameMk) | intro _)

theorem StepOps_sendEgress_steady {σ : State} (s : State) (c : Nat) (hσ : Steady σ s) : Steady σ (StepOps.sendEgress s c) := by
  unfold StepOps.sendEgress
  try dsimp only
  repeat' (first | with_reducible assumption | with_reducible apply StepOps_takeEgress_steady | with_reducible apply Ops_modProg_steady | with_reducible apply Ops_modCkpt_steady | (with_reducible apply Steady.foldl <;> intros) | (with_reducible apply Steady.foldlFst <;> intros) | (fail_if_no_progress with_reducible apply Steady.sameMk) | intro _)

theorem StepOps_egressDone_steady {σ : State} (s : State) (ring t : Nat) (hσ : Steady σ s) : Steady σ (StepOps.egressDone s ring t) := by
  unfold StepOps.egressDone
  try dsimp only
  repeat' (first | with_reducible assumption | with_reducible apply Ops_modCkpt_steady | (fail_if_no_progress with_reducible apply Steady.sameMk) | intro _)

theorem StepOps_returnEgress_steady {σ : State} (s : State) (c : Nat) (hσ : Steady σ s) : Steady σ (StepOps.returnEgress s c) := by
  unfold StepOps.returnEgress
  try dsimp only
  repeat' (first | with_reducible assumption | with_reducible apply StepOps_takeEgress_steady | with_reducible apply Ops_modProg_steady | (with_reducible apply Steady.foldl <;> intros) | (with_reducible apply Steady.foldlFst <;> intros) | (fail_if_no_progress with_reducible apply Steady.sameMk) | intro _)

theorem StepOps_dropEgress_steady {σ : State} (s : State) (c : Nat) (hσ : Steady σ s) : Steady σ (StepOps.dropEgress s c) := by
  unfold StepOps.dropEgress
  try dsimp only
  repeat' (first | with_reducible assumption | with_reducible apply Report_abortProg_steady | with_reducible apply StepOps_takeEgress_steady)

theorem StepOps_egressResult_steady {σ : State} (s : State) (c r : Nat) (hσ : Steady σ s) : Steady σ (StepOps.egressResult s c r) := by
  unfold StepOps.egressResult
  try dsimp only
  repeat' (first | with_reducible assumption | with_reducible apply StepOps_sendEgress_steady | with_reducible apply StepOps_returnEgress_steady | with_reducible apply Report_abortProg_steady | with_reducible apply StepOps_dropEgress_steady | with_reducible apply Steady.ite | with_reducible apply Steady.iteFst | split)

theorem StepOps_flagResult_steady {σ : State} (s : State) (c r : Nat) (hσ : Steady σ s) : Steady σ (StepOps.flagResult s c r) := by
  unfold StepOps.flagResult
  try dsimp only
  repeat' (first | with_reducible assumption | with_reducible apply FlagOps_commitFlags_steady | with_reducible apply FlagOps_restoreFlags_steady | with_reducible apply Steady.ite | with_reducible apply Steady.iteFst | split)

theorem StepOps_decided_steady {σ : State} (s : State) (c r step tv : Nat) (hσ : Steady σ s) : Steady σ (StepOps.decided s c r step tv) := by
  unfold StepOps.decided
  try dsimp only
  repeat' (first | with_reducible assumption | with_reducible apply Ops_modStep_steady | with_reducible apply StepOps_flagResult_steady | with_reducible apply Slots_applyResult_steady | with_reducible apply HiveOps_applyResult_steady | with_reducible apply StepOps_egressResult_steady | (fail_if_no_progress with_reducible apply Steady.sameMk) | intro _)

theorem StepOps_opened_steady {σ : State} (s : State) (c : Nat) (hσ : Steady σ s) : Steady σ (StepOps.opened s c) := by
  unfold StepOps.opened
  try dsimp only
  repeat' (first | with_reducible assumption | with_reducible apply Operand_censusClear_steady | with_reducible apply Ops_modStep_steady | (fail_if_no_progress with_reducible apply Steady.sameMk) | intro _)

theorem StepOps_openAttempt_steady {σ : State} (s : State) (c : Nat) (hσ : Steady σ s) : Steady σ (StepOps.openAttempt s c) := by
  unfold StepOps.openAttempt
  try dsimp only
  repeat' (first | with_reducible assumption | with_reducible apply StepOps_opened_steady | with_reducible apply Steady.ite | with_reducible apply Steady.iteFst | split)

theorem StepOps_staleRules_steady {σ : State} (s : State) (c t0 : Nat) (hσ : Steady σ s) : Steady σ (StepOps.staleRules s c t0) := by
  unfold StepOps.staleRules
  try dsimp only
  repeat' (first | with_reducible assumption | with_reducible apply RemoteOps_settleOps_steady | with_reducible apply Tracker_dropMarks_steady | with_reducible apply RemoteOps_skipPairs_steady | split | (fail_if_no_progress with_reducible apply Steady.sameMk))

end

/-! ## Machine/Abort.lean -/

section

open Machine.Bits Machine.Ops Machine.Report
open Machine.Bits Machine.Ops Machine.Report Machine.StepOps
open Machine.AbortOps

theorem AbortOps_returnToOpening_steady {σ : State} (s : State) (c : Nat) (hσ : Steady σ s) : Steady σ (AbortOps.returnToOpening s c) := by
  unfold AbortOps.returnToOpening
  try dsimp only
  repeat' (first | with_reducible assumption | with_reducible apply FlagOps_restoreFlags_steady | with_reducible apply Slots_applyResult_steady | with_reducible apply HiveOps_applyResult_steady | with_reducible apply Ops_modCtx_steady | with_reducible apply Steady.ite | with_reducible apply Steady.iteFst | split | (fail_if_no_progress with_reducible apply Steady.sameMk) | intro _)

theorem AbortOps_enterFaulted_steady {σ : State} (s : State) (c : Nat) (hσ : Steady σ s) : Steady σ (AbortOps.enterFaulted s c) := by
  unfold AbortOps.enterFaulted
  try dsimp only
  repeat' (first | with_reducible assumption | with_reducible apply Ops_modCtx_steady | with_reducible apply Steady.ite | with_reducible apply Steady.iteFst | split | (fail_if_no_progress with_reducible apply Steady.sameMk) | intro _)

theorem AbortOps_finish_steady {σ : State} (s : State) (c : Nat) (hσ : Steady σ s) : Steady σ (AbortOps.finish s c) := by
  unfold AbortOps.finish
  try dsimp only
  repeat' (first | with_reducible assumption | with_reducible apply AbortOps_enterFaulted_steady | with_reducible apply StepOps_staleRules_steady | with_reducible apply AbortOps_returnToOpening_steady | with_reducible apply Steady.ite | with_reducible apply Steady.iteFst | split)

theorem AbortOps_halt_steady {σ : State} (s : State) (c : Nat) (keep : Bool) (hσ : Steady σ s) : Steady σ (AbortOps.halt s c keep) := by
  unfold AbortOps.halt
  try dsimp only
  repeat' (first | with_reducible assumption | with_reducible apply Ops_modCtx_steady | with_reducible apply Report_abortProg_steady | with_reducible apply PressOps_abort_steady | with_reducible apply ChurnOps_abort_steady | with_reducible apply StepOps_dropEgress_steady | with_reducible apply Steady.ite | with_reducible apply Steady.iteFst | split | (fail_if_no_progress with_reducible apply Steady.sameMk) | intro _)

theorem AbortOps_apply_steady {σ : State} (s : State) (c cause origin ogen : Nat) (hσ : Steady σ s) : Steady σ (AbortOps.apply s c cause origin ogen) := by
  unfold AbortOps.apply
  try dsimp only
  repeat' (first | with_reducible assumption | with_reducible apply Ops_modStep_steady | with_reducible apply AbortOps_halt_steady | with_reducible apply AbortOps_enterFaulted_steady | with_reducible apply PressOps_finish_steady | with_reducible apply ChurnOps_finish_steady | with_reducible apply AbortOps_finish_steady | with_reducible apply Steady.ite | with_reducible apply Steady.iteFst | split | (fail_if_no_progress with_reducible apply Steady.sameMk) | intro _)

theorem AbortOps_applyHere_steady {σ : State} (s : State) (a : AbortMsg) (hσ : Steady σ s) : Steady σ (AbortOps.applyHere s a) := by
  unfold AbortOps.applyHere
  try dsimp only
  repeat' (first | with_reducible assumption | with_reducible apply AbortOps_apply_steady | with_reducible apply Steady.ite | with_reducible apply Steady.iteFst | split | intro _)

theorem AbortOps_broadcast_steady {σ : State} (s : State) (c cause origin ogen : Nat) (hσ : Steady σ s) : Steady σ (AbortOps.broadcast s c cause origin ogen) := by
  unfold AbortOps.broadcast
  try dsimp only
  repeat' (first | with_reducible assumption | with_reducible apply AbortOps_applyHere_steady | with_reducible apply Ops_sendControls_steady | split | (fail_if_no_progress with_reducible apply Steady.sameMk) | intro _)

theorem AbortOps_broadcastOwn_steady {σ : State} (s : State) (c cause : Nat) (hσ : Steady σ s) : Steady σ (AbortOps.broadcastOwn s c cause) := by
  unfold AbortOps.broadcastOwn
  try dsimp only
  repeat' (first | with_reducible assumption | with_reducible apply AbortOps_broadcast_steady | intro _)

theorem AbortOps_broadcastAll_steady {σ : State} (s : State) (cause : Nat) (hσ : Steady σ s) : Steady σ (AbortOps.broadcastAll s cause) := by
  unfold AbortOps.broadcastAll
  try dsimp only
  repeat' (first | with_reducible assumption | with_reducible apply AbortOps_broadcastOwn_steady | (with_reducible apply Steady.foldl <;> intros) | (with_reducible apply Steady.foldlFst <;> intros) | intro _)

theorem AbortOps_receive_steady {σ : State} (s : State) (p : Nat) (a : AbortMsg) (hσ : Steady σ s) : Steady σ (AbortOps.receive s p a) := by
  unfold AbortOps.receive
  try dsimp only
  repeat' (first | with_reducible assumption | (intro w; exact ⟨w.1, w.2⟩) | (intro w; unfold Mem.wf at w ⊢; exact w) | with_reducible apply Ops_modFabric_steady | with_reducible apply Tracker_take_steady | with_reducible apply Ops_sendControls_steady | with_reducible apply Ops_modRemote_steady | with_reducible apply AbortOps_applyHere_steady | with_reducible apply Steady.ite | with_reducible apply Steady.iteFst | split | (fail_if_no_progress with_reducible apply Steady.sameMk) | intro _)

theorem AbortOps_seenExpiry_steady {σ : State} (s : State) (i : Nat) (hσ : Steady σ s) : Steady σ (AbortOps.seenExpiry s i) := by
  unfold AbortOps.seenExpiry
  try dsimp only
  repeat' (first | with_reducible assumption | with_reducible apply Ops_modFabric_steady | with_reducible apply Steady.ite | with_reducible apply Steady.iteFst | split | (fail_if_no_progress with_reducible apply Steady.sameMk) | intro _)

theorem AbortOps_quiesced_steady {σ : State} (s : State) (c : Nat) (hσ : Steady σ s) : Steady σ (AbortOps.quiesced s c) := by
  unfold AbortOps.quiesced
  try dsimp only
  repeat' (first | with_reducible assumption | with_reducible apply Ops_postCtx_steady | with_reducible apply Ops_modStep_steady | with_reducible apply Steady.ite | with_reducible apply Steady.iteFst | split | (fail_if_no_progress with_reducible apply Steady.sameMk) | intro _)

theorem AbortOps_execAbortMsg_goes (p : Nat) (a : AbortMsg) (s : State) : Goes s (AbortOps.execAbortMsg p a s) := by
  refine ⟨_, rfl, ?_⟩
  try dsimp only
  repeat' (first | with_reducible exact Steady.refl _ | with_reducible assumption | with_reducible apply AbortOps_receive_steady)

theorem AbortOps_execAbortSeenExpiry_goes (idx : Nat) (s : State) : Goes s (AbortOps.execAbortSeenExpiry idx s) := by
  refine ⟨_, rfl, ?_⟩
  try dsimp only
  repeat' (first | with_reducible exact Steady.refl _ | with_reducible assumption | with_reducible apply AbortOps_seenExpiry_steady)

theorem AbortOps_execQuiesced_goes (ctx : Nat) (s : State) : Goes s (AbortOps.execQuiesced ctx s) := by
  refine ⟨_, rfl, ?_⟩
  try dsimp only
  repeat' (first | with_reducible exact Steady.refl _ | with_reducible assumption | with_reducible apply AbortOps_quiesced_steady)

end

/-! ## Machine/Desc.lean -/

section

open Machine.Bits Machine.Ops Machine.Report
open Machine.Bits Machine.Ops
open Machine.Desc

theorem Desc_register_steady {σ : State} (s : State) (d : DescHead) (i : InProgress) (hσ : Steady σ s) : Steady σ (Desc.register s d i) := by
  unfold Desc.register
  try dsimp only
  repeat' (first | with_reducible assumption | with_reducible apply Ops_modRing_steady | (fail_if_no_progress with_reducible apply Steady.sameMk) | intro _)

theorem Desc_atOnce_steady {σ : State} (s : State) (d : DescHead) (op : Nat) (data : Bool) (f : State → State × Nat × List (Nat × Bytes)) (hσ : Steady σ s) (k_f : ∀ v0, Steady σ v0 → Steady σ (f v0).1) : Steady σ (Desc.atOnce s d op data f) := by
  unfold Desc.atOnce
  try dsimp only
  repeat' (first | with_reducible assumption | apply k_f | with_reducible apply Desc_register_steady | with_reducible apply Ops_endDesc_steady | with_reducible apply Steady.ite | with_reducible apply Steady.iteFst | split)

theorem Desc_lasting_steady {σ : State} (s : State) (d : DescHead) (i : InProgress) (f : State → State × Option Nat) (hσ : Steady σ s) (k_f : ∀ v0, Steady σ v0 → Steady σ (f v0).1) : Steady σ (Desc.lasting s d i f) := by
  unfold Desc.lasting
  try dsimp only
  repeat' (first | with_reducible assumption | apply k_f | with_reducible apply Desc_register_steady | with_reducible apply Ops_endDesc_steady | with_reducible apply Steady.ite | with_reducible apply Steady.iteFst | split)

end

/-! ## Machine/Digest.lean -/

section

open Machine.Bits Machine.Ops Machine.Report
open Machine.Bits Machine.Ops
open Machine.Digest

theorem Digest_sign_steady {σ : State} (s : State) (d : BitVec 512) (hσ : Steady σ s) : Steady σ (Digest.sign s d).2 := by
  unfold Digest.sign
  try dsimp only
  repeat' (first | with_reducible assumption | with_reducible apply Ops_drawn_steady)

theorem Digest_random_steady {σ : State} (s : State) (hσ : Steady σ s) : Steady σ (Digest.random s).2 := by
  unfold Digest.random
  try dsimp only
  repeat' (first | with_reducible assumption | with_reducible apply Ops_drawn_steady)

end

/-! ## Machine/Checkpoint.lean -/

section

open Machine.Bits Machine.Ops Machine.Report
open Machine.Bits Machine.Ops Machine.Report
open Machine.Ckpts

theorem Ckpts_setup_steady {σ : State} (s0 : State) (c a : Nat) (hσ : Steady σ s0) : Steady σ (Ckpts.setup s0 c a).1 := by
  unfold Ckpts.setup
  try dsimp only
  repeat' (first | with_reducible assumption | with_reducible apply Mem_load_steady | with_reducible apply Ops_modCtx_steady | with_reducible apply Steady.ite | with_reducible apply Steady.iteFst | split | (fail_if_no_progress with_reducible apply Steady.sameMk) | intro _)

theorem Ckpts_enqueue_steady {σ : State} (s : State) (i : WriterItem) (hσ : Steady σ s) : Steady σ (Ckpts.enqueue s i) := by
  unfold Ckpts.enqueue
  try dsimp only
  repeat' (first | with_reducible assumption | with_reducible apply Ops_modCkpt_steady | with_reducible apply Steady.ite | with_reducible apply Steady.iteFst | split | (fail_if_no_progress with_reducible apply Steady.sameMk) | intro _)

theorem Ckpts_fireCheckpoint_steady {σ : State} (s : State) (c k : Nat) (param : Nat) (hσ : Steady σ s) : Steady σ (Ckpts.fireCheckpoint s c k param).1 := by
  unfold Ckpts.fireCheckpoint
  try dsimp only
  repeat' (first | with_reducible assumption | with_reducible apply Pairs_field_steady | with_reducible apply Ckpts_enqueue_steady | with_reducible apply Steady.ite | with_reducible apply Steady.iteFst | split | intro _)

theorem Ckpts_fireSnapshot_steady {σ : State} (s : State) (c k : Nat) (param : Nat) (hσ : Steady σ s) : Steady σ (Ckpts.fireSnapshot s c k param).1 := by
  unfold Ckpts.fireSnapshot
  try dsimp only
  repeat' (first | with_reducible assumption | with_reducible apply Pairs_field_steady | with_reducible apply Ckpts_setup_steady | with_reducible apply Ckpts_enqueue_steady | with_reducible apply Steady.ite | with_reducible apply Steady.iteFst | split | (fail_if_no_progress with_reducible apply Steady.sameMk) | intro _)

theorem Ckpts_endContext_steady {σ : State} (s : State) (c : Nat) (hσ : Steady σ s) : Steady σ (Ckpts.endContext s c) := by
  unfold Ckpts.endContext
  try dsimp only
  repeat' (first | with_reducible assumption | with_reducible apply Ops_modStep_steady | with_reducible apply Slots_stopAll_steady | with_reducible apply Report_abortProg_steady | with_reducible apply StepOps_dropEgress_steady | (fail_if_no_progress with_reducible apply Steady.sameMk) | intro _)

theorem Ckpts_fireReclaim_steady {σ : State} (s : State) (c : Nat) (param : Nat) (taken : Bool) (hσ : Steady σ s) : Steady σ (Ckpts.fireReclaim s c param taken).1 := by
  unfold Ckpts.fireReclaim
  try dsimp only
  repeat' (first | with_reducible assumption | (intro w; exact ⟨w.1, w.2⟩) | (intro w; unfold Mem.wf at w ⊢; exact w) | with_reducible apply Pairs_field_steady | with_reducible apply RemoteOps_noRank_steady | with_reducible apply Ckpts_endContext_steady | with_reducible apply Ops_modRemote_steady | with_reducible apply Ops_modCkpt_steady | with_reducible apply Steady.ite | with_reducible apply Steady.iteFst | split | (fail_if_no_progress with_reducible apply Steady.sameMk) | intro _)

theorem Ckpts_file_steady {σ : State} (s : State) (b : CkptBlock) (i : WriterItem) (rs : List Region) (job : BitVec 256) (hσ : Steady σ s) : Steady σ (Ckpts.file s b i rs job).2.2 := by
  unfold Ckpts.file
  try dsimp only
  repeat' (first | with_reducible assumption | with_reducible apply Digest_random_steady | with_reducible apply RemoteOps_header_steady | with_reducible apply Digest_sign_steady | with_reducible apply Steady.ite | with_reducible apply Steady.iteFst | split)

theorem Ckpts_readRegions_steady {σ : State} (s : State) (i : WriterItem) (rs : List Region) (hσ : Steady σ s) : Steady σ (Ckpts.readRegions s i rs).1 := by
  unfold Ckpts.readRegions
  try dsimp only
  repeat' (first | with_reducible assumption | with_reducible apply Mem_load_steady | with_reducible apply Steady.ite | with_reducible apply Steady.iteFst | split | (with_reducible apply Steady.foldl <;> intros) | (with_reducible apply Steady.foldlFst <;> intros) | intro _)

theorem Ckpts_produce_steady {σ : State} (s : State) (b : CkptBlock) (i : WriterItem) (job : Option (BitVec 256)) (o : WriterOutcome) (hσ : Steady σ s) : Steady σ (Ckpts.produce s b i job o).1 := by
  unfold Ckpts.produce
  try dsimp only
  repeat' (first | with_reducible assumption | with_reducible apply Ckpts_readRegions_steady | with_reducible apply Ckpts_file_steady | with_reducible apply Ops_emit_steady | with_reducible apply Regs_hostWrite_steady | with_reducible apply Bus_hostWrite_steady | with_reducible apply Mem_store_steady | with_reducible apply Steady.ite | with_reducible apply Steady.iteFst | split | (with_reducible apply Steady.foldl <;> intros) | (with_reducible apply Steady.foldlFst <;> intros) | intro _)

theorem Ckpts_finishItem_steady {σ : State} (s : State) (o : WriterOutcome) (hσ : Steady σ s) : Steady σ (Ckpts.finishItem s o) := by
  unfold Ckpts.finishItem
  try dsimp only
  repeat' (first | with_reducible assumption | with_reducible apply Swaps_rest_steady | with_reducible apply Ops_modCkpt_steady | with_reducible apply Ckpts_produce_steady | with_reducible apply Mem_store_steady | with_reducible apply FlagOps_arrive_steady | with_reducible apply Tracker_arrive_steady | with_reducible apply Ops_postCtx_steady | split | (fail_if_no_progress with_reducible apply Steady.sameMk) | intro _)

theorem Ckpts_itemFinish_steady {σ : State} (s : State) (x : WriterEnd) (hσ : Steady σ s) : Steady σ (Ckpts.itemFinish s x) := by
  unfold Ckpts.itemFinish
  try dsimp only
  repeat' (first | with_reducible assumption | with_reducible apply Ckpts_finishItem_steady | with_reducible apply Mem_inject_steady | with_reducible apply Steady.ite | with_reducible apply Steady.iteFst | split)

theorem Ckpts_commit_steady {σ : State} (s0 : State) (c slot step host : Nat) (hσ : Steady σ s0) : Steady σ (Ckpts.commit s0 c slot step host).1 := by
  unfold Ckpts.commit
  try dsimp only
  repeat' (first | with_reducible assumption | with_reducible apply Mem_load_steady | with_reducible apply RemoteOps_header_steady | with_reducible apply Digest_sign_steady | with_reducible apply Ops_emit_steady | with_reducible apply Regs_hostWrite_steady | with_reducible apply Bus_hostWrite_steady | with_reducible apply Steady.ite | with_reducible apply Steady.iteFst | split | intro _)

theorem Ckpts_load_steady {σ : State} (s : State) (d : DescHead) (x : LoadBody) (hσ : Steady σ s) : Steady σ (Ckpts.load s d x).1 := by
  unfold Ckpts.load
  try dsimp only
  repeat' (first | with_reducible assumption | with_reducible apply Ops_modCtx_steady | with_reducible apply Ops_modCkpt_steady | with_reducible apply Steady.ite | with_reducible apply Steady.iteFst | split | (fail_if_no_progress with_reducible apply Steady.sameMk) | intro _)

theorem Ckpts_writeRegions_steady {a : State} (l : List Region) (s : State) (c k f : Nat) (b : Bytes) (h : Steady a s) :
    Steady a (Ckpts.writeRegions l s c k f b) := by
  induction l generalizing s b with
  | nil => exact h
  | cons r l ih => exact ih _ _ (Mem_store_steady _ _ _ _ _ h)

theorem Ckpts_markUnits_steady {σ : State} (s : State) (us : List Nat) (hσ : Steady σ s) : Steady σ (Ckpts.markUnits s us) := by
  unfold Ckpts.markUnits
  try dsimp only
  repeat' (first | with_reducible assumption | with_reducible apply Mem_poisonAll_steady | with_reducible apply Steady.ite | with_reducible apply Steady.iteFst | split | (with_reducible apply Steady.foldl <;> intros) | (with_reducible apply Steady.foldlFst <;> intros) | intro _)

theorem Ckpts_markRegions_steady {a : State} (l : List Region) (s : State) (k f at0 : Nat) (o : List Nat) (h : Steady a s) :
    Steady a (Ckpts.markRegions l s k f at0 o) := by
  induction l generalizing s at0 with
  | nil => exact h
  | cons r rest ih => exact ih _ _ (Ckpts_markUnits_steady _ _ h)


theorem Ckpts_writeLoad_steady {σ : State} (s : State) (c : Nat) (b : CkptBlock) (job : BitVec 256) (x : LoadBody) (cipher : Bytes) (offsets : List Nat) (hσ : Steady σ s) : Steady σ (Ckpts.writeLoad s c b job x cipher offsets) := by
  unfold Ckpts.writeLoad
  try dsimp only
  repeat' (first | with_reducible assumption | with_reducible apply RemoteOps_header_steady | with_reducible apply Mem_store_steady | with_reducible apply Tracker_take_steady | with_reducible apply Pairs_bytes_steady | with_reducible apply Ckpts_markUnits_steady | with_reducible apply Ckpts_markRegions_steady | with_reducible apply Ckpts_writeRegions_steady | with_reducible apply Steady.ite | with_reducible apply Steady.iteFst | split)

theorem Ckpts_loadComplete_steady {σ : State} (s0 : State) (c : Nat) (e : LoadEnd) (hσ : Steady σ s0) : Steady σ (Ckpts.loadComplete s0 c e) := by
  unfold Ckpts.loadComplete
  try dsimp only
  repeat' (first | with_reducible assumption | with_reducible apply Swaps_rest_steady | with_reducible apply Mem_inject_steady | with_reducible apply Ops_modCkpt_steady | with_reducible apply Ops_endDesc_steady | with_reducible apply Ckpts_writeLoad_steady | with_reducible apply StepOps_opened_steady | with_reducible apply Ops_modCtx_steady | with_reducible apply Steady.ite | with_reducible apply Steady.iteFst | split | (fail_if_no_progress with_reducible apply Steady.sameMk) | intro _)

theorem Ckpts_released_steady {σ : State} (s : State) (c : Nat) (skipped : Bool) (hσ : Steady σ s) : Steady σ (Ckpts.released s c skipped) := by
  unfold Ckpts.released
  try dsimp only
  repeat' (first | with_reducible assumption | with_reducible apply Ops_modCkpt_steady | with_reducible apply Report_notify_steady | with_reducible apply Ops_postCtx_steady | with_reducible apply Steady.ite | with_reducible apply Steady.iteFst | split | (fail_if_no_progress with_reducible apply Steady.sameMk) | intro _)

theorem Ckpts_releaseSelf_steady {σ : State} (s : State) (c : Nat) (hσ : Steady σ s) : Steady σ (Ckpts.releaseSelf s c) := by
  unfold Ckpts.releaseSelf
  try dsimp only
  repeat' (first | with_reducible assumption | with_reducible apply Ops_modCtx_steady | with_reducible apply Ops_modCkpt_steady | with_reducible apply Ckpts_released_steady | with_reducible apply Steady.ite | with_reducible apply Steady.iteFst | split | (fail_if_no_progress with_reducible apply Steady.sameMk) | intro _)

theorem Ckpts_wipe_steady {a : State} (s : State) (h : Steady a s) : Steady a (Ckpts.wipe s) :=
  ⟨h.pending, h.ns, h.free, h.out, fun _ => rfl, h.scrub, h.health, h.timeouts, h.quantum, h.swapCtl, h.governor⟩

theorem Ckpts_wipeDone_steady {σ : State} (s : State) (hσ : Steady σ s) : Steady σ (Ckpts.wipeDone s) := by
  unfold Ckpts.wipeDone
  try dsimp only
  repeat' (first | with_reducible assumption | with_reducible apply Ckpts_released_steady | with_reducible apply Ckpts_wipe_steady | split | intro _)

theorem Ckpts_execCkptSetup_goes (d : DescHead) (a : Nat) (s : State) : Goes s (Ckpts.execCkptSetup d a s) := by
  refine ⟨_, rfl, ?_⟩
  try dsimp only
  repeat' (first | with_reducible exact Steady.refl _ | with_reducible assumption | with_reducible apply Desc_atOnce_steady | with_reducible apply Ckpts_setup_steady | with_reducible apply Steady.ite | with_reducible apply Steady.iteFst | split | intro _)

theorem Ckpts_execCkptCommit_goes (d : DescHead) (slot step host : Nat) (s : State) : Goes s (Ckpts.execCkptCommit d slot step host s) := by
  refine ⟨_, rfl, ?_⟩
  try dsimp only
  repeat' (first | with_reducible exact Steady.refl _ | with_reducible assumption | with_reducible apply Desc_atOnce_steady | with_reducible apply Ckpts_commit_steady | with_reducible apply Steady.ite | with_reducible apply Steady.iteFst | split | intro _)

theorem Ckpts_execShardLoad_goes (d : DescHead) (x : LoadBody) (s : State) : Goes s (Ckpts.execShardLoad d x s) := by
  refine ⟨_, rfl, ?_⟩
  try dsimp only
  repeat' (first | with_reducible exact Steady.refl _ | with_reducible assumption | with_reducible apply Desc_lasting_steady | with_reducible apply Mem_load_steady | with_reducible apply Ckpts_load_steady | intro _)

theorem Ckpts_execShardLoadComplete_goes (ctx : Nat) (r : LoadEnd) (s : State) : Goes s (Ckpts.execShardLoadComplete ctx r s) := by
  refine ⟨_, rfl, ?_⟩
  try dsimp only
  repeat' (first | with_reducible exact Steady.refl _ | with_reducible assumption | with_reducible apply Ckpts_loadComplete_steady)

theorem Ckpts_execWriterItemFinish_goes (o : WriterEnd) (s : State) : Goes s (Ckpts.execWriterItemFinish o s) := by
  refine ⟨_, rfl, ?_⟩
  try dsimp only
  repeat' (first | with_reducible exact Steady.refl _ | with_reducible assumption | with_reducible apply Ckpts_itemFinish_steady)

theorem Ckpts_execReleaseSelf_goes (ctx : Nat) (s : State) : Goes s (Ckpts.execReleaseSelf ctx s) := by
  refine ⟨_, rfl, ?_⟩
  try dsimp only
  repeat' (first | with_reducible exact Steady.refl _ | with_reducible assumption | with_reducible apply Ckpts_releaseSelf_steady)

theorem Ckpts_execWipeDone_goes (s : State) : Goes s (Ckpts.execWipeDone s) := by
  refine ⟨_, rfl, ?_⟩
  try dsimp only
  repeat' (first | with_reducible exact Steady.refl _ | with_reducible assumption | with_reducible apply Ckpts_wipeDone_steady)

end

/-! ## Machine/Reset.lean -/

section

open Machine.Bits Machine.Ops Machine.Report
open Machine.Bits Machine.Ops Machine.Report
open Machine.ResetOps

theorem ResetOps_endDrain_steady {σ : State} (s : State) (q : ResetSeq) (hσ : Steady σ s) : Steady σ (ResetOps.endDrain s q) := by
  unfold ResetOps.endDrain
  try dsimp only
  repeat' (first | with_reducible assumption | with_reducible apply AbortOps_broadcastAll_steady | with_reducible apply RemoteOps_abandon_steady | (fail_if_no_progress with_reducible apply Steady.sameMk))

theorem ResetOps_drainEnd_steady {σ : State} (s : State) (hσ : Steady σ s) : Steady σ (ResetOps.drainEnd s) := by
  unfold ResetOps.drainEnd
  try dsimp only
  repeat' (first | with_reducible assumption | with_reducible apply ResetOps_endDrain_steady | with_reducible apply Steady.ite | with_reducible apply Steady.iteFst | split)

theorem ResetOps_assertReset_steady {σ : State} (s : State) (failed : Bool) (hσ : Steady σ s) : Steady σ (ResetOps.assertReset s failed) := by
  unfold ResetOps.assertReset
  try dsimp only
  repeat' (first | with_reducible assumption | with_reducible apply Report_notify_steady | with_reducible apply Report_packageReset_steady | with_reducible apply Report_declareFailed_steady | with_reducible apply Steady.ite | with_reducible apply Steady.iteFst | split)

theorem ResetOps_announceDown_steady {σ : State} (s : State) (hσ : Steady σ s) : Steady σ (ResetOps.announceDown s) := by
  unfold ResetOps.announceDown
  try dsimp only
  repeat' (first | with_reducible assumption | with_reducible apply Ops_sendControls_steady)

theorem ResetOps_resetAssert_steady {σ : State} (s : State) (hσ : Steady σ s) : Steady σ (ResetOps.resetAssert s) := by
  unfold ResetOps.resetAssert
  try dsimp only
  repeat' (first | with_reducible assumption | with_reducible apply ResetOps_assertReset_steady | with_reducible apply ResetOps_announceDown_steady | with_reducible apply Steady.ite | with_reducible apply Steady.iteFst | split)

theorem ResetOps_watchdog_steady {σ : State} (s : State) (hσ : Steady σ s) : Steady σ (ResetOps.watchdog s) := by
  unfold ResetOps.watchdog
  try dsimp only
  repeat' (first | with_reducible assumption | with_reducible apply Report_addEvent_steady | with_reducible apply Report_record_steady | with_reducible apply RemoteOps_fill_steady | with_reducible apply Slots_fill_steady)

theorem ResetOps_removalReset_steady {σ : State} (s : State) (hσ : Steady σ s) : Steady σ (ResetOps.removalReset s) := by
  unfold ResetOps.removalReset
  try dsimp only
  repeat' (first | with_reducible assumption | with_reducible apply Report_freshPackage_steady | (fail_if_no_progress with_reducible apply Steady.sameMk) | intro _)

theorem ResetOps_sequenceTimeout_steady {σ : State} (s : State) (hσ : Steady σ s) : Steady σ (ResetOps.sequenceTimeout s) := by
  unfold ResetOps.sequenceTimeout
  try dsimp only
  repeat' (first | with_reducible assumption | with_reducible apply ResetOps_assertReset_steady | with_reducible apply ResetOps_watchdog_steady | with_reducible apply ResetOps_removalReset_steady | with_reducible apply Steady.ite | with_reducible apply Steady.iteFst | split)

theorem ResetOps_coldCycle_steady {σ : State} (s : State) (cause cls : Nat) (hσ : Steady σ s) : Steady σ (ResetOps.coldCycle s cause cls) := by
  unfold ResetOps.coldCycle
  try dsimp only
  repeat' (first | with_reducible assumption | with_reducible apply Ops_modDex_steady | with_reducible apply Report_railsOff_steady | with_reducible apply Report_notify_steady | with_reducible apply Steady.ite | with_reducible apply Steady.iteFst | split | (fail_if_no_progress with_reducible apply Steady.sameMk) | intro _)

theorem ResetOps_readyTimeout_steady {σ : State} (s : State) (hσ : Steady σ s) : Steady σ (ResetOps.readyTimeout s) := by
  unfold ResetOps.readyTimeout
  try dsimp only
  repeat' (first | with_reducible assumption | with_reducible apply ResetOps_coldCycle_steady | with_reducible apply ResetOps_watchdog_steady | with_reducible apply Steady.ite | with_reducible apply Steady.iteFst | split)

theorem ResetOps_offEnd_steady {σ : State} (s : State) (hσ : Steady σ s) : Steady σ (ResetOps.offEnd s) := by
  unfold ResetOps.offEnd
  try dsimp only
  repeat' (first | with_reducible assumption | with_reducible apply ResetOps_coldCycle_steady | with_reducible apply Report_assertion_steady | with_reducible apply Steady.ite | with_reducible apply Steady.iteFst | split)

theorem ResetOps_coldTimeout_steady {σ : State} (s : State) (hσ : Steady σ s) : Steady σ (ResetOps.coldTimeout s) := by
  unfold ResetOps.coldTimeout
  try dsimp only
  repeat' (first | with_reducible assumption | with_reducible apply ResetOps_coldCycle_steady | with_reducible apply Report_raise_steady | with_reducible apply Steady.ite | with_reducible apply Steady.iteFst | split)

theorem ResetOps_execResetSequence_goes (t : Trigger) (s : State) : Goes s (ResetOps.execResetSequence t s) := by
  refine ⟨_, rfl, ?_⟩
  try dsimp only
  repeat' (first | with_reducible exact Steady.refl _ | with_reducible assumption | with_reducible apply Report_raise_steady | with_reducible apply Steady.ite | with_reducible apply Steady.iteFst | split)

theorem ResetOps_execDrainEnd_goes (s : State) : Goes s (ResetOps.execDrainEnd s) := by
  refine ⟨_, rfl, ?_⟩
  try dsimp only
  repeat' (first | with_reducible exact Steady.refl _ | with_reducible assumption | with_reducible apply ResetOps_drainEnd_steady)

theorem ResetOps_execResetAssert_goes (s : State) : Goes s (ResetOps.execResetAssert s) := by
  refine ⟨_, rfl, ?_⟩
  try dsimp only
  repeat' (first | with_reducible exact Steady.refl _ | with_reducible assumption | with_reducible apply ResetOps_resetAssert_steady)

theorem ResetOps_execResetSequenceTimeout_goes (s : State) : Goes s (ResetOps.execResetSequenceTimeout s) := by
  refine ⟨_, rfl, ?_⟩
  try dsimp only
  repeat' (first | with_reducible exact Steady.refl _ | with_reducible assumption | with_reducible apply ResetOps_sequenceTimeout_steady)

theorem ResetOps_execReadyTimeout_goes (s : State) : Goes s (ResetOps.execReadyTimeout s) := by
  refine ⟨_, rfl, ?_⟩
  try dsimp only
  repeat' (first | with_reducible exact Steady.refl _ | with_reducible assumption | with_reducible apply ResetOps_readyTimeout_steady)

theorem ResetOps_execColdCycleOffEnd_goes (s : State) : Goes s (ResetOps.execColdCycleOffEnd s) := by
  refine ⟨_, rfl, ?_⟩
  try dsimp only
  repeat' (first | with_reducible exact Steady.refl _ | with_reducible assumption | with_reducible apply ResetOps_offEnd_steady)

theorem ResetOps_execColdCycleReadyTimeout_goes (s : State) : Goes s (ResetOps.execColdCycleReadyTimeout s) := by
  refine ⟨_, rfl, ?_⟩
  try dsimp only
  repeat' (first | with_reducible exact Steady.refl _ | with_reducible assumption | with_reducible apply ResetOps_coldTimeout_steady)

end

/-! ## Machine/Alarm.lean -/

section

open Machine.Bits Machine.Ops Machine.Report
open Machine.Bits Machine.Ops Machine.Report
open Machine.Alarm

theorem Alarm_eraseKeys_steady {σ : State} (s : State) (hσ : Steady σ s) : Steady σ (Alarm.eraseKeys s) := by
  unfold Alarm.eraseKeys
  try dsimp only
  repeat' (first | with_reducible assumption | with_reducible apply Ops_modSec_steady | with_reducible apply Ops_modHost_steady | with_reducible apply Ops_modFabric_steady | (fail_if_no_progress with_reducible apply Steady.sameMk) | intro _)

theorem Alarm_endItems_steady {σ : State} (s : State) (hσ : Steady σ s) : Steady σ (Alarm.endItems s) := by
  unfold Alarm.endItems
  try dsimp only
  repeat' (first | with_reducible assumption | with_reducible apply Ckpts_finishItem_steady | (with_reducible apply Steady.foldl <;> intros) | (with_reducible apply Steady.foldlFst <;> intros) | intro _)

theorem Alarm_count_steady {σ : State} (s : State) (bits : Nat) (hσ : Steady σ s) : Steady σ (Alarm.count s bits) := by
  unfold Alarm.count
  try dsimp only
  repeat' (first | with_reducible assumption | with_reducible apply Ops_modSec_steady | (fail_if_no_progress with_reducible apply Steady.sameMk) | intro _)

theorem Alarm_recordAlarm_steady {σ : State} (s : State) (bits effect : Nat) (hσ : Steady σ s) : Steady σ (Alarm.recordAlarm s bits effect) := by
  unfold Alarm.recordAlarm
  try dsimp only
  repeat' (first | with_reducible assumption | with_reducible apply RemoteOps_fill_steady | with_reducible apply Slots_fill_steady | with_reducible apply Report_notify_steady | with_reducible apply Ops_modDex_steady | (fail_if_no_progress with_reducible apply Steady.sameMk) | intro _)

theorem Alarm_sequence_steady {σ : State} (s : State) (failed : Bool) (hσ : Steady σ s) : Steady σ (Alarm.sequence s failed) := by
  unfold Alarm.sequence
  try dsimp only
  repeat' (first | with_reducible assumption | with_reducible apply Ops_modDex_steady | with_reducible apply Report_fence_steady | with_reducible apply ResetOps_endDrain_steady | with_reducible apply Steady.ite | with_reducible apply Steady.iteFst | split | (fail_if_no_progress with_reducible apply Steady.sameMk) | intro _)

theorem Alarm_alarm_steady {σ : State} (s : State) (bits : Nat) (hσ : Steady σ s) : Steady σ (Alarm.alarm s bits) := by
  unfold Alarm.alarm
  try dsimp only
  repeat' (first | with_reducible assumption | with_reducible apply Alarm_count_steady | with_reducible apply Alarm_eraseKeys_steady | with_reducible apply Alarm_endItems_steady | with_reducible apply Alarm_recordAlarm_steady | with_reducible apply Alarm_sequence_steady | with_reducible apply Report_declareFailed_steady | with_reducible apply Report_packageReset_steady | with_reducible apply Ops_modDex_steady | with_reducible apply Steady.ite | with_reducible apply Steady.iteFst | split | (fail_if_no_progress with_reducible apply Steady.sameMk) | intro _)

theorem Alarm_persist_steady {σ : State} (s : State) (active : Bool) (hσ : Steady σ s) : Steady σ (Alarm.persist s active) := by
  unfold Alarm.persist
  try dsimp only
  repeat' (first | with_reducible assumption | with_reducible apply ResetOps_coldCycle_steady | with_reducible apply Ops_modSec_steady | with_reducible apply Report_declareFailed_steady | with_reducible apply Alarm_recordAlarm_steady | with_reducible apply Steady.ite | with_reducible apply Steady.iteFst | split | (fail_if_no_progress with_reducible apply Steady.sameMk) | intro _)

theorem Alarm_reverify_steady {σ : State} (s : State) (dexhornOk imagesOk : Bool) (hσ : Steady σ s) : Steady σ (Alarm.reverify s dexhornOk imagesOk) := by
  unfold Alarm.reverify
  try dsimp only
  repeat' (first | with_reducible assumption | with_reducible apply Alarm_alarm_steady | with_reducible apply Steady.ite | with_reducible apply Steady.iteFst | split)

theorem Alarm_execSecurityAlarm_goes (source : Nat) (s : State) : Goes s (Alarm.execSecurityAlarm source s) := by
  refine ⟨_, rfl, ?_⟩
  try dsimp only
  repeat' (first | with_reducible exact Steady.refl _ | with_reducible assumption | with_reducible apply Alarm_alarm_steady)

theorem Alarm_execAlarmPersistCheck_goes (active : Bool) (s : State) : Goes s (Alarm.execAlarmPersistCheck active s) := by
  refine ⟨_, rfl, ?_⟩
  try dsimp only
  repeat' (first | with_reducible exact Steady.refl _ | with_reducible assumption | with_reducible apply Alarm_persist_steady)

theorem Alarm_execFirmwareReverify_goes (dexhornOk imagesOk : Bool) (s : State) : Goes s (Alarm.execFirmwareReverify dexhornOk imagesOk s) := by
  refine ⟨_, rfl, ?_⟩
  try dsimp only
  repeat' (first | with_reducible exact Steady.refl _ | with_reducible assumption | with_reducible apply Alarm_reverify_steady)

end

/-! ## Machine/Array.lean -/

section

open Machine.Bits Machine.Ops Machine.Report
open Machine.Bits Machine.Ops Machine.Report Machine.Numeric Machine.Operand Machine.Issue Machine.Cicada
open Machine.Array

theorem Array_setArray_steady {σ : State} (s : State) (q : Nat) (a : ArrayCore) (hσ : Steady σ s) : Steady σ (Array.setArray s q a) := by
  unfold Array.setArray
  try dsimp only
  repeat' (first | with_reducible assumption | (fail_if_no_progress with_reducible apply Steady.sameMk))

theorem Array_loadTile_steady {σ : State} (s : State) (c q : Nat) (stream : Option Nat) (d : StreamDesc) (index : Nat) (hσ : Steady σ s) : Steady σ (Array.loadTile s c q stream d index).1 := by
  unfold Array.loadTile
  try dsimp only
  repeat' (first | with_reducible assumption | with_reducible apply Operand_loadAll_steady | with_reducible apply Steady.ite | with_reducible apply Steady.iteFst | split | intro _)

theorem Array_tileFor_steady {σ : State} (s : State) (c q stream : Nat) (w : PassWord) (d : StreamDesc) (hσ : Steady σ s) : Steady σ (Array.tileFor s c q stream w d).1 := by
  unfold Array.tileFor
  try dsimp only
  repeat' (first | with_reducible assumption | with_reducible apply Array_loadTile_steady | with_reducible apply Steady.ite | with_reducible apply Steady.iteFst | split | (fail_if_no_progress with_reducible apply Steady.sameMk))

theorem Array_tick_steady {σ : State} (s : State) (n : Nat) (hσ : Steady σ s) : Steady σ (Array.tick s n) := by
  unfold Array.tick
  try dsimp only
  repeat' (first | with_reducible assumption | (fail_if_no_progress with_reducible apply Steady.sameMk) | intro _)

theorem Array_reload_steady {σ : State} (s : State) (c q : Nat) (hσ : Steady σ s) : Steady σ (Array.reload s c q) := by
  unfold Array.reload
  try dsimp only
  repeat' (first | with_reducible assumption | with_reducible apply Array_loadTile_steady | with_reducible apply Array_setArray_steady | split | (fail_if_no_progress with_reducible apply Steady.sameMk))

theorem Array_rampUp_steady {σ : State} (s : State) (k : Nat) (hσ : Steady σ s) : Steady σ (Array.rampUp s k) := by
  unfold Array.rampUp
  try dsimp only
  repeat' (first | with_reducible assumption | with_reducible apply Cicada_setPhys_steady | with_reducible apply Steady.ite | with_reducible apply Steady.iteFst | split | (fail_if_no_progress with_reducible apply Steady.sameMk))

theorem Array_hold_steady {σ : State} (s : State) (q : Nat) (p : PassOp) (hσ : Steady σ s) : Steady σ (Array.hold s q p) := by
  unfold Array.hold
  try dsimp only
  repeat' (first | with_reducible assumption | with_reducible apply Array_rampUp_steady | with_reducible apply Array_setArray_steady | with_reducible apply Steady.ite | with_reducible apply Steady.iteFst | split | (fail_if_no_progress with_reducible apply Steady.sameMk))

theorem Array_pass_steady {σ : State} (s : State) (i : Issuer) (w : PassWord) (hits : List CodeHit) (hσ : Steady σ s) : Steady σ (Array.pass s i w hits) := by
  unfold Array.pass
  try dsimp only
  repeat' (first | with_reducible assumption | with_reducible apply Issue_issue_steady | with_reducible apply Issue_rejectRead_steady | with_reducible apply Operand_descRead_steady | with_reducible apply Mem_inject_steady | with_reducible apply Issue_noted_steady | with_reducible apply Array_tileFor_steady | with_reducible apply HiveOps_read_steady | with_reducible apply Bus_read_steady | with_reducible apply Array_hold_steady | with_reducible apply Ops_modCore_steady | with_reducible apply Issue_launched_steady | with_reducible apply Steady.ite | with_reducible apply Steady.iteFst | split | (fail_if_no_progress with_reducible apply Steady.sameMk) | intro _)

theorem Array_feedStart_steady {σ : State} (s : State) (q : Nat) (hσ : Steady σ s) : Steady σ (Array.feedStart s q) := by
  unfold Array.feedStart
  try dsimp only
  repeat' (first | with_reducible assumption | with_reducible apply Array_setArray_steady | with_reducible apply HiveOps_read_steady | with_reducible apply Bus_read_steady | with_reducible apply Steady.ite | with_reducible apply Steady.iteFst | split | (fail_if_no_progress with_reducible apply Steady.sameMk) | intro _)

theorem Array_countError_steady {σ : State} (s : State) (q : Nat) (p : PassOp) (hσ : Steady σ s) : Steady σ (Array.countError s q p) := by
  unfold Array.countError
  try dsimp only
  repeat' (first | with_reducible assumption | with_reducible apply Swaps_countError_steady)

theorem Array_entryError_steady {σ : State} (s : State) (q : Nat) (p : PassOp) (f : ArrayFault) (hσ : Steady σ s) : Steady σ (Array.entryError s q p f) := by
  unfold Array.entryError
  try dsimp only
  repeat' (first | with_reducible assumption | with_reducible apply Report_raise_steady | with_reducible apply Ops_modDex_steady | (fail_if_no_progress with_reducible apply Steady.sameMk) | intro _)

theorem Array_raiseErrors_steady {σ : State} (s : State) (q : Nat) (a : ArrayCore) (p : PassOp) (vs : List (Nat × Nat × Vec)) (hw : Option ArrayFault) (hσ : Steady σ s) : Steady σ (Array.raiseErrors s q a p vs hw) := by
  unfold Array.raiseErrors
  try dsimp only
  repeat' (first | with_reducible assumption | with_reducible apply Alarm_count_steady | with_reducible apply Array_entryError_steady | with_reducible apply Report_raise_steady | with_reducible apply Swaps_countError_steady | with_reducible apply Array_countError_steady | with_reducible apply Steady.ite | with_reducible apply Steady.iteFst | split | intro _)

theorem Array_countStalls_steady {σ : State} (s : State) (k : Nat) (p : PassOp) (hσ : Steady σ s) : Steady σ (Array.countStalls s k p) := by
  unfold Array.countStalls
  try dsimp only
  repeat' (first | with_reducible assumption | with_reducible apply Cicada_bump_steady | with_reducible apply Ops_drawn_steady)

theorem Array_endOn_steady {σ : State} (s : State) (q : Nat) (p : PassOp) (e : Ended) (hw : Option ArrayFault) (hσ : Steady σ s) : Steady σ (Array.endOn s q p e hw) := by
  unfold Array.endOn
  try dsimp only
  repeat' (first | with_reducible assumption | with_reducible apply Array_setArray_steady | with_reducible apply Cicada_bump_steady | with_reducible apply Array_raiseErrors_steady | with_reducible apply Array_countStalls_steady | (with_reducible apply Steady.foldl <;> intros) | (with_reducible apply Steady.foldlFst <;> intros) | intro _)

theorem Array_writePass_steady {σ : State} (s : State) (q : Nat) (p : PassOp) (other : Option ArrayCore) (pair : Option PairFault) (r : Mem.Req) (hσ : Steady σ s) : Steady σ (Array.writePass s q p other pair r) := by
  unfold Array.writePass
  try dsimp only
  repeat' (first | with_reducible assumption | with_reducible apply Pairs_output_steady | with_reducible apply Operand_censusAdd_steady | with_reducible apply Mem_storeMap_steady | split)

theorem Array_passComplete_steady {σ : State} (s : State) (q : Nat) (hw : PassFaults) (hits : List CodeHit) (hσ : Steady σ s) : Steady σ (Array.passComplete s q hw hits) := by
  unfold Array.passComplete
  try dsimp only
  repeat' (first | with_reducible assumption | with_reducible apply Swaps_rest_steady | with_reducible apply Mem_inject_steady | with_reducible apply Array_endOn_steady | with_reducible apply Operand_loadAll_steady | with_reducible apply Array_writePass_steady | with_reducible apply Report_setFail_steady | with_reducible apply Pairs_action_steady | with_reducible apply Issue_complete_steady | with_reducible apply Swaps_atPass_steady | with_reducible apply Steady.ite | with_reducible apply Steady.iteFst | split | (fail_if_no_progress with_reducible apply Steady.sameMk))

theorem Array_rampDownStart_steady {σ : State} (s : State) (k : Nat) (hσ : Steady σ s) : Steady σ (Array.rampDownStart s k) := by
  unfold Array.rampDownStart
  try dsimp only
  repeat' (first | with_reducible assumption | with_reducible apply Cicada_setPhys_steady | with_reducible apply Steady.ite | with_reducible apply Steady.iteFst | split | (fail_if_no_progress with_reducible apply Steady.sameMk))

theorem Array_levelStep_steady {σ : State} (s : State) (k : Nat) (hσ : Steady σ s) : Steady σ (Array.levelStep s k) := by
  unfold Array.levelStep
  try dsimp only
  repeat' (first | with_reducible assumption | with_reducible apply Cicada_setPhys_steady | with_reducible apply Steady.ite | with_reducible apply Steady.iteFst | split | (fail_if_no_progress with_reducible apply Steady.sameMk))

theorem Array_execPass_goes (i : Issuer) (w : PassCmd) (s : State) : Goes s (Array.execPass i w s) := by
  refine ⟨_, rfl, ?_⟩
  try dsimp only
  repeat' (first | with_reducible exact Steady.refl _ | with_reducible assumption | with_reducible apply Array_pass_steady)

theorem Array_execPassFeedStart_goes (core : Nat) (s : State) : Goes s (Array.execPassFeedStart core s) := by
  refine ⟨_, rfl, ?_⟩
  try dsimp only
  repeat' (first | with_reducible exact Steady.refl _ | with_reducible assumption | with_reducible apply Array_feedStart_steady)

theorem Array_execPassComplete_goes (core : Nat) (hw : PassFaults) (hits : List CodeHit) (s : State) : Goes s (Array.execPassComplete core hw hits s) := by
  refine ⟨_, rfl, ?_⟩
  try dsimp only
  repeat' (first | with_reducible exact Steady.refl _ | with_reducible assumption | with_reducible apply Array_passComplete_steady)

theorem Array_execCicadaRampDownStart_goes (k : Nat) (s : State) : Goes s (Array.execCicadaRampDownStart k s) := by
  refine ⟨_, rfl, ?_⟩
  try dsimp only
  repeat' (first | with_reducible exact Steady.refl _ | with_reducible assumption | with_reducible apply Array_rampDownStart_steady)

theorem Array_execCicadaLevelStep_goes (k : Nat) (s : State) : Goes s (Array.execCicadaLevelStep k s) := by
  refine ⟨_, rfl, ?_⟩
  try dsimp only
  repeat' (first | with_reducible exact Steady.refl _ | with_reducible assumption | with_reducible apply Array_levelStep_steady)

end

/-! ## Machine/Clock.lean -/

section

open Machine.Bits Machine.Ops Machine.Report
open Machine.Bits Machine.Ops Machine.Report
open Machine.Clock

theorem Clock_send_steady {σ : State} (s : State) (p : Nat) (hσ : Steady σ s) : Steady σ (Clock.send s p) := by
  unfold Clock.send
  try dsimp only
  repeat' (first | with_reducible assumption | with_reducible apply Ops_sendFirefly_steady | with_reducible apply Ops_modTime_steady | with_reducible apply Steady.ite | with_reducible apply Steady.iteFst | split | (fail_if_no_progress with_reducible apply Steady.sameMk) | intro _)

theorem Clock_lose_steady {σ : State} (s : State) (hσ : Steady σ s) : Steady σ (Clock.lose s) := by
  unfold Clock.lose
  try dsimp only
  repeat' (first | with_reducible assumption | with_reducible apply Ops_modTime_steady | with_reducible apply AbortOps_broadcastAll_steady | with_reducible apply Report_raise_steady | (fail_if_no_progress with_reducible apply Steady.sameMk) | intro _)

theorem Clock_choose_steady {σ : State} (s : State) (hσ : Steady σ s) : Steady σ (Clock.choose s) := by
  unfold Clock.choose
  try dsimp only
  repeat' (first | with_reducible assumption | with_reducible apply Ops_modTime_steady | with_reducible apply Steady.ite | with_reducible apply Steady.iteFst | split | (fail_if_no_progress with_reducible apply Steady.sameMk) | intro _)

theorem Clock_setCount_steady {σ : State} (s : State) (v : Nat) (hσ : Steady σ s) : Steady σ (Clock.setCount s v) := by
  unfold Clock.setCount
  try dsimp only
  repeat' (first | with_reducible assumption | with_reducible apply Ops_modFabric_steady | with_reducible apply Ops_modTime_steady | with_reducible apply Alarm_count_steady | (fail_if_no_progress with_reducible apply Steady.sameMk) | intro _)

theorem Clock_measure_steady {σ : State} (s0 : State) (f : FireflyMsg) (prev : FireflyMsg) (t2 : Nat) (asym : Int) (hσ : Steady σ s0) : Steady σ (Clock.measure s0 f prev t2 asym) := by
  unfold Clock.measure
  try dsimp only
  repeat' (first | with_reducible assumption | with_reducible apply Ops_modTime_steady | with_reducible apply Clock_setCount_steady | with_reducible apply Clock_lose_steady | with_reducible apply RegMode_run_steady | with_reducible apply Steady.ite | with_reducible apply Steady.iteFst | split | (fail_if_no_progress with_reducible apply Steady.sameMk) | intro _)

theorem Clock_follow_steady {σ : State} (s : State) (p : Nat) (f : FireflyMsg) (hσ : Steady σ s) : Steady σ (Clock.follow s p f) := by
  unfold Clock.follow
  try dsimp only
  repeat' (first | with_reducible assumption | with_reducible apply Ops_modTime_steady | with_reducible apply Steady.ite | with_reducible apply Steady.iteFst | split | (fail_if_no_progress with_reducible apply Steady.sameMk) | intro _)

theorem Clock_firefly_steady {σ : State} (s : State) (p : Nat) (f : FireflyMsg) (hσ : Steady σ s) : Steady σ (Clock.firefly s p f) := by
  unfold Clock.firefly
  try dsimp only
  repeat' (first | with_reducible assumption | with_reducible apply Ops_modTime_steady | with_reducible apply Issue_heard_steady | with_reducible apply Clock_choose_steady | with_reducible apply Clock_follow_steady | with_reducible apply Clock_measure_steady | with_reducible apply Steady.ite | with_reducible apply Steady.iteFst | split | (fail_if_no_progress with_reducible apply Steady.sameMk) | intro _)

theorem Clock_holdoverEntry_steady {σ : State} (s : State) (hσ : Steady σ s) : Steady σ (Clock.holdoverEntry s) := by
  unfold Clock.holdoverEntry
  try dsimp only
  repeat' (first | with_reducible assumption | with_reducible apply Ops_modTime_steady | with_reducible apply Steady.ite | with_reducible apply Steady.iteFst | split | (fail_if_no_progress with_reducible apply Steady.sameMk) | intro _)

theorem Clock_holdoverLimit_steady {σ : State} (s : State) (hσ : Steady σ s) : Steady σ (Clock.holdoverLimit s) := by
  unfold Clock.holdoverLimit
  try dsimp only
  repeat' (first | with_reducible assumption | with_reducible apply Clock_lose_steady | with_reducible apply Steady.ite | with_reducible apply Steady.iteFst | split)

theorem Clock_epochWait_steady {σ : State} (s : State) (hσ : Steady σ s) : Steady σ (Clock.epochWait s) := by
  unfold Clock.epochWait
  try dsimp only
  repeat' (first | with_reducible assumption | with_reducible apply Clock_lose_steady | with_reducible apply Steady.ite | with_reducible apply Steady.iteFst | split)

theorem Clock_takeover_steady {σ : State} (s : State) (hσ : Steady σ s) : Steady σ (Clock.takeover s) := by
  unfold Clock.takeover
  try dsimp only
  repeat' (first | with_reducible assumption | with_reducible apply Ops_modTime_steady | with_reducible apply Steady.ite | with_reducible apply Steady.iteFst | split | (fail_if_no_progress with_reducible apply Steady.sameMk) | intro _)

/-- An idle nanosecond advances the clock by one and is steady from there. -/
theorem Clock_tick_steadyFrom (s : State) : Steady { s with ns := s.ns + 1 } (Clock.tick s) :=
  Steady.ite (Ops_modDex_steady _ _ (Ops_modTime_steady _ _ (Steady.refl _))) (Steady.refl _)

theorem Clock_execFireflySend_goes (p : Nat) (s : State) : Goes s (Clock.execFireflySend p s) := by
  refine ⟨_, rfl, ?_⟩
  try dsimp only
  repeat' (first | with_reducible exact Steady.refl _ | with_reducible assumption | with_reducible apply RemoteOps_send_steady | with_reducible apply Clock_send_steady | with_reducible apply Steady.ite | with_reducible apply Steady.iteFst | split)

theorem Clock_execFirefly_goes (p : Nat) (f : FireflyMsg) (s : State) : Goes s (Clock.execFirefly p f s) := by
  refine ⟨_, rfl, ?_⟩
  try dsimp only
  repeat' (first | with_reducible exact Steady.refl _ | with_reducible assumption | with_reducible apply Clock_firefly_steady | with_reducible apply Steady.ite | with_reducible apply Steady.iteFst | split)

theorem Clock_execHoldoverEntry_goes (s : State) : Goes s (Clock.execHoldoverEntry s) := by
  refine ⟨_, rfl, ?_⟩
  try dsimp only
  repeat' (first | with_reducible exact Steady.refl _ | with_reducible assumption | with_reducible apply Clock_holdoverEntry_steady)

theorem Clock_execHoldoverLimit_goes (s : State) : Goes s (Clock.execHoldoverLimit s) := by
  refine ⟨_, rfl, ?_⟩
  try dsimp only
  repeat' (first | with_reducible exact Steady.refl _ | with_reducible assumption | with_reducible apply Clock_holdoverLimit_steady)

theorem Clock_execEpochWaitExpiry_goes (s : State) : Goes s (Clock.execEpochWaitExpiry s) := by
  refine ⟨_, rfl, ?_⟩
  try dsimp only
  repeat' (first | with_reducible exact Steady.refl _ | with_reducible assumption | with_reducible apply Clock_epochWait_steady)

theorem Clock_execBackupRootTakeover_goes (s : State) : Goes s (Clock.execBackupRootTakeover s) := by
  refine ⟨_, rfl, ?_⟩
  try dsimp only
  repeat' (first | with_reducible exact Steady.refl _ | with_reducible assumption | with_reducible apply Clock_takeover_steady)

end

/-! ## Machine/Contexts.lean -/

section

open Machine.Bits Machine.Ops Machine.Report
open Machine.Bits Machine.Ops Machine.Report Machine.Issue
open Machine.Contexts

theorem Contexts_evict_steady {σ : State} (s : State) (q : Nat) (w : Nat × Ctx) (hσ : Steady σ s) : Steady σ (Contexts.evict s q w) := by
  unfold Contexts.evict
  try dsimp only
  repeat' (first | with_reducible assumption | with_reducible apply Slots_makeDue_steady | with_reducible apply Ops_modCore_steady | with_reducible apply Steady.ite | with_reducible apply Steady.iteFst | split | (with_reducible apply Steady.foldl <;> intros) | (with_reducible apply Steady.foldlFst <;> intros) | (fail_if_no_progress with_reducible apply Steady.sameMk) | intro _)

theorem Contexts_passOver_steady {σ : State} (s : State) (q : Nat) (out : Nat) (hσ : Steady σ s) : Steady σ (Contexts.passOver s q out) := by
  unfold Contexts.passOver
  try dsimp only
  repeat' (first | with_reducible assumption | with_reducible apply Ops_modCore_steady | with_reducible apply Steady.ite | with_reducible apply Steady.iteFst | split | (with_reducible apply Steady.foldl <;> intros) | (with_reducible apply Steady.foldlFst <;> intros) | (fail_if_no_progress with_reducible apply Steady.sameMk) | intro _)

theorem Contexts_endQuanta_steady {σ : State} (s : State) (q : Nat) (hσ : Steady σ s) : Steady σ (Contexts.endQuanta s q) := by
  unfold Contexts.endQuanta
  try dsimp only
  repeat' (first | with_reducible assumption | with_reducible apply Ops_modCore_steady | with_reducible apply Contexts_passOver_steady | with_reducible apply Steady.ite | with_reducible apply Steady.iteFst | split | (with_reducible apply Steady.foldl <;> intros) | (with_reducible apply Steady.foldlFst <;> intros) | (fail_if_no_progress with_reducible apply Steady.sameMk) | intro _)

theorem Contexts_quantumExpiry_steady {σ : State} (s : State) (q : Nat) (hσ : Steady σ s) : Steady σ (Contexts.quantumExpiry s q) := by
  unfold Contexts.quantumExpiry
  try dsimp only
  repeat' (first | with_reducible assumption | with_reducible apply Contexts_endQuanta_steady | with_reducible apply Contexts_evict_steady | with_reducible apply Slots_makeDue_steady | with_reducible apply Ops_modCore_steady | with_reducible apply Steady.ite | with_reducible apply Steady.iteFst | split | (fail_if_no_progress with_reducible apply Steady.sameMk) | intro _)

theorem Contexts_contextSwitch_steady {σ : State} (s : State) (q : Nat) (cmd : SlotCmd) (hσ : Steady σ s) : Steady σ (Contexts.contextSwitch s q cmd) := by
  unfold Contexts.contextSwitch
  try dsimp only
  repeat' (first | with_reducible assumption | with_reducible apply Ops_modCore_steady | with_reducible apply Slots_save_steady | with_reducible apply Mem_inject_steady | with_reducible apply Steady.ite | with_reducible apply Steady.iteFst | split | (fail_if_no_progress with_reducible apply Steady.sameMk) | intro _)

theorem Contexts_leave_steady {σ : State} (s : State) (q : Nat) (hσ : Steady σ s) : Steady σ (Contexts.leave s q) := by
  unfold Contexts.leave
  try dsimp only
  repeat' (first | with_reducible assumption | with_reducible apply Steady.ite | with_reducible apply Steady.iteFst | split | (fail_if_no_progress with_reducible apply Steady.sameMk) | intro _)

theorem Contexts_switchComplete_steady {σ : State} (s0 : State) (q : Nat) (cmd : SlotCmd) (hσ : Steady σ s0) : Steady σ (Contexts.switchComplete s0 q cmd) := by
  unfold Contexts.switchComplete
  try dsimp only
  repeat' (first | with_reducible assumption | with_reducible apply Mem_inject_steady | with_reducible apply Contexts_leave_steady | with_reducible apply Ops_modCore_steady | with_reducible apply Slots_becomeResident_steady | with_reducible apply Array_reload_steady | with_reducible apply Swaps_atSwitchEnd_steady | with_reducible apply RemoteOps_fill_steady | with_reducible apply Slots_fill_steady | with_reducible apply Steady.ite | with_reducible apply Steady.iteFst | split | (fail_if_no_progress with_reducible apply Steady.sameMk) | intro _)

theorem Contexts_execQuantumExpiry_goes (core : Nat) (s : State) : Goes s (Contexts.execQuantumExpiry core s) := by
  refine ⟨_, rfl, ?_⟩
  try dsimp only
  repeat' (first | with_reducible exact Steady.refl _ | with_reducible assumption | with_reducible apply Contexts_quantumExpiry_steady)

theorem Contexts_execContextSwitch_goes (core : Nat) (slot : SlotCmd) (s : State) : Goes s (Contexts.execContextSwitch core slot s) := by
  refine ⟨_, rfl, ?_⟩
  try dsimp only
  repeat' (first | with_reducible exact Steady.refl _ | with_reducible assumption | with_reducible apply Contexts_contextSwitch_steady)

theorem Contexts_execSwitchComplete_goes (core : Nat) (slot : SlotCmd) (s : State) : Goes s (Contexts.execSwitchComplete core slot s) := by
  refine ⟨_, rfl, ?_⟩
  try dsimp only
  repeat' (first | with_reducible exact Steady.refl _ | with_reducible assumption | with_reducible apply Contexts_switchComplete_steady)

end

/-! ## Machine/Control.lean -/

section

open Machine.Bits Machine.Ops Machine.Report
open Machine.Bits Machine.Ops Machine.Report Machine.Issue
open Machine.Control

theorem Control_control_steady {σ : State} (s : State) (i : Issuer) (cop : Nat) (w : CtlWord) (body : State → Runner → State) (hσ : Steady σ s) (k_body : ∀ v0 v1, Steady σ v0 → Steady σ (body v0 v1)) : Steady σ (Control.control s i cop w body) := by
  unfold Control.control
  try dsimp only
  repeat' (first | with_reducible assumption | apply k_body | with_reducible apply Issue_issue_steady | with_reducible apply Issue_noted_steady | with_reducible apply Issue_reject_steady | with_reducible apply Steady.ite | with_reducible apply Steady.iteFst | split | intro _)

theorem Control_goTo_steady {σ : State} (s : State) (c : Nat) (i : Issuer) (pc : Nat) (hσ : Steady σ s) : Steady σ (Control.goTo s c i pc) := by
  unfold Control.goTo
  try dsimp only
  repeat' (first | with_reducible assumption | with_reducible apply Ops_modStream_steady | (fail_if_no_progress with_reducible apply Steady.sameMk) | intro _)

theorem Control_branch_steady {σ : State} (s : State) (c : Nat) (i : Issuer) (taken : Bool) (w : CtlWord) (hσ : Steady σ s) : Steady σ (Control.branch s c i taken w) := by
  unfold Control.branch
  try dsimp only
  repeat' (first | with_reducible assumption | with_reducible apply Control_goTo_steady | with_reducible apply Issue_advance_steady | with_reducible apply Steady.ite | with_reducible apply Steady.iteFst | split)

theorem Control_writeCounter_steady {σ : State} (s : State) (c q n : Nat) (v : W32) (hσ : Steady σ s) : Steady σ (Control.writeCounter s c q n v) := by
  unfold Control.writeCounter
  try dsimp only
  repeat' (first | with_reducible assumption | with_reducible apply Issue_setCounter_steady | with_reducible apply Steady.ite | with_reducible apply Steady.iteFst | split | (fail_if_no_progress with_reducible apply Steady.sameMk) | intro _)

theorem Control_nop_steady {σ : State} (s : State) (i : Issuer) (w : CtlWord) (hσ : Steady σ s) : Steady σ (Control.nop s i w) := by
  unfold Control.nop
  try dsimp only
  repeat' (first | with_reducible assumption | with_reducible apply Control_control_steady | with_reducible apply Issue_advance_steady | intro _)

theorem Control_setc_steady {σ : State} (s : State) (i : Issuer) (w : CtlWord) (hσ : Steady σ s) : Steady σ (Control.setc s i w) := by
  unfold Control.setc
  try dsimp only
  repeat' (first | with_reducible assumption | with_reducible apply Control_control_steady | with_reducible apply Issue_advance_steady | with_reducible apply Control_writeCounter_steady | intro _)

theorem Control_addc_steady {σ : State} (s : State) (i : Issuer) (w : CtlWord) (hσ : Steady σ s) : Steady σ (Control.addc s i w) := by
  unfold Control.addc
  try dsimp only
  repeat' (first | with_reducible assumption | with_reducible apply Control_control_steady | with_reducible apply Issue_advance_steady | with_reducible apply Control_writeCounter_steady | intro _)

theorem Control_brc_steady {σ : State} (s : State) (i : Issuer) (w : CtlWord) (hσ : Steady σ s) : Steady σ (Control.brc s i w) := by
  unfold Control.brc
  try dsimp only
  repeat' (first | with_reducible assumption | with_reducible apply Control_control_steady | with_reducible apply Control_branch_steady | intro _)

theorem Control_loopCtr_steady {σ : State} (s : State) (i : Issuer) (w : CtlWord) (hσ : Steady σ s) : Steady σ (Control.loopCtr s i w) := by
  unfold Control.loopCtr
  try dsimp only
  repeat' (first | with_reducible assumption | with_reducible apply Control_control_steady | with_reducible apply Control_branch_steady | with_reducible apply Control_writeCounter_steady | intro _)

theorem Control_brs_steady {σ : State} (s : State) (i : Issuer) (w : CtlWord) (hσ : Steady σ s) : Steady σ (Control.brs s i w) := by
  unfold Control.brs
  try dsimp only
  repeat' (first | with_reducible assumption | with_reducible apply Control_control_steady | with_reducible apply Ops_modStream_steady | with_reducible apply Control_branch_steady | with_reducible apply Steady.ite | with_reducible apply Steady.iteFst | split | (fail_if_no_progress with_reducible apply Steady.sameMk) | intro _)

theorem Control_yield'_steady {σ : State} (s : State) (i : Issuer) (w : CtlWord) (hσ : Steady σ s) : Steady σ (Control.yield' s i w) := by
  unfold Control.yield'
  try dsimp only
  repeat' (first | with_reducible assumption | with_reducible apply Control_control_steady | with_reducible apply Issue_advance_steady | with_reducible apply Slots_makeDue_steady | with_reducible apply Ops_modCore_steady | with_reducible apply Steady.ite | with_reducible apply Steady.iteFst | split | (fail_if_no_progress with_reducible apply Steady.sameMk) | intro _)

theorem Control_mark_steady {σ : State} (s : State) (i : Issuer) (w : CtlWord) (hσ : Steady σ s) : Steady σ (Control.mark s i w) := by
  unfold Control.mark
  try dsimp only
  repeat' (first | with_reducible assumption | with_reducible apply Issue_issue_steady | with_reducible apply Issue_reject_steady | with_reducible apply Control_writeCounter_steady | with_reducible apply Issue_noted_steady | with_reducible apply Issue_advance_steady | with_reducible apply Steady.ite | with_reducible apply Steady.iteFst | split | intro _)

theorem Control_waitdone_steady {σ : State} (s : State) (i : Issuer) (w : CtlWord) (hσ : Steady σ s) : Steady σ (Control.waitdone s i w) := by
  unfold Control.waitdone
  try dsimp only
  repeat' (first | with_reducible assumption | with_reducible apply Control_control_steady | with_reducible apply Issue_advance_steady | intro _)

theorem Control_stepend_steady {σ : State} (s : State) (i : Issuer) (w : CtlWord) (hσ : Steady σ s) : Steady σ (Control.stepend s i w) := by
  unfold Control.stepend
  try dsimp only
  repeat' (first | with_reducible assumption | with_reducible apply Issue_issue_steady | with_reducible apply Issue_reject_steady | with_reducible apply Ops_modStream_steady | with_reducible apply Issue_noted_steady | with_reducible apply RegMode_run_steady | with_reducible apply Steady.ite | with_reducible apply Steady.iteFst | split | (fail_if_no_progress with_reducible apply Steady.sameMk) | intro _)

theorem Control_endStream_steady {σ : State} (s : State) (i : Issuer) (w : CtlWord) (hσ : Steady σ s) : Steady σ (Control.endStream s i w) := by
  unfold Control.endStream
  try dsimp only
  repeat' (first | with_reducible assumption | with_reducible apply Control_control_steady | with_reducible apply Slots_streamEnd_steady | with_reducible apply Ops_modStream_steady | with_reducible apply RegMode_run_steady | (fail_if_no_progress with_reducible apply Steady.sameMk) | intro _)

theorem Control_execNop_goes (i : Issuer) (w : CtlWord) (s : State) : Goes s (Control.execNop i w s) := by
  refine ⟨_, rfl, ?_⟩
  try dsimp only
  repeat' (first | with_reducible exact Steady.refl _ | with_reducible assumption | with_reducible apply Control_nop_steady)

theorem Control_execSetc_goes (i : Issuer) (w : CtlWord) (s : State) : Goes s (Control.execSetc i w s) := by
  refine ⟨_, rfl, ?_⟩
  try dsimp only
  repeat' (first | with_reducible exact Steady.refl _ | with_reducible assumption | with_reducible apply Control_setc_steady)

theorem Control_execAddc_goes (i : Issuer) (w : CtlWord) (s : State) : Goes s (Control.execAddc i w s) := by
  refine ⟨_, rfl, ?_⟩
  try dsimp only
  repeat' (first | with_reducible exact Steady.refl _ | with_reducible assumption | with_reducible apply Control_addc_steady)

theorem Control_execBrc_goes (i : Issuer) (w : CtlWord) (s : State) : Goes s (Control.execBrc i w s) := by
  refine ⟨_, rfl, ?_⟩
  try dsimp only
  repeat' (first | with_reducible exact Steady.refl _ | with_reducible assumption | with_reducible apply Control_brc_steady)

theorem Control_execLoopCtr_goes (i : Issuer) (w : CtlWord) (s : State) : Goes s (Control.execLoopCtr i w s) := by
  refine ⟨_, rfl, ?_⟩
  try dsimp only
  repeat' (first | with_reducible exact Steady.refl _ | with_reducible assumption | with_reducible apply Control_loopCtr_steady)

theorem Control_execBrs_goes (i : Issuer) (w : CtlWord) (s : State) : Goes s (Control.execBrs i w s) := by
  refine ⟨_, rfl, ?_⟩
  try dsimp only
  repeat' (first | with_reducible exact Steady.refl _ | with_reducible assumption | with_reducible apply Control_brs_steady)

theorem Control_execYield_goes (i : Issuer) (w : CtlWord) (s : State) : Goes s (Control.execYield i w s) := by
  refine ⟨_, rfl, ?_⟩
  try dsimp only
  repeat' (first | with_reducible exact Steady.refl _ | with_reducible assumption | with_reducible apply Control_yield'_steady)

theorem Control_execMarkTime_goes (i : Issuer) (w : CtlWord) (s : State) : Goes s (Control.execMarkTime i w s) := by
  refine ⟨_, rfl, ?_⟩
  try dsimp only
  repeat' (first | with_reducible exact Steady.refl _ | with_reducible assumption | with_reducible apply Control_mark_steady)

theorem Control_execWaitdone_goes (i : Issuer) (w : CtlWord) (s : State) : Goes s (Control.execWaitdone i w s) := by
  refine ⟨_, rfl, ?_⟩
  try dsimp only
  repeat' (first | with_reducible exact Steady.refl _ | with_reducible assumption | with_reducible apply Control_waitdone_steady)

theorem Control_execStepend_goes (i : Issuer) (w : CtlWord) (s : State) : Goes s (Control.execStepend i w s) := by
  refine ⟨_, rfl, ?_⟩
  try dsimp only
  repeat' (first | with_reducible exact Steady.refl _ | with_reducible assumption | with_reducible apply Control_stepend_steady)

theorem Control_execEndStream_goes (i : Issuer) (w : CtlWord) (s : State) : Goes s (Control.execEndStream i w s) := by
  refine ⟨_, rfl, ?_⟩
  try dsimp only
  repeat' (first | with_reducible exact Steady.refl _ | with_reducible assumption | with_reducible apply Control_endStream_steady)

end

/-! ## Machine/Link.lean -/

section

open Machine.Bits Machine.Ops Machine.Report
open Machine.Bits Machine.Ops Machine.Report
open Machine.Link

theorem Link_portError_steady {σ : State} (s : State) (cls p cause peer : Nat) (hσ : Steady σ s) : Steady σ (Link.portError s cls p cause peer) := by
  unfold Link.portError
  try dsimp only
  repeat' (first | with_reducible assumption | with_reducible apply Report_raise_steady | with_reducible apply Tracker_peer_steady | with_reducible apply Report_setFail_steady | with_reducible apply Steady.ite | with_reducible apply Steady.iteFst | split | (with_reducible apply Steady.foldl <;> intros) | (with_reducible apply Steady.foldlFst <;> intros) | intro _)

theorem Link_probe_steady {σ : State} (s : State) (m : Nat) (hσ : Steady σ s) : Steady σ (Link.probe s m) := by
  unfold Link.probe
  try dsimp only
  repeat' (first | with_reducible assumption | (intro w; exact ⟨w.1, w.2⟩) | (intro w; unfold Mem.wf at w ⊢; exact w) | with_reducible apply RemoteOps_submit_steady | with_reducible apply Ops_modRemote_steady | with_reducible apply Steady.ite | with_reducible apply Steady.iteFst | split | (fail_if_no_progress with_reducible apply Steady.sameMk) | intro _)

theorem Link_contextLoss_steady {σ : State} (s : State) (p c : Nat) (hσ : Steady σ s) : Steady σ (Link.contextLoss s p c) := by
  unfold Link.contextLoss
  try dsimp only
  repeat' (first | with_reducible assumption | with_reducible apply AbortOps_broadcastOwn_steady | with_reducible apply AbortOps_apply_steady | with_reducible apply Steady.ite | with_reducible apply Steady.iteFst | split | intro _)

theorem Link_leaveUp_steady {σ : State} (s : State) (p cause : Nat) (hσ : Steady σ s) : Steady σ (Link.leaveUp s p cause) := by
  unfold Link.leaveUp
  try dsimp only
  repeat' (first | with_reducible assumption | with_reducible apply Ops_setPort_steady | with_reducible apply Ops_modFabric_steady | with_reducible apply Ops_freeOrigins_steady | with_reducible apply Link_portError_steady | with_reducible apply Tracker_peer_steady | with_reducible apply Link_contextLoss_steady | with_reducible apply Link_probe_steady | with_reducible apply Steady.ite | with_reducible apply Steady.iteFst | split | (with_reducible apply Steady.foldl <;> intros) | (with_reducible apply Steady.foldlFst <;> intros) | (fail_if_no_progress with_reducible apply Steady.sameMk) | intro _)

theorem Link_down_steady {σ : State} (s : State) (p cause : Nat) (hσ : Steady σ s) : Steady σ (Link.down s p cause) := by
  unfold Link.down
  try dsimp only
  repeat' (first | with_reducible assumption | with_reducible apply Link_leaveUp_steady | with_reducible apply Link_portError_steady | with_reducible apply Ops_setPort_steady | with_reducible apply Tracker_peer_steady | with_reducible apply Steady.ite | with_reducible apply Steady.iteFst | split)

theorem Link_refuse_steady {σ : State} (s : State) (p cause : Nat) (hσ : Steady σ s) : Steady σ (Link.refuse s p cause) := by
  unfold Link.refuse
  try dsimp only
  repeat' (first | with_reducible assumption | with_reducible apply Link_portError_steady | with_reducible apply Ops_setPort_steady | with_reducible apply Tracker_peer_steady)

theorem Link_handshake_steady {σ : State} (s : State) (p : Nat) (b covered : Bytes) (hσ : Steady σ s) : Steady σ (Link.handshake s p b covered) := by
  unfold Link.handshake
  try dsimp only
  repeat' (first | with_reducible assumption | with_reducible apply Digest_sign_steady | with_reducible apply Ops_emit_steady)

theorem Link_ownHello_steady {σ : State} (s : State) (p : Nat) (hσ : Steady σ s) : Steady σ (Link.ownHello s p).2 := by
  unfold Link.ownHello
  try dsimp only
  repeat' (first | with_reducible assumption | with_reducible apply Digest_random_steady | intro _)

theorem Link_train_steady {σ : State} (s : State) (p : Nat) (hσ : Steady σ s) : Steady σ (Link.train s p) := by
  unfold Link.train
  try dsimp only
  repeat' (first | with_reducible assumption | with_reducible apply Ops_modPort_steady | (fail_if_no_progress with_reducible apply Steady.sameMk) | intro _)

theorem Link_retry_steady {σ : State} (s : State) (p : Nat) (hσ : Steady σ s) : Steady σ (Link.retry s p) := by
  unfold Link.retry
  try dsimp only
  repeat' (first | with_reducible assumption | with_reducible apply Link_train_steady | with_reducible apply Steady.ite | with_reducible apply Steady.iteFst | split)

theorem Link_measured_steady {σ : State} (s : State) (p : Nat) (asym : Int) (hσ : Steady σ s) : Steady σ (Link.measured s p asym) := by
  unfold Link.measured
  try dsimp only
  repeat' (first | with_reducible assumption | with_reducible apply Ops_modTime_steady | (fail_if_no_progress with_reducible apply Steady.sameMk) | intro _)

theorem Link_trained_steady {σ : State} (s : State) (p : Nat) (r : Train) (hσ : Steady σ s) : Steady σ (Link.trained s p r) := by
  unfold Link.trained
  try dsimp only
  repeat' (first | with_reducible assumption | with_reducible apply Link_ownHello_steady | with_reducible apply Link_measured_steady | with_reducible apply Link_handshake_steady | with_reducible apply Ops_emit_steady | with_reducible apply Ops_modPort_steady | with_reducible apply Link_down_steady | with_reducible apply Steady.ite | with_reducible apply Steady.iteFst | split | (fail_if_no_progress with_reducible apply Steady.sameMk) | intro _)

theorem Link_chain_steady {σ : State} (s : State) (p : Nat) (digest : BitVec 512) (good : Bool) (hσ : Steady σ s) : Steady σ (Link.chain s p digest good) := by
  unfold Link.chain
  try dsimp only
  repeat' (first | with_reducible assumption | with_reducible apply Ops_modPort_steady | with_reducible apply Ops_modFabric_steady | with_reducible apply Steady.ite | with_reducible apply Steady.iteFst | split | (fail_if_no_progress with_reducible apply Steady.sameMk) | intro _)

theorem Link_hello_steady {σ : State} (s : State) (p : Nat) (h : HelloMsg) (hσ : Steady σ s) : Steady σ (Link.hello s p h) := by
  unfold Link.hello
  try dsimp only
  repeat' (first | with_reducible assumption | (intro w; exact ⟨w.1, w.2⟩) | (intro w; unfold Mem.wf at w ⊢; exact w) | with_reducible apply Ops_modPort_steady | with_reducible apply Tracker_peer_steady | with_reducible apply Issue_refuse_steady | with_reducible apply Link_refuse_steady | with_reducible apply Ops_modRemote_steady | with_reducible apply Ops_drawn_steady | with_reducible apply Link_handshake_steady | with_reducible apply Steady.ite | with_reducible apply Steady.iteFst | split | (fail_if_no_progress with_reducible apply Steady.sameMk) | intro _)

theorem Link_enterUp_steady {σ : State} (s : State) (p : Nat) (keys : List (BitVec 256 × W32)) (hσ : Steady σ s) : Steady σ (Link.enterUp s p keys) := by
  unfold Link.enterUp
  try dsimp only
  repeat' (first | with_reducible assumption | with_reducible apply Ops_modPort_steady | with_reducible apply Ops_modErr_steady | (fail_if_no_progress with_reducible apply Steady.sameMk) | intro _)

theorem Link_encapKey_steady {σ : State} (s : State) (p : Nat) (key : Bytes) (sigOk : Bool) (hσ : Steady σ s) : Steady σ (Link.encapKey s p key sigOk) := by
  unfold Link.encapKey
  try dsimp only
  repeat' (first | with_reducible assumption | with_reducible apply Link_down_steady | with_reducible apply Link_enterUp_steady | with_reducible apply Link_handshake_steady | with_reducible apply Ops_drawn_steady | with_reducible apply Steady.ite | with_reducible apply Steady.iteFst | split)

theorem Link_ciphertext_steady {σ : State} (s : State) (p : Nat) (ct : Bytes) (sigOk : Bool) (hσ : Steady σ s) : Steady σ (Link.ciphertext s p ct sigOk) := by
  unfold Link.ciphertext
  try dsimp only
  repeat' (first | with_reducible assumption | with_reducible apply Link_down_steady | with_reducible apply Link_enterUp_steady | with_reducible apply Steady.ite | with_reducible apply Steady.iteFst | split | (fail_if_no_progress with_reducible apply Steady.sameMk))

theorem Link_keyingTimeout_steady {σ : State} (s : State) (p : Nat) (hσ : Steady σ s) : Steady σ (Link.keyingTimeout s p) := by
  unfold Link.keyingTimeout
  try dsimp only
  repeat' (first | with_reducible assumption | with_reducible apply Link_down_steady | with_reducible apply Steady.ite | with_reducible apply Steady.iteFst | split)

theorem Link_rekeyStart_steady {σ : State} (s : State) (instant epoch p : Nat) (hσ : Steady σ s) : Steady σ (Link.rekeyStart s instant epoch p) := by
  unfold Link.rekeyStart
  try dsimp only
  repeat' (first | with_reducible assumption | with_reducible apply Ops_sendControl_steady | with_reducible apply Ops_modPort_steady | with_reducible apply Ops_drawn_steady | with_reducible apply Steady.ite | with_reducible apply Steady.iteFst | split | (fail_if_no_progress with_reducible apply Steady.sameMk) | intro _)

theorem Link_rekeyAccepted_steady {σ : State} (s : State) (e : SchedEntry) (hσ : Steady σ s) : Steady σ (Link.rekeyAccepted s e) := by
  unfold Link.rekeyAccepted
  try dsimp only
  repeat' (first | with_reducible assumption | with_reducible apply Link_rekeyStart_steady | with_reducible apply Pairs_field_steady | (with_reducible apply Steady.foldl <;> intros) | (with_reducible apply Steady.foldlFst <;> intros) | intro _)

theorem Link_rekeyMsg_steady {σ : State} (s : State) (p : Nat) (m : RekeyMsg) (hσ : Steady σ s) : Steady σ (Link.rekeyMsg s p m) := by
  unfold Link.rekeyMsg
  try dsimp only
  repeat' (first | with_reducible assumption | with_reducible apply Link_encapKey_steady | with_reducible apply Ops_sendControl_steady | with_reducible apply Ops_modPort_steady | with_reducible apply Ops_drawn_steady | with_reducible apply Steady.ite | with_reducible apply Steady.iteFst | split | (fail_if_no_progress with_reducible apply Steady.sameMk) | intro _)

theorem Link_rekeyRetry_steady {σ : State} (s : State) (p : Nat) (hσ : Steady σ s) : Steady σ (Link.rekeyRetry s p) := by
  unfold Link.rekeyRetry
  try dsimp only
  repeat' (first | with_reducible assumption | with_reducible apply Link_rekeyStart_steady | with_reducible apply Steady.ite | with_reducible apply Steady.iteFst | split | (with_reducible apply Steady.foldl <;> intros) | (with_reducible apply Steady.foldlFst <;> intros) | (fail_if_no_progress with_reducible apply Steady.sameMk) | intro _)

theorem Link_rekeyFire_steady {σ : State} (s : State) (instant epoch p : Nat) (hσ : Steady σ s) : Steady σ (Link.rekeyFire s instant epoch p) := by
  unfold Link.rekeyFire
  try dsimp only
  repeat' (first | with_reducible assumption | with_reducible apply Ops_setPort_steady | with_reducible apply Link_down_steady | with_reducible apply Steady.ite | with_reducible apply Steady.iteFst | split | (fail_if_no_progress with_reducible apply Steady.sameMk) | intro _)

theorem Link_graceEnd_steady {σ : State} (s : State) (p : Nat) (hσ : Steady σ s) : Steady σ (Link.graceEnd s p) := by
  unfold Link.graceEnd
  try dsimp only
  repeat' (first | with_reducible assumption | with_reducible apply Ops_modPort_steady | with_reducible apply Steady.ite | with_reducible apply Steady.iteFst | split | (fail_if_no_progress with_reducible apply Steady.sameMk) | intro _)

theorem Link_keyAge_steady {σ : State} (s : State) (p : Nat) (hσ : Steady σ s) : Steady σ (Link.keyAge s p) := by
  unfold Link.keyAge
  try dsimp only
  repeat' (first | with_reducible assumption | with_reducible apply Link_down_steady | with_reducible apply Steady.ite | with_reducible apply Steady.iteFst | split)

theorem Link_sealFrame_steady {σ : State} (s : State) (p d : Nat) (f : Frame) (hσ : Steady σ s) : Steady σ (Link.sealFrame s p d f) := by
  unfold Link.sealFrame
  try dsimp only
  repeat' (first | with_reducible assumption | with_reducible apply Ops_emit_steady)

theorem Link_frameSend_steady {σ : State} (s : State) (p : Nat) (hσ : Steady σ s) : Steady σ (Link.frameSend s p) := by
  unfold Link.frameSend
  try dsimp only
  repeat' (first | with_reducible assumption | with_reducible apply Ops_setPort_steady | with_reducible apply Swaps_rest_steady | with_reducible apply Ops_emit_steady | with_reducible apply RemoteOps_resend_steady | with_reducible apply Slots_fillSlots_steady | with_reducible apply Link_sealFrame_steady | with_reducible apply Ops_freeOrigins_steady | with_reducible apply Steady.ite | with_reducible apply Steady.iteFst | split | (fail_if_no_progress with_reducible apply Steady.sameMk) | intro _)

theorem Link_badFrame_steady {σ : State} (s : State) (p : Nat) (f : FrameIn) (tag : Bool) (hσ : Steady σ s) : Steady σ (Link.badFrame s p f tag) := by
  unfold Link.badFrame
  try dsimp only
  repeat' (first | with_reducible assumption | with_reducible apply Ops_setPort_steady | with_reducible apply Link_down_steady | with_reducible apply Steady.ite | with_reducible apply Steady.iteFst | split | (fail_if_no_progress with_reducible apply Steady.sameMk) | intro _)

theorem Link_frameReceive_steady {σ : State} (s : State) (p : Nat) (f : FrameIn) (hσ : Steady σ s) : Steady σ (Link.frameReceive s p f) := by
  unfold Link.frameReceive
  try dsimp only
  repeat' (first | with_reducible assumption | with_reducible apply Ops_modPort_steady | with_reducible apply Mem_corrected_steady | with_reducible apply Link_badFrame_steady | with_reducible apply Ops_setPort_steady | with_reducible apply Steady.ite | with_reducible apply Steady.iteFst | split | (fail_if_no_progress with_reducible apply Steady.sameMk) | intro _)

theorem Link_signalLoss_steady {σ : State} (s : State) (p cause : Nat) (hσ : Steady σ s) : Steady σ (Link.signalLoss s p cause) := by
  unfold Link.signalLoss
  try dsimp only
  repeat' (first | with_reducible assumption | with_reducible apply Link_down_steady | with_reducible apply Steady.ite | with_reducible apply Steady.iteFst | split)

theorem Link_announced_steady {σ : State} (s : State) (p : Nat) (hσ : Steady σ s) : Steady σ (Link.announced s p) := by
  unfold Link.announced
  try dsimp only
  repeat' (first | with_reducible assumption | with_reducible apply Link_down_steady | with_reducible apply Ops_modPort_steady | with_reducible apply Steady.ite | with_reducible apply Steady.iteFst | split | (fail_if_no_progress with_reducible apply Steady.sameMk) | intro _)

theorem Link_fenceNotice_steady {σ : State} (s : State) (p : Nat) (hσ : Steady σ s) : Steady σ (Link.fenceNotice s p) := by
  unfold Link.fenceNotice
  try dsimp only
  repeat' (first | with_reducible assumption | with_reducible apply Ops_modPort_steady | with_reducible apply Steady.ite | with_reducible apply Steady.iteFst | split | (fail_if_no_progress with_reducible apply Steady.sameMk) | intro _)

theorem Link_probeOutcome_steady {σ : State} (s : State) (m : Nat) (hσ : Steady σ s) : Steady σ (Link.probeOutcome s m) := by
  unfold Link.probeOutcome
  try dsimp only
  repeat' (first | with_reducible assumption | (intro w; exact ⟨w.1, w.2⟩) | (intro w; unfold Mem.wf at w ⊢; exact w) | with_reducible apply Ops_answer_steady | with_reducible apply Ops_modRemote_steady | with_reducible apply Ops_setPair_steady | with_reducible apply AbortOps_broadcast_steady | with_reducible apply Steady.ite | with_reducible apply Steady.iteFst | split | (with_reducible apply Steady.foldl <;> intros) | (with_reducible apply Steady.foldlFst <;> intros) | (fail_if_no_progress with_reducible apply Steady.sameMk) | intro _)

theorem Link_execPortSignalLoss_goes (p cause : Nat) (s : State) : Goes s (Link.execPortSignalLoss p cause s) := by
  refine ⟨_, rfl, ?_⟩
  try dsimp only
  repeat' (first | with_reducible exact Steady.refl _ | with_reducible assumption | with_reducible apply Link_signalLoss_steady | with_reducible apply Steady.ite | with_reducible apply Steady.iteFst | split)

theorem Link_execProbeOutcome_goes (m : Nat) (s : State) : Goes s (Link.execProbeOutcome m s) := by
  refine ⟨_, rfl, ?_⟩
  try dsimp only
  repeat' (first | with_reducible exact Steady.refl _ | with_reducible assumption | with_reducible apply Link_probeOutcome_steady)

theorem Link_execPortRetry_goes (p : Nat) (s : State) : Goes s (Link.execPortRetry p s) := by
  refine ⟨_, rfl, ?_⟩
  try dsimp only
  repeat' (first | with_reducible exact Steady.refl _ | with_reducible assumption | with_reducible apply Link_retry_steady | with_reducible apply Steady.ite | with_reducible apply Steady.iteFst | split)

theorem Link_execTrainingComplete_goes (p : Nat) (r : Train) (s : State) : Goes s (Link.execTrainingComplete p r s) := by
  refine ⟨_, rfl, ?_⟩
  try dsimp only
  repeat' (first | with_reducible exact Steady.refl _ | with_reducible assumption | with_reducible apply Link_trained_steady | with_reducible apply Steady.ite | with_reducible apply Steady.iteFst | split)

theorem Link_execCertificateChain_goes (p : Nat) (digest : BitVec 512) (good : Bool) (s : State) : Goes s (Link.execCertificateChain p digest good s) := by
  refine ⟨_, rfl, ?_⟩
  try dsimp only
  repeat' (first | with_reducible exact Steady.refl _ | with_reducible assumption | with_reducible apply Link_chain_steady | with_reducible apply Steady.ite | with_reducible apply Steady.iteFst | split)

theorem Link_execHello_goes (p : Nat) (h : HelloMsg) (s : State) : Goes s (Link.execHello p h s) := by
  refine ⟨_, rfl, ?_⟩
  try dsimp only
  repeat' (first | with_reducible exact Steady.refl _ | with_reducible assumption | with_reducible apply Link_hello_steady | with_reducible apply Steady.ite | with_reducible apply Steady.iteFst | split)

theorem Link_execKeyingEncapKey_goes (p : Nat) (key : Bytes) (sigOk : Bool) (s : State) : Goes s (Link.execKeyingEncapKey p key sigOk s) := by
  refine ⟨_, rfl, ?_⟩
  try dsimp only
  repeat' (first | with_reducible exact Steady.refl _ | with_reducible assumption | with_reducible apply Link_encapKey_steady | with_reducible apply Steady.ite | with_reducible apply Steady.iteFst | split)

theorem Link_execKeyingCiphertext_goes (p : Nat) (ct : Bytes) (sigOk : Bool) (s : State) : Goes s (Link.execKeyingCiphertext p ct sigOk s) := by
  refine ⟨_, rfl, ?_⟩
  try dsimp only
  repeat' (first | with_reducible exact Steady.refl _ | with_reducible assumption | with_reducible apply Link_ciphertext_steady | with_reducible apply Steady.ite | with_reducible apply Steady.iteFst | split)

theorem Link_execKeyingTimeout_goes (p : Nat) (s : State) : Goes s (Link.execKeyingTimeout p s) := by
  refine ⟨_, rfl, ?_⟩
  try dsimp only
  repeat' (first | with_reducible exact Steady.refl _ | with_reducible assumption | with_reducible apply Link_keyingTimeout_steady | with_reducible apply Steady.ite | with_reducible apply Steady.iteFst | split)

theorem Link_execLinkDownAnnounce_goes (p : Nat) (s : State) : Goes s (Link.execLinkDownAnnounce p s) := by
  refine ⟨_, rfl, ?_⟩
  try dsimp only
  repeat' (first | with_reducible exact Steady.refl _ | with_reducible assumption | with_reducible apply Link_announced_steady | with_reducible apply Steady.ite | with_reducible apply Steady.iteFst | split)

theorem Link_execFenceNotice_goes (p : Nat) (s : State) : Goes s (Link.execFenceNotice p s) := by
  refine ⟨_, rfl, ?_⟩
  try dsimp only
  repeat' (first | with_reducible exact Steady.refl _ | with_reducible assumption | with_reducible apply Link_fenceNotice_steady | with_reducible apply Steady.ite | with_reducible apply Steady.iteFst | split)

theorem Link_execRekeyExchangeMsg_goes (p : Nat) (m : RekeyMsg) (s : State) : Goes s (Link.execRekeyExchangeMsg p m s) := by
  refine ⟨_, rfl, ?_⟩
  try dsimp only
  repeat' (first | with_reducible exact Steady.refl _ | with_reducible assumption | with_reducible apply Link_rekeyMsg_steady | with_reducible apply Steady.ite | with_reducible apply Steady.iteFst | split)

theorem Link_execRekeyRetry_goes (p : Nat) (s : State) : Goes s (Link.execRekeyRetry p s) := by
  refine ⟨_, rfl, ?_⟩
  try dsimp only
  repeat' (first | with_reducible exact Steady.refl _ | with_reducible assumption | with_reducible apply Link_rekeyRetry_steady | with_reducible apply Steady.ite | with_reducible apply Steady.iteFst | split)

theorem Link_execKeyGraceEnd_goes (p : Nat) (s : State) : Goes s (Link.execKeyGraceEnd p s) := by
  refine ⟨_, rfl, ?_⟩
  try dsimp only
  repeat' (first | with_reducible exact Steady.refl _ | with_reducible assumption | with_reducible apply Link_graceEnd_steady | with_reducible apply Steady.ite | with_reducible apply Steady.iteFst | split)

theorem Link_execKeyAgeLimit_goes (p : Nat) (s : State) : Goes s (Link.execKeyAgeLimit p s) := by
  refine ⟨_, rfl, ?_⟩
  try dsimp only
  repeat' (first | with_reducible exact Steady.refl _ | with_reducible assumption | with_reducible apply Link_keyAge_steady | with_reducible apply Steady.ite | with_reducible apply Steady.iteFst | split)

theorem Link_execFrameSend_goes (p : Nat) (s : State) : Goes s (Link.execFrameSend p s) := by
  refine ⟨_, rfl, ?_⟩
  try dsimp only
  repeat' (first | with_reducible exact Steady.refl _ | with_reducible assumption | with_reducible apply Link_frameSend_steady | with_reducible apply Steady.ite | with_reducible apply Steady.iteFst | split)

theorem Link_execFrameReceive_goes (p : Nat) (f : FrameIn) (s : State) : Goes s (Link.execFrameReceive p f s) := by
  refine ⟨_, rfl, ?_⟩
  try dsimp only
  repeat' (first | with_reducible exact Steady.refl _ | with_reducible assumption | with_reducible apply Link_frameReceive_steady | with_reducible apply Steady.ite | with_reducible apply Steady.iteFst | split)

end

/-! ## Machine/Fabric.lean -/

section

open Machine.Bits Machine.Ops Machine.Report
open Machine.Bits Machine.Ops Machine.Report
open Machine.Router

theorem Router_consumed_steady {σ : State} (s : State) (inPort : Option Nat) (cls : RouteClass) (p : Pkt) (hσ : Steady σ s) : Steady σ (Router.consumed s inPort cls p) := by
  unfold Router.consumed
  try dsimp only
  repeat' (first | with_reducible assumption | with_reducible apply Ops_freed_steady | split)

theorem Router_putOut_steady {σ : State} (s : State) (inPort : Option Nat) (p : Pkt) (q : Nat) (cls : RouteClass) (origin : Option (Nat × Nat)) (copy : Option Nat) (hσ : Steady σ s) : Steady σ (Router.putOut s inPort p q cls origin copy) := by
  unfold Router.putOut
  try dsimp only
  repeat' (first | with_reducible assumption | with_reducible apply Ops_modPort_steady | with_reducible apply Ops_freeOrigins_steady | with_reducible apply Ops_modErr_steady | with_reducible apply Ops_emit_steady | with_reducible apply Steady.ite | with_reducible apply Steady.iteFst | split | (fail_if_no_progress with_reducible apply Steady.sameMk) | intro _)

theorem Router_answerFenced_steady {σ : State} (s : State) (p : Pkt) (beyond : Nat) (hσ : Steady σ s) : Steady σ (Router.answerFenced s p beyond) := by
  unfold Router.answerFenced
  try dsimp only
  repeat' (first | with_reducible assumption | with_reducible apply Ops_sendPkt_steady | with_reducible apply RemoteOps_response_steady | with_reducible apply Steady.ite | with_reducible apply Steady.iteFst | split | (fail_if_no_progress with_reducible apply Steady.sameMk))

theorem Router_holdPkt_steady {σ : State} (s : State) (inPort : Option Nat) (cls : RouteClass) (p : Pkt) (q : Nat) (hσ : Steady σ s) : Steady σ (Router.holdPkt s inPort cls p q) := by
  unfold Router.holdPkt
  try dsimp only
  repeat' (first | with_reducible assumption | with_reducible apply Ops_modFabric_steady | (fail_if_no_progress with_reducible apply Steady.sameMk) | intro _)

theorem Router_follow_steady {a : State} (s : State) (inPort : Option Nat) (cls : RouteClass) (p : Pkt) (x : Router.Hop) (h : Steady a s) :
    ∀ t, Router.follow s inPort cls p x = some t → Steady a t := by
  intro t e
  cases x <;> simp only [Router.follow, Option.some.injEq, reduceCtorEq] at e <;> subst e
  · exact Router_putOut_steady _ _ _ _ _ _ _ h
  · exact Router_answerFenced_steady _ _ _ (Router_consumed_steady _ _ _ _ h)

theorem Router_branch_steady {σ : State} (s : State) (inPort : Option Nat) (cls : RouteClass) (p : Pkt) (leafMask copy : Nat) (first : Option Nat) (q : Nat) (hσ : Steady σ s) : Steady σ (Router.branch s inPort cls p leafMask copy first q) := by
  unfold Router.branch
  try dsimp only
  repeat' (first | with_reducible assumption | with_reducible apply Ops_sendPkt_steady | with_reducible apply RemoteOps_response_steady | with_reducible apply Tracker_peer_steady | with_reducible apply Router_putOut_steady | with_reducible apply Router_answerFenced_steady | with_reducible apply Steady.ite | with_reducible apply Steady.iteFst | split | (fail_if_no_progress with_reducible apply Steady.sameMk) | intro _)

theorem Router_multicast_steady {a : State} (s : State) (inPort : Option Nat) (cls : RouteClass) (p : Pkt) (h : Steady a s) :
    ∀ t, Router.multicast s inPort cls p = some t → Steady a t := by
  intro t e
  unfold Router.multicast at e
  dsimp only at e
  split at e
  · simp only [Option.some.injEq] at e
    subst e
    have k := Steady.foldl (l := Bits.setBits 27 (Bits.field (SMap.val 0#64 (Router.active s).mcast p.group).toNat 27 1))
      (f := fun acc q => Router.branch acc inPort cls p (Bits.field (SMap.val 0#64 (Router.active s).mcast p.group).toNat 54 28) s.fabric.copies
        ((Bits.setBits 27 (Bits.field (SMap.val 0#64 (Router.active s).mcast p.group).toNat 27 1)).find? (fun q =>
          !Router.pruned s (Bits.field (SMap.val 0#64 (Router.active s).mcast p.group).toNat 54 28) q && Router.usable s q)) q)
      (Ops_modFabric_steady _ (fun f => { f with copies := f.copies + (flits p).length })
        (Steady.ite (c := ((Bits.setBits 27 (Bits.field (SMap.val 0#64 (Router.active s).mcast p.group).toNat 27 1)).find? (fun q =>
          !Router.pruned s (Bits.field (SMap.val 0#64 (Router.active s).mcast p.group).toNat 54 28) q && Router.usable s q)).isSome = true)
          h (Router_consumed_steady _ inPort cls p h)))
      (fun x y hx => Router_branch_steady _ _ _ _ _ _ _ _ hx)
    exact Steady.ite (Tracker_arrive_steady _ _ k) k
  · simp at e

theorem Router_route_steady {a : State} (s : State) (inPort : Option Nat) (cls : RouteClass) (p : Pkt) (h : Steady a s) :
    ∀ t, Router.route s inPort cls p = some t → Steady a t := by
  intro t e
  unfold Router.route at e
  split at e
  · exact Router_multicast_steady _ _ _ _ h t e
  · split at e
    · simp only [Option.some.injEq] at e
      subst e
      exact Tracker_arrive_steady _ _ (Router_consumed_steady _ _ _ _ h)
    · split at e
      · simp only [Option.some.injEq] at e
        subst e
        exact Router_answerFenced_steady _ _ _ h
      · split at e <;> exact Router_follow_steady _ _ _ _ _ h t e

theorem Router_enter_steady {a : State} (s : State) (inPort : Option Nat) (cls : RouteClass) (p : Pkt) (h : Steady a s) :
    Steady a (Router.enter s inPort cls p) := by
  unfold Router.enter
  exact Steady.ite (Router_holdPkt_steady _ _ _ _ _ h) (Steady.getD (Router_holdPkt_steady _ _ _ _ _ h) (Router_route_steady _ _ _ _ h))

theorem Router_again_steady {a : State} (s : State) (i : Nat) (x : RouterHeld) (h : Steady a s) : Steady a (Router.again s i x) := by
  unfold Router.again
  exact Steady.ite h (Steady.getD h (Router_route_steady _ _ _ _ (Ops_modFabric_steady _ _ h)))

theorem Router_forward_steady {σ : State} (s : State) (inPort : Option Nat) (cls : RouteClass) (p : Pkt) (hσ : Steady σ s) : Steady σ (Router.forward s inPort cls p) := by
  unfold Router.forward
  try dsimp only
  repeat' (first | with_reducible assumption | with_reducible apply Router_again_steady | with_reducible apply Mem_inject_steady | with_reducible apply Swaps_rest_steady | with_reducible apply RegMode_enter_steady | with_reducible apply Router_enter_steady | with_reducible apply Ops_modFabric_steady | with_reducible apply Steady.ite | with_reducible apply Steady.iteFst | split | (fail_if_no_progress with_reducible apply Steady.sameMk) | intro _)

theorem Router_fallback_steady {σ : State} (s : State) (i : Nat) (hσ : Steady σ s) : Steady σ (Router.fallback s i) := by
  unfold Router.fallback
  try dsimp only
  repeat' (first | with_reducible assumption | with_reducible apply Router_putOut_steady | with_reducible apply Ops_modFabric_steady | with_reducible apply Steady.ite | with_reducible apply Steady.iteFst | split | (fail_if_no_progress with_reducible apply Steady.sameMk) | intro _)

theorem Router_swapError_steady {σ : State} (s : State) (sub count : Nat) (hσ : Steady σ s) : Steady σ (Router.swapError s sub count) := by
  unfold Router.swapError
  try dsimp only
  repeat' (first | with_reducible assumption | with_reducible apply Report_raise_steady | with_reducible apply Alarm_count_steady | with_reducible apply Report_setFail_steady | with_reducible apply Steady.ite | with_reducible apply Steady.iteFst | split | (with_reducible apply Steady.foldl <;> intros) | (with_reducible apply Steady.foldlFst <;> intros) | intro _)

theorem Router_swapStart_steady {σ : State} (s : State) (e : SchedEntry) (hσ : Steady σ s) : Steady σ (Router.swapStart s e) := by
  unfold Router.swapStart
  try dsimp only
  repeat' (first | with_reducible assumption | with_reducible apply Pairs_field_steady | with_reducible apply Ops_modFabric_steady | (fail_if_no_progress with_reducible apply Steady.sameMk) | intro _)

theorem Router_responseStop_steady {σ : State} (s : State) (hσ : Steady σ s) : Steady σ (Router.responseStop s) := by
  unfold Router.responseStop
  try dsimp only
  repeat' (first | with_reducible assumption | with_reducible apply Ops_modFabric_steady | with_reducible apply Steady.ite | with_reducible apply Steady.iteFst | split | (fail_if_no_progress with_reducible apply Steady.sameMk) | intro _)

theorem Router_discard_steady {σ : State} (s : State) (hσ : Steady σ s) : Steady σ (Router.discard s) := by
  unfold Router.discard
  try dsimp only
  repeat' (first | with_reducible assumption | with_reducible apply Router_consumed_steady | with_reducible apply Ops_freeOrigins_steady | with_reducible apply Ops_modFabric_steady | (with_reducible apply Steady.foldl <;> intros) | (with_reducible apply Steady.foldlFst <;> intros) | (fail_if_no_progress with_reducible apply Steady.sameMk) | intro _)

theorem Router_activate_steady {σ : State} (s : State) (hσ : Steady σ s) : Steady σ (Router.activate s) := by
  unfold Router.activate
  try dsimp only
  repeat' (first | with_reducible assumption | with_reducible apply Ops_modFabric_steady | with_reducible apply Router_discard_steady | with_reducible apply Router_swapError_steady | with_reducible apply Steady.ite | with_reducible apply Steady.iteFst | split | (fail_if_no_progress with_reducible apply Steady.sameMk) | intro _)

theorem Router_resume_steady {σ : State} (s : State) (hσ : Steady σ s) : Steady σ (Router.resume s) := by
  unfold Router.resume
  try dsimp only
  repeat' (first | with_reducible assumption | with_reducible apply Ops_modFabric_steady | with_reducible apply Steady.ite | with_reducible apply Steady.iteFst | split | (fail_if_no_progress with_reducible apply Steady.sameMk) | intro _)

theorem Router_execPacketForward_goes (inPort : Option Nat) (cls : RouteClass) (p : Pkt) (s : State) : Goes s (Router.execPacketForward inPort cls p s) := by
  refine ⟨_, rfl, ?_⟩
  try dsimp only
  repeat' (first | with_reducible exact Steady.refl _ | with_reducible assumption | with_reducible apply Router_forward_steady)

theorem Router_execEscapeFallback_goes (idx : Nat) (s : State) : Goes s (Router.execEscapeFallback idx s) := by
  refine ⟨_, rfl, ?_⟩
  try dsimp only
  repeat' (first | with_reducible exact Steady.refl _ | with_reducible assumption | with_reducible apply Router_fallback_steady)

theorem Router_execRouteSwapResponseStop_goes (s : State) : Goes s (Router.execRouteSwapResponseStop s) := by
  refine ⟨_, rfl, ?_⟩
  try dsimp only
  repeat' (first | with_reducible exact Steady.refl _ | with_reducible assumption | with_reducible apply Router_responseStop_steady)

theorem Router_execRouteSwapActivate_goes (s : State) : Goes s (Router.execRouteSwapActivate s) := by
  refine ⟨_, rfl, ?_⟩
  try dsimp only
  repeat' (first | with_reducible exact Steady.refl _ | with_reducible assumption | with_reducible apply Router_activate_steady)

theorem Router_execRouteSwapResume_goes (s : State) : Goes s (Router.execRouteSwapResume s) := by
  refine ⟨_, rfl, ?_⟩
  try dsimp only
  repeat' (first | with_reducible exact Steady.refl _ | with_reducible assumption | with_reducible apply Router_resume_steady)

end

/-! ## Machine/FlagCtl.lean -/

section

open Machine.Bits Machine.Ops Machine.Report
open Machine.Bits Machine.Ops Machine.Report Machine.Issue
open Machine.FlagCtl

theorem FlagCtl_wait_steady {σ : State} (s : State) (i : Issuer) (consuming : Bool) (w : FlagWord) (hσ : Steady σ s) : Steady σ (FlagCtl.wait s i consuming w) := by
  unfold FlagCtl.wait
  try dsimp only
  repeat' (first | with_reducible assumption | with_reducible apply Issue_fetched_steady | with_reducible apply Issue_reject_steady | with_reducible apply Ops_modStream_steady | with_reducible apply FlagOps_passWait_steady | with_reducible apply Issue_noted_steady | with_reducible apply Steady.ite | with_reducible apply Steady.iteFst | split | (fail_if_no_progress with_reducible apply Steady.sameMk) | intro _)

theorem FlagCtl_actAll_steady {a : State} (f : State → Nat → State) (n : Nat) (s : State) (k : Nat) (h : Steady a s)
    (w : ∀ t i, Steady a t → Steady a (f t i)) : Steady a (FlagCtl.actAll f n s k) := by
  induction n generalizing s k with
  | zero => exact h
  | succ n ih => exact ih _ _ (w _ _ h)

theorem FlagCtl_action_steady {σ : State} (s : State) (i : Issuer) (set : Bool) (w : FlagWord) (pair : Option PairFault) (hσ : Steady σ s) : Steady σ (FlagCtl.action s i set w pair) := by
  unfold FlagCtl.action
  try dsimp only
  repeat' (first | with_reducible assumption | with_reducible apply Issue_issue_steady | with_reducible apply FlagOps_late_steady | with_reducible apply FlagOps_noteIssue_steady | with_reducible apply FlagOps_setFlag_steady | with_reducible apply FlagOps_clearFlag_steady | with_reducible apply Pairs_field_steady | with_reducible apply Issue_noted_steady | with_reducible apply FlagCtl_actAll_steady | with_reducible apply Issue_advance_steady | with_reducible apply Issue_reject_steady | with_reducible apply Steady.ite | with_reducible apply Steady.iteFst | split | intro _)

theorem FlagCtl_satisfied_steady {σ : State} (s : State) (i : Issuer) (hσ : Steady σ s) : Steady σ (FlagCtl.satisfied s i) := by
  unfold FlagCtl.satisfied
  try dsimp only
  repeat' (first | with_reducible assumption | with_reducible apply Issue_passPending_steady | with_reducible apply Steady.ite | with_reducible apply Steady.iteFst | split)

theorem FlagCtl_timeout_steady {σ : State} (s : State) (i : Issuer) (hσ : Steady σ s) : Steady σ (FlagCtl.timeout s i) := by
  unfold FlagCtl.timeout
  try dsimp only
  repeat' (first | with_reducible assumption | with_reducible apply FlagOps_consume_steady | with_reducible apply Alarm_count_steady | with_reducible apply Report_raise_steady | with_reducible apply Ops_modFlags_steady | with_reducible apply FlagOps_late_steady | with_reducible apply Ops_modErr_steady | with_reducible apply Report_faultCore_steady | with_reducible apply Steady.ite | with_reducible apply Steady.iteFst | split | (with_reducible apply Steady.foldl <;> intros) | (with_reducible apply Steady.foldlFst <;> intros) | (fail_if_no_progress with_reducible apply Steady.sameMk) | intro _)

theorem FlagCtl_execWaits_goes (i : Issuer) (w : FlagWord) (s : State) : Goes s (FlagCtl.execWaits i w s) := by
  refine ⟨_, rfl, ?_⟩
  try dsimp only
  repeat' (first | with_reducible exact Steady.refl _ | with_reducible assumption | with_reducible apply FlagCtl_wait_steady)

theorem FlagCtl_execWaitc_goes (i : Issuer) (w : FlagWord) (s : State) : Goes s (FlagCtl.execWaitc i w s) := by
  refine ⟨_, rfl, ?_⟩
  try dsimp only
  repeat' (first | with_reducible exact Steady.refl _ | with_reducible assumption | with_reducible apply FlagCtl_wait_steady)

theorem FlagCtl_execWaitSatisfied_goes (i : Issuer) (s : State) : Goes s (FlagCtl.execWaitSatisfied i s) := by
  refine ⟨_, rfl, ?_⟩
  try dsimp only
  repeat' (first | with_reducible exact Steady.refl _ | with_reducible assumption | with_reducible apply FlagCtl_satisfied_steady)

theorem FlagCtl_execWaitTimeout_goes (i : Issuer) (s : State) : Goes s (FlagCtl.execWaitTimeout i s) := by
  refine ⟨_, rfl, ?_⟩
  try dsimp only
  repeat' (first | with_reducible exact Steady.refl _ | with_reducible assumption | with_reducible apply RemoteOps_timeout_steady | with_reducible apply FlagCtl_timeout_steady)

theorem FlagCtl_execSetFlags_goes (i : Issuer) (w : FlagCmd) (s : State) : Goes s (FlagCtl.execSetFlags i w s) := by
  refine ⟨_, rfl, ?_⟩
  try dsimp only
  repeat' (first | with_reducible exact Steady.refl _ | with_reducible assumption | with_reducible apply Pairs_action_steady | with_reducible apply FlagCtl_action_steady)

theorem FlagCtl_execClearFlags_goes (i : Issuer) (w : FlagCmd) (s : State) : Goes s (FlagCtl.execClearFlags i w s) := by
  refine ⟨_, rfl, ?_⟩
  try dsimp only
  repeat' (first | with_reducible exact Steady.refl _ | with_reducible assumption | with_reducible apply Pairs_action_steady | with_reducible apply FlagCtl_action_steady)

end

/-! ## Machine/KnownAnswer.lean -/

section

open Machine.Bits Machine.Ops Machine.Report
open Machine.Bits Machine.Ops Machine.Report Machine.Swaps
open Machine.Weevils

theorem Weevils_markFailed_steady {σ : State} (s : State) (k cls : Nat) (hσ : Steady σ s) : Steady σ (Weevils.markFailed s k cls) := by
  unfold Weevils.markFailed
  try dsimp only
  repeat' (first | with_reducible assumption | (intro w; exact ⟨w.1, w.2⟩) | (intro w; unfold Mem.wf at w ⊢; exact w) | with_reducible apply Swaps_setRole_steady | with_reducible apply Report_trigger_steady | with_reducible apply Ops_modDex_steady | with_reducible apply Ops_modWeevil_steady | with_reducible apply StepOps_decided_steady | with_reducible apply Steady.ite | with_reducible apply Steady.iteFst | split | (fail_if_no_progress with_reducible apply Steady.sameMk) | intro _)

theorem Weevils_applyDecided_steady {σ : State} (s : State) (hσ : Steady σ s) : Steady σ (Weevils.applyDecided s) := by
  unfold Weevils.applyDecided
  try dsimp only
  repeat' (first | with_reducible assumption | with_reducible apply Swaps_setRole_steady | with_reducible apply Ops_modDex_steady | with_reducible apply StepOps_decided_steady | with_reducible apply Steady.ite | with_reducible apply Steady.iteFst | split | (with_reducible apply Steady.foldl <;> intros) | (with_reducible apply Steady.foldlFst <;> intros) | (fail_if_no_progress with_reducible apply Steady.sameMk) | intro _)

theorem Weevils_strikes_steady {σ : State} (s : State) (hσ : Steady σ s) : Steady σ (Weevils.strikes s) := by
  unfold Weevils.strikes
  try dsimp only
  repeat' (first | with_reducible assumption | with_reducible apply Router_again_steady | with_reducible apply Ops_modDex_steady | with_reducible apply Weevils_markFailed_steady | with_reducible apply Steady.ite | with_reducible apply Steady.iteFst | split | (with_reducible apply Steady.foldl <;> intros) | (with_reducible apply Steady.foldlFst <;> intros) | (fail_if_no_progress with_reducible apply Steady.sameMk) | intro _)

theorem Weevils_due_steady {σ : State} (s : State) (k : Nat) (hσ : Steady σ s) : Steady σ (Weevils.due s k) := by
  unfold Weevils.due
  try dsimp only
  repeat' (first | with_reducible assumption | (intro w; exact ⟨w.1, w.2⟩) | (intro w; unfold Mem.wf at w ⊢; exact w) | with_reducible apply Ops_modWeevil_steady | with_reducible apply Steady.ite | with_reducible apply Steady.iteFst | split | (fail_if_no_progress with_reducible apply Steady.sameMk) | intro _)

theorem Weevils_failTest_steady {σ : State} (s : State) (k : Nat) (r : TestResult) (limit : Bool) (hσ : Steady σ s) : Steady σ (Weevils.failTest s k r limit) := by
  unfold Weevils.failTest
  try dsimp only
  repeat' (first | with_reducible assumption | with_reducible apply Weevils_markFailed_steady | with_reducible apply Report_raise_steady | with_reducible apply Steady.ite | with_reducible apply Steady.iteFst | split)

theorem Weevils_testDone_steady {σ : State} (s : State) (k : Nat) (r : TestResult) (hσ : Steady σ s) : Steady σ (Weevils.testDone s k r) := by
  unfold Weevils.testDone
  try dsimp only
  repeat' (first | with_reducible assumption | (intro w; exact ⟨w.1, w.2⟩) | (intro w; unfold Mem.wf at w ⊢; exact w) | with_reducible apply Ops_modWeevil_steady | with_reducible apply Swaps_rest_steady | with_reducible apply Weevils_due_steady | with_reducible apply Array_pass_steady | with_reducible apply Weevils_failTest_steady | with_reducible apply Steady.ite | with_reducible apply Steady.iteFst | split | (fail_if_no_progress with_reducible apply Steady.sameMk) | intro _)

theorem Weevils_programLimit_steady {σ : State} (s : State) (k : Nat) (hσ : Steady σ s) : Steady σ (Weevils.programLimit s k) := by
  unfold Weevils.programLimit
  try dsimp only
  repeat' (first | with_reducible assumption | (intro w; exact ⟨w.1, w.2⟩) | (intro w; unfold Mem.wf at w ⊢; exact w) | with_reducible apply RegMode_setCore_steady | with_reducible apply Weevils_failTest_steady | with_reducible apply Ops_modWeevil_steady | with_reducible apply Weevils_due_steady | with_reducible apply Steady.ite | with_reducible apply Steady.iteFst | split | (fail_if_no_progress with_reducible apply Steady.sameMk) | intro _)

theorem Weevils_execWeevilDue_goes (k : Nat) (s : State) : Goes s (Weevils.execWeevilDue k s) := by
  refine ⟨_, rfl, ?_⟩
  try dsimp only
  repeat' (first | with_reducible exact Steady.refl _ | with_reducible assumption | with_reducible apply Weevils_due_steady)

theorem Weevils_execWeevilTestDone_goes (k : Nat) (r : TestResult) (s : State) : Goes s (Weevils.execWeevilTestDone k r s) := by
  refine ⟨_, rfl, ?_⟩
  try dsimp only
  repeat' (first | with_reducible exact Steady.refl _ | with_reducible assumption | with_reducible apply Weevils_testDone_steady)

theorem RegMode_execRmProgramLimit_goes (k : Nat) (s : Sys2Proof.Machine.State) : Goes s (RegMode.execRmProgramLimit k s) := by
  refine ⟨_, rfl, ?_⟩
  try dsimp only
  repeat' (first | with_reducible exact Steady.refl _ | with_reducible assumption | with_reducible apply Weevils_programLimit_steady)

end

/-! ## Machine/Sensors.lean -/

section

open Machine.Bits Machine.Ops Machine.Report
open Machine.Bits Machine.Ops Machine.Report
open Machine.Sensors

theorem Sensors_stackSample_steady {σ : State} (s : State) (i : Nat) (temp : Int) (tth : Nat) (hσ : Steady σ s) : Steady σ (Sensors.stackSample s i temp tth) := by
  unfold Sensors.stackSample
  try dsimp only
  repeat' (first | with_reducible assumption | (intro w; exact ⟨w.1, w.2⟩) | (intro w; unfold Mem.wf at w ⊢; exact w) | with_reducible apply Ops_modMem_steady | with_reducible apply Report_raise_steady | with_reducible apply Steady.ite | with_reducible apply Steady.iteFst | split | (fail_if_no_progress with_reducible apply Steady.sameMk) | intro _)

theorem Sensors_stackPersist_steady {σ : State} (s : State) (i : Nat) (hσ : Steady σ s) : Steady σ (Sensors.stackPersist s i) := by
  unfold Sensors.stackPersist
  try dsimp only
  repeat' (first | with_reducible assumption | (intro w; exact ⟨w.1, w.2⟩) | (intro w; unfold Mem.wf at w ⊢; exact w) | with_reducible apply Report_raise_steady | with_reducible apply Ops_modMem_steady | with_reducible apply Steady.ite | with_reducible apply Steady.iteFst | split | (fail_if_no_progress with_reducible apply Steady.sameMk) | intro _)

theorem Sensors_dieSample_steady {σ : State} (s : State) (d : Nat) (temp : Int) (hσ : Steady σ s) : Steady σ (Sensors.dieSample s d temp) := by
  unfold Sensors.dieSample
  try dsimp only
  repeat' (first | with_reducible assumption | with_reducible apply Ops_modPower_steady | with_reducible apply Report_raise_steady | with_reducible apply Steady.ite | with_reducible apply Steady.iteFst | split | (fail_if_no_progress with_reducible apply Steady.sameMk) | intro _)

theorem Sensors_droop_steady {σ : State} (s : State) (d mv lenNs : Nat) (hσ : Steady σ s) : Steady σ (Sensors.droop s d mv lenNs) := by
  unfold Sensors.droop
  try dsimp only
  repeat' (first | with_reducible assumption | with_reducible apply Report_addEvent_steady | with_reducible apply Ops_modPower_steady | with_reducible apply Report_raise_steady | with_reducible apply Steady.ite | with_reducible apply Steady.iteFst | split | (fail_if_no_progress with_reducible apply Steady.sameMk) | intro _)

theorem Sensors_sample_steady {σ : State} (s : State) (x : SensorData) (hσ : Steady σ s) : Steady σ (Sensors.sample s x) := by
  unfold Sensors.sample
  try dsimp only
  repeat' (first | with_reducible assumption | with_reducible apply Ops_modPower_steady | with_reducible apply Sensors_dieSample_steady | with_reducible apply Sensors_droop_steady | with_reducible apply Alarm_alarm_steady | with_reducible apply Steady.ite | with_reducible apply Steady.iteFst | split | (with_reducible apply Steady.foldl <;> intros) | (with_reducible apply Steady.foldlFst <;> intros) | (fail_if_no_progress with_reducible apply Steady.sameMk) | intro _)

theorem Sensors_railLow_steady {σ : State} (s : State) (rail mv us : Nat) (hσ : Steady σ s) : Steady σ (Sensors.railLow s rail mv us) := by
  unfold Sensors.railLow
  try dsimp only
  repeat' (first | with_reducible assumption | with_reducible apply Alarm_alarm_steady | with_reducible apply Report_raise_steady | with_reducible apply Steady.ite | with_reducible apply Steady.iteFst | split)

theorem Sensors_dramScrub_steady {σ : State} (s : State) (a : Nat) (e : Ecc) (hσ : Steady σ s) : Steady σ (Sensors.dramScrub s a e) := by
  unfold Sensors.dramScrub
  try dsimp only
  repeat' (first | with_reducible assumption | with_reducible apply Mem_uncorrectable_steady | with_reducible apply Mem_corrected_steady | with_reducible apply Mem_loseChannel_steady | with_reducible apply Steady.ite | with_reducible apply Steady.iteFst | split)

theorem Sensors_sramScrub_steady {σ : State} (s : State) (a : Nat) (e : Ecc) (hσ : Steady σ s) : Steady σ (Sensors.sramScrub s a e) := by
  unfold Sensors.sramScrub
  try dsimp only
  repeat' (first | with_reducible assumption | with_reducible apply Mem_uncorrectable_steady | with_reducible apply Mem_badSram_steady | with_reducible apply Mem_corrected_steady | with_reducible apply Mem_countCorrected_steady | with_reducible apply Steady.ite | with_reducible apply Steady.iteFst | split)

theorem Sensors_ondiePoll_steady {σ : State} (s : State) (i count : Nat) (hσ : Steady σ s) : Steady σ (Sensors.ondiePoll s i count) := by
  unfold Sensors.ondiePoll
  try dsimp only
  repeat' (first | with_reducible assumption | (intro w; exact ⟨w.1, w.2⟩) | (intro w; unfold Mem.wf at w ⊢; exact w) | with_reducible apply Report_addCorrected_steady | with_reducible apply Ops_modMem_steady | with_reducible apply Alarm_count_steady | (fail_if_no_progress with_reducible apply Steady.sameMk) | intro _)

theorem Sensors_overdue_steady {σ : State} (s : State) (hσ : Steady σ s) : Steady σ (Sensors.overdue s) := by
  unfold Sensors.overdue
  try dsimp only
  repeat' (first | with_reducible assumption | (intro w; exact ⟨w.1, w.2⟩) | (intro w; unfold Mem.wf at w ⊢; exact w) | with_reducible apply Ops_modWeevil_steady | with_reducible apply Report_addEvent_steady | with_reducible apply Steady.ite | with_reducible apply Steady.iteFst | split | (with_reducible apply Steady.foldl <;> intros) | (with_reducible apply Steady.foldlFst <;> intros) | (fail_if_no_progress with_reducible apply Steady.sameMk) | intro _)

theorem Sensors_update_steady {σ : State} (s0 : State) (hσ : Steady σ s0) : Steady σ (Sensors.update s0) := by
  unfold Sensors.update
  try dsimp only
  repeat' (first | with_reducible assumption | with_reducible apply Sensors_overdue_steady | with_reducible apply Ops_modDex_steady | with_reducible apply Ops_postCq_steady | with_reducible apply Report_notify_steady | with_reducible apply Steady.ite | with_reducible apply Steady.iteFst | split | (with_reducible apply Steady.foldl <;> intros) | (with_reducible apply Steady.foldlFst <;> intros) | (fail_if_no_progress with_reducible apply Steady.sameMk) | intro _)

theorem Sensors_flush_steady {σ : State} (s : State) (hσ : Steady σ s) : Steady σ (Sensors.flush s) := by
  unfold Sensors.flush
  try dsimp only
  repeat' (first | with_reducible assumption | with_reducible apply Ops_modDex_steady | with_reducible apply Steady.ite | with_reducible apply Steady.iteFst | split | (fail_if_no_progress with_reducible apply Steady.sameMk) | intro _)

theorem Sensors_execSensorSample_goes (x : SensorData) (s : State) : Goes s (Sensors.execSensorSample x s) := by
  refine ⟨_, rfl, ?_⟩
  try dsimp only
  repeat' (first | with_reducible exact Steady.refl _ | with_reducible assumption | with_reducible apply Sensors_sample_steady)

theorem Sensors_execStackHotPersist_goes (stack : Nat) (s : State) : Goes s (Sensors.execStackHotPersist stack s) := by
  refine ⟨_, rfl, ?_⟩
  try dsimp only
  repeat' (first | with_reducible exact Steady.refl _ | with_reducible assumption | with_reducible apply Sensors_stackPersist_steady | with_reducible apply Steady.ite | with_reducible apply Steady.iteFst | split)

theorem Sensors_execRailLowPersist_goes (rail mv us : Nat) (s : State) : Goes s (Sensors.execRailLowPersist rail mv us s) := by
  refine ⟨_, rfl, ?_⟩
  try dsimp only
  repeat' (first | with_reducible exact Steady.refl _ | with_reducible assumption | with_reducible apply Sensors_railLow_steady)

theorem Sensors_execDramStackTempSample_goes (stack : Nat) (temp : Int) (tth : Nat) (s : State) : Goes s (Sensors.execDramStackTempSample stack temp tth s) := by
  refine ⟨_, rfl, ?_⟩
  try dsimp only
  repeat' (first | with_reducible exact Steady.refl _ | with_reducible assumption | with_reducible apply Sensors_stackSample_steady | with_reducible apply Steady.ite | with_reducible apply Steady.iteFst | split)

theorem Sensors_execDramPatrolScrub_goes (addr : Nat) (ecc : Ecc) (s : State) : Goes s (Sensors.execDramPatrolScrub addr ecc s) := by
  refine ⟨_, rfl, ?_⟩
  try dsimp only
  repeat' (first | with_reducible exact Steady.refl _ | with_reducible assumption | with_reducible apply Sensors_dramScrub_steady)

theorem Sensors_execSramPatrolScrub_goes (addr : Nat) (ecc : Ecc) (s : State) : Goes s (Sensors.execSramPatrolScrub addr ecc s) := by
  refine ⟨_, rfl, ?_⟩
  try dsimp only
  repeat' (first | with_reducible exact Steady.refl _ | with_reducible assumption | with_reducible apply Sensors_sramScrub_steady)

theorem Sensors_execOndieCePoll_goes (stack count : Nat) (s : State) : Goes s (Sensors.execOndieCePoll stack count s) := by
  refine ⟨_, rfl, ?_⟩
  try dsimp only
  repeat' (first | with_reducible exact Steady.refl _ | with_reducible assumption | with_reducible apply Sensors_ondiePoll_steady | with_reducible apply Alarm_count_steady | with_reducible apply Steady.ite | with_reducible apply Steady.iteFst | split)

theorem Sensors_execHealthScoreUpdate_goes (s : State) : Goes s (Sensors.execHealthScoreUpdate s) := by
  refine ⟨_, rfl, ?_⟩
  try dsimp only
  repeat' (first | with_reducible exact Steady.refl _ | with_reducible assumption | with_reducible apply Sensors_update_steady)

theorem Sensors_execNvRecordFlush_goes (s : State) : Goes s (Sensors.execNvRecordFlush s) := by
  refine ⟨_, rfl, ?_⟩
  try dsimp only
  repeat' (first | with_reducible exact Steady.refl _ | with_reducible assumption | with_reducible apply Sensors_flush_steady)

end

/-! ## Machine/Governing.lean -/

section

open Machine.Bits Machine.Ops Machine.Report
open Machine.Bits Machine.Ops Machine.Report
open Machine.Governors

theorem Governors_sample_steady {σ : State} (s : State) (w : Nat) (hσ : Steady σ s) : Steady σ (Governors.sample s w) := by
  unfold Governors.sample
  try dsimp only
  repeat' (first | with_reducible assumption | (intro w; exact ⟨w.1, w.2⟩) | (intro w; unfold Mem.wf at w ⊢; exact w) | with_reducible apply Ops_modGov_steady | with_reducible apply Steady.ite | with_reducible apply Steady.iteFst | split | (fail_if_no_progress with_reducible apply Steady.sameMk) | intro _)

theorem Governors_power_level (g : Governor) (h : g.level ≤ 7) : (Governors.power g).1 ≤ 7 := by
  unfold Governors.power
  repeat' split
  all_goals dsimp only
  all_goals omega

theorem Governors_limit_getD {g : Governor} (h : Safety.governorOk g) : Safety.limitOk (g.newLimit.getD g.limit) := by
  cases e : g.newLimit with
  | none => exact h.1
  | some w => exact h.2.1 w e

theorem Governors_periodEnd_steady {a : State} (s : State) (h : Steady a s) : Steady a (Governors.periodEnd s) := by
  unfold Governors.periodEnd
  refine Steady.ite ?_ h
  with_reducible apply Ops_modGov_steady _ _ h
  intro w
  refine ⟨Governors_limit_getD w, ?_, Governors_power_level _ w.2.2.1, w.2.2.2⟩
  intro x e
  cases e

theorem Governors_floorStep_steady {a : State} (s : State) (h : Steady a s) : Steady a (Governors.floorStep s) := by
  unfold Governors.floorStep
  refine Steady.ite h (Steady.ite (Steady.ite ?_ h) (Steady.ite ?_ h))
  · with_reducible apply Ops_modGov_steady _ _ h
    intro w
    exact ⟨w.1, w.2.1, w.2.2.1, Nat.min_le_left _ _⟩
  · with_reducible apply Ops_modGov_steady _ _ h
    intro w
    exact ⟨w.1, w.2.1, w.2.2.1, Nat.le_trans (Nat.sub_le _ _) w.2.2.2⟩

theorem Governors_execGovernorSample_goes (watts10 : Nat) (s : State) : Goes s (Governors.execGovernorSample watts10 s) := by
  refine ⟨_, rfl, ?_⟩
  try dsimp only
  repeat' (first | with_reducible exact Steady.refl _ | with_reducible assumption | with_reducible apply Sensors_sample_steady | with_reducible apply Governors_sample_steady)

theorem Governors_execGoverningPeriodEnd_goes (s : State) : Goes s (Governors.execGoverningPeriodEnd s) := by
  refine ⟨_, rfl, ?_⟩
  try dsimp only
  repeat' (first | with_reducible exact Steady.refl _ | with_reducible assumption | with_reducible apply Governors_periodEnd_steady)

theorem Governors_execThermalFloorStep_goes (s : State) : Goes s (Governors.execThermalFloorStep s) := by
  refine ⟨_, rfl, ?_⟩
  try dsimp only
  repeat' (first | with_reducible exact Steady.refl _ | with_reducible assumption | with_reducible apply Governors_floorStep_steady)

end

/-! ## Machine/Sched.lean -/

section

open Machine.Bits Machine.Ops Machine.Report
open Machine.Bits Machine.Ops Machine.Report
open Machine.Sched

theorem Sched_write_steady {σ : State} (s : State) (e : SchedEntry) (ring : Option Nat) (hσ : Steady σ s) : Steady σ (Sched.write s e ring).1 := by
  unfold Sched.write
  try dsimp only
  repeat' (first | with_reducible assumption | with_reducible apply FlagOps_late_steady | with_reducible apply Pairs_action_steady | with_reducible apply FlagCtl_action_steady | with_reducible apply Link_rekeyAccepted_steady | with_reducible apply Steady.ite | with_reducible apply Steady.iteFst | split | (fail_if_no_progress with_reducible apply Steady.sameMk))

theorem Sched_cancel_steady {σ : State} (s : State) (id : Nat) (hσ : Steady σ s) : Steady σ (Sched.cancel s id).1 := by
  unfold Sched.cancel
  try dsimp only
  repeat' (first | with_reducible assumption | with_reducible apply Steady.ite | with_reducible apply Steady.iteFst | split | (fail_if_no_progress with_reducible apply Steady.sameMk))

theorem Sched_report_steady {σ : State} (s : State) (x : SchedSlot) (status time : Nat) (hσ : Steady σ s) : Steady σ (Sched.report s x status time) := by
  unfold Sched.report
  try dsimp only
  repeat' (first | with_reducible assumption | with_reducible apply Pairs_action_steady | with_reducible apply FlagCtl_action_steady | with_reducible apply Ops_postCq_steady | with_reducible apply Report_notify_steady | with_reducible apply Steady.ite | with_reducible apply Steady.iteFst | split)

theorem Sched_fire_steady {σ : State} (s : State) (slot : Nat) (x : SchedSlot) (time : Nat) (effect : State → State × Nat) (hσ : Steady σ s) (k_effect : ∀ v0, Steady σ v0 → Steady σ (effect v0).1) : Steady σ (Sched.fire s slot x time effect) := by
  unfold Sched.fire
  try dsimp only
  repeat' (first | with_reducible assumption | apply k_effect | with_reducible apply FlagOps_report_steady | with_reducible apply Sched_report_steady | (fail_if_no_progress with_reducible apply Steady.sameMk))

theorem Sched_markDue_steady {σ : State} (s : State) (hσ : Steady σ s) : Steady σ (Sched.markDue s) := by
  unfold Sched.markDue
  try dsimp only
  repeat' (first | with_reducible assumption | with_reducible apply Steady.ite | with_reducible apply Steady.iteFst | split | (fail_if_no_progress with_reducible apply Steady.sameMk) | intro _)

theorem Sched_fireId_steady {σ : State} (s : State) (id : Nat) (kind : SchedEntry → Bool) (effect : SchedEntry → State → State × Nat) (hσ : Steady σ s) (k_effect : ∀ v0 v1, Steady σ v1 → Steady σ (effect v0 v1).1) : Steady σ (Sched.fireId s id kind effect) := by
  unfold Sched.fireId
  try dsimp only
  repeat' (first | with_reducible assumption | apply k_effect | with_reducible apply Weevils_due_steady | with_reducible apply Sched_fire_steady | with_reducible apply Steady.ite | with_reducible apply Steady.iteFst | split)

theorem Sched_start_steady {σ : State} (e : SchedEntry) (s : State) (hσ : Steady σ s) : Steady σ (Sched.start e s).1 := by
  unfold Sched.start
  try dsimp only
  repeat' (first | with_reducible assumption | with_reducible apply Pairs_field_steady | with_reducible apply Ops_modStep_steady | with_reducible apply StepOps_opened_steady | with_reducible apply Steady.ite | with_reducible apply Steady.iteFst | split | (fail_if_no_progress with_reducible apply Steady.sameMk) | intro _)

theorem Sched_swap_steady {σ : State} (e : SchedEntry) (s : State) (hσ : Steady σ s) : Steady σ (Sched.swap e s).1 := by
  unfold Sched.swap
  try dsimp only
  repeat' (first | with_reducible assumption | with_reducible apply Router_swapStart_steady)

theorem Sched_rekey_steady {σ : State} (e : SchedEntry) (s : State) (hσ : Steady σ s) : Steady σ (Sched.rekey e s).1 := by
  unfold Sched.rekey
  try dsimp only
  repeat' (first | with_reducible assumption | with_reducible apply Link_rekeyFire_steady | with_reducible apply Pairs_field_steady | (with_reducible apply Steady.foldl <;> intros) | (with_reducible apply Steady.foldlFst <;> intros) | intro _)

theorem Sched_count_steady {σ : State} (s : State) (hσ : Steady σ s) : Steady σ (Sched.count s) := by
  unfold Sched.count
  try dsimp only
  repeat' (first | with_reducible assumption | with_reducible apply Ops_modErr_steady | (fail_if_no_progress with_reducible apply Steady.sameMk) | intro _)

theorem Sched_flipChecksum_steady {σ : State} (q : Nat) (s : State) (hσ : Steady σ s) : Steady σ (Sched.flipChecksum q s) := by
  unfold Sched.flipChecksum
  try dsimp only
  repeat' (first | with_reducible assumption | with_reducible apply Alarm_count_steady | with_reducible apply Sched_count_steady | (fail_if_no_progress with_reducible apply Steady.sameMk) | intro _)

theorem Sched_flipBlock_steady {σ : State} (q : Nat) (s : State) (hσ : Steady σ s) : Steady σ (Sched.flipBlock q s) := by
  unfold Sched.flipBlock
  try dsimp only
  repeat' (first | with_reducible assumption | (intro w; exact ⟨w.1, w.2⟩) | (intro w; unfold Mem.wf at w ⊢; exact w) | with_reducible apply Alarm_count_steady | with_reducible apply Sched_count_steady | with_reducible apply Ops_modMem_steady | (fail_if_no_progress with_reducible apply Steady.sameMk) | intro _)

theorem Sched_loseLink_steady {σ : State} (p : Nat) (s : State) (hσ : Steady σ s) : Steady σ (Sched.loseLink p s) := by
  unfold Sched.loseLink
  try dsimp only
  repeat' (first | with_reducible assumption | with_reducible apply Link_down_steady | with_reducible apply Ops_modErr_steady | with_reducible apply Alarm_count_steady | with_reducible apply Sched_count_steady | with_reducible apply Steady.ite | with_reducible apply Steady.iteFst | split | (fail_if_no_progress with_reducible apply Steady.sameMk) | intro _)

theorem Sched_resetModule_steady {σ : State} (s : State) (hσ : Steady σ s) : Steady σ (Sched.resetModule s) := by
  unfold Sched.resetModule
  try dsimp only
  repeat' (first | with_reducible assumption | with_reducible apply Report_raise_steady | with_reducible apply Alarm_count_steady | with_reducible apply Sched_count_steady)

theorem Sched_dropPacket_steady {σ : State} (p : Nat) (s : State) (hσ : Steady σ s) : Steady σ (Sched.dropPacket p s) := by
  unfold Sched.dropPacket
  try dsimp only
  repeat' (first | with_reducible assumption | with_reducible apply Alarm_count_steady | with_reducible apply Sched_count_steady | with_reducible apply Ops_modPort_steady | (fail_if_no_progress with_reducible apply Steady.sameMk) | intro _)

theorem Sched_correctRead_steady {σ : State} (i : Nat) (s : State) (hσ : Steady σ s) : Steady σ (Sched.correctRead i s) := by
  unfold Sched.correctRead
  try dsimp only
  repeat' (first | with_reducible assumption | (intro w; exact ⟨w.1, w.2⟩) | (intro w; unfold Mem.wf at w ⊢; exact w) | with_reducible apply Alarm_count_steady | with_reducible apply Sched_count_steady | with_reducible apply Ops_modMem_steady | (fail_if_no_progress with_reducible apply Steady.sameMk) | intro _)

theorem Sched_drill_steady {σ : State} (e : SchedEntry) (s : State) (hσ : Steady σ s) : Steady σ (Sched.drill e s).1 := by
  unfold Sched.drill
  try dsimp only
  repeat' (first | with_reducible assumption | with_reducible apply Sched_flipChecksum_steady | with_reducible apply Sched_flipBlock_steady | with_reducible apply Sched_loseLink_steady | with_reducible apply Sched_resetModule_steady | with_reducible apply Sched_dropPacket_steady | with_reducible apply Sched_correctRead_steady | with_reducible apply Steady.ite | with_reducible apply Steady.iteFst | split)

theorem Sched_boundaryEffect_steady {σ : State} (c k : Nat) (e : SchedEntry) (taken : Bool) (s : State) (hσ : Steady σ s) : Steady σ (Sched.boundaryEffect c k e taken s).1 := by
  unfold Sched.boundaryEffect
  try dsimp only
  repeat' (first | with_reducible assumption | with_reducible apply Pairs_action_steady | with_reducible apply FlagCtl_action_steady | with_reducible apply Ckpts_endContext_steady | with_reducible apply Ckpts_fireCheckpoint_steady | with_reducible apply Ckpts_fireSnapshot_steady | with_reducible apply Ckpts_fireReclaim_steady | with_reducible apply Sched_drill_steady | split)

theorem Sched_fireBoundary_steady {σ : State} (s : State) (c k tv : Nat) (hσ : Steady σ s) : Steady σ (Sched.fireBoundary s c k tv) := by
  unfold Sched.fireBoundary
  try dsimp only
  repeat' (first | with_reducible assumption | with_reducible apply Sched_boundaryEffect_steady | with_reducible apply FlagOps_report_steady | with_reducible apply Sched_report_steady | with_reducible apply Pairs_action_steady | with_reducible apply FlagCtl_action_steady | with_reducible apply Steady.ite | with_reducible apply Steady.iteFst | split | (with_reducible apply Steady.foldl <;> intros) | (with_reducible apply Steady.foldlFst <;> intros) | (fail_if_no_progress with_reducible apply Steady.sameMk) | intro _)

theorem Sched_expire_steady {σ : State} (s : State) (id : Nat) (hσ : Steady σ s) : Steady σ (Sched.expire s id) := by
  unfold Sched.expire
  try dsimp only
  repeat' (first | with_reducible assumption | with_reducible apply Sched_fire_steady | with_reducible apply Steady.ite | with_reducible apply Steady.iteFst | split | intro _)

theorem Sched_execSchedWrite_goes (d : DescHead) (fireRing : Nat) (e : SchedEntry) (s : State) : Goes s (Sched.execSchedWrite d fireRing e s) := by
  refine ⟨_, rfl, ?_⟩
  try dsimp only
  repeat' (first | with_reducible exact Steady.refl _ | with_reducible assumption | with_reducible apply Desc_atOnce_steady | with_reducible apply FlagWindow_write_steady | with_reducible apply Regs_write_steady | with_reducible apply Bus_write_steady | with_reducible apply Sched_write_steady | with_reducible apply Steady.ite | with_reducible apply Steady.iteFst | split | intro _)

theorem Sched_execSchedCancel_goes (d : DescHead) (id : Nat) (s : State) : Goes s (Sched.execSchedCancel d id s) := by
  refine ⟨_, rfl, ?_⟩
  try dsimp only
  repeat' (first | with_reducible exact Steady.refl _ | with_reducible assumption | with_reducible apply Desc_atOnce_steady | with_reducible apply Sched_cancel_steady | with_reducible apply Steady.ite | with_reducible apply Steady.iteFst | split | intro _)

theorem Sched_execStartEntry_goes (id : Nat) (s : State) : Goes s (Sched.execStartEntry id s) := by
  refine ⟨_, rfl, ?_⟩
  try dsimp only
  repeat' (first | with_reducible exact Steady.refl _ | with_reducible assumption | with_reducible apply Sched_fireId_steady | with_reducible apply Pairs_action_steady | with_reducible apply FlagCtl_action_steady | with_reducible apply RemoteOps_start_steady | with_reducible apply PressOps_start_steady | with_reducible apply ChurnOps_start_steady | with_reducible apply Sched_start_steady | intro _)

theorem Sched_execRouteSwap_goes (id : Nat) (s : State) : Goes s (Sched.execRouteSwap id s) := by
  refine ⟨_, rfl, ?_⟩
  try dsimp only
  repeat' (first | with_reducible exact Steady.refl _ | with_reducible assumption | with_reducible apply Sched_fireId_steady | with_reducible apply Pairs_action_steady | with_reducible apply FlagCtl_action_steady | with_reducible apply Sched_swap_steady | intro _)

theorem Sched_execRekey_goes (id : Nat) (s : State) : Goes s (Sched.execRekey id s) := by
  refine ⟨_, rfl, ?_⟩
  try dsimp only
  repeat' (first | with_reducible exact Steady.refl _ | with_reducible assumption | with_reducible apply Sched_fireId_steady | with_reducible apply Pairs_action_steady | with_reducible apply FlagCtl_action_steady | with_reducible apply Sched_rekey_steady | intro _)

theorem Sched_execChecksumFlip_goes (id : Nat) (s : State) : Goes s (Sched.execChecksumFlip id s) := by
  refine ⟨_, rfl, ?_⟩
  try dsimp only
  repeat' (first | with_reducible exact Steady.refl _ | with_reducible assumption | with_reducible apply Sched_fireId_steady | with_reducible apply Sched_drill_steady)

theorem Sched_execCheckFlip_goes (id : Nat) (s : State) : Goes s (Sched.execCheckFlip id s) := by
  refine ⟨_, rfl, ?_⟩
  try dsimp only
  repeat' (first | with_reducible exact Steady.refl _ | with_reducible assumption | with_reducible apply Sched_fireId_steady | with_reducible apply Sched_drill_steady)

theorem Sched_execLinkLoss_goes (id : Nat) (s : State) : Goes s (Sched.execLinkLoss id s) := by
  refine ⟨_, rfl, ?_⟩
  try dsimp only
  repeat' (first | with_reducible exact Steady.refl _ | with_reducible assumption | with_reducible apply Sched_fireId_steady | with_reducible apply Sched_drill_steady)

theorem Sched_execModuleReset_goes (id : Nat) (s : State) : Goes s (Sched.execModuleReset id s) := by
  refine ⟨_, rfl, ?_⟩
  try dsimp only
  repeat' (first | with_reducible exact Steady.refl _ | with_reducible assumption | with_reducible apply Sched_fireId_steady | with_reducible apply Sched_drill_steady)

theorem Sched_execPacketDrop_goes (id : Nat) (s : State) : Goes s (Sched.execPacketDrop id s) := by
  refine ⟨_, rfl, ?_⟩
  try dsimp only
  repeat' (first | with_reducible exact Steady.refl _ | with_reducible assumption | with_reducible apply Sched_fireId_steady | with_reducible apply Sched_drill_steady)

theorem Sched_execDramCe_goes (id : Nat) (s : State) : Goes s (Sched.execDramCe id s) := by
  refine ⟨_, rfl, ?_⟩
  try dsimp only
  repeat' (first | with_reducible exact Steady.refl _ | with_reducible assumption | with_reducible apply Sched_fireId_steady | with_reducible apply Sched_drill_steady)

theorem Sched_execEntryExpired_goes (id : Nat) (s : State) : Goes s (Sched.execEntryExpired id s) := by
  refine ⟨_, rfl, ?_⟩
  try dsimp only
  repeat' (first | with_reducible exact Steady.refl _ | with_reducible assumption | with_reducible apply Sched_expire_steady)

end

/-! ## Machine/Vote.lean -/

section

open Machine.Bits Machine.Ops Machine.Report
open Machine.Bits Machine.Ops Machine.Report
open Machine.Vote

theorem Vote_sendTree_steady {σ : State} (s : State) (ps : List Nat) (b : Bytes) (hσ : Steady σ s) : Steady σ (Vote.sendTree s ps b) := by
  unfold Vote.sendTree
  try dsimp only
  repeat' (first | with_reducible assumption | with_reducible apply Ops_sendControls_steady)

theorem Vote_report_steady {σ : State} (s : State) (v : VoteDownMsg) (hσ : Steady σ s) : Steady σ (Vote.report s v) := by
  unfold Vote.report
  try dsimp only
  repeat' (first | with_reducible assumption | with_reducible apply Ops_postCtx_steady)

theorem Vote_next_steady {σ : State} (s : State) (c r tv : Nat) (hσ : Steady σ s) : Steady σ (Vote.next s c r tv) := by
  unfold Vote.next
  try dsimp only
  repeat' (first | with_reducible assumption | with_reducible apply StepOps_openAttempt_steady | with_reducible apply Ops_modStep_steady | with_reducible apply StepOps_staleRules_steady | with_reducible apply Ckpts_setup_steady | with_reducible apply Steady.ite | with_reducible apply Steady.iteFst | split | (fail_if_no_progress with_reducible apply Steady.sameMk) | intro _)

theorem Vote_apply_steady {σ : State} (s : State) (v : VoteDownMsg) (hσ : Steady σ s) : Steady σ (Vote.apply s v) := by
  unfold Vote.apply
  try dsimp only
  repeat' (first | with_reducible assumption | with_reducible apply StepOps_decided_steady | with_reducible apply FlagOps_report_steady | with_reducible apply Sched_report_steady | with_reducible apply Vote_report_steady | with_reducible apply Sched_fireBoundary_steady | with_reducible apply Vote_next_steady | with_reducible apply Swaps_atBoundary_steady | with_reducible apply Steady.ite | with_reducible apply Steady.iteFst | split)

theorem Vote_decide_steady {σ : State} (s : State) (c : Nat) (u : StepSetupBody) (t : StepState) (v : VoteUpMsg) (hσ : Steady σ s) : Steady σ (Vote.decide s c u t v) := by
  unfold Vote.decide
  try dsimp only
  repeat' (first | with_reducible assumption | with_reducible apply Ops_modStep_steady | with_reducible apply Report_raise_steady | with_reducible apply Alarm_count_steady | with_reducible apply Sched_count_steady | with_reducible apply AbortOps_apply_steady | with_reducible apply Vote_apply_steady | with_reducible apply Vote_sendTree_steady | with_reducible apply Steady.ite | with_reducible apply Steady.iteFst | split | (fail_if_no_progress with_reducible apply Steady.sameMk) | intro _)

theorem Vote_checkConfirm_steady {σ : State} (s : State) (c : Nat) (u : StepSetupBody) (t : StepState) (hσ : Steady σ s) : Steady σ (Vote.checkConfirm s c u t) := by
  unfold Vote.checkConfirm
  try dsimp only
  repeat' (first | with_reducible assumption | with_reducible apply Ops_modStep_steady | with_reducible apply Report_setFail_steady | with_reducible apply Steady.ite | with_reducible apply Steady.iteFst | split | (fail_if_no_progress with_reducible apply Steady.sameMk) | intro _)

theorem Vote_progress_steady {σ : State} (s0 : State) (c : Nat) (hσ : Steady σ s0) : Steady σ (Vote.progress s0 c) := by
  unfold Vote.progress
  try dsimp only
  repeat' (first | with_reducible assumption | with_reducible apply Ckpts_setup_steady | with_reducible apply Vote_checkConfirm_steady | with_reducible apply Ops_modStep_steady | with_reducible apply Vote_decide_steady | with_reducible apply Vote_sendTree_steady | with_reducible apply Steady.ite | with_reducible apply Steady.iteFst | split | (fail_if_no_progress with_reducible apply Steady.sameMk) | intro _)

theorem Vote_boundary_steady {σ : State} (s : State) (c : Nat) (hσ : Steady σ s) : Steady σ (Vote.boundary s c) := by
  unfold Vote.boundary
  try dsimp only
  repeat' (first | with_reducible assumption | with_reducible apply Ckpts_setup_steady | with_reducible apply Mem_load_steady | with_reducible apply Ckpts_load_steady | with_reducible apply Ops_modStep_steady | with_reducible apply Steady.ite | with_reducible apply Steady.iteFst | split | (fail_if_no_progress with_reducible apply Steady.sameMk) | intro _)

theorem Vote_digestReturn_steady {σ : State} (s : State) (c : Nat) (hσ : Steady σ s) : Steady σ (Vote.digestReturn s c) := by
  unfold Vote.digestReturn
  try dsimp only
  repeat' (first | with_reducible assumption | with_reducible apply Vote_boundary_steady | with_reducible apply Vote_progress_steady | with_reducible apply Ops_modStep_steady | with_reducible apply Steady.ite | with_reducible apply Steady.iteFst | split | (fail_if_no_progress with_reducible apply Steady.sameMk) | intro _)

theorem Vote_digestTimeout_steady {σ : State} (s : State) (c : Nat) (hσ : Steady σ s) : Steady σ (Vote.digestTimeout s c) := by
  unfold Vote.digestTimeout
  try dsimp only
  repeat' (first | with_reducible assumption | with_reducible apply Vote_boundary_steady | with_reducible apply Vote_progress_steady | with_reducible apply Report_setFail_steady | with_reducible apply Ops_modStep_steady | with_reducible apply Ops_drawn_steady | with_reducible apply Steady.ite | with_reducible apply Steady.iteFst | split | (fail_if_no_progress with_reducible apply Steady.sameMk) | intro _)

theorem Vote_confirmExpiry_steady {σ : State} (s0 : State) (c : Nat) (hσ : Steady σ s0) : Steady σ (Vote.confirmExpiry s0 c) := by
  unfold Vote.confirmExpiry
  try dsimp only
  repeat' (first | with_reducible assumption | with_reducible apply Vote_progress_steady | with_reducible apply Ckpts_setup_steady | with_reducible apply Report_setFail_steady | with_reducible apply Ops_modStep_steady | with_reducible apply Steady.ite | with_reducible apply Steady.iteFst | split | (fail_if_no_progress with_reducible apply Steady.sameMk) | intro _)

theorem Vote_voteUp_steady {σ : State} (s : State) (p : Nat) (v : VoteUpMsg) (hσ : Steady σ s) : Steady σ (Vote.voteUp s p v) := by
  unfold Vote.voteUp
  try dsimp only
  repeat' (first | with_reducible assumption | with_reducible apply Ckpts_setup_steady | with_reducible apply Vote_progress_steady | with_reducible apply Ops_modStep_steady | with_reducible apply Steady.ite | with_reducible apply Steady.iteFst | split | (fail_if_no_progress with_reducible apply Steady.sameMk) | intro _)

theorem Vote_voteDown_steady {σ : State} (s : State) (p : Nat) (v : VoteDownMsg) (hσ : Steady σ s) : Steady σ (Vote.voteDown s p v) := by
  unfold Vote.voteDown
  try dsimp only
  repeat' (first | with_reducible assumption | with_reducible apply Ckpts_setup_steady | with_reducible apply AbortOps_apply_steady | with_reducible apply Vote_apply_steady | with_reducible apply Vote_sendTree_steady | with_reducible apply Steady.ite | with_reducible apply Steady.iteFst | split)

theorem Vote_holdEnd_steady {σ : State} (s : State) (c : Nat) (hσ : Steady σ s) : Steady σ (Vote.holdEnd s c) := by
  unfold Vote.holdEnd
  try dsimp only
  repeat' (first | with_reducible assumption | with_reducible apply StepOps_openAttempt_steady | with_reducible apply Steady.ite | with_reducible apply Steady.iteFst | split)

theorem Vote_deadline_steady {σ : State} (s : State) (c : Nat) (hσ : Steady σ s) : Steady σ (Vote.deadline s c) := by
  unfold Vote.deadline
  try dsimp only
  repeat' (first | with_reducible assumption | with_reducible apply Ckpts_setup_steady | with_reducible apply AbortOps_broadcastOwn_steady | with_reducible apply Report_raise_steady | with_reducible apply Steady.ite | with_reducible apply Steady.iteFst | split)

theorem Vote_tick_steadyFrom (s : State) : Steady { s with ns := s.ns + 1 } (Vote.tick s) :=
  Steady.foldl (Clock_tick_steadyFrom s) (fun _ _ k => Vote_progress_steady _ _ k)

theorem Vote_execStepBoundary_goes (ctx : Nat) (s : State) : Goes s (Vote.execStepBoundary ctx s) := by
  refine ⟨_, rfl, ?_⟩
  try dsimp only
  repeat' (first | with_reducible exact Steady.refl _ | with_reducible assumption | with_reducible apply Vote_next_steady | with_reducible apply Vote_boundary_steady)

theorem Vote_execConfirmWaitExpiry_goes (ctx : Nat) (s : State) : Goes s (Vote.execConfirmWaitExpiry ctx s) := by
  refine ⟨_, rfl, ?_⟩
  try dsimp only
  repeat' (first | with_reducible exact Steady.refl _ | with_reducible assumption | with_reducible apply Vote_next_steady | with_reducible apply Vote_confirmExpiry_steady)

theorem Vote_execDigestTimeout_goes (ctx : Nat) (s : State) : Goes s (Vote.execDigestTimeout ctx s) := by
  refine ⟨_, rfl, ?_⟩
  try dsimp only
  repeat' (first | with_reducible exact Steady.refl _ | with_reducible assumption | with_reducible apply Vote_next_steady | with_reducible apply Vote_digestTimeout_steady)

theorem Vote_execConfigDigestReturn_goes (ctx : Nat) (s : State) : Goes s (Vote.execConfigDigestReturn ctx s) := by
  refine ⟨_, rfl, ?_⟩
  try dsimp only
  repeat' (first | with_reducible exact Steady.refl _ | with_reducible assumption | with_reducible apply Vote_next_steady | with_reducible apply Vote_digestReturn_steady)

theorem Vote_execVoteUp_goes (p : Nat) (v : VoteUpMsg) (s : State) : Goes s (Vote.execVoteUp p v s) := by
  refine ⟨_, rfl, ?_⟩
  try dsimp only
  repeat' (first | with_reducible exact Steady.refl _ | with_reducible assumption | with_reducible apply Vote_next_steady | with_reducible apply Vote_voteUp_steady)

theorem Vote_execVoteDown_goes (p : Nat) (v : VoteDownMsg) (s : State) : Goes s (Vote.execVoteDown p v s) := by
  refine ⟨_, rfl, ?_⟩
  try dsimp only
  repeat' (first | with_reducible exact Steady.refl _ | with_reducible assumption | with_reducible apply Vote_next_steady | with_reducible apply Vote_voteDown_steady)

theorem Vote_execReplayHoldEnd_goes (ctx : Nat) (s : State) : Goes s (Vote.execReplayHoldEnd ctx s) := by
  refine ⟨_, rfl, ?_⟩
  try dsimp only
  repeat' (first | with_reducible exact Steady.refl _ | with_reducible assumption | with_reducible apply Vote_next_steady | with_reducible apply Vote_holdEnd_steady)

theorem Vote_execStepDeadline_goes (ctx : Nat) (s : State) : Goes s (Vote.execStepDeadline ctx s) := by
  refine ⟨_, rfl, ?_⟩
  try dsimp only
  repeat' (first | with_reducible exact Steady.refl _ | with_reducible assumption | with_reducible apply Vote_next_steady | with_reducible apply Vote_deadline_steady)

end

/-! ## Machine/HostDesc.lean -/

section

open Machine.Bits Machine.Ops Machine.Report
open Machine.Bits Machine.Ops Machine.Report
open Machine.HostDesc

theorem HostDesc_enter_steady {a : State} (s : State) (c : Nat) (y : Ctx) (h : Steady a s) : Steady a (HostDesc.enter s c y) :=
  Ops_modRemote_steady _ (fun m => { m with reclaimed := [] }) (Steady.sameMk h) (fun w => ⟨w.1, w.2⟩)

theorem HostDesc_create_steady {σ : State} (s : State) (d : DescHead) (x : CtxFields) (red : Bool) (hσ : Steady σ s) : Steady σ (HostDesc.create s d x red).1 := by
  unfold HostDesc.create
  try dsimp only
  repeat' (first | with_reducible assumption | with_reducible apply Mem_load_steady | with_reducible apply Ckpts_load_steady | with_reducible apply RemoteOps_fill_steady | with_reducible apply Slots_fill_steady | with_reducible apply RegMode_enter_steady | with_reducible apply Router_enter_steady | with_reducible apply HostDesc_enter_steady | with_reducible apply Steady.ite | with_reducible apply Steady.iteFst | split | (with_reducible apply Steady.foldl <;> intros) | (with_reducible apply Steady.foldlFst <;> intros) | intro _)

theorem HostDesc_define_steady {σ : State} (s : State) (d : DescHead) (x : CtxFields) (hσ : Steady σ s) : Steady σ (HostDesc.define s d x).1 := by
  unfold HostDesc.define
  try dsimp only
  repeat' (first | with_reducible assumption | with_reducible apply HostDesc_create_steady | with_reducible apply Steady.ite | with_reducible apply Steady.iteFst | split)

theorem HostDesc_finishDelete_steady {σ : State} (s : State) (c : Nat) (hσ : Steady σ s) : Steady σ (HostDesc.finishDelete s c) := by
  unfold HostDesc.finishDelete
  try dsimp only
  repeat' (first | with_reducible assumption | with_reducible apply Ops_endDesc_steady | with_reducible apply RemoteOps_fill_steady | with_reducible apply Slots_fill_steady | with_reducible apply Steady.ite | with_reducible apply Steady.iteFst | split | (with_reducible apply Steady.foldl <;> intros) | (with_reducible apply Steady.foldlFst <;> intros) | (fail_if_no_progress with_reducible apply Steady.sameMk) | intro _)

theorem HostDesc_beginDelete_steady {σ : State} (s : State) (d : DescHead) (x : Ctx) (hσ : Steady σ s) : Steady σ (HostDesc.beginDelete s d x) := by
  unfold HostDesc.beginDelete
  try dsimp only
  repeat' (first | with_reducible assumption | with_reducible apply Ops_modCtx_steady | with_reducible apply Report_abortProg_steady | with_reducible apply StepOps_dropEgress_steady | with_reducible apply Ops_modStep_steady | with_reducible apply PressOps_finish_steady | with_reducible apply ChurnOps_finish_steady | with_reducible apply AbortOps_finish_steady | with_reducible apply HostDesc_finishDelete_steady | with_reducible apply Steady.ite | with_reducible apply Steady.iteFst | split | (fail_if_no_progress with_reducible apply Steady.sameMk) | intro _)

theorem HostDesc_delete_steady {σ : State} (s : State) (d : DescHead) (hσ : Steady σ s) : Steady σ (HostDesc.delete s d).1 := by
  unfold HostDesc.delete
  try dsimp only
  repeat' (first | with_reducible assumption | with_reducible apply HostDesc_beginDelete_steady | with_reducible apply Steady.ite | with_reducible apply Steady.iteFst | split)

theorem HostDesc_stepSetup_steady {σ : State} (s : State) (d : DescHead) (x : StepSetupBody) (hσ : Steady σ s) : Steady σ (HostDesc.stepSetup s d x).1 := by
  unfold HostDesc.stepSetup
  try dsimp only
  repeat' (first | with_reducible assumption | with_reducible apply Ops_modStep_steady | with_reducible apply Ckpts_setup_steady | with_reducible apply Steady.ite | with_reducible apply Steady.iteFst | split | (fail_if_no_progress with_reducible apply Steady.sameMk) | intro _)

theorem HostDesc_resolveCommit_steady {σ : State} (s : State) (c : Nat) (x : ResolveBody) (hσ : Steady σ s) : Steady σ (HostDesc.resolveCommit s c x) := by
  unfold HostDesc.resolveCommit
  try dsimp only
  repeat' (first | with_reducible assumption | with_reducible apply Ops_modCtx_steady | with_reducible apply PressOps_finish_steady | with_reducible apply ChurnOps_finish_steady | with_reducible apply AbortOps_finish_steady | with_reducible apply StepOps_decided_steady | (fail_if_no_progress with_reducible apply Steady.sameMk) | intro _)

theorem HostDesc_resolveUndecided_steady {σ : State} (s : State) (c : Nat) (hσ : Steady σ s) : Steady σ (HostDesc.resolveUndecided s c) := by
  unfold HostDesc.resolveUndecided
  try dsimp only
  repeat' (first | with_reducible assumption | with_reducible apply PressOps_finish_steady | with_reducible apply ChurnOps_finish_steady | with_reducible apply AbortOps_finish_steady | with_reducible apply StepOps_dropEgress_steady)

theorem HostDesc_stepResolve_steady {σ : State} (s : State) (d : DescHead) (x : ResolveBody) (hσ : Steady σ s) : Steady σ (HostDesc.stepResolve s d x).1 := by
  unfold HostDesc.stepResolve
  try dsimp only
  repeat' (first | with_reducible assumption | with_reducible apply HostDesc_resolveCommit_steady | with_reducible apply HostDesc_resolveUndecided_steady | with_reducible apply Ops_modStep_steady | with_reducible apply Steady.ite | with_reducible apply Steady.iteFst | split | (fail_if_no_progress with_reducible apply Steady.sameMk) | intro _)

theorem HostDesc_copyIn_steady {σ : State} (s : State) (d : DescHead) (x : CopyFields) (hσ : Steady σ s) : Steady σ (HostDesc.copyIn s d x).1 := by
  unfold HostDesc.copyIn
  try dsimp only
  repeat' (first | with_reducible assumption | with_reducible apply Steady.ite | with_reducible apply Steady.iteFst | split)

theorem HostDesc_copyOut_steady {σ : State} (s : State) (d : DescHead) (x : CopyFields) (hσ : Steady σ s) : Steady σ (HostDesc.copyOut s d x).1 := by
  unfold HostDesc.copyOut
  try dsimp only
  repeat' (first | with_reducible assumption | with_reducible apply Vote_decide_steady | with_reducible apply Ops_modProg_steady | with_reducible apply Steady.ite | with_reducible apply Steady.iteFst | split | (fail_if_no_progress with_reducible apply Steady.sameMk) | intro _)

theorem HostDesc_trigger_steady {σ : State} (s : State) (r t : Nat) (hσ : Steady σ s) : Steady σ (HostDesc.trigger s r t) := by
  unfold HostDesc.trigger
  try dsimp only
  repeat' (first | with_reducible assumption | with_reducible apply FlagOps_arrive_steady | with_reducible apply Tracker_arrive_steady | with_reducible apply Ops_modProg_steady | with_reducible apply Ops_modCkpt_steady | with_reducible apply Steady.ite | with_reducible apply Steady.iteFst | split | (fail_if_no_progress with_reducible apply Steady.sameMk) | intro _)

theorem HostDesc_pushAll_steady {a : State} (l : List Bytes) (s : State) (n q done : Nat) (h : Steady a s) :
    Steady a (HostDesc.pushAll l s n q done).1 := by
  induction l generalizing s done with
  | nil => exact h
  | cons b l ih =>
    simp only [HostDesc.pushAll]
    exact Steady.iteFst (ih _ _ (HiveOps_push_steady _ _ _ _ _ _ h)) (HiveOps_push_steady _ _ _ _ _ _ h)

theorem HostDesc_place_steady {σ : State} (s : State) (a : Nat) (data : Bytes) (hσ : Steady σ s) : Steady σ (HostDesc.place s a data).1 := by
  unfold HostDesc.place
  try dsimp only
  repeat' (first | with_reducible assumption | with_reducible apply FlagWindow_write_steady | with_reducible apply Regs_write_steady | with_reducible apply Bus_write_steady | with_reducible apply Sched_write_steady | with_reducible apply Steady.ite | with_reducible apply Steady.iteFst | split)

theorem HostDesc_poisonAt_steady {σ : State} (s : State) (a n : Nat) (offsets : List Nat) (hσ : Steady σ s) : Steady σ (HostDesc.poisonAt s a n offsets) := by
  unfold HostDesc.poisonAt
  try dsimp only
  repeat' (first | with_reducible assumption | with_reducible apply Mem_poisonAll_steady | with_reducible apply Steady.ite | with_reducible apply Steady.iteFst | split | (with_reducible apply Steady.foldl <;> intros) | (with_reducible apply Steady.foldlFst <;> intros) | intro _)

theorem HostDesc_copyInEnd_steady {σ : State} (s : State) (r t : Nat) (x : CopyFields) (res : CopyResult) (hσ : Steady σ s) : Steady σ (HostDesc.copyInEnd s r t x res) := by
  unfold HostDesc.copyInEnd
  try dsimp only
  repeat' (first | with_reducible assumption | with_reducible apply HiveOps_read_steady | with_reducible apply Bus_read_steady | with_reducible apply HostDesc_pushAll_steady | with_reducible apply Ops_endDesc_steady | with_reducible apply HostDesc_place_steady | with_reducible apply HostDesc_poisonAt_steady | with_reducible apply Steady.ite | with_reducible apply Steady.iteFst | split | intro _)

theorem HostDesc_copyOutEnd_steady {σ : State} (s : State) (r t : Nat) (i : InProgress) (res : CopyResult) (hσ : Steady σ s) : Steady σ (HostDesc.copyOutEnd s r t i res) := by
  unfold HostDesc.copyOutEnd
  try dsimp only
  repeat' (first | with_reducible assumption | with_reducible apply HiveOps_read_steady | with_reducible apply Bus_read_steady | with_reducible apply Ops_emit_steady | with_reducible apply Regs_hostWrite_steady | with_reducible apply Bus_hostWrite_steady | with_reducible apply Ops_endDesc_steady | with_reducible apply Steady.ite | with_reducible apply Steady.iteFst | split | (fail_if_no_progress with_reducible apply Steady.sameMk))

theorem HostDesc_transferEnd_steady {σ : State} (s0 : State) (r t : Nat) (x : CopyEnd) (hσ : Steady σ s0) : Steady σ (HostDesc.transferEnd s0 r t x) := by
  unfold HostDesc.transferEnd
  try dsimp only
  repeat' (first | with_reducible assumption | with_reducible apply Mem_inject_steady | with_reducible apply HostDesc_copyInEnd_steady | with_reducible apply HostDesc_copyOutEnd_steady | with_reducible apply StepOps_egressDone_steady | with_reducible apply Steady.ite | with_reducible apply Steady.iteFst | split)

theorem HostDesc_work_steady {σ : State} (s : State) (d : DescHead) (x : WorkFields) (hσ : Steady σ s) : Steady σ (HostDesc.work s d x).1 := by
  unfold HostDesc.work
  try dsimp only
  repeat' (first | with_reducible assumption | with_reducible apply Vote_decide_steady | with_reducible apply Ops_modProg_steady | with_reducible apply Vote_deadline_steady | with_reducible apply RemoteOps_timeout_steady | with_reducible apply FlagCtl_timeout_steady | with_reducible apply FlagOps_arrive_steady | with_reducible apply Tracker_arrive_steady | with_reducible apply Steady.ite | with_reducible apply Steady.iteFst | split | (fail_if_no_progress with_reducible apply Steady.sameMk) | intro _)

theorem HostDesc_workDone_steady {σ : State} (s : State) (r t : Nat) (hσ : Steady σ s) : Steady σ (HostDesc.workDone s r t) := by
  unfold HostDesc.workDone
  try dsimp only
  repeat' (first | with_reducible assumption | with_reducible apply Ops_endDesc_steady | with_reducible apply FlagOps_arrive_steady | with_reducible apply Tracker_arrive_steady | with_reducible apply Pairs_field_steady | with_reducible apply Steady.ite | with_reducible apply Steady.iteFst | split)

theorem HostDesc_workTimeout_steady {σ : State} (s : State) (r t : Nat) (hσ : Steady σ s) : Steady σ (HostDesc.workTimeout s r t) := by
  unfold HostDesc.workTimeout
  try dsimp only
  repeat' (first | with_reducible assumption | with_reducible apply Vote_deadline_steady | with_reducible apply HostDesc_workDone_steady | with_reducible apply Ops_endDesc_steady | with_reducible apply RemoteOps_timeout_steady | with_reducible apply FlagCtl_timeout_steady | with_reducible apply Steady.ite | with_reducible apply Steady.iteFst | split)

theorem HostDesc_execCtxDefine_goes (d : DescHead) (x : CtxFields) (s : State) : Goes s (HostDesc.execCtxDefine d x s) := by
  refine ⟨_, rfl, ?_⟩
  try dsimp only
  repeat' (first | with_reducible exact Steady.refl _ | with_reducible assumption | with_reducible apply Vote_next_steady | with_reducible apply Desc_atOnce_steady | with_reducible apply HostDesc_define_steady | with_reducible apply Steady.ite | with_reducible apply Steady.iteFst | split | intro _)

theorem HostDesc_execCtxDelete_goes (d : DescHead) (s : State) : Goes s (HostDesc.execCtxDelete d s) := by
  refine ⟨_, rfl, ?_⟩
  try dsimp only
  repeat' (first | with_reducible exact Steady.refl _ | with_reducible assumption | with_reducible apply Vote_next_steady | with_reducible apply Desc_lasting_steady | with_reducible apply HostDesc_delete_steady | intro _)

theorem HostDesc_execStepSetup_goes (d : DescHead) (x : StepSetupBody) (s : State) : Goes s (HostDesc.execStepSetup d x s) := by
  refine ⟨_, rfl, ?_⟩
  try dsimp only
  repeat' (first | with_reducible exact Steady.refl _ | with_reducible assumption | with_reducible apply Vote_next_steady | with_reducible apply Desc_atOnce_steady | with_reducible apply HostDesc_stepSetup_steady | intro _)

theorem HostDesc_execStepResolve_goes (d : DescHead) (x : ResolveBody) (s : State) : Goes s (HostDesc.execStepResolve d x s) := by
  refine ⟨_, rfl, ?_⟩
  try dsimp only
  repeat' (first | with_reducible exact Steady.refl _ | with_reducible assumption | with_reducible apply Vote_next_steady | with_reducible apply Desc_atOnce_steady | with_reducible apply HostDesc_stepResolve_steady | intro _)

theorem HostDesc_execCopyIn_goes (d : DescHead) (x : CopyFields) (s : State) : Goes s (HostDesc.execCopyIn d x s) := by
  refine ⟨_, rfl, ?_⟩
  try dsimp only
  repeat' (first | with_reducible exact Steady.refl _ | with_reducible assumption | with_reducible apply Vote_next_steady | with_reducible apply Desc_lasting_steady | with_reducible apply HostDesc_copyIn_steady | (fail_if_no_progress with_reducible apply Steady.sameMk) | intro _)

theorem HostDesc_execCopyOut_goes (d : DescHead) (x : CopyFields) (s : State) : Goes s (HostDesc.execCopyOut d x s) := by
  refine ⟨_, rfl, ?_⟩
  try dsimp only
  repeat' (first | with_reducible exact Steady.refl _ | with_reducible assumption | with_reducible apply Vote_next_steady | with_reducible apply Desc_lasting_steady | with_reducible apply HostDesc_copyOut_steady | (fail_if_no_progress with_reducible apply Steady.sameMk) | intro _)

theorem HostDesc_execCopyOutTrigger_goes (r t : Nat) (s : State) : Goes s (HostDesc.execCopyOutTrigger r t s) := by
  refine ⟨_, rfl, ?_⟩
  try dsimp only
  repeat' (first | with_reducible exact Steady.refl _ | with_reducible assumption | with_reducible apply Vote_next_steady | with_reducible apply Report_trigger_steady | with_reducible apply HostDesc_trigger_steady)

theorem HostDesc_execCopyTransferEnd_goes (r t : Nat) (x : CopyEnd) (s : State) : Goes s (HostDesc.execCopyTransferEnd r t x s) := by
  refine ⟨_, rfl, ?_⟩
  try dsimp only
  repeat' (first | with_reducible exact Steady.refl _ | with_reducible assumption | with_reducible apply Vote_next_steady | with_reducible apply HostDesc_transferEnd_steady)

theorem HostDesc_execWork_goes (d : DescHead) (x : WorkFields) (s : State) : Goes s (HostDesc.execWork d x s) := by
  refine ⟨_, rfl, ?_⟩
  try dsimp only
  repeat' (first | with_reducible exact Steady.refl _ | with_reducible assumption | with_reducible apply Vote_next_steady | with_reducible apply Desc_lasting_steady | with_reducible apply HostDesc_work_steady | (fail_if_no_progress with_reducible apply Steady.sameMk) | intro _)

theorem HostDesc_execWorkDone_goes (r t : Nat) (s : State) : Goes s (HostDesc.execWorkDone r t s) := by
  refine ⟨_, rfl, ?_⟩
  try dsimp only
  repeat' (first | with_reducible exact Steady.refl _ | with_reducible assumption | with_reducible apply Vote_next_steady | with_reducible apply HostDesc_workDone_steady)

theorem HostDesc_execWorkTimeout_goes (r t : Nat) (s : State) : Goes s (HostDesc.execWorkTimeout r t s) := by
  refine ⟨_, rfl, ?_⟩
  try dsimp only
  repeat' (first | with_reducible exact Steady.refl _ | with_reducible assumption | with_reducible apply Vote_next_steady | with_reducible apply HostDesc_workTimeout_steady)

theorem HostDesc_execHostNop_goes (d : DescHead) (s : State) : Goes s (HostDesc.execHostNop d s) := by
  refine ⟨_, rfl, ?_⟩
  try dsimp only
  repeat' (first | with_reducible exact Steady.refl _ | with_reducible assumption | with_reducible apply Vote_next_steady | with_reducible apply Desc_atOnce_steady | with_reducible apply Steady.ite | with_reducible apply Steady.iteFst | split | intro _)

end

/-! ## Machine/Spdm.lean -/

section

open Machine.Bits Machine.Ops Machine.Report
open Machine.Bits Machine.Ops Machine.Report
open Machine.Spdm

theorem Spdm_answer_steady {σ : State} (s : State) (code : Nat) (b : Bytes) (hσ : Steady σ s) : Steady σ (Spdm.answer s code b).1 := by
  unfold Spdm.answer
  try dsimp only
  repeat' (first | with_reducible assumption)

theorem Spdm_failed_steady {σ : State} (s : State) (code : Nat) (hσ : Steady σ s) : Steady σ (Spdm.failed s code).1 := by
  unfold Spdm.failed
  try dsimp only
  repeat' (first | with_reducible assumption)

theorem Spdm_countSealed_steady {σ : State} (s : State) (x : Session) (hσ : Steady σ s) : Steady σ (Spdm.countSealed s x) := by
  unfold Spdm.countSealed
  try dsimp only
  repeat' (first | with_reducible assumption | with_reducible apply Ops_modSec_steady | with_reducible apply Steady.ite | with_reducible apply Steady.iteFst | split | (fail_if_no_progress with_reducible apply Steady.sameMk) | intro _)

theorem Spdm_sealed_steady {σ : State} (s : State) (x : Session) (message : Bytes) (hσ : Steady σ s) : Steady σ (Spdm.sealed s x message) := by
  unfold Spdm.sealed
  try dsimp only
  repeat' (first | with_reducible assumption | with_reducible apply Ops_emit_steady | with_reducible apply Spdm_countSealed_steady)

theorem Spdm_reply_steady {σ : State} (s : State) (x : Option Session) (clear : Out) (message : Bytes) (hσ : Steady σ s) : Steady σ (Spdm.reply s x clear message) := by
  unfold Spdm.reply
  try dsimp only
  repeat' (first | with_reducible assumption | with_reducible apply Spdm_sealed_steady | with_reducible apply Ops_emit_steady | split | (fail_if_no_progress with_reducible apply Steady.sameMk))

theorem Spdm_run_steady {σ : State} (s : State) (h : SpdmHead) (finished : Bool) (f : State → State × Nat × Bytes) (hσ : Steady σ s) (k_f : ∀ v0, Steady σ v0 → Steady σ (f v0).1) : Steady σ (Spdm.run s h finished f) := by
  unfold Spdm.run
  try dsimp only
  repeat' (first | with_reducible assumption | apply k_f | with_reducible apply Ops_emit_steady | with_reducible apply Spdm_reply_steady | with_reducible apply Steady.ite | with_reducible apply Steady.iteFst | split | intro _)

theorem Spdm_after_steady {σ : State} (s : State) (f : State → State × Nat × Bytes) (hσ : Steady σ s) (k_f : ∀ v0, Steady σ v0 → Steady σ (f v0).1) : Steady σ (Spdm.after s f).1 := by
  unfold Spdm.after
  try dsimp only
  repeat' (first | with_reducible assumption | apply k_f | with_reducible apply Spdm_failed_steady | with_reducible apply Steady.ite | with_reducible apply Steady.iteFst | split)

theorem Spdm_inside_steady {σ : State} (s : State) (h : SpdmHead) (f : State → Nat → State × Nat × Bytes) (hσ : Steady σ s) (k_f : ∀ v0 v1, Steady σ v0 → Steady σ (f v0 v1).1) : Steady σ (Spdm.inside s h f).1 := by
  unfold Spdm.inside
  try dsimp only
  repeat' (first | with_reducible assumption | apply k_f | with_reducible apply Spdm_after_steady | with_reducible apply Spdm_failed_steady | split | (fail_if_no_progress with_reducible apply Steady.sameMk) | intro _)

theorem Spdm_version_steady {σ : State} (s : State) (hσ : Steady σ s) : Steady σ (Spdm.version s).1 := by
  unfold Spdm.version
  try dsimp only
  repeat' (first | with_reducible assumption | with_reducible apply Ops_answer_steady | with_reducible apply Spdm_answer_steady | with_reducible apply Ops_modSec_steady | (fail_if_no_progress with_reducible apply Steady.sameMk) | intro _)

theorem Spdm_capabilities_steady {σ : State} (s : State) (hσ : Steady σ s) : Steady σ (Spdm.capabilities s).1 := by
  unfold Spdm.capabilities
  try dsimp only
  repeat' (first | with_reducible assumption | with_reducible apply Ops_answer_steady | with_reducible apply Spdm_answer_steady | with_reducible apply Ops_modSec_steady | with_reducible apply Spdm_failed_steady | with_reducible apply Steady.ite | with_reducible apply Steady.iteFst | split | (fail_if_no_progress with_reducible apply Steady.sameMk) | intro _)

theorem Spdm_algorithms_steady {σ : State} (s : State) (hash sig : Bool) (hσ : Steady σ s) : Steady σ (Spdm.algorithms s hash sig).1 := by
  unfold Spdm.algorithms
  try dsimp only
  repeat' (first | with_reducible assumption | with_reducible apply Spdm_failed_steady | with_reducible apply Ops_answer_steady | with_reducible apply Spdm_answer_steady | with_reducible apply Ops_modSec_steady | with_reducible apply Steady.ite | with_reducible apply Steady.iteFst | split | (fail_if_no_progress with_reducible apply Steady.sameMk) | intro _)

theorem Spdm_digests_steady {σ : State} (s : State) (hσ : Steady σ s) : Steady σ (Spdm.digests s).1 := by
  unfold Spdm.digests
  try dsimp only
  repeat' (first | with_reducible assumption | with_reducible apply Spdm_after_steady | with_reducible apply Ops_answer_steady | with_reducible apply Spdm_answer_steady | with_reducible apply Spdm_failed_steady | with_reducible apply Steady.ite | with_reducible apply Steady.iteFst | split | intro _)

theorem Spdm_certificate_steady {σ : State} (s : State) (slot off len : Nat) (hσ : Steady σ s) : Steady σ (Spdm.certificate s slot off len).1 := by
  unfold Spdm.certificate
  try dsimp only
  repeat' (first | with_reducible assumption | with_reducible apply Spdm_after_steady | with_reducible apply Spdm_failed_steady | with_reducible apply Vote_decide_steady | with_reducible apply Link_chain_steady | with_reducible apply Swaps_rest_steady | with_reducible apply Tracker_take_steady | with_reducible apply Ops_answer_steady | with_reducible apply Spdm_answer_steady | with_reducible apply Steady.ite | with_reducible apply Steady.iteFst | split | intro _)

theorem Spdm_signedResponse_steady {σ : State} (s : State) (code : Nat) (body : Bytes) (nonce : BitVec 256) (hσ : Steady σ s) : Steady σ (Spdm.signedResponse s code body nonce).1 := by
  unfold Spdm.signedResponse
  try dsimp only
  repeat' (first | with_reducible assumption | with_reducible apply Digest_random_steady | with_reducible apply Digest_sign_steady | with_reducible apply Ops_answer_steady | with_reducible apply Spdm_answer_steady | with_reducible apply Ops_modSec_steady | (fail_if_no_progress with_reducible apply Steady.sameMk) | intro _)

theorem Spdm_challenge_steady {σ : State} (s : State) (slot : Nat) (nonce : BitVec 256) (hσ : Steady σ s) : Steady σ (Spdm.challenge s slot nonce).1 := by
  unfold Spdm.challenge
  try dsimp only
  repeat' (first | with_reducible assumption | with_reducible apply Spdm_after_steady | with_reducible apply Spdm_failed_steady | with_reducible apply Spdm_signedResponse_steady | with_reducible apply Steady.ite | with_reducible apply Steady.iteFst | split | intro _)

theorem Spdm_measurements_steady {σ : State} (s : State) (index : Nat) (signed : Bool) (nonce : BitVec 256) (hσ : Steady σ s) : Steady σ (Spdm.measurements s index signed nonce).1 := by
  unfold Spdm.measurements
  try dsimp only
  repeat' (first | with_reducible assumption | with_reducible apply Spdm_after_steady | with_reducible apply Spdm_failed_steady | with_reducible apply Ops_answer_steady | with_reducible apply Spdm_answer_steady | with_reducible apply Spdm_signedResponse_steady | with_reducible apply Steady.ite | with_reducible apply Steady.iteFst | split | intro _)

theorem Spdm_pskExchange_steady {σ : State} (s : State) (hint : Nat) (hσ : Steady σ s) : Steady σ (Spdm.pskExchange s hint).1 := by
  unfold Spdm.pskExchange
  try dsimp only
  repeat' (first | with_reducible assumption | with_reducible apply Spdm_after_steady | with_reducible apply Spdm_failed_steady | with_reducible apply Vote_decide_steady | with_reducible apply Ops_answer_steady | with_reducible apply Spdm_answer_steady | with_reducible apply Ops_modSec_steady | with_reducible apply Steady.ite | with_reducible apply Steady.iteFst | split | (fail_if_no_progress with_reducible apply Steady.sameMk) | intro _)

theorem Spdm_modSession_steady {σ : State} (s : State) (id : Nat) (f : Session → Session) (hσ : Steady σ s) : Steady σ (Spdm.modSession s id f) := by
  unfold Spdm.modSession
  try dsimp only
  repeat' (first | with_reducible assumption | with_reducible apply Ops_modSec_steady | with_reducible apply Steady.ite | with_reducible apply Steady.iteFst | split | (fail_if_no_progress with_reducible apply Steady.sameMk) | intro _)

theorem Spdm_dropSession_steady {σ : State} (s : State) (id : Nat) (hσ : Steady σ s) : Steady σ (Spdm.dropSession s id) := by
  unfold Spdm.dropSession
  try dsimp only
  repeat' (first | with_reducible assumption | with_reducible apply Ops_modSec_steady | (fail_if_no_progress with_reducible apply Steady.sameMk) | intro _)

theorem Spdm_pskFinish_steady {σ : State} (s : State) (h : SpdmHead) (ok : Bool) (hσ : Steady σ s) : Steady σ (Spdm.pskFinish s h ok).1 := by
  unfold Spdm.pskFinish
  try dsimp only
  repeat' (first | with_reducible assumption | with_reducible apply Spdm_inside_steady | with_reducible apply Ops_answer_steady | with_reducible apply Spdm_answer_steady | with_reducible apply Spdm_modSession_steady | with_reducible apply Spdm_failed_steady | with_reducible apply Spdm_dropSession_steady | with_reducible apply Steady.ite | with_reducible apply Steady.iteFst | split | (fail_if_no_progress with_reducible apply Steady.sameMk) | intro _)

theorem Spdm_heartbeat_steady {σ : State} (s : State) (h : SpdmHead) (hσ : Steady σ s) : Steady σ (Spdm.heartbeat s h).1 := by
  unfold Spdm.heartbeat
  try dsimp only
  repeat' (first | with_reducible assumption | with_reducible apply Spdm_inside_steady | with_reducible apply Ops_answer_steady | with_reducible apply Spdm_answer_steady | intro _)

theorem Spdm_keyUpdate_steady {σ : State} (s : State) (h : SpdmHead) (hσ : Steady σ s) : Steady σ (Spdm.keyUpdate s h).1 := by
  unfold Spdm.keyUpdate
  try dsimp only
  repeat' (first | with_reducible assumption | with_reducible apply Spdm_inside_steady | with_reducible apply Ops_answer_steady | with_reducible apply Spdm_answer_steady | with_reducible apply Spdm_modSession_steady | (fail_if_no_progress with_reducible apply Steady.sameMk) | intro _)

theorem Spdm_endSession_steady {σ : State} (s : State) (h : SpdmHead) (hσ : Steady σ s) : Steady σ (Spdm.endSession s h).1 := by
  unfold Spdm.endSession
  try dsimp only
  repeat' (first | with_reducible assumption | with_reducible apply Spdm_inside_steady | with_reducible apply Ops_answer_steady | with_reducible apply Spdm_answer_steady | with_reducible apply Spdm_dropSession_steady | intro _)

theorem Spdm_pskExpiry_steady {σ : State} (s : State) (hint : Nat) (hσ : Steady σ s) : Steady σ (Spdm.pskExpiry s hint) := by
  unfold Spdm.pskExpiry
  try dsimp only
  repeat' (first | with_reducible assumption | with_reducible apply Ops_modSec_steady | with_reducible apply Vote_decide_steady | (fail_if_no_progress with_reducible apply Steady.sameMk) | intro _)

theorem Spdm_vendor_steady {σ : State} (s : State) (code status : Nat) (b : Bytes) (hσ : Steady σ s) : Steady σ (Spdm.vendor s code status b).1 := by
  unfold Spdm.vendor
  try dsimp only
  repeat' (first | with_reducible assumption | with_reducible apply Ops_answer_steady | with_reducible apply Spdm_answer_steady)

theorem Spdm_kemKeyGet_steady {σ : State} (s : State) (nonce : BitVec 256) (hσ : Steady σ s) : Steady σ (Spdm.kemKeyGet s nonce).1 := by
  unfold Spdm.kemKeyGet
  try dsimp only
  repeat' (first | with_reducible assumption | with_reducible apply Spdm_after_steady | with_reducible apply Spdm_vendor_steady | with_reducible apply Digest_random_steady | with_reducible apply Ops_drawn_steady | with_reducible apply Digest_sign_steady | with_reducible apply Ops_modSec_steady | with_reducible apply Steady.ite | with_reducible apply Steady.iteFst | split | (fail_if_no_progress with_reducible apply Steady.sameMk) | intro _)

theorem Spdm_kemPsk_steady {σ : State} (s : State) (ct : Bytes) (hint : Nat) (hσ : Steady σ s) : Steady σ (Spdm.kemPsk s ct hint).1 := by
  unfold Spdm.kemPsk
  try dsimp only
  repeat' (first | with_reducible assumption | with_reducible apply Spdm_after_steady | with_reducible apply Spdm_vendor_steady | with_reducible apply Vote_decide_steady | with_reducible apply Ops_modSec_steady | with_reducible apply Steady.ite | with_reducible apply Steady.iteFst | split | (fail_if_no_progress with_reducible apply Steady.sameMk) | intro _)

theorem Spdm_jobKeySet_steady {σ : State} (s : State) (h : SpdmHead) (c : Nat) (digest : BitVec 512) (key : BitVec 256) (hσ : Steady σ s) : Steady σ (Spdm.jobKeySet s h c digest key).1 := by
  unfold Spdm.jobKeySet
  try dsimp only
  repeat' (first | with_reducible assumption | with_reducible apply Spdm_after_steady | with_reducible apply Spdm_vendor_steady | with_reducible apply Ops_modCtx_steady | with_reducible apply Steady.ite | with_reducible apply Steady.iteFst | split | (fail_if_no_progress with_reducible apply Steady.sameMk) | intro _)

theorem Spdm_jobKeyErase_steady {σ : State} (s : State) (h : SpdmHead) (c : Nat) (hσ : Steady σ s) : Steady σ (Spdm.jobKeyErase s h c).1 := by
  unfold Spdm.jobKeyErase
  try dsimp only
  repeat' (first | with_reducible assumption | with_reducible apply Spdm_after_steady | with_reducible apply Spdm_vendor_steady | with_reducible apply Ops_modCtx_steady | with_reducible apply Steady.ite | with_reducible apply Steady.iteFst | split | (fail_if_no_progress with_reducible apply Steady.sameMk) | intro _)

theorem Spdm_other_steady {σ : State} (s : State) (x : SpdmOther) (hσ : Steady σ s) : Steady σ (Spdm.other s x).1 := by
  unfold Spdm.other
  try dsimp only
  repeat' (first | with_reducible assumption | with_reducible apply Spdm_vendor_steady | with_reducible apply Spdm_after_steady | with_reducible apply Spdm_failed_steady | split | intro _)

theorem Spdm_flushHost_steady {σ : State} (s : State) (hσ : Steady σ s) : Steady σ (Spdm.flushHost s) := by
  unfold Spdm.flushHost
  try dsimp only
  repeat' (first | with_reducible assumption | with_reducible apply Report_logRec_steady | with_reducible apply Ops_modDex_steady | with_reducible apply Report_flushLog_steady | with_reducible apply Ops_fetch_steady | with_reducible apply Ops_flushHeld_steady | (with_reducible apply Steady.foldl <;> intros) | (with_reducible apply Steady.foldlFst <;> intros) | (fail_if_no_progress with_reducible apply Steady.sameMk) | intro _)

theorem Spdm_streamState_steady {σ : State} (s : State) (stream : Nat) (secure : Bool) (hσ : Steady σ s) : Steady σ (Spdm.streamState s stream secure) := by
  unfold Spdm.streamState
  try dsimp only
  repeat' (first | with_reducible assumption | with_reducible apply Ops_modHost_steady | with_reducible apply Spdm_flushHost_steady | with_reducible apply Report_fenceHost_steady | with_reducible apply Steady.ite | with_reducible apply Steady.iteFst | split | (fail_if_no_progress with_reducible apply Steady.sameMk) | intro _)

theorem Spdm_ideKm_steady {σ : State} (s : State) (h : SpdmHead) (stream : Nat) (m : IdeKm) (hσ : Steady σ s) : Steady σ (Spdm.ideKm s h stream m).1 := by
  unfold Spdm.ideKm
  try dsimp only
  repeat' (first | with_reducible assumption | with_reducible apply Spdm_inside_steady | with_reducible apply Spdm_failed_steady | with_reducible apply Ops_answer_steady | with_reducible apply Spdm_answer_steady | with_reducible apply Ops_modHost_steady | with_reducible apply Spdm_streamState_steady | with_reducible apply Steady.ite | with_reducible apply Steady.iteFst | split | (fail_if_no_progress with_reducible apply Steady.sameMk) | intro _)

theorem Spdm_execGetVersion_goes (s : State) : Goes s (Spdm.execGetVersion s) := by
  refine ⟨_, rfl, ?_⟩
  try dsimp only
  repeat' (first | with_reducible exact Steady.refl _ | with_reducible assumption | with_reducible apply Vote_next_steady | with_reducible apply RegMode_run_steady | with_reducible apply Spdm_run_steady | with_reducible apply Spdm_version_steady)

theorem Spdm_execGetCapabilities_goes (s : State) : Goes s (Spdm.execGetCapabilities s) := by
  refine ⟨_, rfl, ?_⟩
  try dsimp only
  repeat' (first | with_reducible exact Steady.refl _ | with_reducible assumption | with_reducible apply Vote_next_steady | with_reducible apply RegMode_run_steady | with_reducible apply Spdm_run_steady | with_reducible apply Spdm_capabilities_steady)

theorem Spdm_execNegotiateAlgorithms_goes (hash : SpdmReq Bool) (sig : Bool) (s : State) : Goes s (Spdm.execNegotiateAlgorithms hash sig s) := by
  refine ⟨_, rfl, ?_⟩
  try dsimp only
  repeat' (first | with_reducible exact Steady.refl _ | with_reducible assumption | with_reducible apply Vote_next_steady | with_reducible apply RegMode_run_steady | with_reducible apply Spdm_run_steady | with_reducible apply Spdm_algorithms_steady | intro _)

theorem Spdm_execGetDigests_goes (s : State) : Goes s (Spdm.execGetDigests s) := by
  refine ⟨_, rfl, ?_⟩
  try dsimp only
  repeat' (first | with_reducible exact Steady.refl _ | with_reducible assumption | with_reducible apply Vote_next_steady | with_reducible apply RegMode_run_steady | with_reducible apply Spdm_run_steady | with_reducible apply Spdm_digests_steady)

theorem Spdm_execGetCertificate_goes (slot : SpdmReq Nat) (off len : Nat) (s : State) : Goes s (Spdm.execGetCertificate slot off len s) := by
  refine ⟨_, rfl, ?_⟩
  try dsimp only
  repeat' (first | with_reducible exact Steady.refl _ | with_reducible assumption | with_reducible apply Vote_next_steady | with_reducible apply RegMode_run_steady | with_reducible apply Spdm_run_steady | with_reducible apply Spdm_certificate_steady | intro _)

theorem Spdm_execChallenge_goes (slot : SpdmReq Nat) (nonce : BitVec 256) (s : State) : Goes s (Spdm.execChallenge slot nonce s) := by
  refine ⟨_, rfl, ?_⟩
  try dsimp only
  repeat' (first | with_reducible exact Steady.refl _ | with_reducible assumption | with_reducible apply Vote_next_steady | with_reducible apply RegMode_run_steady | with_reducible apply Spdm_run_steady | with_reducible apply Spdm_challenge_steady | intro _)

theorem Spdm_execGetMeasurements_goes (index : SpdmReq Nat) (signed : Bool) (nonce : BitVec 256) (s : State) : Goes s (Spdm.execGetMeasurements index signed nonce s) := by
  refine ⟨_, rfl, ?_⟩
  try dsimp only
  repeat' (first | with_reducible exact Steady.refl _ | with_reducible assumption | with_reducible apply Vote_next_steady | with_reducible apply RegMode_run_steady | with_reducible apply Spdm_run_steady | with_reducible apply Spdm_measurements_steady | intro _)

theorem Spdm_execPskExchange_goes (hint : SpdmReq Nat) (s : State) : Goes s (Spdm.execPskExchange hint s) := by
  refine ⟨_, rfl, ?_⟩
  try dsimp only
  repeat' (first | with_reducible exact Steady.refl _ | with_reducible assumption | with_reducible apply Vote_next_steady | with_reducible apply RegMode_run_steady | with_reducible apply Spdm_run_steady | with_reducible apply Spdm_pskExchange_steady | intro _)

theorem Spdm_execPskFinish_goes (head : SpdmHead) (verifyOk : Bool) (s : State) : Goes s (Spdm.execPskFinish head verifyOk s) := by
  refine ⟨_, rfl, ?_⟩
  try dsimp only
  repeat' (first | with_reducible exact Steady.refl _ | with_reducible assumption | with_reducible apply Vote_next_steady | with_reducible apply RegMode_run_steady | with_reducible apply Spdm_run_steady | with_reducible apply Spdm_pskFinish_steady | intro _)

theorem Spdm_execHeartbeat_goes (head : SpdmHead) (s : State) : Goes s (Spdm.execHeartbeat head s) := by
  refine ⟨_, rfl, ?_⟩
  try dsimp only
  repeat' (first | with_reducible exact Steady.refl _ | with_reducible assumption | with_reducible apply Vote_next_steady | with_reducible apply RegMode_run_steady | with_reducible apply Spdm_run_steady | with_reducible apply Spdm_heartbeat_steady | intro _)

theorem Spdm_execKeyUpdate_goes (head : SpdmHead) (s : State) : Goes s (Spdm.execKeyUpdate head s) := by
  refine ⟨_, rfl, ?_⟩
  try dsimp only
  repeat' (first | with_reducible exact Steady.refl _ | with_reducible assumption | with_reducible apply Vote_next_steady | with_reducible apply RegMode_run_steady | with_reducible apply Spdm_run_steady | with_reducible apply Spdm_keyUpdate_steady | intro _)

theorem Spdm_execEndSession_goes (head : SpdmHead) (s : State) : Goes s (Spdm.execEndSession head s) := by
  refine ⟨_, rfl, ?_⟩
  try dsimp only
  repeat' (first | with_reducible exact Steady.refl _ | with_reducible assumption | with_reducible apply Vote_next_steady | with_reducible apply RegMode_run_steady | with_reducible apply Spdm_run_steady | with_reducible apply Spdm_endSession_steady | intro _)

theorem Spdm_execSpdmUnsupportedRequest_goes (x : SpdmOther) (s : State) : Goes s (Spdm.execSpdmUnsupportedRequest x s) := by
  refine ⟨_, rfl, ?_⟩
  try dsimp only
  repeat' (first | with_reducible exact Steady.refl _ | with_reducible assumption | with_reducible apply Vote_next_steady | with_reducible apply RegMode_run_steady | with_reducible apply Spdm_run_steady | with_reducible apply Spdm_other_steady | intro _)

theorem Spdm_execPskExpiry_goes (hint : Nat) (s : State) : Goes s (Spdm.execPskExpiry hint s) := by
  refine ⟨_, rfl, ?_⟩
  try dsimp only
  repeat' (first | with_reducible exact Steady.refl _ | with_reducible assumption | with_reducible apply Vote_next_steady | with_reducible apply Spdm_pskExpiry_steady)

theorem Spdm_execKemKeyGet_goes (nonce : SpdmReq (BitVec 256)) (s : State) : Goes s (Spdm.execKemKeyGet nonce s) := by
  refine ⟨_, rfl, ?_⟩
  try dsimp only
  repeat' (first | with_reducible exact Steady.refl _ | with_reducible assumption | with_reducible apply Vote_next_steady | with_reducible apply RegMode_run_steady | with_reducible apply Spdm_run_steady | with_reducible apply Spdm_kemKeyGet_steady | intro _)

theorem Spdm_execKemPsk_goes (ct : SpdmReq Bytes) (hint : Nat) (s : State) : Goes s (Spdm.execKemPsk ct hint s) := by
  refine ⟨_, rfl, ?_⟩
  try dsimp only
  repeat' (first | with_reducible exact Steady.refl _ | with_reducible assumption | with_reducible apply Vote_next_steady | with_reducible apply RegMode_run_steady | with_reducible apply Spdm_run_steady | with_reducible apply Spdm_kemPsk_steady | intro _)

theorem Spdm_execJobKeySet_goes (head : SpdmHead) (ctx : Nat) (digest : BitVec 512) (key : BitVec 256) (s : State) : Goes s (Spdm.execJobKeySet head ctx digest key s) := by
  refine ⟨_, rfl, ?_⟩
  try dsimp only
  repeat' (first | with_reducible exact Steady.refl _ | with_reducible assumption | with_reducible apply Vote_next_steady | with_reducible apply RegMode_run_steady | with_reducible apply Spdm_run_steady | with_reducible apply Spdm_jobKeySet_steady | intro _)

theorem Spdm_execJobKeyErase_goes (head : SpdmHead) (ctx : Nat) (s : State) : Goes s (Spdm.execJobKeyErase head ctx s) := by
  refine ⟨_, rfl, ?_⟩
  try dsimp only
  repeat' (first | with_reducible exact Steady.refl _ | with_reducible assumption | with_reducible apply Vote_next_steady | with_reducible apply RegMode_run_steady | with_reducible apply Spdm_run_steady | with_reducible apply Spdm_jobKeyErase_steady | intro _)

theorem Spdm_execIdeStateChange_goes (stream : Nat) (secure : Bool) (s : State) : Goes s (Spdm.execIdeStateChange stream secure s) := by
  refine ⟨_, rfl, ?_⟩
  try dsimp only
  repeat' (first | with_reducible exact Steady.refl _ | with_reducible assumption | with_reducible apply Vote_next_steady | with_reducible apply Spdm_streamState_steady | with_reducible apply Steady.ite | with_reducible apply Steady.iteFst | split)

theorem Spdm_execIdeKmMessage_goes (head : SpdmHead) (stream : Nat) (m : IdeKm) (s : State) : Goes s (Spdm.execIdeKmMessage head stream m s) := by
  refine ⟨_, rfl, ?_⟩
  try dsimp only
  repeat' (first | with_reducible exact Steady.refl _ | with_reducible assumption | with_reducible apply Vote_next_steady | with_reducible apply RegMode_run_steady | with_reducible apply Spdm_run_steady | with_reducible apply Spdm_ideKm_steady | intro _)

end

/-! ## Machine/HostLink.lean -/

section

open Machine.Bits Machine.Ops Machine.Report
open Machine.Bits Machine.Ops Machine.Report
open Machine.HostLink

theorem HostLink_hostReset_steady {σ : State} (s : State) (hσ : Steady σ s) : Steady σ (HostLink.hostReset s) := by
  unfold HostLink.hostReset
  try dsimp only
  repeat' (first | with_reducible assumption | with_reducible apply Report_trigger_steady | with_reducible apply HostDesc_trigger_steady)

theorem HostLink_overLink_steady {σ : State} (s : State) (hσ : Steady σ s) : Steady σ (HostLink.overLink s) := by
  unfold HostLink.overLink
  try dsimp only
  repeat' (first | with_reducible assumption | with_reducible apply HostLink_hostReset_steady | with_reducible apply Steady.ite | with_reducible apply Steady.iteFst | split)

theorem HostLink_perstAssert_steady {σ : State} (s : State) (hσ : Steady σ s) : Steady σ (HostLink.perstAssert s) := by
  unfold HostLink.perstAssert
  try dsimp only
  repeat' (first | with_reducible assumption | with_reducible apply Ops_modPower_steady | with_reducible apply HostLink_hostReset_steady | with_reducible apply Steady.ite | with_reducible apply Steady.iteFst | split | (fail_if_no_progress with_reducible apply Steady.sameMk) | intro _)

theorem HostLink_linkUp_steady {σ : State} (s : State) (hσ : Steady σ s) : Steady σ (HostLink.linkUp s) := by
  unfold HostLink.linkUp
  try dsimp only
  repeat' (first | with_reducible assumption | with_reducible apply Ops_modHost_steady | with_reducible apply Spdm_flushHost_steady | with_reducible apply Steady.ite | with_reducible apply Steady.iteFst | split | (fail_if_no_progress with_reducible apply Steady.sameMk) | intro _)

theorem HostLink_linkDown_steady {σ : State} (s : State) (hσ : Steady σ s) : Steady σ (HostLink.linkDown s) := by
  unfold HostLink.linkDown
  try dsimp only
  repeat' (first | with_reducible assumption | with_reducible apply Ops_modCkpt_steady | with_reducible apply Ops_modHost_steady | with_reducible apply HostLink_linkUp_steady | with_reducible apply Swaps_rest_steady | split | (fail_if_no_progress with_reducible apply Steady.sameMk) | intro _)

theorem HostLink_execPerstAssert_goes (s : State) : Goes s (HostLink.execPerstAssert s) := by
  refine ⟨_, rfl, ?_⟩
  try dsimp only
  repeat' (first | with_reducible exact Steady.refl _ | with_reducible assumption | with_reducible apply Vote_next_steady | with_reducible apply HostLink_perstAssert_steady)

theorem HostLink_execPerstDeassert_goes (s : State) : Goes s (HostLink.execPerstDeassert s) := by
  refine ⟨_, rfl, ?_⟩
  try dsimp only
  repeat' (first | with_reducible exact Steady.refl _ | with_reducible assumption | with_reducible apply Vote_next_steady | with_reducible apply Ops_modPower_steady | (fail_if_no_progress with_reducible apply Steady.sameMk) | intro _)

theorem HostLink_execFunctionLevelReset_goes (s : State) : Goes s (HostLink.execFunctionLevelReset s) := by
  refine ⟨_, rfl, ?_⟩
  try dsimp only
  repeat' (first | with_reducible exact Steady.refl _ | with_reducible assumption | with_reducible apply Vote_next_steady | with_reducible apply HostLink_overLink_steady)

theorem HostLink_execHotReset_goes (s : State) : Goes s (HostLink.execHotReset s) := by
  refine ⟨_, rfl, ?_⟩
  try dsimp only
  repeat' (first | with_reducible exact Steady.refl _ | with_reducible assumption | with_reducible apply Vote_next_steady | with_reducible apply HostLink_overLink_steady)

theorem HostLink_execLinkDisable_goes (s : State) : Goes s (HostLink.execLinkDisable s) := by
  refine ⟨_, rfl, ?_⟩
  try dsimp only
  repeat' (first | with_reducible exact Steady.refl _ | with_reducible assumption | with_reducible apply Vote_next_steady | with_reducible apply HostLink_overLink_steady)

theorem HostLink_execD3hotToD0_goes (s : State) : Goes s (HostLink.execD3hotToD0 s) := by
  refine ⟨_, rfl, ?_⟩
  try dsimp only
  repeat' (first | with_reducible exact Steady.refl _ | with_reducible assumption | with_reducible apply Vote_next_steady | with_reducible apply HostLink_overLink_steady)

theorem HostLink_execHostLinkDown_goes (s : State) : Goes s (HostLink.execHostLinkDown s) := by
  refine ⟨_, rfl, ?_⟩
  try dsimp only
  repeat' (first | with_reducible exact Steady.refl _ | with_reducible assumption | with_reducible apply Vote_next_steady | with_reducible apply HostLink_linkDown_steady)

theorem HostLink_execHostLinkUp_goes (s : State) : Goes s (HostLink.execHostLinkUp s) := by
  refine ⟨_, rfl, ?_⟩
  try dsimp only
  repeat' (first | with_reducible exact Steady.refl _ | with_reducible assumption | with_reducible apply Vote_next_steady | with_reducible apply HostLink_linkUp_steady)

end

/-! ## Machine/Powering.lean -/

section

open Machine.Bits Machine.Ops Machine.Report
open Machine.Bits Machine.Ops Machine.Report
open Machine.Powering

theorem Powering_powerLoss_steady {a : State} (s : State) (h : Steady a s) : Steady a (Powering.powerLoss s) :=
  Steady.anew h (w := { since := s.dex.powered }) ⟨rfl, rfl⟩ rfl


theorem Powering_inputValid_steady {σ : State} (s : State) (hσ : Steady σ s) : Steady σ (Powering.inputValid s) := by
  unfold Powering.inputValid
  try dsimp only
  repeat' (first | with_reducible assumption | with_reducible apply Ops_modPower_steady | with_reducible apply Steady.ite | with_reducible apply Steady.iteFst | split | (fail_if_no_progress with_reducible apply Steady.sameMk) | intro _)

theorem Powering_inputLoss_steady {σ : State} (s : State) (hσ : Steady σ s) : Steady σ (Powering.inputLoss s) := by
  unfold Powering.inputLoss
  try dsimp only
  repeat' (first | with_reducible assumption | with_reducible apply Ops_modPower_steady | with_reducible apply Powering_powerLoss_steady | (fail_if_no_progress with_reducible apply Steady.sameMk) | intro _)

theorem Powering_overvoltage_steady {σ : State} (s : State) (hσ : Steady σ s) : Steady σ (Powering.overvoltage s) := by
  unfold Powering.overvoltage
  try dsimp only
  repeat' (first | with_reducible assumption | with_reducible apply Powering_powerLoss_steady | with_reducible apply Ops_modPower_steady | (fail_if_no_progress with_reducible apply Steady.sameMk) | intro _)

theorem Powering_overRelease_steady {σ : State} (s : State) (hσ : Steady σ s) : Steady σ (Powering.overRelease s) := by
  unfold Powering.overRelease
  try dsimp only
  repeat' (first | with_reducible assumption | with_reducible apply Ops_modPower_steady | (fail_if_no_progress with_reducible apply Steady.sameMk) | intro _)

theorem Powering_presenceBreak_steady {σ : State} (s : State) (hσ : Steady σ s) : Steady σ (Powering.presenceBreak s) := by
  unfold Powering.presenceBreak
  try dsimp only
  repeat' (first | with_reducible assumption | with_reducible apply Ops_modPower_steady | with_reducible apply Powering_powerLoss_steady | with_reducible apply Steady.ite | with_reducible apply Steady.iteFst | split | (fail_if_no_progress with_reducible apply Steady.sameMk) | intro _)

theorem Powering_excursion_steady {σ : State} (s : State) (mv us : Nat) (hσ : Steady σ s) : Steady σ (Powering.excursion s mv us) := by
  unfold Powering.excursion
  try dsimp only
  repeat' (first | with_reducible assumption | with_reducible apply Vote_decide_steady | with_reducible apply Report_raise_steady | with_reducible apply Ops_modPower_steady | with_reducible apply Steady.ite | with_reducible apply Steady.iteFst | split | (fail_if_no_progress with_reducible apply Steady.sameMk) | intro _)

theorem Powering_breakerTrip_steady {σ : State} (s : State) (mv : Nat) (hσ : Steady σ s) : Steady σ (Powering.breakerTrip s mv) := by
  unfold Powering.breakerTrip
  try dsimp only
  repeat' (first | with_reducible assumption | with_reducible apply Router_again_steady | with_reducible apply Vote_decide_steady | with_reducible apply RemoteOps_fill_steady | with_reducible apply Slots_fill_steady | with_reducible apply Report_addEvent_steady | with_reducible apply Report_record_steady | with_reducible apply Report_notify_steady | with_reducible apply Ops_modPower_steady | with_reducible apply Report_declareFailed_steady | with_reducible apply Report_railsOff_steady | with_reducible apply ResetOps_coldCycle_steady | with_reducible apply Steady.ite | with_reducible apply Steady.iteFst | split | (fail_if_no_progress with_reducible apply Steady.sameMk) | intro _)

theorem Powering_enableRails_steady {σ : State} (s : State) (hσ : Steady σ s) : Steady σ (Powering.enableRails s) := by
  unfold Powering.enableRails
  try dsimp only
  repeat' (first | with_reducible assumption | with_reducible apply Report_notify_steady | with_reducible apply Report_packageReset_steady)

theorem Powering_boot_steady {σ : State} (s : State) (firmwareOk pufOk : Bool) (hσ : Steady σ s) : Steady σ (Powering.boot s firmwareOk pufOk) := by
  unfold Powering.boot
  try dsimp only
  repeat' (first | with_reducible assumption | with_reducible apply Report_enterState_steady | with_reducible apply Spdm_failed_steady | with_reducible apply Sensors_update_steady | with_reducible apply Powering_enableRails_steady | with_reducible apply Steady.ite | with_reducible apply Steady.iteFst | split)

theorem Powering_railTimeout_steady {σ : State} (s : State) (rail mv : Nat) (hσ : Steady σ s) : Steady σ (Powering.railTimeout s rail mv) := by
  unfold Powering.railTimeout
  try dsimp only
  repeat' (first | with_reducible assumption | with_reducible apply ResetOps_coldCycle_steady | with_reducible apply Report_raise_steady | with_reducible apply Ops_modPower_steady | with_reducible apply Steady.ite | with_reducible apply Steady.iteFst | split | (fail_if_no_progress with_reducible apply Steady.sameMk) | intro _)

theorem Powering_toPhase_steady {σ : State} (s : State) (n : Nat) (hσ : Steady σ s) : Steady σ (Powering.toPhase s n) := by
  unfold Powering.toPhase
  try dsimp only
  repeat' (first | with_reducible assumption | with_reducible apply Ops_modDex_steady | (fail_if_no_progress with_reducible apply Steady.sameMk) | intro _)

theorem Powering_runStaged_steady {σ : State} (s : State) (types : List Nat) (hσ : Steady σ s) : Steady σ (Powering.runStaged s types) := by
  unfold Powering.runStaged
  try dsimp only
  repeat' (first | with_reducible assumption | with_reducible apply Ops_modSec_steady | with_reducible apply Tracker_take_steady | (with_reducible apply Steady.foldl <;> intros) | (with_reducible apply Steady.foldlFst <;> intros) | (fail_if_no_progress with_reducible apply Steady.sameMk) | intro _)

theorem Powering_phase1_steady {σ : State} (s : State) (r : PhaseResult) (hσ : Steady σ s) : Steady σ (Powering.phase1 s r) := by
  unfold Powering.phase1
  try dsimp only
  repeat' (first | with_reducible assumption | with_reducible apply Report_declareFailed_steady | with_reducible apply Powering_toPhase_steady | with_reducible apply Sensors_update_steady | with_reducible apply Ops_modPower_steady | with_reducible apply Powering_runStaged_steady | with_reducible apply Steady.ite | with_reducible apply Steady.iteFst | split | (fail_if_no_progress with_reducible apply Steady.sameMk) | intro _)

theorem Powering_phase2_steady {σ : State} (s : State) (hσ : Steady σ s) : Steady σ (Powering.phase2 s) := by
  unfold Powering.phase2
  try dsimp only
  repeat' (first | with_reducible assumption | with_reducible apply Weevils_applyDecided_steady | with_reducible apply Weevils_strikes_steady | with_reducible apply Report_declareFailed_steady | with_reducible apply Powering_toPhase_steady | with_reducible apply Sensors_update_steady | with_reducible apply Steady.ite | with_reducible apply Steady.iteFst | split | intro _)

theorem Powering_phase3_steady {σ : State} (s : State) (lost : List Nat) (hσ : Steady σ s) : Steady σ (Powering.phase3 s lost) := by
  unfold Powering.phase3
  try dsimp only
  repeat' (first | with_reducible assumption | with_reducible apply Mem_loseChannel_steady | with_reducible apply Report_declareFailed_steady | with_reducible apply Powering_toPhase_steady | with_reducible apply Steady.ite | with_reducible apply Steady.iteFst | split | (with_reducible apply Steady.foldl <;> intros) | (with_reducible apply Steady.foldlFst <;> intros) | intro _)

theorem Powering_phase4_steady {σ : State} (s : State) (hσ : Steady σ s) : Steady σ (Powering.phase4 s) := by
  unfold Powering.phase4
  try dsimp only
  repeat' (first | with_reducible assumption | with_reducible apply Report_declareFailed_steady | with_reducible apply Powering_toPhase_steady | with_reducible apply Powering_runStaged_steady | with_reducible apply Steady.ite | with_reducible apply Steady.iteFst | split)

theorem Powering_keepUnreplaceable_steady {σ : State} (s : State) (hσ : Steady σ s) : Steady σ (Powering.keepUnreplaceable s) := by
  unfold Powering.keepUnreplaceable
  try dsimp only
  repeat' (first | with_reducible assumption | with_reducible apply Ops_modDex_steady | with_reducible apply Swaps_unreplaceable_steady | (fail_if_no_progress with_reducible apply Steady.sameMk) | intro _)

theorem Powering_phase5_steady {σ : State} (s : State) (failed : List (Nat × TestResult)) (hσ : Steady σ s) : Steady σ (Powering.phase5 s failed) := by
  unfold Powering.phase5
  try dsimp only
  repeat' (first | with_reducible assumption | (intro w; exact ⟨w.1, w.2⟩) | (intro w; unfold Mem.wf at w ⊢; exact w) | with_reducible apply Ops_modWeevil_steady | with_reducible apply Vote_decide_steady | with_reducible apply Weevils_failTest_steady | with_reducible apply Powering_toPhase_steady | with_reducible apply Powering_keepUnreplaceable_steady | with_reducible apply Steady.ite | with_reducible apply Steady.iteFst | split | (with_reducible apply Steady.foldl <;> intros) | (with_reducible apply Steady.foldlFst <;> intros) | (fail_if_no_progress with_reducible apply Steady.sameMk) | intro _)

theorem Powering_phase6_steady {σ : State} (s : State) (hσ : Steady σ s) : Steady σ (Powering.phase6 s) := by
  unfold Powering.phase6
  try dsimp only
  repeat' (first | with_reducible assumption | with_reducible apply Ops_modSec_steady | with_reducible apply Powering_toPhase_steady | with_reducible apply Link_train_steady | (with_reducible apply Steady.foldl <;> intros) | (with_reducible apply Steady.foldlFst <;> intros) | (fail_if_no_progress with_reducible apply Steady.sameMk) | intro _)

theorem Powering_phaseEnd_steady {σ : State} (s : State) (n : Nat) (r : PhaseResult) (hσ : Steady σ s) : Steady σ (Powering.phaseEnd s n r) := by
  unfold Powering.phaseEnd
  try dsimp only
  repeat' (first | with_reducible assumption | with_reducible apply ResetOps_coldCycle_steady | with_reducible apply Powering_phase1_steady | with_reducible apply Powering_phase2_steady | with_reducible apply Powering_phase3_steady | with_reducible apply Powering_phase4_steady | with_reducible apply Report_declareFailed_steady | with_reducible apply Powering_phase5_steady | with_reducible apply Powering_phase6_steady | with_reducible apply Powering_toPhase_steady | with_reducible apply Steady.ite | with_reducible apply Steady.iteFst | split)

theorem Powering_timeEnd_steady {σ : State} (s : State) (hσ : Steady σ s) : Steady σ (Powering.timeEnd s) := by
  unfold Powering.timeEnd
  try dsimp only
  repeat' (first | with_reducible assumption | (intro w; exact ⟨w.1, w.2⟩) | (intro w; unfold Mem.wf at w ⊢; exact w) | with_reducible apply Vote_decide_steady | with_reducible apply Ops_modGov_steady | with_reducible apply Report_enterState_steady | with_reducible apply Ops_modDex_steady | with_reducible apply ResetOps_coldCycle_steady | with_reducible apply Steady.ite | with_reducible apply Steady.iteFst | split | (fail_if_no_progress with_reducible apply Steady.sameMk) | intro _)

theorem Powering_startRemoval_steady {σ : State} (s : State) (r : Removal) (hσ : Steady σ s) : Steady σ (Powering.startRemoval s r) := by
  unfold Powering.startRemoval
  try dsimp only
  repeat' (first | with_reducible assumption | with_reducible apply Report_enterState_steady | with_reducible apply Ops_modDex_steady | with_reducible apply Report_fence_steady | with_reducible apply Spdm_failed_steady | with_reducible apply Steady.ite | with_reducible apply Steady.iteFst | split | (fail_if_no_progress with_reducible apply Steady.sameMk) | intro _)

theorem Powering_request_steady {σ : State} (s : State) (force : Bool) (wait : Nat) (hσ : Steady σ s) : Steady σ (Powering.request s force wait) := by
  unfold Powering.request
  try dsimp only
  repeat' (first | with_reducible assumption | with_reducible apply FlagCtl_wait_steady | with_reducible apply Report_notify_steady | with_reducible apply Ops_modDex_steady | with_reducible apply Powering_startRemoval_steady | with_reducible apply Steady.ite | with_reducible apply Steady.iteFst | split | (fail_if_no_progress with_reducible apply Steady.sameMk) | intro _)

theorem Powering_removalStart_steady {σ : State} (s : State) (hσ : Steady σ s) : Steady σ (Powering.removalStart s) := by
  unfold Powering.removalStart
  try dsimp only
  repeat' (first | with_reducible assumption | with_reducible apply Powering_startRemoval_steady | with_reducible apply Steady.ite | with_reducible apply Steady.iteFst | split)

theorem Powering_waitExpiry_steady {σ : State} (s : State) (hσ : Steady σ s) : Steady σ (Powering.waitExpiry s) := by
  unfold Powering.waitExpiry
  try dsimp only
  repeat' (first | with_reducible assumption | with_reducible apply FlagCtl_wait_steady | with_reducible apply Vote_decide_steady | with_reducible apply Powering_startRemoval_steady | with_reducible apply Steady.ite | with_reducible apply Steady.iteFst | split | (fail_if_no_progress with_reducible apply Steady.sameMk))

theorem Powering_nextStep_steady {σ : State} (s : State) (n : Nat) (hσ : Steady σ s) : Steady σ (Powering.nextStep s n) := by
  unfold Powering.nextStep
  try dsimp only
  repeat' (first | with_reducible assumption | with_reducible apply Ops_modDex_steady | (fail_if_no_progress with_reducible apply Steady.sameMk) | intro _)

theorem Powering_removalStep_steady {σ : State} (s : State) (hσ : Steady σ s) : Steady σ (Powering.removalStep s) := by
  unfold Powering.removalStep
  try dsimp only
  repeat' (first | with_reducible assumption | with_reducible apply Powering_nextStep_steady | with_reducible apply HostLink_linkDown_steady | with_reducible apply ResetOps_announceDown_steady | with_reducible apply Ops_modDex_steady | with_reducible apply Ops_modPower_steady | with_reducible apply Report_railsOff_steady | with_reducible apply Steady.ite | with_reducible apply Steady.iteFst | split | (fail_if_no_progress with_reducible apply Steady.sameMk) | intro _)

theorem Powering_safe_steady {σ : State} (s : State) (hσ : Steady σ s) : Steady σ (Powering.safe s) := by
  unfold Powering.safe
  try dsimp only
  repeat' (first | with_reducible assumption | with_reducible apply Ops_modDex_steady | with_reducible apply Ops_modPower_steady | with_reducible apply Spdm_failed_steady | with_reducible apply Report_declareFailed_steady | with_reducible apply Report_enterState_steady | with_reducible apply Steady.ite | with_reducible apply Steady.iteFst | split | (fail_if_no_progress with_reducible apply Steady.sameMk) | intro _)

theorem Powering_execInputValid_goes (s : State) : Goes s (Powering.execInputValid s) := by
  refine ⟨_, rfl, ?_⟩
  try dsimp only
  repeat' (first | with_reducible exact Steady.refl _ | with_reducible assumption | with_reducible apply Vote_next_steady | with_reducible apply Powering_inputValid_steady)

theorem Powering_execDexhornBoot_goes (firmwareOk pufOk : Bool) (s : State) : Goes s (Powering.execDexhornBoot firmwareOk pufOk s) := by
  refine ⟨_, rfl, ?_⟩
  try dsimp only
  repeat' (first | with_reducible exact Steady.refl _ | with_reducible assumption | with_reducible apply Vote_next_steady | with_reducible apply Powering_boot_steady)

theorem Powering_execUndervoltageLockout_goes (s : State) : Goes s (Powering.execUndervoltageLockout s) := by
  refine ⟨_, rfl, ?_⟩
  try dsimp only
  repeat' (first | with_reducible exact Steady.refl _ | with_reducible assumption | with_reducible apply Vote_next_steady | with_reducible apply Powering_powerLoss_steady)

theorem Powering_execOvervoltageLockout_goes (s : State) : Goes s (Powering.execOvervoltageLockout s) := by
  refine ⟨_, rfl, ?_⟩
  try dsimp only
  repeat' (first | with_reducible exact Steady.refl _ | with_reducible assumption | with_reducible apply Vote_next_steady | with_reducible apply Powering_overvoltage_steady)

theorem Powering_execOvervoltageRelease_goes (s : State) : Goes s (Powering.execOvervoltageRelease s) := by
  refine ⟨_, rfl, ?_⟩
  try dsimp only
  repeat' (first | with_reducible exact Steady.refl _ | with_reducible assumption | with_reducible apply Vote_next_steady | with_reducible apply Powering_overRelease_steady)

theorem Powering_execInputExcursion_goes (mv us : Nat) (s : State) : Goes s (Powering.execInputExcursion mv us s) := by
  refine ⟨_, rfl, ?_⟩
  try dsimp only
  repeat' (first | with_reducible exact Steady.refl _ | with_reducible assumption | with_reducible apply Vote_next_steady | with_reducible apply Powering_excursion_steady)

theorem Powering_execBreakerTrip_goes (mv : Nat) (s : State) : Goes s (Powering.execBreakerTrip mv s) := by
  refine ⟨_, rfl, ?_⟩
  try dsimp only
  repeat' (first | with_reducible exact Steady.refl _ | with_reducible assumption | with_reducible apply Vote_next_steady | with_reducible apply Powering_breakerTrip_steady)

theorem Powering_execInputLoss_goes (s : State) : Goes s (Powering.execInputLoss s) := by
  refine ⟨_, rfl, ?_⟩
  try dsimp only
  repeat' (first | with_reducible exact Steady.refl _ | with_reducible assumption | with_reducible apply Vote_next_steady | with_reducible apply Powering_inputLoss_steady)

theorem Powering_execPresenceBreak_goes (s : State) : Goes s (Powering.execPresenceBreak s) := by
  refine ⟨_, rfl, ?_⟩
  try dsimp only
  repeat' (first | with_reducible exact Steady.refl _ | with_reducible assumption | with_reducible apply Vote_next_steady | with_reducible apply Powering_presenceBreak_steady)

theorem Powering_execRailRegulationTimeout_goes (rail mv : Nat) (s : State) : Goes s (Powering.execRailRegulationTimeout rail mv s) := by
  refine ⟨_, rfl, ?_⟩
  try dsimp only
  repeat' (first | with_reducible exact Steady.refl _ | with_reducible assumption | with_reducible apply Vote_next_steady | with_reducible apply Powering_railTimeout_steady)

theorem Powering_execBringupPhaseEnd_goes (phase : Nat) (r : PhaseResult) (s : State) : Goes s (Powering.execBringupPhaseEnd phase r s) := by
  refine ⟨_, rfl, ?_⟩
  try dsimp only
  repeat' (first | with_reducible exact Steady.refl _ | with_reducible assumption | with_reducible apply Vote_next_steady | with_reducible apply Powering_phaseEnd_steady)

theorem Powering_execTimePhaseEnd_goes (s : State) : Goes s (Powering.execTimePhaseEnd s) := by
  refine ⟨_, rfl, ?_⟩
  try dsimp only
  repeat' (first | with_reducible exact Steady.refl _ | with_reducible assumption | with_reducible apply Vote_next_steady | with_reducible apply Powering_timeEnd_steady)

theorem Powering_execModAttn_goes (s : State) : Goes s (Powering.execModAttn s) := by
  refine ⟨_, rfl, ?_⟩
  try dsimp only
  repeat' (first | with_reducible exact Steady.refl _ | with_reducible assumption | with_reducible apply Vote_next_steady | with_reducible apply Powering_request_steady)

theorem Powering_execRemovalStart_goes (s : State) : Goes s (Powering.execRemovalStart s) := by
  refine ⟨_, rfl, ?_⟩
  try dsimp only
  repeat' (first | with_reducible exact Steady.refl _ | with_reducible assumption | with_reducible apply Vote_next_steady | with_reducible apply Powering_removalStart_steady)

theorem Powering_execRemoveWaitExpiry_goes (s : State) : Goes s (Powering.execRemoveWaitExpiry s) := by
  refine ⟨_, rfl, ?_⟩
  try dsimp only
  repeat' (first | with_reducible exact Steady.refl _ | with_reducible assumption | with_reducible apply Vote_next_steady | with_reducible apply Powering_waitExpiry_steady)

theorem Powering_execSafeReached_goes (s : State) : Goes s (Powering.execSafeReached s) := by
  refine ⟨_, rfl, ?_⟩
  try dsimp only
  repeat' (first | with_reducible exact Steady.refl _ | with_reducible assumption | with_reducible apply Vote_next_steady | with_reducible apply Powering_safe_steady)

end

/-! ## Machine/Mgmt.lean -/

section

open Machine.Bits Machine.Ops Machine.Report
open Machine.Bits Machine.Ops Machine.Report
open Machine.Mgmt

theorem Mgmt_take_steady {σ : State} (s : State) (hσ : Steady σ s) : Steady σ (Mgmt.take s) := by
  unfold Mgmt.take
  try dsimp only
  repeat' (first | with_reducible assumption | with_reducible apply Ops_modDex_steady | with_reducible apply Ops_drawn_steady | (fail_if_no_progress with_reducible apply Steady.sameMk) | intro _)

theorem Mgmt_respond_steady {σ : State} (s : State) (m : MgmtHead) (x : Option Session) (command code : Nat) (b : Bytes) (hσ : Steady σ s) : Steady σ (Mgmt.respond s m x command code b) := by
  unfold Mgmt.respond
  try dsimp only
  repeat' (first | with_reducible assumption | with_reducible apply Spdm_reply_steady)

theorem Mgmt_run_steady {σ : State} (s : State) (m : MgmtHead) (command : Nat) (f : State → State × Nat × Bytes) (hσ : Steady σ s) (k_f : ∀ v0, Steady σ v0 → Steady σ (f v0).1) : Steady σ (Mgmt.run s m command f) := by
  unfold Mgmt.run
  try dsimp only
  repeat' (first | with_reducible assumption | apply k_f | with_reducible apply Mgmt_respond_steady | with_reducible apply Tracker_take_steady | with_reducible apply Mgmt_take_steady | with_reducible apply Steady.ite | with_reducible apply Steady.iteFst | split)

theorem Mgmt_runS_steady {σ : State} (s : State) (m : MgmtHead) (command : Nat) (f : State → State × Nat × Bytes) (hσ : Steady σ s) (k_f : ∀ v0, Steady σ v0 → Steady σ (f v0).1) : Steady σ (Mgmt.runS s m command f) := by
  unfold Mgmt.runS
  try dsimp only
  repeat' (first | with_reducible assumption | apply k_f | with_reducible apply Mgmt_respond_steady | with_reducible apply RegMode_run_steady | with_reducible apply Spdm_run_steady | with_reducible apply Mgmt_run_steady | with_reducible apply Steady.ite | with_reducible apply Steady.iteFst | split)

theorem Mgmt_done_steady {σ : State} (s : State) (hσ : Steady σ s) : Steady σ (Mgmt.done s).1 := by
  unfold Mgmt.done
  try dsimp only
  repeat' (first | with_reducible assumption)

theorem Mgmt_refuse_steady {σ : State} (s : State) (code : Nat) (hσ : Steady σ s) : Steady σ (Mgmt.refuse s code).1 := by
  unfold Mgmt.refuse
  try dsimp only
  repeat' (first | with_reducible assumption)

theorem Mgmt_records_steady {σ : State} (s : State) (i : Nat) (hσ : Steady σ s) : Steady σ (Mgmt.records s i).1 := by
  unfold Mgmt.records
  try dsimp only
  repeat' (first | with_reducible assumption | with_reducible apply Issue_refuse_steady | with_reducible apply Link_refuse_steady | with_reducible apply Mgmt_refuse_steady | with_reducible apply Steady.ite | with_reducible apply Steady.iteFst | split | (fail_if_no_progress with_reducible apply Steady.sameMk))

theorem Mgmt_powerOn_steady {σ : State} (s : State) (hσ : Steady σ s) : Steady σ (Mgmt.powerOn s).1 := by
  unfold Mgmt.powerOn
  try dsimp only
  repeat' (first | with_reducible assumption | with_reducible apply Powering_safe_steady | with_reducible apply Mgmt_done_steady | with_reducible apply Powering_enableRails_steady | with_reducible apply Issue_refuse_steady | with_reducible apply Link_refuse_steady | with_reducible apply Mgmt_refuse_steady | with_reducible apply Steady.ite | with_reducible apply Steady.iteFst | split)

theorem Mgmt_reset_steady {σ : State} (s : State) (hσ : Steady σ s) : Steady σ (Mgmt.reset s).1 := by
  unfold Mgmt.reset
  try dsimp only
  repeat' (first | with_reducible assumption | with_reducible apply Mgmt_done_steady | with_reducible apply Report_trigger_steady | with_reducible apply HostDesc_trigger_steady | with_reducible apply Issue_refuse_steady | with_reducible apply Link_refuse_steady | with_reducible apply Mgmt_refuse_steady | with_reducible apply Steady.ite | with_reducible apply Steady.iteFst | split)

theorem Mgmt_coldCycle_steady {σ : State} (s : State) (hσ : Steady σ s) : Steady σ (Mgmt.coldCycle s).1 := by
  unfold Mgmt.coldCycle
  try dsimp only
  repeat' (first | with_reducible assumption | with_reducible apply Mgmt_done_steady | with_reducible apply ResetOps_coldCycle_steady | with_reducible apply Issue_refuse_steady | with_reducible apply Link_refuse_steady | with_reducible apply Mgmt_refuse_steady | with_reducible apply Steady.ite | with_reducible apply Steady.iteFst | split)

theorem Mgmt_autostart_steady {σ : State} (s : State) (v : Nat) (hσ : Steady σ s) : Steady σ (Mgmt.autostart s v).1 := by
  unfold Mgmt.autostart
  try dsimp only
  repeat' (first | with_reducible assumption | with_reducible apply Issue_refuse_steady | with_reducible apply Link_refuse_steady | with_reducible apply Mgmt_refuse_steady | with_reducible apply Mgmt_done_steady | with_reducible apply Ops_modDex_steady | with_reducible apply Steady.ite | with_reducible apply Steady.iteFst | split | (fail_if_no_progress with_reducible apply Steady.sameMk) | intro _)

theorem Mgmt_portDown_steady {σ : State} (s : State) (p : Nat) (hσ : Steady σ s) : Steady σ (Mgmt.portDown s p) := by
  unfold Mgmt.portDown
  try dsimp only
  repeat' (first | with_reducible assumption | with_reducible apply Link_down_steady | with_reducible apply Ops_modPort_steady | with_reducible apply Steady.ite | with_reducible apply Steady.iteFst | split | intro _)

theorem Mgmt_install_steady {σ : State} (s : State) (p : Plan) (hσ : Steady σ s) : Steady σ (Mgmt.install s p) := by
  unfold Mgmt.install
  try dsimp only
  repeat' (first | with_reducible assumption | with_reducible apply Mgmt_portDown_steady | with_reducible apply Ops_modDex_steady | with_reducible apply Link_train_steady | with_reducible apply Steady.ite | with_reducible apply Steady.iteFst | split | (with_reducible apply Steady.foldl <;> intros) | (with_reducible apply Steady.foldlFst <;> intros) | (fail_if_no_progress with_reducible apply Steady.sameMk) | intro _)

theorem Mgmt_loadPlan_steady {σ : State} (s : State) (x : PlanPart) (digestOk : Bool) (hσ : Steady σ s) : Steady σ (Mgmt.loadPlan s x digestOk).1 := by
  unfold Mgmt.loadPlan
  try dsimp only
  repeat' (first | with_reducible assumption | with_reducible apply Issue_refuse_steady | with_reducible apply Link_refuse_steady | with_reducible apply Mgmt_refuse_steady | with_reducible apply Pairs_bytes_steady | with_reducible apply Mgmt_done_steady | with_reducible apply Ops_modDex_steady | with_reducible apply Mgmt_install_steady | with_reducible apply Steady.ite | with_reducible apply Steady.iteFst | split | (fail_if_no_progress with_reducible apply Steady.sameMk) | intro _)

theorem Mgmt_setTime_steady {σ : State} (s : State) (v : Nat) (hσ : Steady σ s) : Steady σ (Mgmt.setTime s v).1 := by
  unfold Mgmt.setTime
  try dsimp only
  repeat' (first | with_reducible assumption | with_reducible apply Mgmt_done_steady | with_reducible apply Ops_modTime_steady | with_reducible apply Clock_setCount_steady | with_reducible apply Issue_refuse_steady | with_reducible apply Link_refuse_steady | with_reducible apply Mgmt_refuse_steady | with_reducible apply Steady.ite | with_reducible apply Steady.iteFst | split | (fail_if_no_progress with_reducible apply Steady.sameMk) | intro _)

theorem Mgmt_steerTime_steady {σ : State} (s : State) (ppm : Int) (hσ : Steady σ s) : Steady σ (Mgmt.steerTime s ppm).1 := by
  unfold Mgmt.steerTime
  try dsimp only
  repeat' (first | with_reducible assumption | with_reducible apply Issue_refuse_steady | with_reducible apply Link_refuse_steady | with_reducible apply Mgmt_refuse_steady | with_reducible apply Vote_decide_steady | with_reducible apply Mgmt_done_steady | with_reducible apply Ops_modTime_steady | with_reducible apply Steady.ite | with_reducible apply Steady.iteFst | split | (fail_if_no_progress with_reducible apply Steady.sameMk) | intro _)

theorem Mgmt_stage_steady {σ : State} (s : State) (x : ImagePart) (hσ : Steady σ s) : Steady σ (Mgmt.stage s x).1 := by
  unfold Mgmt.stage
  try dsimp only
  repeat' (first | with_reducible assumption | with_reducible apply Pairs_bytes_steady | with_reducible apply Mgmt_done_steady | with_reducible apply Ops_modSec_steady | with_reducible apply Issue_refuse_steady | with_reducible apply Link_refuse_steady | with_reducible apply Mgmt_refuse_steady | with_reducible apply Steady.ite | with_reducible apply Steady.iteFst | split | (fail_if_no_progress with_reducible apply Steady.sameMk) | intro _)

theorem Mgmt_raiseMin_steady {σ : State} (s : State) (type svn : Nat) (hσ : Steady σ s) : Steady σ (Mgmt.raiseMin s type svn).1 := by
  unfold Mgmt.raiseMin
  try dsimp only
  repeat' (first | with_reducible assumption | with_reducible apply Vote_decide_steady | with_reducible apply Mgmt_done_steady | with_reducible apply Ops_modSec_steady | with_reducible apply Issue_refuse_steady | with_reducible apply Link_refuse_steady | with_reducible apply Mgmt_refuse_steady | with_reducible apply Steady.ite | with_reducible apply Steady.iteFst | split | (fail_if_no_progress with_reducible apply Steady.sameMk) | intro _)

theorem Mgmt_probation_steady {a : State} (s : State) (v : Nat) (h : Steady a s) : Steady a (Mgmt.probation s v).1 :=
  Steady.iteFst h (Steady.iteFst h
    ⟨h.pending, h.ns, h.free, h.out, h.mem, h.scrub, h.health, h.timeouts, h.quantum, h.swapCtl, h.governor⟩)

theorem Mgmt_powerLimit_steady {a : State} (s : State) (w : Nat) (h : Steady a s) : Steady a (Mgmt.powerLimit s w).1 := by
  unfold Mgmt.powerLimit
  split
  · exact h
  · rename_i b
    refine Steady.iteFst h ?_
    unfold Mgmt.done
    with_reducible apply Ops_modGov_steady _ _ h
    intro k
    refine ⟨k.1, fun x e => ?_, k.2.2⟩
    simp only [Option.some.injEq] at e
    subst e
    exact ⟨Nat.le_of_not_lt fun e => b (.inl e), Nat.le_of_not_lt fun e => b (.inr e)⟩

theorem Mgmt_execGetStatus_goes (m : MgmtHead) (s : State) : Goes s (Mgmt.execGetStatus m s) := by
  refine ⟨_, rfl, ?_⟩
  try dsimp only
  repeat' (first | with_reducible exact Steady.refl _ | with_reducible assumption | with_reducible apply Vote_next_steady | with_reducible apply RegMode_run_steady | with_reducible apply Spdm_run_steady | with_reducible apply Mgmt_run_steady | intro _)

theorem Mgmt_execGetTelemetry_goes (m : MgmtHead) (s : State) : Goes s (Mgmt.execGetTelemetry m s) := by
  refine ⟨_, rfl, ?_⟩
  try dsimp only
  repeat' (first | with_reducible exact Steady.refl _ | with_reducible assumption | with_reducible apply Vote_next_steady | with_reducible apply RegMode_run_steady | with_reducible apply Spdm_run_steady | with_reducible apply Mgmt_run_steady | intro _)

theorem Mgmt_execGetRecords_goes (m : MgmtHead) (index : Nat) (s : State) : Goes s (Mgmt.execGetRecords m index s) := by
  refine ⟨_, rfl, ?_⟩
  try dsimp only
  repeat' (first | with_reducible exact Steady.refl _ | with_reducible assumption | with_reducible apply Vote_next_steady | with_reducible apply RegMode_run_steady | with_reducible apply Spdm_run_steady | with_reducible apply Mgmt_run_steady | with_reducible apply Mgmt_records_steady | intro _)

theorem Mgmt_execSubscribe_goes (m : MgmtHead) (s : State) : Goes s (Mgmt.execSubscribe m s) := by
  refine ⟨_, rfl, ?_⟩
  try dsimp only
  repeat' (first | with_reducible exact Steady.refl _ | with_reducible assumption | with_reducible apply Vote_next_steady | with_reducible apply Mgmt_runS_steady | with_reducible apply Mgmt_done_steady | with_reducible apply Ops_modDex_steady | (fail_if_no_progress with_reducible apply Steady.sameMk) | intro _)

theorem Mgmt_execPowerOn_goes (m : MgmtHead) (s : State) : Goes s (Mgmt.execPowerOn m s) := by
  refine ⟨_, rfl, ?_⟩
  try dsimp only
  repeat' (first | with_reducible exact Steady.refl _ | with_reducible assumption | with_reducible apply Vote_next_steady | with_reducible apply Mgmt_runS_steady | with_reducible apply Mgmt_powerOn_steady)

theorem Mgmt_execRemoveGraceful_goes (m : MgmtHead) (waitS : Nat) (s : State) : Goes s (Mgmt.execRemoveGraceful m waitS s) := by
  refine ⟨_, rfl, ?_⟩
  try dsimp only
  repeat' (first | with_reducible exact Steady.refl _ | with_reducible assumption | with_reducible apply Vote_next_steady | with_reducible apply Mgmt_runS_steady | with_reducible apply Mgmt_done_steady | with_reducible apply Powering_request_steady | intro _)

theorem Mgmt_execRemoveForce_goes (m : MgmtHead) (waitS : Nat) (s : State) : Goes s (Mgmt.execRemoveForce m waitS s) := by
  refine ⟨_, rfl, ?_⟩
  try dsimp only
  repeat' (first | with_reducible exact Steady.refl _ | with_reducible assumption | with_reducible apply Vote_next_steady | with_reducible apply Mgmt_runS_steady | with_reducible apply Mgmt_done_steady | with_reducible apply Powering_request_steady | intro _)

theorem Mgmt_execResetPackage_goes (m : MgmtHead) (s : State) : Goes s (Mgmt.execResetPackage m s) := by
  refine ⟨_, rfl, ?_⟩
  try dsimp only
  repeat' (first | with_reducible exact Steady.refl _ | with_reducible assumption | with_reducible apply Vote_next_steady | with_reducible apply Mgmt_runS_steady | with_reducible apply Mgmt_reset_steady)

theorem Mgmt_execResetColdCycle_goes (m : MgmtHead) (s : State) : Goes s (Mgmt.execResetColdCycle m s) := by
  refine ⟨_, rfl, ?_⟩
  try dsimp only
  repeat' (first | with_reducible exact Steady.refl _ | with_reducible assumption | with_reducible apply Vote_next_steady | with_reducible apply Mgmt_runS_steady | with_reducible apply ResetOps_coldCycle_steady | with_reducible apply Mgmt_coldCycle_steady)

theorem Mgmt_execSetAutostart_goes (m : MgmtHead) (v : Nat) (s : State) : Goes s (Mgmt.execSetAutostart m v s) := by
  refine ⟨_, rfl, ?_⟩
  try dsimp only
  repeat' (first | with_reducible exact Steady.refl _ | with_reducible assumption | with_reducible apply Vote_next_steady | with_reducible apply Mgmt_runS_steady | with_reducible apply Mgmt_autostart_steady | intro _)

theorem Mgmt_execLoadPlan_goes (m : MgmtHead) (plan : PlanPart) (digestOk : Bool) (s : State) : Goes s (Mgmt.execLoadPlan m plan digestOk s) := by
  refine ⟨_, rfl, ?_⟩
  try dsimp only
  repeat' (first | with_reducible exact Steady.refl _ | with_reducible assumption | with_reducible apply Vote_next_steady | with_reducible apply Mgmt_runS_steady | with_reducible apply Mgmt_loadPlan_steady | intro _)

theorem Mgmt_execSetTime_goes (m : MgmtHead) (v : Nat) (s : State) : Goes s (Mgmt.execSetTime m v s) := by
  refine ⟨_, rfl, ?_⟩
  try dsimp only
  repeat' (first | with_reducible exact Steady.refl _ | with_reducible assumption | with_reducible apply Vote_next_steady | with_reducible apply Mgmt_runS_steady | with_reducible apply Mgmt_setTime_steady | intro _)

theorem Mgmt_execSteerTime_goes (m : MgmtHead) (ppm : Int) (s : State) : Goes s (Mgmt.execSteerTime m ppm s) := by
  refine ⟨_, rfl, ?_⟩
  try dsimp only
  repeat' (first | with_reducible exact Steady.refl _ | with_reducible assumption | with_reducible apply Vote_next_steady | with_reducible apply Mgmt_runS_steady | with_reducible apply Mgmt_steerTime_steady | intro _)

theorem Mgmt_execMgmtSchedWrite_goes (m : MgmtHead) (e : SchedEntry) (s : State) : Goes s (Mgmt.execMgmtSchedWrite m e s) := by
  refine ⟨_, rfl, ?_⟩
  try dsimp only
  repeat' (first | with_reducible exact Steady.refl _ | with_reducible assumption | with_reducible apply Vote_next_steady | with_reducible apply Mgmt_runS_steady | with_reducible apply FlagWindow_write_steady | with_reducible apply Regs_write_steady | with_reducible apply Bus_write_steady | with_reducible apply Sched_write_steady | intro _)

theorem Mgmt_execMgmtSchedCancel_goes (m : MgmtHead) (id : Nat) (s : State) : Goes s (Mgmt.execMgmtSchedCancel m id s) := by
  refine ⟨_, rfl, ?_⟩
  try dsimp only
  repeat' (first | with_reducible exact Steady.refl _ | with_reducible assumption | with_reducible apply Vote_next_steady | with_reducible apply Mgmt_runS_steady | with_reducible apply Sched_cancel_steady | intro _)

theorem Mgmt_execStageFirmware_goes (m : MgmtHead) (x : ImagePart) (s : State) : Goes s (Mgmt.execStageFirmware m x s) := by
  refine ⟨_, rfl, ?_⟩
  try dsimp only
  repeat' (first | with_reducible exact Steady.refl _ | with_reducible assumption | with_reducible apply Vote_next_steady | with_reducible apply Mgmt_runS_steady | with_reducible apply Mgmt_stage_steady | intro _)

theorem Mgmt_execRaiseMinSvn_goes (m : MgmtHead) (type svn : Nat) (s : State) : Goes s (Mgmt.execRaiseMinSvn m type svn s) := by
  refine ⟨_, rfl, ?_⟩
  try dsimp only
  repeat' (first | with_reducible exact Steady.refl _ | with_reducible assumption | with_reducible apply Vote_next_steady | with_reducible apply Mgmt_runS_steady | with_reducible apply Mgmt_raiseMin_steady | intro _)

theorem Mgmt_execSetProbation_goes (m : MgmtHead) (v : Nat) (s : State) : Goes s (Mgmt.execSetProbation m v s) := by
  refine ⟨_, rfl, ?_⟩
  try dsimp only
  repeat' (first | with_reducible exact Steady.refl _ | with_reducible assumption | with_reducible apply Vote_next_steady | with_reducible apply Mgmt_runS_steady | with_reducible apply Mgmt_probation_steady | intro _)

theorem Mgmt_execSetPowerLimit_goes (m : MgmtHead) (watts : Nat) (s : State) : Goes s (Mgmt.execSetPowerLimit m watts s) := by
  refine ⟨_, rfl, ?_⟩
  try dsimp only
  repeat' (first | with_reducible exact Steady.refl _ | with_reducible assumption | with_reducible apply Vote_next_steady | with_reducible apply Mgmt_runS_steady | with_reducible apply Mgmt_powerLimit_steady | intro _)

theorem Mgmt_execMgmtUnknownCommand_goes (m : MgmtHead) (command : Nat) (s : State) : Goes s (Mgmt.execMgmtUnknownCommand m command s) := by
  refine ⟨_, rfl, ?_⟩
  try dsimp only
  repeat' (first | with_reducible exact Steady.refl _ | with_reducible assumption | with_reducible apply Vote_next_steady | with_reducible apply RegMode_run_steady | with_reducible apply Spdm_run_steady | with_reducible apply Mgmt_run_steady | with_reducible apply Issue_refuse_steady | with_reducible apply Link_refuse_steady | with_reducible apply Mgmt_refuse_steady | intro _)

theorem Mgmt_execMctpControlMessage_goes (onI3c : Bool) (body : Bytes) (s : State) : Goes s (Mgmt.execMctpControlMessage onI3c body s) := by
  refine ⟨_, rfl, ?_⟩
  try dsimp only
  repeat' (first | with_reducible exact Steady.refl _ | with_reducible assumption | with_reducible apply Vote_next_steady | with_reducible apply Ops_emit_steady | with_reducible apply Steady.ite | with_reducible apply Steady.iteFst | split)

theorem Mgmt_execMctpUnsupportedType_goes (_type : Nat) (s : State) : Goes s (Mgmt.execMctpUnsupportedType _type s) := by
  refine ⟨_, rfl, ?_⟩
  try dsimp only
  repeat' (first | with_reducible exact Steady.refl _ | with_reducible assumption | with_reducible apply Vote_next_steady)

end

/-! ## Machine/SwapEnd.lean -/

section

open Machine.Bits Machine.Ops Machine.Report
open Machine.Bits Machine.Ops Machine.Report
open Machine.Swaps

theorem Swaps_deliverHeld_steady {a : State} (s : State) (q : Nat) (o : StopOp) (h : Steady a s) : Steady a (Swaps.deliverHeld s q o) := by
  cases o with
  | act f fact p => exact FlagOps_act_steady _ _ _ _ _ h
  | pkt p hits => exact Steady.ite (Tracker_readData_steady _ _ _ h) (Tracker_writeData_steady _ _ _ h)

theorem Swaps_release_steady {σ : State} (s : State) (q : Nat) (hσ : Steady σ s) : Steady σ (Swaps.release s q) := by
  unfold Swaps.release
  try dsimp only
  repeat' (first | with_reducible assumption | with_reducible apply Swaps_deliverHeld_steady | with_reducible apply Ops_modFlags_steady | (with_reducible apply Steady.foldl <;> intros) | (with_reducible apply Steady.foldlFst <;> intros) | (fail_if_no_progress with_reducible apply Steady.sameMk) | intro _)

theorem Swaps_copyCheck_steady {σ : State} (s : State) (q : Nat) (failed : Bool) (hσ : Steady σ s) : Steady σ (Swaps.copyCheck s q failed) := by
  unfold Swaps.copyCheck
  try dsimp only
  repeat' (first | with_reducible assumption | with_reducible apply Spdm_failed_steady | with_reducible apply Swaps_countError_steady | with_reducible apply Array_countError_steady | with_reducible apply Report_raise_steady | with_reducible apply Steady.ite | with_reducible apply Steady.iteFst | split)

theorem Swaps_complete_steady {σ : State} (s : State) (n : Nat) (load : Bool) (hσ : Steady σ s) : Steady σ (Swaps.complete s n load) := by
  unfold Swaps.complete
  try dsimp only
  repeat' (first | with_reducible assumption | (intro w; exact ⟨w.1, w.2⟩) | (intro w; unfold Mem.wf at w ⊢; exact w) | with_reducible apply Swaps_setRole_steady | with_reducible apply Ops_modWeevil_steady | with_reducible apply Ops_modDex_steady | with_reducible apply StepOps_decided_steady | with_reducible apply Cicada_setPhys_steady | with_reducible apply FlagOps_late_steady | with_reducible apply FlagCtl_wait_steady | with_reducible apply Swaps_copyCheck_steady | with_reducible apply Swaps_rest_steady | with_reducible apply Swaps_release_steady | with_reducible apply Mem_load_steady | with_reducible apply Ckpts_load_steady | with_reducible apply Steady.ite | with_reducible apply Steady.iteFst | split | (fail_if_no_progress with_reducible apply Steady.sameMk) | intro _)

theorem Swaps_execSwapComplete_goes (x : SwapDone) (s : State) : Goes s (Swaps.execSwapComplete x s) := by
  refine ⟨_, rfl, ?_⟩
  try dsimp only
  repeat' (first | with_reducible exact Steady.refl _ | with_reducible assumption | with_reducible apply Vote_next_steady | with_reducible apply Issue_complete_steady | with_reducible apply Swaps_complete_steady | with_reducible apply Mem_load_steady | with_reducible apply Ckpts_load_steady)

end

/-! ## Machine/Vector.lean -/

section

open Machine.Bits Machine.Ops Machine.Report
open Machine.Bits Machine.Ops Machine.Report Machine.Numeric Machine.Operand Machine.Issue Machine.VecMath
open Machine.Vector

theorem Vector_setQueue_steady {σ : State} (s : State) (q : Nat) (l : List VecOp) (hσ : Steady σ s) : Steady σ (Vector.setQueue s q l) := by
  unfold Vector.setQueue
  try dsimp only
  repeat' (first | with_reducible assumption | (fail_if_no_progress with_reducible apply Steady.sameMk))

theorem Vector_tick_steady {σ : State} (s : State) (hσ : Steady σ s) : Steady σ (Vector.tick s) := by
  unfold Vector.tick
  try dsimp only
  repeat' (first | with_reducible assumption | (fail_if_no_progress with_reducible apply Steady.sameMk) | intro _)

theorem Vector_enqueue_steady {σ : State} (s : State) (i : Issuer) (r : Runner) (op : VecOp) (hσ : Steady σ s) : Steady σ (Vector.enqueue s i r op) := by
  unfold Vector.enqueue
  try dsimp only
  repeat' (first | with_reducible assumption | with_reducible apply Operand_descRead_steady | with_reducible apply Issue_noted_steady | with_reducible apply Issue_launched_steady | with_reducible apply Vector_setQueue_steady | with_reducible apply Ops_modStream_steady | with_reducible apply Steady.ite | with_reducible apply Steady.iteFst | split | (fail_if_no_progress with_reducible apply Steady.sameMk) | intro _)

theorem Vector_vector_steady {σ : State} (s : State) (i : Issuer) (code : Nat) (w : VecWord) (hσ : Steady σ s) : Steady σ (Vector.vector s i code w) := by
  unfold Vector.vector
  try dsimp only
  repeat' (first | with_reducible assumption | with_reducible apply Issue_issue_steady | with_reducible apply Issue_rejectRead_steady | with_reducible apply Ckpts_enqueue_steady | with_reducible apply Vector_enqueue_steady | split | intro _)

theorem Vector_flipCheck_steady {σ : State} (s : State) (q : Nat) (bytes : SMap Byte) (hσ : Steady σ s) : Steady σ (Vector.flipCheck s q bytes) := by
  unfold Vector.flipCheck
  try dsimp only
  repeat' (first | with_reducible assumption | (intro w; exact ⟨w.1, w.2⟩) | (intro w; unfold Mem.wf at w ⊢; exact w) | with_reducible apply Pairs_bytes_steady | with_reducible apply Ops_modErr_steady | with_reducible apply Ops_modMem_steady | with_reducible apply Steady.ite | with_reducible apply Steady.iteFst | split | (fail_if_no_progress with_reducible apply Steady.sameMk) | intro _)

theorem Vector_readAll_steady {σ : State} (s : State) (q : Nat) (op : VecOp) (hσ : Steady σ s) : Steady σ (Vector.readAll s q op) := by
  unfold Vector.readAll
  try dsimp only
  repeat' (first | with_reducible assumption | with_reducible apply Operand_loadAll_steady | (with_reducible apply Steady.foldl <;> intros) | (with_reducible apply Steady.foldlFst <;> intros) | intro _)

theorem Vector_censusAll_steady {σ : State} (s : State) (q : Nat) (op : VecOp) (cs : List (Nat × Count)) (hσ : Steady σ s) : Steady σ (Vector.censusAll s q op cs) := by
  unfold Vector.censusAll
  try dsimp only
  repeat' (first | with_reducible assumption | with_reducible apply Operand_censusAdd_steady | (with_reducible apply Steady.foldl <;> intros) | (with_reducible apply Steady.foldlFst <;> intros) | intro _)

theorem Vector_vectorComplete_steady {σ : State} (s : State) (q : Nat) (hits : List CodeHit) (pair : Option PairFault) (hσ : Steady σ s) : Steady σ (Vector.vectorComplete s q hits pair) := by
  unfold Vector.vectorComplete
  try dsimp only
  repeat' (first | with_reducible assumption | with_reducible apply Swaps_rest_steady | with_reducible apply Vote_decide_steady | with_reducible apply Mem_inject_steady | with_reducible apply Vector_readAll_steady | with_reducible apply Vector_setQueue_steady | with_reducible apply Pairs_bytes_steady | with_reducible apply Vector_flipCheck_steady | with_reducible apply Mem_storeMap_steady | with_reducible apply Vector_censusAll_steady | with_reducible apply Report_setFail_steady | with_reducible apply Ops_modStream_steady | with_reducible apply Issue_setCounter_steady | with_reducible apply Pairs_action_steady | with_reducible apply FlagCtl_action_steady | with_reducible apply Issue_complete_steady | with_reducible apply Swaps_complete_steady | with_reducible apply Issue_illegal_steady | with_reducible apply Steady.ite | with_reducible apply Steady.iteFst | split | (fail_if_no_progress with_reducible apply Steady.sameMk) | intro _)

theorem Vector_execAdd_goes (i : Issuer) (w : VecWord) (s : State) : Goes s (Vector.execAdd i w s) := by
  refine ⟨_, rfl, ?_⟩
  try dsimp only
  repeat' (first | with_reducible exact Steady.refl _ | with_reducible assumption | with_reducible apply Vote_next_steady | with_reducible apply Vector_vector_steady)

theorem Vector_execSub_goes (i : Issuer) (w : VecWord) (s : State) : Goes s (Vector.execSub i w s) := by
  refine ⟨_, rfl, ?_⟩
  try dsimp only
  repeat' (first | with_reducible exact Steady.refl _ | with_reducible assumption | with_reducible apply Vote_next_steady | with_reducible apply Vector_vector_steady)

theorem Vector_execMul_goes (i : Issuer) (w : VecWord) (s : State) : Goes s (Vector.execMul i w s) := by
  refine ⟨_, rfl, ?_⟩
  try dsimp only
  repeat' (first | with_reducible exact Steady.refl _ | with_reducible assumption | with_reducible apply Vote_next_steady | with_reducible apply Vector_vector_steady)

theorem Vector_execFma_goes (i : Issuer) (w : VecWord) (s : State) : Goes s (Vector.execFma i w s) := by
  refine ⟨_, rfl, ?_⟩
  try dsimp only
  repeat' (first | with_reducible exact Steady.refl _ | with_reducible assumption | with_reducible apply Vote_next_steady | with_reducible apply Vector_vector_steady)

theorem Vector_execAxpy_goes (i : Issuer) (w : VecWord) (s : State) : Goes s (Vector.execAxpy i w s) := by
  refine ⟨_, rfl, ?_⟩
  try dsimp only
  repeat' (first | with_reducible exact Steady.refl _ | with_reducible assumption | with_reducible apply Vote_next_steady | with_reducible apply Vector_vector_steady)

theorem Vector_execMaxOp_goes (i : Issuer) (w : VecWord) (s : State) : Goes s (Vector.execMaxOp i w s) := by
  refine ⟨_, rfl, ?_⟩
  try dsimp only
  repeat' (first | with_reducible exact Steady.refl _ | with_reducible assumption | with_reducible apply Vote_next_steady | with_reducible apply Vector_vector_steady)

theorem Vector_execMinOp_goes (i : Issuer) (w : VecWord) (s : State) : Goes s (Vector.execMinOp i w s) := by
  refine ⟨_, rfl, ?_⟩
  try dsimp only
  repeat' (first | with_reducible exact Steady.refl _ | with_reducible assumption | with_reducible apply Vote_next_steady | with_reducible apply Vector_vector_steady)

theorem Vector_execAbsOp_goes (i : Issuer) (w : VecWord) (s : State) : Goes s (Vector.execAbsOp i w s) := by
  refine ⟨_, rfl, ?_⟩
  try dsimp only
  repeat' (first | with_reducible exact Steady.refl _ | with_reducible assumption | with_reducible apply Vote_next_steady | with_reducible apply Vector_vector_steady)

theorem Vector_execNeg_goes (i : Issuer) (w : VecWord) (s : State) : Goes s (Vector.execNeg i w s) := by
  refine ⟨_, rfl, ?_⟩
  try dsimp only
  repeat' (first | with_reducible exact Steady.refl _ | with_reducible assumption | with_reducible apply Vote_next_steady | with_reducible apply Vector_vector_steady)

theorem Vector_execCvt_goes (i : Issuer) (w : VecWord) (s : State) : Goes s (Vector.execCvt i w s) := by
  refine ⟨_, rfl, ?_⟩
  try dsimp only
  repeat' (first | with_reducible exact Steady.refl _ | with_reducible assumption | with_reducible apply Vote_next_steady | with_reducible apply Vector_vector_steady)

theorem Vector_execSelect_goes (i : Issuer) (w : VecWord) (s : State) : Goes s (Vector.execSelect i w s) := by
  refine ⟨_, rfl, ?_⟩
  try dsimp only
  repeat' (first | with_reducible exact Steady.refl _ | with_reducible assumption | with_reducible apply Vote_next_steady | with_reducible apply Vector_vector_steady)

theorem Vector_execFill_goes (i : Issuer) (w : VecWord) (s : State) : Goes s (Vector.execFill i w s) := by
  refine ⟨_, rfl, ?_⟩
  try dsimp only
  repeat' (first | with_reducible exact Steady.refl _ | with_reducible assumption | with_reducible apply Vote_next_steady | with_reducible apply Vector_vector_steady)

theorem Vector_execIota_goes (i : Issuer) (w : VecWord) (s : State) : Goes s (Vector.execIota i w s) := by
  refine ⟨_, rfl, ?_⟩
  try dsimp only
  repeat' (first | with_reducible exact Steady.refl _ | with_reducible assumption | with_reducible apply Vote_next_steady | with_reducible apply Vector_vector_steady)

theorem Vector_execDiv_goes (i : Issuer) (w : VecWord) (s : State) : Goes s (Vector.execDiv i w s) := by
  refine ⟨_, rfl, ?_⟩
  try dsimp only
  repeat' (first | with_reducible exact Steady.refl _ | with_reducible assumption | with_reducible apply Vote_next_steady | with_reducible apply Vector_vector_steady)

theorem Vector_execRecip_goes (i : Issuer) (w : VecWord) (s : State) : Goes s (Vector.execRecip i w s) := by
  refine ⟨_, rfl, ?_⟩
  try dsimp only
  repeat' (first | with_reducible exact Steady.refl _ | with_reducible assumption | with_reducible apply Vote_next_steady | with_reducible apply Vector_vector_steady)

theorem Vector_execSqrt_goes (i : Issuer) (w : VecWord) (s : State) : Goes s (Vector.execSqrt i w s) := by
  refine ⟨_, rfl, ?_⟩
  try dsimp only
  repeat' (first | with_reducible exact Steady.refl _ | with_reducible assumption | with_reducible apply Vote_next_steady | with_reducible apply Vector_vector_steady)

theorem Vector_execRsqrt_goes (i : Issuer) (w : VecWord) (s : State) : Goes s (Vector.execRsqrt i w s) := by
  refine ⟨_, rfl, ?_⟩
  try dsimp only
  repeat' (first | with_reducible exact Steady.refl _ | with_reducible assumption | with_reducible apply Vote_next_steady | with_reducible apply Vector_vector_steady)

theorem Vector_execExp_goes (i : Issuer) (w : VecWord) (s : State) : Goes s (Vector.execExp i w s) := by
  refine ⟨_, rfl, ?_⟩
  try dsimp only
  repeat' (first | with_reducible exact Steady.refl _ | with_reducible assumption | with_reducible apply Vote_next_steady | with_reducible apply Vector_vector_steady)

theorem Vector_execLog_goes (i : Issuer) (w : VecWord) (s : State) : Goes s (Vector.execLog i w s) := by
  refine ⟨_, rfl, ?_⟩
  try dsimp only
  repeat' (first | with_reducible exact Steady.refl _ | with_reducible assumption | with_reducible apply Vote_next_steady | with_reducible apply Vector_vector_steady)

theorem Vector_execTanh_goes (i : Issuer) (w : VecWord) (s : State) : Goes s (Vector.execTanh i w s) := by
  refine ⟨_, rfl, ?_⟩
  try dsimp only
  repeat' (first | with_reducible exact Steady.refl _ | with_reducible assumption | with_reducible apply Vote_next_steady | with_reducible apply Vector_vector_steady)

theorem Vector_execSigmoid_goes (i : Issuer) (w : VecWord) (s : State) : Goes s (Vector.execSigmoid i w s) := by
  refine ⟨_, rfl, ?_⟩
  try dsimp only
  repeat' (first | with_reducible exact Steady.refl _ | with_reducible assumption | with_reducible apply Vote_next_steady | with_reducible apply Vector_vector_steady)

theorem Vector_execErf_goes (i : Issuer) (w : VecWord) (s : State) : Goes s (Vector.execErf i w s) := by
  refine ⟨_, rfl, ?_⟩
  try dsimp only
  repeat' (first | with_reducible exact Steady.refl _ | with_reducible assumption | with_reducible apply Vote_next_steady | with_reducible apply Vector_vector_steady)

theorem Vector_execSilu_goes (i : Issuer) (w : VecWord) (s : State) : Goes s (Vector.execSilu i w s) := by
  refine ⟨_, rfl, ?_⟩
  try dsimp only
  repeat' (first | with_reducible exact Steady.refl _ | with_reducible assumption | with_reducible apply Vote_next_steady | with_reducible apply Vector_vector_steady)

theorem Vector_execGelu_goes (i : Issuer) (w : VecWord) (s : State) : Goes s (Vector.execGelu i w s) := by
  refine ⟨_, rfl, ?_⟩
  try dsimp only
  repeat' (first | with_reducible exact Steady.refl _ | with_reducible assumption | with_reducible apply Vote_next_steady | with_reducible apply Vector_vector_steady)

theorem Vector_execExpsub_goes (i : Issuer) (w : VecWord) (s : State) : Goes s (Vector.execExpsub i w s) := by
  refine ⟨_, rfl, ?_⟩
  try dsimp only
  repeat' (first | with_reducible exact Steady.refl _ | with_reducible assumption | with_reducible apply Vote_next_steady | with_reducible apply Vector_vector_steady)

theorem Vector_execCmplt_goes (i : Issuer) (w : VecWord) (s : State) : Goes s (Vector.execCmplt i w s) := by
  refine ⟨_, rfl, ?_⟩
  try dsimp only
  repeat' (first | with_reducible exact Steady.refl _ | with_reducible assumption | with_reducible apply Vote_next_steady | with_reducible apply Vector_vector_steady)

theorem Vector_execCmple_goes (i : Issuer) (w : VecWord) (s : State) : Goes s (Vector.execCmple i w s) := by
  refine ⟨_, rfl, ?_⟩
  try dsimp only
  repeat' (first | with_reducible exact Steady.refl _ | with_reducible assumption | with_reducible apply Vote_next_steady | with_reducible apply Vector_vector_steady)

theorem Vector_execCmpeq_goes (i : Issuer) (w : VecWord) (s : State) : Goes s (Vector.execCmpeq i w s) := by
  refine ⟨_, rfl, ?_⟩
  try dsimp only
  repeat' (first | with_reducible exact Steady.refl _ | with_reducible assumption | with_reducible apply Vote_next_steady | with_reducible apply Vector_vector_steady)

theorem Vector_execCmpne_goes (i : Issuer) (w : VecWord) (s : State) : Goes s (Vector.execCmpne i w s) := by
  refine ⟨_, rfl, ?_⟩
  try dsimp only
  repeat' (first | with_reducible exact Steady.refl _ | with_reducible assumption | with_reducible apply Vote_next_steady | with_reducible apply Vector_vector_steady)

theorem Vector_execIsfin_goes (i : Issuer) (w : VecWord) (s : State) : Goes s (Vector.execIsfin i w s) := by
  refine ⟨_, rfl, ?_⟩
  try dsimp only
  repeat' (first | with_reducible exact Steady.refl _ | with_reducible assumption | with_reducible apply Vote_next_steady | with_reducible apply Vector_vector_steady)

theorem Vector_execRsum_goes (i : Issuer) (w : VecWord) (s : State) : Goes s (Vector.execRsum i w s) := by
  refine ⟨_, rfl, ?_⟩
  try dsimp only
  repeat' (first | with_reducible exact Steady.refl _ | with_reducible assumption | with_reducible apply Vote_next_steady | with_reducible apply Vector_vector_steady)

theorem Vector_execRsumsq_goes (i : Issuer) (w : VecWord) (s : State) : Goes s (Vector.execRsumsq i w s) := by
  refine ⟨_, rfl, ?_⟩
  try dsimp only
  repeat' (first | with_reducible exact Steady.refl _ | with_reducible assumption | with_reducible apply Vote_next_steady | with_reducible apply Vector_vector_steady)

theorem Vector_execRmax_goes (i : Issuer) (w : VecWord) (s : State) : Goes s (Vector.execRmax i w s) := by
  refine ⟨_, rfl, ?_⟩
  try dsimp only
  repeat' (first | with_reducible exact Steady.refl _ | with_reducible assumption | with_reducible apply Vote_next_steady | with_reducible apply Vector_vector_steady)

theorem Vector_execRmin_goes (i : Issuer) (w : VecWord) (s : State) : Goes s (Vector.execRmin i w s) := by
  refine ⟨_, rfl, ?_⟩
  try dsimp only
  repeat' (first | with_reducible exact Steady.refl _ | with_reducible assumption | with_reducible apply Vote_next_steady | with_reducible apply Vector_vector_steady)

theorem Vector_execRargmax_goes (i : Issuer) (w : VecWord) (s : State) : Goes s (Vector.execRargmax i w s) := by
  refine ⟨_, rfl, ?_⟩
  try dsimp only
  repeat' (first | with_reducible exact Steady.refl _ | with_reducible assumption | with_reducible apply Vote_next_steady | with_reducible apply Vector_vector_steady)

theorem Vector_execRtop2_goes (i : Issuer) (w : VecWord) (s : State) : Goes s (Vector.execRtop2 i w s) := by
  refine ⟨_, rfl, ?_⟩
  try dsimp only
  repeat' (first | with_reducible exact Steady.refl _ | with_reducible assumption | with_reducible apply Vote_next_steady | with_reducible apply Vector_vector_steady)

theorem Vector_execScan_goes (i : Issuer) (w : VecWord) (s : State) : Goes s (Vector.execScan i w s) := by
  refine ⟨_, rfl, ?_⟩
  try dsimp only
  repeat' (first | with_reducible exact Steady.refl _ | with_reducible assumption | with_reducible apply Vote_next_steady | with_reducible apply Vector_vector_steady)

theorem Vector_execCompress_goes (i : Issuer) (w : VecWord) (s : State) : Goes s (Vector.execCompress i w s) := by
  refine ⟨_, rfl, ?_⟩
  try dsimp only
  repeat' (first | with_reducible exact Steady.refl _ | with_reducible assumption | with_reducible apply Vote_next_steady | with_reducible apply Vector_vector_steady)

theorem Vector_execCompressr_goes (i : Issuer) (w : VecWord) (s : State) : Goes s (Vector.execCompressr i w s) := by
  refine ⟨_, rfl, ?_⟩
  try dsimp only
  repeat' (first | with_reducible exact Steady.refl _ | with_reducible assumption | with_reducible apply Vote_next_steady | with_reducible apply Vector_vector_steady)

theorem Vector_execExpand_goes (i : Issuer) (w : VecWord) (s : State) : Goes s (Vector.execExpand i w s) := by
  refine ⟨_, rfl, ?_⟩
  try dsimp only
  repeat' (first | with_reducible exact Steady.refl _ | with_reducible assumption | with_reducible apply Vote_next_steady | with_reducible apply Vector_vector_steady)

theorem Vector_execExpandr_goes (i : Issuer) (w : VecWord) (s : State) : Goes s (Vector.execExpandr i w s) := by
  refine ⟨_, rfl, ?_⟩
  try dsimp only
  repeat' (first | with_reducible exact Steady.refl _ | with_reducible assumption | with_reducible apply Vote_next_steady | with_reducible apply Vector_vector_steady)

theorem Vector_execGather_goes (i : Issuer) (w : VecWord) (s : State) : Goes s (Vector.execGather i w s) := by
  refine ⟨_, rfl, ?_⟩
  try dsimp only
  repeat' (first | with_reducible exact Steady.refl _ | with_reducible assumption | with_reducible apply Vote_next_steady | with_reducible apply Vector_vector_steady)

theorem Vector_execGatherr_goes (i : Issuer) (w : VecWord) (s : State) : Goes s (Vector.execGatherr i w s) := by
  refine ⟨_, rfl, ?_⟩
  try dsimp only
  repeat' (first | with_reducible exact Steady.refl _ | with_reducible assumption | with_reducible apply Vote_next_steady | with_reducible apply Vector_vector_steady)

theorem Vector_execMcount_goes (i : Issuer) (w : VecWord) (s : State) : Goes s (Vector.execMcount i w s) := by
  refine ⟨_, rfl, ?_⟩
  try dsimp only
  repeat' (first | with_reducible exact Steady.refl _ | with_reducible assumption | with_reducible apply Vote_next_steady | with_reducible apply Vector_vector_steady)

theorem Vector_execMand_goes (i : Issuer) (w : VecWord) (s : State) : Goes s (Vector.execMand i w s) := by
  refine ⟨_, rfl, ?_⟩
  try dsimp only
  repeat' (first | with_reducible exact Steady.refl _ | with_reducible assumption | with_reducible apply Vote_next_steady | with_reducible apply Vector_vector_steady)

theorem Vector_execMor_goes (i : Issuer) (w : VecWord) (s : State) : Goes s (Vector.execMor i w s) := by
  refine ⟨_, rfl, ?_⟩
  try dsimp only
  repeat' (first | with_reducible exact Steady.refl _ | with_reducible assumption | with_reducible apply Vote_next_steady | with_reducible apply Vector_vector_steady)

theorem Vector_execMnot_goes (i : Issuer) (w : VecWord) (s : State) : Goes s (Vector.execMnot i w s) := by
  refine ⟨_, rfl, ?_⟩
  try dsimp only
  repeat' (first | with_reducible exact Steady.refl _ | with_reducible assumption | with_reducible apply Vote_next_steady | with_reducible apply Vector_vector_steady)

theorem Vector_execVectorOpComplete_goes (core : Nat) (x : VecEnd) (s : State) : Goes s (Vector.execVectorOpComplete core x s) := by
  refine ⟨_, rfl, ?_⟩
  try dsimp only
  repeat' (first | with_reducible exact Steady.refl _ | with_reducible assumption | with_reducible apply Vote_next_steady | with_reducible apply Vector_vectorComplete_steady)

end

end Sys2Proof.Laws
end

