-- ==== Sys2Proof/Laws/SteadyStep.lean ====
section
/-! SUPPORT. Every command answers a next state, reached steadily; and the two cases of a step. -/

namespace Sys2Proof.Laws

open Sys2Proof Machine

/-- Every command answers a next state, reached steadily from the state it ran in. -/
theorem exec_goes (c : Instr) (s : State) : Goes s (exec c s) := by
  match c with
  | .pass iss w => exact Array_execPass_goes iss w s
  | .passFeedStart core => exact Array_execPassFeedStart_goes core s
  | .passComplete core hw hits => exact Array_execPassComplete_goes core hw hits s
  | .cicadaRampDownStart k => exact Array_execCicadaRampDownStart_goes k s
  | .cicadaLevelStep k => exact Array_execCicadaLevelStep_goes k s
  | .add iss w => exact Vector_execAdd_goes iss w s
  | .sub iss w => exact Vector_execSub_goes iss w s
  | .mul iss w => exact Vector_execMul_goes iss w s
  | .fma iss w => exact Vector_execFma_goes iss w s
  | .axpy iss w => exact Vector_execAxpy_goes iss w s
  | .maxOp iss w => exact Vector_execMaxOp_goes iss w s
  | .minOp iss w => exact Vector_execMinOp_goes iss w s
  | .absOp iss w => exact Vector_execAbsOp_goes iss w s
  | .neg iss w => exact Vector_execNeg_goes iss w s
  | .cvt iss w => exact Vector_execCvt_goes iss w s
  | .select iss w => exact Vector_execSelect_goes iss w s
  | .fill iss w => exact Vector_execFill_goes iss w s
  | .iota iss w => exact Vector_execIota_goes iss w s
  | .div iss w => exact Vector_execDiv_goes iss w s
  | .recip iss w => exact Vector_execRecip_goes iss w s
  | .sqrt iss w => exact Vector_execSqrt_goes iss w s
  | .rsqrt iss w => exact Vector_execRsqrt_goes iss w s
  | .exp iss w => exact Vector_execExp_goes iss w s
  | .log iss w => exact Vector_execLog_goes iss w s
  | .tanh iss w => exact Vector_execTanh_goes iss w s
  | .sigmoid iss w => exact Vector_execSigmoid_goes iss w s
  | .erf iss w => exact Vector_execErf_goes iss w s
  | .silu iss w => exact Vector_execSilu_goes iss w s
  | .gelu iss w => exact Vector_execGelu_goes iss w s
  | .expsub iss w => exact Vector_execExpsub_goes iss w s
  | .cmplt iss w => exact Vector_execCmplt_goes iss w s
  | .cmple iss w => exact Vector_execCmple_goes iss w s
  | .cmpeq iss w => exact Vector_execCmpeq_goes iss w s
  | .cmpne iss w => exact Vector_execCmpne_goes iss w s
  | .isfin iss w => exact Vector_execIsfin_goes iss w s
  | .rsum iss w => exact Vector_execRsum_goes iss w s
  | .rsumsq iss w => exact Vector_execRsumsq_goes iss w s
  | .rmax iss w => exact Vector_execRmax_goes iss w s
  | .rmin iss w => exact Vector_execRmin_goes iss w s
  | .rargmax iss w => exact Vector_execRargmax_goes iss w s
  | .rtop2 iss w => exact Vector_execRtop2_goes iss w s
  | .scan iss w => exact Vector_execScan_goes iss w s
  | .compress iss w => exact Vector_execCompress_goes iss w s
  | .compressr iss w => exact Vector_execCompressr_goes iss w s
  | .expand iss w => exact Vector_execExpand_goes iss w s
  | .expandr iss w => exact Vector_execExpandr_goes iss w s
  | .gather iss w => exact Vector_execGather_goes iss w s
  | .gatherr iss w => exact Vector_execGatherr_goes iss w s
  | .mcount iss w => exact Vector_execMcount_goes iss w s
  | .mand iss w => exact Vector_execMand_goes iss w s
  | .mor iss w => exact Vector_execMor_goes iss w s
  | .mnot iss w => exact Vector_execMnot_goes iss w s
  | .vectorOpComplete core x => exact Vector_execVectorOpComplete_goes core x s
  | .rmLaneOp k w => exact RegMode_execRmLaneOp_goes k w s
  | .ldi k w => exact RegMode_execLdi_goes k w s
  | .ldgen k w => exact RegMode_execLdgen_goes k w s
  | .ld k w => exact RegMode_execLd_goes k w s
  | .st k w => exact RegMode_execSt_goes k w s
  | .rmDigest k w => exact RegMode_execRmDigest_goes k w s
  | .chklo k w => exact RegMode_execChklo_goes k w s
  | .chkhi k w => exact RegMode_execChkhi_goes k w s
  | .rmLoop k w => exact RegMode_execRmLoop_goes k w s
  | .halt k w => exact RegMode_execHalt_goes k w s
  | .rmProgramLimit k => exact RegMode_execRmProgramLimit_goes k s
  | .put iss w hits => exact RemoteOps_execPut_goes iss w hits s
  | .get iss w => exact RemoteOps_execGet_goes iss w s
  | .putf iss w hits => exact RemoteOps_execPutf_goes iss w hits s
  | .fset iss w => exact RemoteOps_execFset_goes iss w s
  | .fclr iss w => exact RemoteOps_execFclr_goes iss w s
  | .mput iss w hits => exact RemoteOps_execMput_goes iss w hits s
  | .chain iss w hits => exact RemoteOps_execChain_goes iss w hits s
  | .waits iss w => exact FlagCtl_execWaits_goes iss w s
  | .waitc iss w => exact FlagCtl_execWaitc_goes iss w s
  | .waitSatisfied iss => exact FlagCtl_execWaitSatisfied_goes iss s
  | .waitTimeout iss => exact FlagCtl_execWaitTimeout_goes iss s
  | .setFlags iss w => exact FlagCtl_execSetFlags_goes iss w s
  | .clearFlags iss w => exact FlagCtl_execClearFlags_goes iss w s
  | .nop iss w => exact Control_execNop_goes iss w s
  | .setc iss w => exact Control_execSetc_goes iss w s
  | .addc iss w => exact Control_execAddc_goes iss w s
  | .brc iss w => exact Control_execBrc_goes iss w s
  | .loopCtr iss w => exact Control_execLoopCtr_goes iss w s
  | .brs iss w => exact Control_execBrs_goes iss w s
  | .yield iss w => exact Control_execYield_goes iss w s
  | .markTime iss w => exact Control_execMarkTime_goes iss w s
  | .waitdone iss w => exact Control_execWaitdone_goes iss w s
  | .stepend iss w => exact Control_execStepend_goes iss w s
  | .endStream iss w => exact Control_execEndStream_goes iss w s
  | .quantumExpiry core => exact Contexts_execQuantumExpiry_goes core s
  | .contextSwitch core slot => exact Contexts_execContextSwitch_goes core slot s
  | .switchComplete core slot => exact Contexts_execSwitchComplete_goes core slot s
  | .swapComplete x => exact Swaps_execSwapComplete_goes x s
  | .churnSlotWrite addr data => exact ChurnOps_execChurnSlotWrite_goes addr data s
  | .sgdMomentum n r hits => exact ChurnOps_execSgdMomentum_goes n r hits s
  | .adam n r hits => exact ChurnOps_execAdam_goes n r hits s
  | .factoredSecondMoment n r hits => exact ChurnOps_execFactoredSecondMoment_goes n r hits s
  | .signMomentum n r hits => exact ChurnOps_execSignMomentum_goes n r hits s
  | .sumsq n r hits => exact ChurnOps_execSumsq_goes n r hits s
  | .cast n r hits => exact ChurnOps_execCast_goes n r hits s
  | .churnDigest n r => exact ChurnOps_execChurnDigest_goes n r s
  | .churnDescriptorFinish n => exact ChurnOps_execChurnDescriptorFinish_goes n s
  | .pressSlotWrite addr data => exact PressOps_execPressSlotWrite_goes addr data s
  | .pack d r hits => exact PressOps_execPack_goes d r hits s
  | .unpack d r image hits => exact PressOps_execUnpack_goes d r image hits s
  | .pressDescriptorFinish d r ok => exact PressOps_execPressDescriptorFinish_goes d r ok s
  | .hivePush n q off data check => exact HiveOps_execHivePush_goes n q off data check s
  | .hiveTake n q x => exact HiveOps_execHiveTake_goes n q x s
  | .hivePeek n q x => exact HiveOps_execHivePeek_goes n q x s
  | .queueConfigWrite n q v => exact HiveOps_execQueueConfigWrite_goes n q v s
  | .hiveMark n q rsvd => exact HiveOps_execHiveMark_goes n q rsvd s
  | .rewind n q rsvd => exact HiveOps_execRewind_goes n q rsvd s
  | .release n q rsvd => exact HiveOps_execRelease_goes n q rsvd s
  | .advance n q rsvd => exact HiveOps_execAdvance_goes n q rsvd s
  | .hiveReset n q rsvd => exact HiveOps_execHiveReset_goes n q rsvd s
  | .hivePatrolScrub n q cell ecc => exact HiveOps_execHivePatrolScrub_goes n q cell ecc s
  | .flgActSet core v => exact FlagWindow_execFlgActSet_goes core v s
  | .flgActClear core v => exact FlagWindow_execFlgActClear_goes core v s
  | .flgActNone core v => exact FlagWindow_execFlgActNone_goes core v s
  | .write p => exact Tracker_execWrite_goes p s
  | .writeF p => exact Tracker_execWriteF_goes p s
  | .flagPkt p => exact Tracker_execFlagPkt_goes p s
  | .readReq p hits => exact Tracker_execReadReq_goes p hits s
  | .readRsp p => exact RemoteOps_execReadRsp_goes p s
  | .ack p => exact RemoteOps_execAck_goes p s
  | .errorRsp p => exact RemoteOps_execErrorRsp_goes p s
  | .orderingTimeout key seq => exact Tracker_execOrderingTimeout_goes key seq s
  | .operationTimeout tag => exact RemoteOps_execOperationTimeout_goes tag s
  | .packetResend key seq => exact RemoteOps_execPacketResend_goes key seq s
  | .packetForward inPort cls p => exact Router_execPacketForward_goes inPort cls p s
  | .escapeFallback idx => exact Router_execEscapeFallback_goes idx s
  | .frameSend p => exact Link_execFrameSend_goes p s
  | .frameReceive p f => exact Link_execFrameReceive_goes p f s
  | .portSignalLoss p cause => exact Link_execPortSignalLoss_goes p cause s
  | .probeOutcome m => exact Link_execProbeOutcome_goes m s
  | .portRetry p => exact Link_execPortRetry_goes p s
  | .trainingComplete p result => exact Link_execTrainingComplete_goes p result s
  | .certificateChain p digest good => exact Link_execCertificateChain_goes p digest good s
  | .hello p h => exact Link_execHello_goes p h s
  | .keyingEncapKey p key sigOk => exact Link_execKeyingEncapKey_goes p key sigOk s
  | .keyingCiphertext p ct sigOk => exact Link_execKeyingCiphertext_goes p ct sigOk s
  | .keyingTimeout p => exact Link_execKeyingTimeout_goes p s
  | .linkDownAnnounce p => exact Link_execLinkDownAnnounce_goes p s
  | .fenceNotice p => exact Link_execFenceNotice_goes p s
  | .rekeyExchangeMsg p m => exact Link_execRekeyExchangeMsg_goes p m s
  | .rekeyRetry p => exact Link_execRekeyRetry_goes p s
  | .keyGraceEnd p => exact Link_execKeyGraceEnd_goes p s
  | .keyAgeLimit p => exact Link_execKeyAgeLimit_goes p s
  | .fireflySend p => exact Clock_execFireflySend_goes p s
  | .firefly p f => exact Clock_execFirefly_goes p f s
  | .holdoverEntry => exact Clock_execHoldoverEntry_goes s
  | .holdoverLimit => exact Clock_execHoldoverLimit_goes s
  | .epochWaitExpiry => exact Clock_execEpochWaitExpiry_goes s
  | .backupRootTakeover => exact Clock_execBackupRootTakeover_goes s
  | .startEntry id => exact Sched_execStartEntry_goes id s
  | .routeSwap id => exact Sched_execRouteSwap_goes id s
  | .routeSwapResponseStop => exact Router_execRouteSwapResponseStop_goes s
  | .routeSwapActivate => exact Router_execRouteSwapActivate_goes s
  | .routeSwapResume => exact Router_execRouteSwapResume_goes s
  | .rekey id => exact Sched_execRekey_goes id s
  | .checksumFlip id => exact Sched_execChecksumFlip_goes id s
  | .checkFlip id => exact Sched_execCheckFlip_goes id s
  | .linkLoss id => exact Sched_execLinkLoss_goes id s
  | .moduleReset id => exact Sched_execModuleReset_goes id s
  | .packetDrop id => exact Sched_execPacketDrop_goes id s
  | .dramCe id => exact Sched_execDramCe_goes id s
  | .entryExpired id => exact Sched_execEntryExpired_goes id s
  | .stepBoundary ctx => exact Vote_execStepBoundary_goes ctx s
  | .confirmWaitExpiry ctx => exact Vote_execConfirmWaitExpiry_goes ctx s
  | .digestTimeout ctx => exact Vote_execDigestTimeout_goes ctx s
  | .voteUp p v => exact Vote_execVoteUp_goes p v s
  | .voteDown p v => exact Vote_execVoteDown_goes p v s
  | .replayHoldEnd ctx => exact Vote_execReplayHoldEnd_goes ctx s
  | .stepDeadline ctx => exact Vote_execStepDeadline_goes ctx s
  | .resetSequence t => exact ResetOps_execResetSequence_goes t s
  | .drainEnd => exact ResetOps_execDrainEnd_goes s
  | .resetAssert => exact ResetOps_execResetAssert_goes s
  | .abortMsg p a => exact AbortOps_execAbortMsg_goes p a s
  | .abortSeenExpiry idx => exact AbortOps_execAbortSeenExpiry_goes idx s
  | .quiesced ctx => exact AbortOps_execQuiesced_goes ctx s
  | .resetSequenceTimeout => exact ResetOps_execResetSequenceTimeout_goes s
  | .readyTimeout => exact ResetOps_execReadyTimeout_goes s
  | .coldCycleOffEnd => exact ResetOps_execColdCycleOffEnd_goes s
  | .coldCycleReadyTimeout => exact ResetOps_execColdCycleReadyTimeout_goes s
  | .writerItemFinish outcome => exact Ckpts_execWriterItemFinish_goes outcome s
  | .releaseSelf ctx => exact Ckpts_execReleaseSelf_goes ctx s
  | .wipeDone => exact Ckpts_execWipeDone_goes s
  | .weevilDue k => exact Weevils_execWeevilDue_goes k s
  | .weevilTestDone k r => exact Weevils_execWeevilTestDone_goes k r s
  | .sensorSample x => exact Sensors_execSensorSample_goes x s
  | .stackHotPersist stack => exact Sensors_execStackHotPersist_goes stack s
  | .railLowPersist rail mv us => exact Sensors_execRailLowPersist_goes rail mv us s
  | .dramStackTempSample stack temp tth => exact Sensors_execDramStackTempSample_goes stack temp tth s
  | .dramPatrolScrub addr ecc => exact Sensors_execDramPatrolScrub_goes addr ecc s
  | .sramPatrolScrub addr ecc => exact Sensors_execSramPatrolScrub_goes addr ecc s
  | .ondieCePoll stack count => exact Sensors_execOndieCePoll_goes stack count s
  | .healthScoreUpdate => exact Sensors_execHealthScoreUpdate_goes s
  | .nvRecordFlush => exact Sensors_execNvRecordFlush_goes s
  | .firmwareReverify dexhornOk imagesOk => exact Alarm_execFirmwareReverify_goes dexhornOk imagesOk s
  | .securityAlarm source => exact Alarm_execSecurityAlarm_goes source s
  | .alarmPersistCheck active => exact Alarm_execAlarmPersistCheck_goes active s
  | .pskExpiry hint => exact Spdm_execPskExpiry_goes hint s
  | .governorSample watts10 => exact Governors_execGovernorSample_goes watts10 s
  | .governingPeriodEnd => exact Governors_execGoverningPeriodEnd_goes s
  | .thermalFloorStep => exact Governors_execThermalFloorStep_goes s
  | .inputValid => exact Powering_execInputValid_goes s
  | .dexhornBoot firmwareOk pufOk => exact Powering_execDexhornBoot_goes firmwareOk pufOk s
  | .undervoltageLockout => exact Powering_execUndervoltageLockout_goes s
  | .overvoltageLockout => exact Powering_execOvervoltageLockout_goes s
  | .overvoltageRelease => exact Powering_execOvervoltageRelease_goes s
  | .inputExcursion mv us => exact Powering_execInputExcursion_goes mv us s
  | .breakerTrip mv => exact Powering_execBreakerTrip_goes mv s
  | .inputLoss => exact Powering_execInputLoss_goes s
  | .presenceBreak => exact Powering_execPresenceBreak_goes s
  | .railRegulationTimeout rail mv => exact Powering_execRailRegulationTimeout_goes rail mv s
  | .bringupPhaseEnd phase r => exact Powering_execBringupPhaseEnd_goes phase r s
  | .timePhaseEnd => exact Powering_execTimePhaseEnd_goes s
  | .modAttn => exact Powering_execModAttn_goes s
  | .removalStart => exact Powering_execRemovalStart_goes s
  | .removeWaitExpiry => exact Powering_execRemoveWaitExpiry_goes s
  | .safeReached => exact Powering_execSafeReached_goes s
  | .perstAssert => exact HostLink_execPerstAssert_goes s
  | .perstDeassert => exact HostLink_execPerstDeassert_goes s
  | .functionLevelReset => exact HostLink_execFunctionLevelReset_goes s
  | .hotReset => exact HostLink_execHotReset_goes s
  | .linkDisable => exact HostLink_execLinkDisable_goes s
  | .d3hotToD0 => exact HostLink_execD3hotToD0_goes s
  | .hostLinkDown => exact HostLink_execHostLinkDown_goes s
  | .ideStateChange stream secure => exact Spdm_execIdeStateChange_goes stream secure s
  | .hostMemoryWrite addr data => exact Bus_execHostMemoryWrite_goes addr data s
  | .hostMemoryRead addr len ecc => exact Bus_execHostMemoryRead_goes addr len ecc s
  | .hostSqDb r tail fetchOk => exact Rings_execHostSqDb_goes r tail fetchOk s
  | .hostCqDb r head => exact Rings_execHostCqDb_goes r head s
  | .ringEnable r v => exact Rings_execRingEnable_goes r v s
  | .ringDisable r v => exact Rings_execRingDisable_goes r v s
  | .coalesceTimeout r => exact Rings_execCoalesceTimeout_goes r s
  | .ctxDefine d x => exact HostDesc_execCtxDefine_goes d x s
  | .ctxDelete d => exact HostDesc_execCtxDelete_goes d s
  | .stepSetup d x => exact HostDesc_execStepSetup_goes d x s
  | .stepResolve d x => exact HostDesc_execStepResolve_goes d x s
  | .schedWrite d fireRing e => exact Sched_execSchedWrite_goes d fireRing e s
  | .schedCancel d id => exact Sched_execSchedCancel_goes d id s
  | .ckptSetup d block => exact Ckpts_execCkptSetup_goes d block s
  | .ckptCommit d slot step host => exact Ckpts_execCkptCommit_goes d slot step host s
  | .shardLoad d x => exact Ckpts_execShardLoad_goes d x s
  | .copyIn d x => exact HostDesc_execCopyIn_goes d x s
  | .copyOut d x => exact HostDesc_execCopyOut_goes d x s
  | .copyOutTrigger r t => exact HostDesc_execCopyOutTrigger_goes r t s
  | .work d x => exact HostDesc_execWork_goes d x s
  | .workDone r t => exact HostDesc_execWorkDone_goes r t s
  | .workTimeout r t => exact HostDesc_execWorkTimeout_goes r t s
  | .hostNop d => exact HostDesc_execHostNop_goes d s
  | .rmModeSet k v program => exact RegMode_execRmModeSet_goes k v program s
  | .rmModeClear k v => exact RegMode_execRmModeClear_goes k v s
  | .errLogSetupWrite off v => exact Regs_execErrLogSetupWrite_goes off v s
  | .errLogTailWrite v => exact Regs_execErrLogTailWrite_goes v s
  | .healthCtlWrite v => exact Regs_execHealthCtlWrite_goes v s
  | .remTimeoutWrite off v => exact Regs_execRemTimeoutWrite_goes off v s
  | .censusRegisterWrite ctx isCount v => exact Regs_execCensusRegisterWrite_goes ctx isCount v s
  | .routeBankWrite bank off v => exact Regs_execRouteBankWrite_goes bank off v s
  | .setupRegisterWrite off len v => exact Regs_execSetupRegisterWrite_goes off len v s
  | .getStatus m => exact Mgmt_execGetStatus_goes m s
  | .getTelemetry m => exact Mgmt_execGetTelemetry_goes m s
  | .getRecords m index => exact Mgmt_execGetRecords_goes m index s
  | .subscribe m => exact Mgmt_execSubscribe_goes m s
  | .powerOn m => exact Mgmt_execPowerOn_goes m s
  | .removeGraceful m waitS => exact Mgmt_execRemoveGraceful_goes m waitS s
  | .removeForce m waitS => exact Mgmt_execRemoveForce_goes m waitS s
  | .resetPackage m => exact Mgmt_execResetPackage_goes m s
  | .resetColdCycle m => exact Mgmt_execResetColdCycle_goes m s
  | .setAutostart m v => exact Mgmt_execSetAutostart_goes m v s
  | .loadPlan m plan digestOk => exact Mgmt_execLoadPlan_goes m plan digestOk s
  | .setTime m v => exact Mgmt_execSetTime_goes m v s
  | .steerTime m ppm => exact Mgmt_execSteerTime_goes m ppm s
  | .mgmtSchedWrite m e => exact Mgmt_execMgmtSchedWrite_goes m e s
  | .mgmtSchedCancel m id => exact Mgmt_execMgmtSchedCancel_goes m id s
  | .stageFirmware m x => exact Mgmt_execStageFirmware_goes m x s
  | .raiseMinSvn m type svn => exact Mgmt_execRaiseMinSvn_goes m type svn s
  | .setProbation m v => exact Mgmt_execSetProbation_goes m v s
  | .setPowerLimit m watts => exact Mgmt_execSetPowerLimit_goes m watts s
  | .mgmtUnknownCommand m command => exact Mgmt_execMgmtUnknownCommand_goes m command s
  | .mctpControlMessage onI3c body => exact Mgmt_execMctpControlMessage_goes onI3c body s
  | .mctpUnsupportedType type => exact Mgmt_execMctpUnsupportedType_goes type s
  | .getVersion => exact Spdm_execGetVersion_goes s
  | .getCapabilities => exact Spdm_execGetCapabilities_goes s
  | .negotiateAlgorithms hash sig => exact Spdm_execNegotiateAlgorithms_goes hash sig s
  | .getDigests => exact Spdm_execGetDigests_goes s
  | .getCertificate slot off len => exact Spdm_execGetCertificate_goes slot off len s
  | .challenge slot nonce => exact Spdm_execChallenge_goes slot nonce s
  | .getMeasurements index signed nonce => exact Spdm_execGetMeasurements_goes index signed nonce s
  | .pskExchange hint => exact Spdm_execPskExchange_goes hint s
  | .pskFinish session verifyOk => exact Spdm_execPskFinish_goes session verifyOk s
  | .heartbeat session => exact Spdm_execHeartbeat_goes session s
  | .keyUpdate session => exact Spdm_execKeyUpdate_goes session s
  | .endSession session => exact Spdm_execEndSession_goes session s
  | .spdmUnsupportedRequest code => exact Spdm_execSpdmUnsupportedRequest_goes code s
  | .kemKeyGet nonce => exact Spdm_execKemKeyGet_goes nonce s
  | .kemPsk ct hint => exact Spdm_execKemPsk_goes ct hint s
  | .jobKeySet session ctx digest key => exact Spdm_execJobKeySet_goes session ctx digest key s
  | .jobKeyErase session ctx => exact Spdm_execJobKeyErase_goes session ctx s
  | .configDigestReturn ctx => exact Vote_execConfigDigestReturn_goes ctx s
  | .hostLinkUp => exact HostLink_execHostLinkUp_goes s
  | .copyTransferEnd r t x => exact HostDesc_execCopyTransferEnd_goes r t x s
  | .shardLoadComplete ctx r => exact Ckpts_execShardLoadComplete_goes ctx r s
  | .ideKmMessage session stream m => exact Spdm_execIdeKmMessage_goes session stream m s

/-- The cycles of a nanosecond in the units: steady. -/
theorem units_steady {a s : State} (h : Steady a s) : Steady a (Idle.units s) := by
  unfold Idle.units
  exact Steady.ite (Cicada_tick_steady _ _ (ChurnOps_tick_steady _ _ (Array_tick_steady _ _ h))) h

/-- The windows of a nanosecond: steady. -/
theorem windows_steady {a s : State} (h : Steady a s) : Steady a (Idle.windows s) := by
  unfold Idle.windows
  exact Steady.ite (Swaps_atWindow_steady _ (Vector_tick_steady _ h)) h

/-- The idle nanosecond: the clock rises by one, and the rest is steady from there. -/
theorem idle_steady (s : State) : Steady { s with ns := s.ns + 1 } (Idle.tick s) :=
  have h : Steady s (Idle.units (Sched.markDue (Report.endCycle (Issue.endCycle s)))) :=
    units_steady (Sched_markDue_steady _ (Report_endCycle_steady _ (Issue_endCycle_steady _ (Steady.refl s))))
  Powering_removalStep_steady _ (Steady.foldl (windows_steady (h.later.trans (Vote_tick_steadyFrom _))) (fun _ _ k => HostDesc_finishDelete_steady _ _ k))

/-- A step with a command at the front of the queue runs that command on the state without it. -/
theorem step_cons {s : State} {c : Instr} {rest : List Instr} (h : s.pending = c :: rest) :
    step s = exec c { s with pending := rest } := by
  simp [step, h]

/-- A step on an empty queue is an idle nanosecond. -/
theorem step_nil {s : State} (h : s.pending = []) : step s = .next (Idle.tick s) := by simp [step, h]

end Sys2Proof.Laws
end

