-- ==== Sys2Proof/WellFormed.lean ====
section
/-! DEFINITION. Which commands the manual's layouts and numberings can spell: every field of a word, a header or a body fits its bits,
and every core, port, ring, queue and context number lies in its range. -/

namespace Sys2Proof.WellFormed

/-- A number lies below a bound. -/
def below (x n : Nat) : Bool := decide (x < n)

/-- Addresses of the local address space (R209). -/
def hits (l : List CodeHit) : Bool := l.all (fun h => below h.addr (2 ^ 48))

/-- R82, R172, R157: core, slot and stream code. -/
def issuer (i : Issuer) : Bool := below i.core 64 && below i.slot 4 && below i.stream 4 && hits i.hits

/-- R164. -/
def passWord (w : PassWord) : Bool :=
  below w.aop 4 && below w.chunk 4 && below w.entry 1024 && below w.wdesc 4096 && below w.xdesc 4096 && below w.odesc 4096 &&
  below w.tile 65536 && below w.fact 4 && below w.flag 8192 && below w.rsvd (2 ^ 39)

/-- R166. -/
def vecWord (w : VecWord) : Bool :=
  below w.ctr 16 && below w.fact 4 && below w.flag 8192 && below w.a 4096 && below w.b 4096 && below w.ce 4096 && below w.m 4096 &&
  below w.d 4096

/-- R167. -/
def remWord (w : RemWord) : Bool :=
  below w.osel 16 && below w.rank 16384 && below w.raddr (2 ^ 48) && below w.rcore 64 && below w.rflag 8192 && below w.ldesc 4096 &&
  below w.fact 4 && below w.flag 8192 && below w.rsvd 1024

/-- R168. -/
def flagWord (w : FlagWord) : Bool := below w.nfl 64 && below w.flag 8192 && below w.timeout (2 ^ 24) && below w.rsvd (2 ^ 79)

/-- R169: bits [112:96] and [31:0] are the reserved ones. -/
def ctlWord (w : CtlWord) : Bool := below w.cond 8 && below w.ctr 16 && below w.target (2 ^ 32) && below w.rsvd (2 ^ 49)

/-- R152. -/
def rmWord (w : RmWord) : Bool :=
  below w.op 256 && below w.vd 32 && below w.va 32 && below w.vb 32 && below w.vc 32 && below w.rsvd 4

/-- R273. -/
def pkt (p : Pkt) : Bool :=
  below p.dst 16384 && below p.src 16384 && below p.kind 256 && below p.unit 128 && below p.ctx 256 && below p.stream 4 && below p.osel 16 &&
  below p.gen 256 && below p.echoGen 256 && below p.len 1024 && below p.seq (2 ^ 32) && below p.low (2 ^ 32) && below p.fcount (2 ^ 32) &&
  below p.tag 65536 && below p.rflag 8192 && below p.rcore 64 && below p.fact 4 && below p.status 256 && below p.group 4096 &&
  below p.addr (2 ^ 48) && below p.stepTag 65536 && below p.rlen (2 ^ 32) && below p.leaf 16384 && below p.payload.length 513

/-- R467. -/
def descHead (d : DescHead) : Bool := below d.ring 128 && below d.t (2 ^ 32) && below d.ctx 256 && below d.tag (2 ^ 32)

/-- R43. -/
def schedEntry (e : SchedEntry) : Bool :=
  below e.instant (2 ^ 64) && below e.action 256 && below e.align 256 && below e.ctx 256 && below e.scope 256 && below e.id 65536

/-- R389. -/
def abortMsg (a : AbortMsg) : Bool :=
  below a.ctx 256 && below a.cause 256 && below a.hops 256 && below a.origin 16384 && below a.originGen 256 && below a.sender 16384 &&
  below a.time (2 ^ 64) && below a.step (2 ^ 64)

/-- R332. -/
def voteUp (v : VoteUpMsg) : Bool :=
  below v.ctx 256 && below v.count (2 ^ 32) && below v.stepMin (2 ^ 64) && below v.stepMax (2 ^ 64) && below v.nonfinite (2 ^ 32) &&
  below v.saturated (2 ^ 32) && below v.digMin (2 ^ 64) && below v.digMax (2 ^ 64)

/-- R332. -/
def voteDown (v : VoteDownMsg) : Bool :=
  below v.ctx 256 && below v.result 256 && below v.replays 256 && below v.count (2 ^ 32) && below v.step (2 ^ 64) && below v.tv (2 ^ 64) &&
  below v.nonfinite (2 ^ 32) && below v.saturated (2 ^ 32) && below v.digMin (2 ^ 64) && below v.digMax (2 ^ 64)

/-- R35. -/
def fireflyMsg (f : FireflyMsg) : Bool :=
  below f.rootId 16384 && below f.stratum 16 && below f.rootEpoch 256 && below f.seq (2 ^ 32) && below f.tTx (2 ^ 64) && below f.tEcho (2 ^ 64) &&
  below f.tEchoRx (2 ^ 64)

/-- R294, R295, R297: a codeword has 256 symbols. -/
def frame (f : FrameIn) : Bool := below f.epoch 256 && below f.counter (2 ^ 64) && f.errors.all (fun e => below e 257) && f.flits.all (fun x => below x.buf 16 && x.data.length == 64)

/-- R320. -/
def hello (h : HelloMsg) : Bool := below h.module 16384 && below h.port 32 && below h.revision 256 && below h.gen 256

/-- R156. -/
def ctxFields (x : CtxFields) : Bool :=
  below x.kind 256 && below x.stepped 256 && below x.pinned 256 && below x.accBase 65536 && below x.accCount 65536 &&
  below x.entryTable (2 ^ 48) && below x.descBase (2 ^ 32) && below x.saveBase (2 ^ 48)

/-- R327. -/
def setupBody (x : StepSetupBody) : Bool :=
  below x.ctx 256 && below x.replayLimit 256 && below x.parent 32 && below x.children (2 ^ 27) && below x.modules 65536 && below x.buddy 65536 &&
  below x.mirrors 65536 && below x.confAddr (2 ^ 48) && below x.lossAddr (2 ^ 48) && below x.replayHold (2 ^ 32) &&
  below x.confirmWait (2 ^ 32) && below x.stepDeadline (2 ^ 32)

/-- R393. -/
def resolveBody (x : ResolveBody) : Bool := below x.ctx 256 && below x.result 256 && below x.step (2 ^ 64) && below x.tv (2 ^ 64)

/-- R421. -/
def loadBody (x : LoadBody) : Bool := below x.ctx 256 && below x.step (2 ^ 64) && below x.hostAddr (2 ^ 64) && below x.dest (2 ^ 48)

/-- R469. -/
def copyFields (x : CopyFields) : Bool :=
  below x.hostAddr (2 ^ 64) && below x.localAddr (2 ^ 48) && below x.length (2 ^ 64) && below x.trigCore 64 && below x.trigFlag 8192

/-- R469. -/
def workFields (x : WorkFields) : Bool :=
  below x.startCore 256 && below x.startFlag 65536 && below x.doneCore 256 && below x.doneFlag 65536 && below x.timeout (2 ^ 32)

/-- R491. -/
def mgmtHead (m : MgmtHead) : Bool := below m.seq 256

/-- R314. -/
def planOk (p : Plan) : Bool := below p.module 16384 && p.ports.all (fun e => below e.1 27 && below e.2.peer 16384 && below e.2.peerPort 27)

/-- R494. -/
def planPart (p : PlanPart) : Bool := p.last.all planOk

end Sys2Proof.WellFormed

namespace Sys2Proof

open WellFormed in
/-- Every operand of a command lies in the range that the manual gives it. -/
def wellFormed (i : Instr) : Bool :=
  match i with
  | .pass i w => issuer i && passWord w.word && hits w.hits
  | .passFeedStart core => below core 64
  | .passComplete core _ h => below core 64 && hits h
  | .cicadaRampDownStart k => below k 72
  | .cicadaLevelStep k => below k 72
  | .add i w => issuer i && vecWord w
  | .sub i w => issuer i && vecWord w
  | .mul i w => issuer i && vecWord w
  | .fma i w => issuer i && vecWord w
  | .axpy i w => issuer i && vecWord w
  | .maxOp i w => issuer i && vecWord w
  | .minOp i w => issuer i && vecWord w
  | .absOp i w => issuer i && vecWord w
  | .neg i w => issuer i && vecWord w
  | .cvt i w => issuer i && vecWord w
  | .select i w => issuer i && vecWord w
  | .fill i w => issuer i && vecWord w
  | .iota i w => issuer i && vecWord w
  | .div i w => issuer i && vecWord w
  | .recip i w => issuer i && vecWord w
  | .sqrt i w => issuer i && vecWord w
  | .rsqrt i w => issuer i && vecWord w
  | .exp i w => issuer i && vecWord w
  | .log i w => issuer i && vecWord w
  | .tanh i w => issuer i && vecWord w
  | .sigmoid i w => issuer i && vecWord w
  | .erf i w => issuer i && vecWord w
  | .silu i w => issuer i && vecWord w
  | .gelu i w => issuer i && vecWord w
  | .expsub i w => issuer i && vecWord w
  | .cmplt i w => issuer i && vecWord w
  | .cmple i w => issuer i && vecWord w
  | .cmpeq i w => issuer i && vecWord w
  | .cmpne i w => issuer i && vecWord w
  | .isfin i w => issuer i && vecWord w
  | .rsum i w => issuer i && vecWord w
  | .rsumsq i w => issuer i && vecWord w
  | .rmax i w => issuer i && vecWord w
  | .rmin i w => issuer i && vecWord w
  | .rargmax i w => issuer i && vecWord w
  | .rtop2 i w => issuer i && vecWord w
  | .scan i w => issuer i && vecWord w
  | .compress i w => issuer i && vecWord w
  | .compressr i w => issuer i && vecWord w
  | .expand i w => issuer i && vecWord w
  | .expandr i w => issuer i && vecWord w
  | .gather i w => issuer i && vecWord w
  | .gatherr i w => issuer i && vecWord w
  | .mcount i w => issuer i && vecWord w
  | .mand i w => issuer i && vecWord w
  | .mor i w => issuer i && vecWord w
  | .mnot i w => issuer i && vecWord w
  | .vectorOpComplete core x => below core 64 && hits x.hits
  | .rmLaneOp k w => below k 72 && rmWord w
  | .ldi k w => below k 72 && rmWord w
  | .ldgen k w => below k 72 && rmWord w
  | .ld k w => below k 72 && rmWord w.word && hits w.hits
  | .st k w => below k 72 && rmWord w.word && hits w.hits
  | .rmDigest k w => below k 72 && rmWord w
  | .chklo k w => below k 72 && rmWord w
  | .chkhi k w => below k 72 && rmWord w
  | .rmLoop k w => below k 72 && rmWord w
  | .halt k w => below k 72 && rmWord w
  | .rmProgramLimit k => below k 72
  | .put i w h => issuer i && remWord w.word && hits h
  | .get i w => issuer i && remWord w.word
  | .putf i w h => issuer i && remWord w.word && hits h
  | .fset i w => issuer i && remWord w.word
  | .fclr i w => issuer i && remWord w.word
  | .mput i w h => issuer i && remWord w.word && hits h
  | .chain i w h => issuer i && remWord w.word && hits h
  | .waits i w => issuer i && flagWord w
  | .waitc i w => issuer i && flagWord w
  | .waitSatisfied i => issuer i
  | .waitTimeout i => issuer i
  | .setFlags i w => issuer i && flagWord w.word
  | .clearFlags i w => issuer i && flagWord w.word
  | .nop i w => issuer i && ctlWord w
  | .setc i w => issuer i && ctlWord w
  | .addc i w => issuer i && ctlWord w
  | .brc i w => issuer i && ctlWord w
  | .loopCtr i w => issuer i && ctlWord w
  | .brs i w => issuer i && ctlWord w
  | .yield i w => issuer i && ctlWord w
  | .markTime i w => issuer i && ctlWord w
  | .waitdone i w => issuer i && ctlWord w
  | .stepend i w => issuer i && ctlWord w
  | .endStream i w => issuer i && ctlWord w
  | .quantumExpiry core => below core 64
  | .contextSwitch core x => below core 64 && below x.slot 4 && hits x.hits
  | .switchComplete core x => below core 64 && below x.slot 4 && hits x.hits
  | .swapComplete x => below x.cluster 8
  | .churnSlotWrite addr _ => below addr (2 ^ 48)
  | .sgdMomentum n r h => below n 8 && below r 16 && hits h
  | .adam n r h => below n 8 && below r 16 && hits h
  | .factoredSecondMoment n r h => below n 8 && below r 16 && hits h
  | .signMomentum n r h => below n 8 && below r 16 && hits h
  | .sumsq n r h => below n 8 && below r 16 && hits h
  | .cast n r h => below n 8 && below r 16 && hits h
  | .churnDigest n r => below n 8 && below r 16
  | .churnDescriptorFinish n => below n 8
  | .pressSlotWrite addr _ => below addr (2 ^ 48)
  | .pack d r h => below d 2 && below r 16 && hits h
  | .unpack d r _ h => below d 2 && below r 16 && hits h
  | .pressDescriptorFinish d r _ => below d 2 && below r 16
  | .hivePush n q _ _ _ => below n 8 && below q 2048
  | .hiveTake n q x => below n 8 && below q 2048 && hits x.hits
  | .hivePeek n q x => below n 8 && below q 2048 && hits x.hits
  | .queueConfigWrite n q _ => below n 8 && below q 2048
  | .hiveMark n q rsvd => below n 8 && below q 2048 && below rsvd (2 ^ 24)
  | .rewind n q rsvd => below n 8 && below q 2048 && below rsvd (2 ^ 24)
  | .release n q rsvd => below n 8 && below q 2048 && below rsvd (2 ^ 24)
  | .advance n q rsvd => below n 8 && below q 2048 && below rsvd (2 ^ 24)
  | .hiveReset n q rsvd => below n 8 && below q 2048 && below rsvd (2 ^ 24)
  | .hivePatrolScrub n q cell _ => below n 8 && below q 2048 && below cell 65536
  | .flgActSet core _ => below core 64
  | .flgActClear core _ => below core 64
  | .flgActNone core _ => below core 64
  | .write p => pkt p.pkt && hits p.hits
  | .writeF p => pkt p.pkt && hits p.hits
  | .flagPkt p => pkt p
  | .readReq p h => pkt p && hits h
  | .readRsp p => pkt p.pkt && hits p.hits
  | .ack p => pkt p
  | .errorRsp p => pkt p
  | .orderingTimeout _ seq => below seq (2 ^ 32)
  | .operationTimeout tag => below tag 65536
  | .packetResend _ seq => below seq (2 ^ 32)
  | .packetForward _ _ p => pkt p
  | .escapeFallback _ => true
  | .frameSend p => below p 27
  | .frameReceive p f => below p 27 && frame f
  | .portSignalLoss p _ => below p 27
  | .probeOutcome m => below m 16384
  | .portRetry p => below p 27
  | .trainingComplete p _ => below p 27
  | .certificateChain p _ _ => below p 27
  | .hello p h => below p 27 && hello h
  | .keyingEncapKey p _ _ => below p 27
  | .keyingCiphertext p _ _ => below p 27
  | .keyingTimeout p => below p 27
  | .linkDownAnnounce p => below p 27
  | .fenceNotice p => below p 27
  | .rekeyExchangeMsg p _ => below p 27
  | .rekeyRetry p => below p 27
  | .keyGraceEnd p => below p 27
  | .keyAgeLimit p => below p 27
  | .fireflySend p => below p 27
  | .firefly p f => below p 27 && fireflyMsg f
  | .holdoverEntry => true
  | .holdoverLimit => true
  | .epochWaitExpiry => true
  | .backupRootTakeover => true
  | .startEntry id => below id 65536
  | .routeSwap id => below id 65536
  | .routeSwapResponseStop => true
  | .routeSwapActivate => true
  | .routeSwapResume => true
  | .rekey id => below id 65536
  | .checksumFlip id => below id 65536
  | .checkFlip id => below id 65536
  | .linkLoss id => below id 65536
  | .moduleReset id => below id 65536
  | .packetDrop id => below id 65536
  | .dramCe id => below id 65536
  | .entryExpired id => below id 65536
  | .stepBoundary ctx => below ctx 255
  | .confirmWaitExpiry ctx => below ctx 255
  | .digestTimeout ctx => below ctx 255
  | .voteUp p v => below p 27 && voteUp v
  | .voteDown p v => below p 27 && voteDown v
  | .replayHoldEnd ctx => below ctx 255
  | .stepDeadline ctx => below ctx 255
  | .resetSequence _ => true
  | .drainEnd => true
  | .resetAssert => true
  | .abortMsg p a => below p 27 && abortMsg a
  | .abortSeenExpiry _ => true
  | .quiesced ctx => below ctx 255
  | .resetSequenceTimeout => true
  | .readyTimeout => true
  | .coldCycleOffEnd => true
  | .coldCycleReadyTimeout => true
  | .writerItemFinish x => hits x.hits
  | .releaseSelf ctx => below ctx 255
  | .wipeDone => true
  | .weevilDue k => below k 72
  | .weevilTestDone k x => below k 72 && below x.phase 4
  | .sensorSample _ => true
  | .stackHotPersist stack => below stack 4
  | .railLowPersist _ _ _ => true
  | .dramStackTempSample stack _ _ => below stack 4
  | .dramPatrolScrub addr _ => below addr (2 ^ 48)
  | .sramPatrolScrub addr _ => below addr (2 ^ 48)
  | .ondieCePoll stack _ => below stack 4
  | .healthScoreUpdate => true
  | .nvRecordFlush => true
  | .firmwareReverify _ _ => true
  | .securityAlarm source => below source 512
  | .alarmPersistCheck _ => true
  | .pskExpiry _ => true
  | .governorSample _ => true
  | .governingPeriodEnd => true
  | .thermalFloorStep => true
  | .inputValid => true
  | .dexhornBoot _ _ => true
  | .undervoltageLockout => true
  | .overvoltageLockout => true
  | .overvoltageRelease => true
  | .inputExcursion _ _ => true
  | .breakerTrip _ => true
  | .inputLoss => true
  | .presenceBreak => true
  | .railRegulationTimeout _ _ => true
  | .bringupPhaseEnd phase x => below phase 9 && x.failedCores.all (fun f => below f.1 72) && x.lostChannels.all (fun c => below c 128)
  | .timePhaseEnd => true
  | .modAttn => true
  | .removalStart => true
  | .removeWaitExpiry => true
  | .safeReached => true
  | .perstAssert => true
  | .perstDeassert => true
  | .functionLevelReset => true
  | .hotReset => true
  | .linkDisable => true
  | .d3hotToD0 => true
  | .hostLinkDown => true
  | .ideStateChange stream _ => below stream 2
  | .hostMemoryWrite addr x => below addr (2 ^ 48) && hits x.hits
  | .hostMemoryRead addr _ _ => below addr (2 ^ 48)
  | .hostSqDb r _ _ => below r 128
  | .hostCqDb r _ => below r 128
  | .ringEnable r _ => below r 128
  | .ringDisable r _ => below r 128
  | .coalesceTimeout r => below r 128
  | .ctxDefine d x => descHead d && ctxFields x
  | .ctxDelete d => descHead d
  | .stepSetup d x => descHead d && setupBody x
  | .stepResolve d x => descHead d && resolveBody x
  | .schedWrite d fireRing e => descHead d && below fireRing 128 && schedEntry e
  | .schedCancel d id => descHead d && below id 65536
  | .ckptSetup d block => descHead d && below block (2 ^ 48)
  | .ckptCommit d _ _ host => descHead d && below host (2 ^ 64)
  | .shardLoad d x => descHead d && loadBody x
  | .copyIn d x => descHead d && copyFields x
  | .copyOut d x => descHead d && copyFields x
  | .copyOutTrigger r _ => below r 128
  | .work d x => descHead d && workFields x
  | .workDone r _ => below r 128
  | .workTimeout r _ => below r 128
  | .hostNop d => descHead d
  | .rmModeSet k _ _ => below k 72
  | .rmModeClear k _ => below k 72
  | .errLogSetupWrite _ _ => true
  | .errLogTailWrite _ => true
  | .healthCtlWrite _ => true
  | .remTimeoutWrite _ _ => true
  | .censusRegisterWrite ctx _ _ => below ctx 255
  | .routeBankWrite bank _ _ => below bank 2
  | .setupRegisterWrite _ _ _ => true
  | .getStatus m => mgmtHead m
  | .getTelemetry m => mgmtHead m
  | .getRecords m _ => mgmtHead m
  | .subscribe m => mgmtHead m
  | .powerOn m => mgmtHead m
  | .removeGraceful m _ => mgmtHead m
  | .removeForce m _ => mgmtHead m
  | .resetPackage m => mgmtHead m
  | .resetColdCycle m => mgmtHead m
  | .setAutostart m _ => mgmtHead m
  | .loadPlan m plan _ => mgmtHead m && planPart plan
  | .setTime m _ => mgmtHead m
  | .steerTime m _ => mgmtHead m
  | .mgmtSchedWrite m e => mgmtHead m && schedEntry e
  | .mgmtSchedCancel m id => mgmtHead m && below id 65536
  | .stageFirmware m _ => mgmtHead m
  | .raiseMinSvn m _ _ => mgmtHead m
  | .setProbation m _ => mgmtHead m
  | .setPowerLimit m _ => mgmtHead m
  | .mgmtUnknownCommand m _ => mgmtHead m
  | .mctpControlMessage _ _ => true
  | .mctpUnsupportedType _ => true
  | .getVersion => true
  | .getCapabilities => true
  | .negotiateAlgorithms _ _ => true
  | .getDigests => true
  | .getCertificate _ _ _ => true
  | .challenge _ _ => true
  | .getMeasurements _ _ _ => true
  | .pskExchange _ => true
  | .pskFinish _ _ => true
  | .heartbeat _ => true
  | .keyUpdate _ => true
  | .endSession _ => true
  | .spdmUnsupportedRequest x => below x.code 256
  | .kemKeyGet _ => true
  | .kemPsk _ _ => true
  | .jobKeySet _ ctx _ _ => below ctx 255
  | .jobKeyErase _ ctx => below ctx 255
  | .configDigestReturn ctx => below ctx 255
  | .hostLinkUp => true
  | .copyTransferEnd r _ x => below r 128 && hits x.hits
  | .shardLoadComplete ctx x => below ctx 255 && hits x.hits
  | .ideKmMessage _ stream _ => below stream 2

end Sys2Proof
end

