-- ==== Sys2Proof/Tests/Slice0.lean ====
section
/-! SUPPORT. Tests of single definitions against numbers of the manual, ill-formed commands, and for every statement with hypotheses a
concrete state and operands that meet them. -/

namespace Sys2Proof.Tests

set_option Elab.async false

open Machine Machine.Ops Machine.Bits Safety

/-! ## States the tests speak of -/

/-- A READY module with its host link up and a stream Secure. -/
def ready : State :=
  { State.reset with dex := { State.reset.dex with state := .ready }, host := { State.reset.host with linkUp := true, secure := true } }

/-- A module in a management state. -/
def inState (m : MgmtState) : State := { ready with dex := { ready.dex with state := m } }

/-- Stream 0 of slot 0 on core 0. -/
def iss : Issuer := { core := 0, slot := 0, stream := 0 }

/-- A running stream, a RESIDENT context on core 0 with that stream, and the context. -/
def str : StreamState := { present := true }
def res : CoreCtx := { state := .resident, slot := some 0, streams := [(0, str)] }
def ctx : Ctx := { fields := { cores := 1 }, cores := [(0, res)] }

/-- The state with a context 1. -/
def withCtx (x : Ctx) (s : State) : State := { s with ctxs := [(1, x)] }

/-- The ready module with the context, and the stream that may issue there. -/
def busy : State := withCtx ctx ready
def run : Issue.Runner := ⟨1, ctx, res, str⟩

/-- Bytes stored from an address. -/
def poked (s : State) (a : Nat) (b : Bytes) : State := { s with mem := { s.mem with cells := Mem.pokeCells s.mem.cells a b } }

/-- The entry table at 0 gives stream 0 of core 0 its program at 65,536, whose first word is the one named. -/
def wordAt (x : Nat) (s : State) : State := poked (poked s 0 (le 8 0x10000)) 0x10000 (le 16 x)

/-- The stream can issue the word: found, fetched, decoded, and in its turn. -/
theorem mayIssue {s : State} {i : Issuer} {r : Issue.Runner} {w : StreamWord} (h : Issue.runner s i = some r)
    (h2 : (!Issue.fetchBad s r.x i.core i.stream r.t.pc && !Issue.fetchHit s i r && Issue.nextWord s r.x i.core i.stream r.t.pc == w &&
      Issue.myTurn s i) = true) :
    CanIssue s i r w := by
  simp only [Bool.and_eq_true, Bool.not_eq_true', beq_iff_eq] at h2
  exact ⟨⟨h, h2.1.1.1, h2.1.1.2, h2.1.2⟩, h2.2⟩

/-- The stream has reached the word. -/
theorem hasReached {s : State} {i : Issuer} {r : Issue.Runner} {w : StreamWord} (h : Issue.runner s i = some r)
    (h2 : (!Issue.fetchBad s r.x i.core i.stream r.t.pc && !Issue.fetchHit s i r && Issue.nextWord s r.x i.core i.stream r.t.pc == w) = true) : Reached s i r w := by
  simp only [Bool.and_eq_true, Bool.not_eq_true', beq_iff_eq] at h2
  exact ⟨h, h2.1.1, h2.1.2, h2.2⟩

/-- Words with only their class and code (R162 to R169). -/
def flagBits (fop : Nat) : Nat := 2 ^ 127 + fop * 2 ^ 122
def ctlBits (cop : Nat) : Nat := 0xA * 2 ^ 124 + cop * 2 ^ 121

/-! # Witnesses: for every statement with hypotheses, a state and operands that meet them -/

/-! ## Machine, control instructions and flags -/

/-- The context with another stream 0, and with the step protocol and an open step. -/
def ctxOf (t : StreamState) : Ctx := { ctx with cores := [(0, { res with streams := [(0, t)] })] }
def ctxStep : Ctx := { ctx with fields := { ctx.fields with stepped := 1 }, step := { isOpen := true, setup := some {} } }

/-- The module with a second context that waits on core 0. -/
def two : State := { ready with ctxs := [(1, ctx), (2, { fields := { cores := 1 }, cores := [(0, {})] })] }

/-- Flag 5 of core 0 is set; with policy 1. -/
def flagged : State := { busy with flags := { busy.flags with vals := [(5, true)] } }
def counted : State := { flagged with flags := { flagged.flags with attrs := [(5, { policy := true })] } }

/-- A wait on flag 5 whose deadline is now. -/
def wait5 : WaitState := { consume := true, flag := 5, count := 1, timeout := 1, used := 0, since := 0 }
def waits (s : State) : State := withCtx (ctxOf { str with wait := some wait5 }) s
def at1000 : State := { ready with ftime := { ready.ftime with count := 1000 } }

theorem witness_StreamAndCounterOperations : ctx? busy 1 = some ctx ∧ (15 : Nat) ≠ 14 := by decide

theorem witness_StepRunsFrontCommand : (State.reset.enqueueFront .perstDeassert).pending = [.perstDeassert] := by decide

theorem witness_QueueClockAndOutputsStep :
    (∃ t, step State.reset = .next t ∧ State.reset.pending = []) ∧ ∃ t, step (State.reset.enqueueFront .perstDeassert) = .next t :=
  ⟨⟨_, rfl, rfl⟩, _, rfl⟩

theorem witness_StepKeepsInvariants :
    Mem.wf State.reset.mem = true ∧ Mem.wf (poked State.reset 7 [1, 2]).mem = true ∧ (∃ t, step (poked State.reset 7 [1, 2]) = .next t) ∧
    RangesOk State.reset := by
  have limit : limitOk State.reset.gov.limit := by unfold limitOk; decide
  refine ⟨by decide, by decide, ⟨_, rfl⟩, ⟨?_, ?_, ?_, ?_, ?_, ⟨limit, fun w h => (by cases h), by decide, by decide⟩⟩⟩
  · unfold healthOk; decide
  · unfold timeoutsOk; decide
  · unfold scrubOk; decide
  · unfold quantumOk; decide
  · unfold swapCtlOk; decide

theorem witness_ControlInstructionsComplete :
    Control.legal {} = true ∧ (∀ cop ∈ [0, 1, 2, 3, 4, 7], CanIssue (wordAt (ctlBits cop) busy) iss run (.ctl cop {})) ∧ ({} : CtlWord).ctr % 2 = 0 :=
  ⟨by decide, fun cop h => mayIssue rfl ((by decide +kernel :
    ∀ cop ∈ [0, 1, 2, 3, 4, 7], (!Issue.fetchBad (wordAt (ctlBits cop) busy) ctx 0 0 0 && !Issue.fetchHit (wordAt (ctlBits cop) busy) iss run &&
      Issue.nextWord (wordAt (ctlBits cop) busy) ctx 0 0 0 == .ctl cop {} && Issue.myTurn (wordAt (ctlBits cop) busy) iss) = true) cop h), by decide⟩

theorem witness_StatusBranchesAndStreamEndsComplete :
    (∀ cop ∈ [5, 6, 8, 10], CanIssue (wordAt (ctlBits cop) busy) iss run (.ctl cop {})) ∧
    (CanIssue (wordAt (ctlBits 9) (withCtx ctxStep ready)) iss ⟨1, ctxStep, res, str⟩ (.ctl 9 {}) ∧ ctxStep.fields.stepped = 1) :=
  ⟨fun cop h => mayIssue rfl ((by decide +kernel :
    ∀ cop ∈ [5, 6, 8, 10], (!Issue.fetchBad (wordAt (ctlBits cop) busy) ctx 0 0 0 && !Issue.fetchHit (wordAt (ctlBits cop) busy) iss run &&
      Issue.nextWord (wordAt (ctlBits cop) busy) ctx 0 0 0 == .ctl cop {} && Issue.myTurn (wordAt (ctlBits cop) busy) iss) = true) cop h),
   mayIssue rfl (by decide +kernel), by decide⟩

theorem witness_IllegalInstructionFaultsContext :
    ({ rsvd := 1 } : CtlWord).rsvd ≠ 0 ∧ CanIssue (wordAt (ctlBits 10 + 1) busy) iss run (.ctl 10 { rsvd := 1 }) ∧
    (CanIssue (wordAt (2 ^ 126 + 2 ^ 117) busy) iss run (.vec 0x01 { den := false }) ∧
      (Vector.legal (wordAt (2 ^ 126 + 2 ^ 117) busy) run iss 0x01 { den := false }).isNone = true) ∧
    Reached (wordAt 0 busy) iss run (.reserved 0 0) ∧ Reached (wordAt (ctlBits 15) busy) iss run (.reserved 5 15) :=
  ⟨by decide, mayIssue rfl (by decide +kernel), ⟨mayIssue rfl (by decide +kernel), by decide +kernel⟩, hasReached rfl (by decide +kernel),
   hasReached rfl (by decide +kernel)⟩

theorem witness_FlagStoreRules :
    FlagOps.value busy 0 8191 = false ∧ FlagOps.key 1 0 ≠ FlagOps.key 0 8191 ∧ FlagOps.value flagged 0 5 = true ∧
    FlagOps.value counted 0 5 = true ∧ (FlagOps.attr counted 0 5).policy = true := by decide

/-- Words of a wait on flag 5, and on the last 64 flags. -/
def wait5Bits (fop : Nat) : Nat := flagBits fop + 5 * 2 ^ 103
def wait64Bits (fop : Nat) : Nat := flagBits fop + 63 * 2 ^ 116 + 8128 * 2 ^ 103

theorem witness_FlagWaitsComplete :
    (Issue.legalFlag { flag := 5 } = true ∧
      CanIssue (wordAt (wait5Bits 0) flagged) iss run (.flag 0 { flag := 5 }) ∧ CanIssue (wordAt (wait5Bits 1) flagged) iss run (.flag 1 { flag := 5 }) ∧
      FlagOps.met (wordAt (wait5Bits 0) flagged) 0 (FlagCtl.waitOf flagged false { flag := 5 }) = true ∧
      FlagOps.met (wordAt (wait5Bits 1) flagged) 0 (FlagCtl.waitOf flagged true { flag := 5 }) = true) ∧
    (Issue.legalFlag { flag := 8128, nfl := 63 } = true ∧
      Reached (wordAt (wait64Bits 0) flagged) iss run (.flag 0 { flag := 8128, nfl := 63 }) ∧
      Reached (wordAt (wait64Bits 1) flagged) iss run (.flag 1 { flag := 8128, nfl := 63 }) ∧
      FlagOps.met flagged 0 (FlagCtl.waitOf flagged false { flag := 8128, nfl := 63 }) = false ∧
      FlagOps.met flagged 0 (FlagCtl.waitOf flagged true { flag := 8128, nfl := 63 }) = false) ∧
    (Order.turn 7 (waits flagged) = true ∧ (FlagCtl.waiting (waits flagged) iss).isSome = true ∧ FlagOps.met (waits flagged) 0 wait5 = true) ∧
    (Order.turn 5 (waits at1000) = true ∧ (FlagCtl.waiting (waits at1000) iss).isSome = true ∧ FlagOps.met (waits at1000) 0 wait5 = false ∧
      wait5.timeout ≠ 0 ∧ 1000 * wait5.timeout ≤ wait5.used + (now (waits at1000) - wait5.since)) := by
  refine ⟨⟨by decide, mayIssue rfl ?_, mayIssue rfl ?_, ?_, ?_⟩, ⟨by decide, hasReached rfl ?_, hasReached rfl ?_, ?_, ?_⟩, ?_, ?_⟩ <;> decide +kernel

theorem witness_FlagActionsComplete :
    (Issue.legalFlag { flag := 8191 } = true ∧ CanIssue (wordAt (flagBits 2 + 8191 * 2 ^ 103) busy) iss run (.flag 2 { flag := 8191 }) ∧
      CanIssue (wordAt (flagBits 3 + 8191 * 2 ^ 103) busy) iss run (.flag 3 { flag := 8191 }) ∧ Pairs.redundant busy 1 = false) ∧
    (FlagOps.swapping busy 0 = false ∧ isPartner busy 0 = false ∧ (0x4000 : W64).toNat / 16384 % 4 = 1 ∧
      (0x9FFF : W64).toNat / 16384 % 4 = 2 ∧ (0x1FFF : W64).toNat / 16384 % 4 = 0) ∧
    isPartner (withCtx { ctx with redundant := true } ready) 1 = true := by
  refine ⟨⟨by decide, mayIssue rfl ?_, mayIssue rfl ?_, ?_⟩, ?_, ?_⟩ <;> decide +kernel

/-! ## The vector engine, the array and register mode -/

/-- The 32 bytes of a stream descriptor (R125). -/
def descBytes (base fmt kind inner rows stride : Nat) : Bytes :=
  le 6 base ++ le 1 fmt ++ le 1 kind ++ le 4 inner ++ le 2 rows ++ le 2 0 ++ le 4 stride ++ le 12 0

/-- Descriptor 0: 4 FP32 numbers of core 0's scratchpad, which both operand and result name. -/
def vecState : State := poked busy 0x500000000000 (descBytes 0x500000001000 0 0 4 1 16)

/-- The words of ABS from descriptor 0 to itself, and of a row compress. -/
def absBits : Nat := 2 ^ 126 + 8 * 2 ^ 117 + 2 ^ 112
def absWord : VecWord := { den := true }

theorem witness_VectorOperationsIssue :
    (vectorCommands iss absWord).contains (Instr.absOp iss absWord, 0x08) = true ∧ CanIssue (wordAt absBits vecState) iss run (.vec 0x08 absWord) ∧
    (Vector.legal (wordAt absBits vecState) run iss 0x08 absWord).isSome = true ∧
    Operand.descBad (wordAt absBits vecState) run.x 0 (Vector.named 0x08 absWord) = false := by
  refine ⟨?_, mayIssue rfl ?_, ?_, ?_⟩ <;> decide +kernel

/-- An ABS that issued 25 cycles ago, the fewest that R146 allows it. -/
def absDesc : StreamDesc := ⟨0x500000001000, 0, 0, 4, 1, 16, 0, 0, 0⟩
def absRun : VecOp :=
  { ctx := 1, slot := 0, stream := 0, pc := 0, code := 0x08, word := absWord, a := some absDesc, b := none, ce := none, m := none, d := some absDesc,
    n := 0, started := some 0 }
def vecDone : State := { vecState with ns := 21, vecq := [(0, [absRun])] }

theorem witness_VectorOperationsComplete :
    Vector.queue vecDone 0 = absRun :: [] ∧ absRun.started = some 0 ∧ 0 + Vector.minCycles vecDone absRun ≤ cycle vecDone ∧
    Order.turn 4 vecDone = true ∧ Issue.nextToComplete vecDone 0 (4 * absRun.slot + absRun.stream, absRun.serial) = true ∧
    Vector.tainted vecDone absRun = false ∧ (Vector.outcome vecDone absRun).ctr = none ∧ (Vector.outcome vecDone absRun).fault = false := by
  decide

/-- Descriptors 0 to 2: a tile of 128 by 128 FP8 weights in DRAM, one vector of 128 FP8 activations, one vector of 128 FP32 outputs. -/
def passState : State :=
  poked busy 0x500000000000 (descBytes 0 3 0 128 128 128 ++ descBytes 0x500000001000 3 0 128 1 128 ++
    descBytes 0x500000002000 0 0 128 1 512)
def passWord : PassWord := { neww := true, wdesc := 0, xdesc := 1, odesc := 2, last := true }

def passBits : Nat := 2 ^ 125 + 2 ^ 121 + 2 ^ 116 + 1 * 2 ^ 82 + 2 * 2 ^ 70

theorem witness_PassesIssue :
    CanIssue (wordAt passBits passState) iss run (.pass passWord) ∧ (Array.legalPass (wordAt passBits passState) run 0 passWord).isSome = true ∧
    Operand.descBad (wordAt passBits passState) run.x 0 [0, 1, 2] = false := by
  refine ⟨mayIssue rfl ?_, ?_, ?_⟩ <;> decide +kernel

/-- A pass of one vector whose weights are ready at cycle 134, and the same pass fed there. Its first activation is a NaN, so its check is
skipped (R78). -/
def actDesc : StreamDesc := ⟨0x500000001000, 3, 0, 128, 1, 128, 0, 0, 0⟩
def outDesc : StreamDesc := ⟨0x500000002000, 0, 0, 128, 1, 512, 0, 0, 0⟩
def tile0 : Tile := { ctx := 1, desc := ⟨0, 3, 0, 128, 128, 128, 0, 0, 0⟩ }
def passRun (last : Bool) (fed : Option Nat) : PassOp :=
  { ctx := 1, slot := 0, stream := 0, pc := 0, word := { passWord with last := last }, tile := tile0, x := actDesc, o := outDesc, m := 1,
    half := false, loaded := Array.loadWhole, fed := fed }
def passAt (ns : Nat) (p : PassOp) (level : Nat) : State :=
  { poked busy 0x500000001000 [0x7F] with ns := ns, arrays := [(0, { passes := [p] })], phys := [(0, { level := level })] }

theorem witness_PassesFeed :
    (let s := passAt 112 (passRun false none) 64
     let p := passRun false none
     Array.nextFeed (Array.arrayOf s 0).passes = some p ∧ Array.fullLevel s 0 p.ctx = true ∧ Array.weightsReady (Array.arrayOf s 0) p = true ∧
     Array.earliest (Array.arrayOf s 0) p ≤ cycle s ∧ Cicada.switching s 0 = false ∧ Slots.switchReady s 0 = false) := by decide +kernel

theorem witness_PassesComplete (last : Bool) :
    let s := passAt 335 (passRun last (some 134)) 64
    (Array.arrayOf s 0).passes = passRun last (some 134) :: [] ∧ (passRun last (some 134)).fed ≠ none ∧ Order.turn 4 s = true ∧
    Issue.nextToComplete s 0 (0, 0) = true ∧ Pairs.redundant s 1 = false ∧
    Pairs.redundant { s with ctxs := [(1, { ctx with redundant := true })] } 1 = true ∧ Array.doneAt (passRun last (some 134)) ≤ cycle s ∧ (passRun last (some 134)).word.last = last ∧
    Operand.anyBad s actDesc = false ∧ tile0.bad = [] ∧
    ∀ r ∈ Array.runVectors s (Array.arrayOf s 0) (passRun last (some 134)) none, r.2.2.mismatch = false := by
  cases last <;> decide +kernel

theorem witness_CicadaLevelsMove :
    (let s := { ready with phys := [(0, { level := 1, gapRun := 2048 })] }
     Cicada.inGap s 0 = true ∧ (Cicada.physAt s 0).ramp = 0 ∧ 0 < (Cicada.physAt s 0).level ∧ 2048 ≤ (Cicada.physAt s 0).gapRun) ∧
    40 ≤ cycle { ready with ns := 34, phys := [(0, { level := 1, ramp := 2 })] } ∧
    40 ≤ cycle { ready with ns := 34, phys := [(0, { level := 63, ramp := 1 })] } := by decide

/-- Register mode on a spare core, whose program is one word. -/
def rmAt (k : Nat) (x : RmCore) (op : Nat) (w : RmWord) : State :=
  { ready with rm := [(k, { x with mode := true, running := true, program := [RegMode.encode op w] })] }
def imm (n : W32) : RmWord := { imm := n }

theorem rmReady (k : Nat) (x : RmCore) (op : Nat) (w : RmWord) (h0 : w.rsvd % 4 = 0) (h1 : x.pc = 0) :
    RmReady (rmAt k x op w) k op w := by
  have e : RegMode.core (rmAt k x op w) k = { x with mode := true, running := true, program := [RegMode.encode op w] } := by
    simp [RegMode.core, rmAt, SMap.val, SMap.look]
  unfold RmReady; rw [e]; simp [h0, h1]

theorem witness_RegisterModeInstructionsComplete :
    (∀ op ∈ [0x80, 0x81, 0x84, 0x85, 0x86, 0x01, 0x2C], RmReady (rmAt 8 {} op {}) 8 op {}) ∧
    (RegMode.laneOp { op := 0x01 } {}).isSome = true ∧ (RegMode.laneOp { op := 0x2C } {}).isSome = true ∧
    (∀ op ∈ [0x82, 0x83], RmReady (rmAt 8 { win := 0x500000000000 } op (imm 1024)) 8 op (imm 1024)) ∧
    (match RegMode.window (rmAt 8 { win := 0x500000000000 } 0x83 (imm 1024)) 8 { win := 0x500000000000 } 1024 with
      | some (.own o) => o == 1024 | _ => false) = true ∧
    (match RegMode.window (rmAt 0 { win := 0x500000000000 } 0x83 (imm 1024)) 0 { win := 0x500000000000 } 1024 with
      | some (.mem a) => a == 0x500000000400 | _ => false) = true ∧
    Mem.anyMarked (rmAt 0 { win := 0x500000000000 } 0x82 (imm 1024)).mem.badWord 8 0x500000000400 1024 = false ∧
    Mem.reactWrite (rmAt 0 { win := 0x500000000000 } 0x83 (imm 1024)) 0x500000000400 1024 { unit := Report.unitCode 1 0 } =
      rmAt 0 { win := 0x500000000000 } 0x83 (imm 1024) := by
  refine ⟨fun op _ => rmReady 8 {} op {} rfl rfl, rfl, rfl, fun op _ => rmReady 8 _ op _ rfl rfl,
by decide +kernel,
    by decide +kernel, rfl, Sys2Proof.Laws.reactWrite_clean rfl rfl rfl _ _ _⟩

theorem witness_RegisterModeControlCompletes :
    (let w : RmWord := imm 0x00010002
     let x := RegMode.core (rmAt 8 {} 0x87 w) 8
     x.mode = true ∧ x.running = true ∧ w.rsvd % 4 = 0 ∧ x.program.getD x.pc 0 = RegMode.encode 0x87 w ∧ x.loop = none ∧
       w.imm.toNat / 65536 % 4096 = 1 ∧ w.imm.toNat % 65536 = 2) ∧
    (let x := RegMode.core (rmAt 8 {} 0x88 {}) 8; x.program.getD x.pc 0 = RegMode.encode 0x88 {}) ∧
    (let s := { rmAt 8 { limit := 1 } 0x88 {} with ns := 1000 }
     (RegMode.core s 8).started + 1000 * (RegMode.core s 8).limit ≤ s.ns ∧ Weevils.underTest s 8 = false) ∧
    ((71 : Nat) < 72 ∧ (0x10000000001 : W64).toNat % 2 = 1 ∧ (0x10000000001 : W64).toNat / 1099511627776 % 16777216 = 1 ∧
      (RegMode.core ready 71).mode = false ∧ RegMode.mayEnter ready 71 = true) ∧
    ((0x10000000000 : W64).toNat % 2 = 0 ∧ (RegMode.core (rmAt 8 { limit := 1 } 0x88 {}) 8).limit = (0x10000000000 : W64).toNat / 1099511627776 % 16777216) := by
  decide

/-! ## Slots and swaps -/

/-- The two contexts with the first past its quantum; with the first due; with the second entering its slot. -/
def past : State := { two with ftime := { two.ftime with count := 250000 } }
def dueCtx : Ctx := { ctx with cores := [(0, { res with due := true })] }
def due : State := { two with ctxs := [(1, dueCtx), (2, { fields := { cores := 1 }, cores := [(0, {})] })] }
def entering : State :=
  { two with ctxs := [(1, { ctx with cores := [(0, { res with state := .leaving, slot := none })] }),
                      (2, { fields := { cores := 1 }, cores := [(0, { state := .entering, slot := some 0 })] })] }

theorem witness_SlotsAndSwapsComplete :
    (let s1 := Contexts.endQuanta past 0
     FlagOps.paused past 0 = false ∧ Contexts.yielding past 0 = false ∧ Order.turn 8 past = true ∧ (Slots.starved past 0).isNone = true ∧
     (Contexts.longest s1 0).any (fun p => p.1 == 1) = true ∧ Contexts.consumed s1 0 1 = some 1 ∧ Slots.mayLeave s1 1 0 = true) ∧
    (let s := { past with ctxs := [(1, ctx), (2, { fields := { cores := 1 }, cores := [(0, { passedOver := 4 })] })] }
     (Contexts.candidates s 0).any (fun p => Contexts.timeUp s p.2) = true ∧ (Slots.clearing s 0).isNone = true ∧
     (Slots.starved s 0).isSome = true) ∧
    (ctxInSlot due 0 0 = some 1 ∧ ctx? due 1 = some dueCtx ∧ (onCore dueCtx 0).state = .resident ∧ (onCore dueCtx 0).due = true ∧
      Issue.idle (onCore dueCtx 0) = true ∧ FlagOps.paused due 0 = false ∧ Contexts.feeding due 0 = false ∧ dueCtx.deleting = none ∧
      Slots.incoming due 0 (some 1) = some 2) ∧
    (ctxInSlot entering 0 0 = some 2 ∧ (ctx? entering 2).any (fun y => (onCore y 0).state == .entering) = true ∧
      (ctx? (Contexts.leave entering 0) 2).any (fun y => !y.step.aborted) = true) ∧
    (let s := { two with weevil := { two.weevil with swaps := [(7, { logical := 7, spare := 8, startedAt := 0, rotation := true })] },
                         phys := [(71, { level := 64 })] }
     (SMap.look s.weevil.swaps 7).isSome = true ∧ Swaps.drained s (8 * 7 + 7) = true ∧ (Cicada.physAt s (9 * 7 + 8)).level = 64) := by
  decide +kernel

/-! ## The Hive -/

/-- Queue 2,047 of Hive 7 in a mode, for 8 cells, holding some of them. -/
def hiveWith (mode : Nat) (held : List Cell) : State :=
  { ready with hives := [(7, { queues := [(2047, { cap := 8, mode := mode, held := held, tail := held.length })] })] }
def cell0 : Cell := { idx := 0, data := zeros 64, nibble := 0, pos := 0, size := 1 }

theorem witness_HivePushes :
    (∀ mode ∈ [0, 1], let h := HiveOps.hive (hiveWith mode []) 7
      HiveOps.refusal h (HiveOps.queue h 2047) 0 (64 * 8) = none ∧ HiveOps.refusal h (HiveOps.queue h 2047) 0x7C0 64 = none ∧
      HiveOps.sequenced (HiveOps.queue h 2047) = (mode == 1)) ∧
    (let h := HiveOps.hive (hiveWith 0 [cell0]) 7
     HiveOps.refusal h (HiveOps.queue h 0) 0 64 = some Status.disabled ∧ HiveOps.refusal h (HiveOps.queue h 2047) 0 (64 * 9) = some Status.refused ∧
     HiveOps.refusal h (HiveOps.queue h 2047) 0 (64 * 8) = some Status.quota) := by decide

theorem witness_HiveCommandsComplete :
    Order.appended (hiveWith 0 (List.replicate 8 cell0)) 7 2047 = true ∧
    (let x := HiveOps.queue (HiveOps.hive (hiveWith 0 (List.replicate 8 cell0)) 7) 2047
     x.cap ≠ 0 ∧ 8 ≤ dist32 x.tail x.cur) ∧
    HiveOps.stepRewind (hiveWith 2 []) (HiveOps.queue (HiveOps.hive (hiveWith 2 []) 7) 2047) = false ∧
    (HiveOps.occupancy (HiveOps.queue (HiveOps.hive (hiveWith 0 []) 7) 2047) = 0 ∧ (0xFF070008 : W64).toNat / 65536 % 256 < 8 ∧
      ¬ ((0xFF070008 : W64).toNat / 262144 % 2 = 1 ∧ (0xFF070008 : W64).toNat / 131072 % 2 = 0)) := by decide

/-! ## The update engines and the Presses -/

/-- Slot 0 of ring 15 of Churn 7 with a descriptor of an operation; slot 0 of ring 15 of Press 1. -/
def churnWith (opt : Nat) : State := { ready with churns := [(7, { slots := [(64 * 15, layout 128 [(4, le 1 opt)])] })] }
def pressDesc (op : Nat) : Bytes := layout 64 [(4, le 1 op), (8, le 4 1), (32, le 8 8192)]
def pressWith (op : Nat) : State := { ready with presses := [(1, { lastRing := 14, slots := [(64 * 15, pressDesc op)] })] }
def pressRun (op tgt : Nat) : State :=
  { ready with presses := [(1, { runs := [PressOps.emptyRun 15 { PressOps.parse (pressDesc op) with tgt := tgt } 1] })] }

theorem witness_EngineSlotsAndPressesComplete :
    (Mem.locate (0x400000000000 + 7 * 0x2000000 + 0x181FF80) = .churn 7 0x1FF80 ∧
      (layout 128 [(0, le 4 63)]).length = 128 ∧ 0x1FF80 % 128 = 0 ∧ at' (layout 128 [(0, le 4 63)]) 0 4 % 64 = 0x1FF80 / 128 % 64 ∧
      ¬ (at' (layout 128 [(0, le 4 62)]) 0 4 % 64 = 0x1FF80 / 128 % 64)) ∧
    (Mem.locate (0x400000000000 + 4 * 0x2000000 + 0x182FFC0) = .press 1 0xFFC0 ∧
      (layout 64 [(0, le 4 63)]).length = 64 ∧ 0xFFC0 % 64 = 0 ∧ at' (layout 64 [(0, le 4 63)]) 0 4 % 64 = 0xFFC0 / 64 % 64 ∧
      ¬ (at' (layout 64 [(0, le 4 62)]) 0 4 % 64 = 0xFFC0 / 64 % 64)) ∧
    (∀ op ∈ [1, 2], let s := pressWith op
      let x := PressOps.press s 1
      fenced s = false ∧ x.runs.length < 4 ∧ PressOps.chosen x = some 15 ∧ dead s (PressOps.headDesc x 15).ctx = false ∧
      PressOps.bad (PressOps.headDesc x 15) = false ∧ (PressOps.headDesc x 15).op = op) ∧
    (Order.turn 2 (pressRun 1 0) = true ∧ (RemoteOps.runOf (pressRun 1 0) 1 15).any PressOps.quiet = true ∧ Order.turn 2 (pressRun 2 2) = true ∧ (RemoteOps.runOf (pressRun 2 2) 1 15).any PressOps.quiet = true) := by
  decide +kernel

theorem witness_UpdateDescriptorsRun :
    (∀ opt ∈ [0, 1, 2, 3, 4, 5, 6], let x := ChurnOps.churn (churnWith opt) 7
      fenced (churnWith opt) = false ∧ x.run.isNone = true ∧ ChurnOps.chosen x = some 15 ∧ (ChurnOps.headDesc x 15).opt = opt ∧
      Issue.windowOpen (churnWith opt) (Issue.vectorShare (Issue.level (churnWith opt))) = true) ∧
    (let u := { ChurnOps.emptyRun 15 (ChurnOps.parse (layout 128 [])) 1 with ran := 200 }
     let s := { ready with churns := [(7, { run := some u })] }
     (ChurnOps.churn s 7).run = some u ∧ Order.turn 1 s = true ∧ ChurnOps.timeOver u = true) := by decide +kernel

/-! ## Remote operations, packets and the router -/

/-- Module 0 of a plan whose port 0 leads to port 3 of module 1, which port context 1 requires. -/
def plan0 : Plan :=
  { module := 0, nx := 1, ny := 1, timeRoot := 0, backupRoot := 0, ports := [(0, ⟨1, 3⟩)], required := [(1, 1)], text := [] }
def planned (s : State) : State := { s with dex := { s.dex with plan := some plan0 } }

/-- Port 0 in a state, beside port 26. -/
def portIn (x : Port) (s : State) : State := { s with fabric := { s.fabric with ports := [(0, x), (26, x)] } }
def linked : State := portIn { state := 5, usable := true, peer := 1, peerPort := 3 } (planned ready)

/-- Context 1 with rank 0 on module 1, and descriptor 0: 512 bytes of DRAM. -/
def remote0 : Remote := { win := [(1, 0x10000)], map := [(0, 0x8001)], peerGen := [(1, 7)] }
def mapped : State :=
  poked (withCtx ctx { linked with remote := remote0 }) 0x500000000000 (descBytes 0 3 0 512 1 512)

/-- The word of a remote operation to a rank; the module with set 4,095 of modules, of module 1 alone. -/
def remBits (rop rank : Nat) : Nat := 3 * 2 ^ 125 + rop * 2 ^ 122 + rank * 2 ^ 104
def grouped : State := { mapped with remote := { remote0 with mcast := [(128 * 4095, 0x10001), (128 * 4095 + 1, 0)] } }

theorem witness_RemoteOperationsIssue :
    (RemoteOps.freeTag mapped = some 0 ∧ (∀ rop ∈ [0, 1, 2, 3, 4, 6], CanIssue (wordAt (remBits rop 0) mapped) iss run (.rem rop {}))) ∧
    (∀ rop ∈ [0, 1, 2, 3, 4, 6], RemoteOps.legalWord rop {} = true ∧ (RemoteOps.dataDesc (wordAt (remBits rop 0) mapped) run 0 {}).isSome = true ∧
      (match RemoteOps.destinations mapped 1 rop {} with | .ok ms => ms == [1] | .error _ => false) = true) ∧
    (CanIssue (wordAt (remBits 5 4095) grouped) iss run (.rem 5 { rank := 4095 }) ∧ RemoteOps.legalWord 5 { rank := 4095 } = true ∧
      (match RemoteOps.destinations grouped 1 5 { rank := 4095 } with | .ok ms => ms == [1] | .error _ => false) = true) ∧
    (CanIssue (wordAt (remBits 3 1) mapped) iss run (.rem 3 { rank := 1 }) ∧
      (match RemoteOps.destinations mapped 1 3 { rank := 1 } with | .ok _ => false | .error r => r == 1) = true) := by
  refine ⟨⟨by decide +kernel, fun rop h => mayIssue rfl ((by decide +kernel :
    ∀ rop ∈ [0, 1, 2, 3, 4, 6], (!Issue.fetchBad (wordAt (remBits rop 0) mapped) ctx 0 0 0 && !Issue.fetchHit (wordAt (remBits rop 0) mapped) iss run &&
      Issue.nextWord (wordAt (remBits rop 0) mapped) ctx 0 0 0 == .rem rop {} && Issue.myTurn (wordAt (remBits rop 0) mapped) iss) = true) rop h)⟩,
    ?_, ⟨mayIssue rfl ?_, ?_⟩, ⟨mayIssue rfl ?_, ?_⟩⟩ <;> decide +kernel

/-- A remote operation of tag 9 with packet 64 in its window, whose answer was BUSY at time 0; its deadline is 1 µs. -/
def op9 : RemoteOp :=
  { ctx := 1, core := 0, stream := 0, slot := 0, pc := 0, rop := 1, fact := 0, flag := 0, rank := 0, dests := [1], key := 5, status := 0,
    runs := [(0, 0, 512)], size := 512, deadline := 1000, pruned := [], fencedRaised := false }
def sent9 : Sent := { pkt := { tag := 9, seq := 64 }, flagged := false, left := 512, busyAt := some 0 }
def asked : State :=
  { linked with ns := 1000, remote := { remote0 with ops := [(9, op9)], pairs := [(5, { window := [sent9] })] } }
def rsp (kind status : Nat) : Pkt := { kind := kind, status := status, src := 1, tag := 9, seq := 64, echoGen := 1, rlen := 1 }
def data512 : Pkt := { rsp 5 0 with len := 8, payload := zeros 8, pcheck := crc (zeros 8), addr := 504 }

theorem witness_SourceEventsComplete :
    (∀ p ∈ [rsp 6 0, rsp 7 1, rsp 7 2, rsp 7 8, data512], RemoteOps.badFields p = false ∧ p.echoGen = asked.dex.gen ∧
      asked.resetSeq = none ∧ RemoteOps.inPlace asked p = true ∧ p.unit ≠ 127 ∧ SMap.look asked.remote.ops p.tag = some op9) ∧
    RemoteOps.sentOf asked (rsp 7 8) 64 = some sent9 ∧ RemoteOps.sentOf asked data512 64 = some sent9 ∧
    RemoteOps.place op9 data512 = some 504 ∧ crc data512.payload = data512.pcheck ∧ (RemoteOps.landing asked op9 504 data512).2 = 0 ∧
    (op9.deadline ≤ now { asked with ftime := { asked.ftime with count := 1000 } } ∧ Order.turn 5 asked = true) ∧
    ((pair asked 5).window.find? (fun w => w.pkt.seq == 64) = some sent9 ∧ sent9.busyAt = some 0 ∧ 0 + 1000 ≤ asked.ns) := by decide +kernel

/-- A request of module 1 for this module; the tracker expects place 3 of its ordering stream, and has place 4. -/
def req (kind seq low : Nat) : Pkt := { kind := kind, src := 1, ctx := 1, gen := 7, seq := seq, low := low }
def held5 : Held := { seq := 5, pkt := req 3 5 3, deadline := 1000, status := 0 }
def track3 : Track := { next := 3, drop := 3, arrived := [4], held := [held5], used := 0 }
def tracked : State := { linked with ns := 1000, remote := { remote0 with tracks := [(trackKey (req 1 3 3), track3)] } }

theorem witness_RequestsReachTheTracker :
    (∀ kind ∈ [1, 2, 3, 4], let p := req kind 3 3
      Tracker.forMe tracked p = true ∧ RemoteOps.badFields p = false ∧ SMap.look tracked.remote.peerGen p.src = some p.gen ∧
      fenced tracked = false ∧ SMap.val false tracked.remote.reclaimed p.ctx = false ∧ Tracker.staleStep tracked p = false ∧
      Tracker.track? tracked (trackKey p) = some track3 ∧ seqLt track3.next p.low = false ∧
      seqLt p.seq track3.next = false ∧ track3.arrived.contains p.seq = false ∧ Tracker.marked track3 p.seq = false ∧
      track3.arrived.contains (req kind 4 3).seq = true ∧ seqLt (req kind 4 3).seq track3.drop = false ∧
      seqLt (req kind 2 2).seq track3.next = true ∧ seqLt (req kind 2 2).seq track3.drop = true) ∧
    (Order.readable tracked (req 4 3 3).addr = true ∧ Order.meetsTrace (req 4 3 3).addr (req 4 3 3).rlen = false ∧
      Order.meetsTrace 0x600000000420 1 = true ∧ Order.turn 9 tracked = true) ∧
    (7 : Nat) ≠ ({ req 1 3 3 with gen := 6 } : Pkt).gen ∧
    fenced { tracked with resetSeq := some ⟨0, 1, 1, false, 0⟩ } = true ∧ (req 1 3 3).mcast = false ∧
    ((takeFirst (fun (x : Held) => x.seq == 5) track3.held) = some (held5, []) ∧ held5.deadline ≤ now { tracked with ftime := { tracked.ftime with count := 1000 } } ∧ Order.turn 5 tracked = true) := by
  decide +kernel

/-- A module whose active bank lets port 0 be used. -/
def pkt1 : Pkt := { dst := 1, kind := 1 }
def held1 : RouterHeld := { pkt := pkt1, inPort := none, cls := .adaptive, port := 0, since := 0 }
def routed : State :=
  let bank : Bank := { valid := true, table := 4, portEn := 0x7FFFFFF }
  { linked with ns := 64, fabric := { linked.fabric with bank0 := bank, inject := [pkt1], router := [held1] } }
def swapAt (stage t : Nat) : State :=
  { routed with ftime := { routed.ftime with count := t },
                fabric := { routed.fabric with swap := some ⟨1000, 400, 4, stage⟩, router := [] } }

/-- The same module with no room in the request buffer of port 0's neighbour. -/
def full : State := { routed with fabric := { routed.fabric with ports := [(0, { port routed 0 with used := [(1, 256)] })] } }
def known (s : State) (r : Option Nat) : Option (RouterHeld × Nat) := s.fabric.router.zipIdx.find? (fun h => h.1.inPort == r && h.1.pkt == pkt1)

theorem witness_RouterCommandsComplete :
    (let s := { routed with fabric := { routed.fabric with router := [] } }
     known s none = none ∧ Router.stopped s pkt1 = false ∧ Router.injectable s pkt1 = true ∧
     takeFirst (fun (y : Pkt) => y == pkt1) s.fabric.inject = some (pkt1, []) ∧ Router.behind s.fabric.router none .adaptive pkt1 = false ∧
     (Router.route s none .adaptive pkt1).isSome = true) ∧
    (known routed (some 26) = none ∧ isUp routed 26 = true ∧ (26 : Nat) < 27) ∧
    (known routed none = some (held1, 0) ∧ known full none = some (held1, 0) ∧ (Router.route full none .adaptive pkt1).isNone = true) ∧
    (full.fabric.router[0]? = some held1 ∧ held1.cls = .adaptive ∧ held1.since + 64 ≤ full.ns ∧
      (match Router.adaptiveHop full none pkt1 with | .wait _ => true | _ => false) = true ∧
      (match Router.escapeHop full none .e0 pkt1 with | .go q c => q == 0 && c == .e0 | _ => false) = true) ∧
    ((swapAt 0 1100).fabric.swap = some ⟨1000, 400, 4, 0⟩ ∧ 1000 + 400 / 4 ≤ now (swapAt 0 1100)) ∧
    (1000 + 400 / 2 ≤ now (swapAt 1 1200) ∧ Router.bankWith (swapAt 1 1200) 4 = some 0) ∧
    1000 + 400 ≤ now (swapAt 2 1400) := by decide +kernel

/-! ## Links, fabric time, scheduled actions -/

/-- Module 1 of the same link: port 0 leads to port 3 of module 0, the initiator. -/
def other (x : Port) : State :=
  portIn x { ready with dex := { ready.dex with plan := some { plan0 with module := 1, ports := [(0, ⟨0, 3⟩)] } } }

theorem witness_LinkKeyingCompletes :
    (let s := { portIn { state := 1 } (planned ready) with ns := 100000000 }
     (port s 0).state = 1 ∧ (Link.planned s 0).isSome = true ∧ (port s 0).downAt + 100000000 ≤ s.ns) ∧
    (port (portIn { state := 2 } ready) 26).state = 2 ∧
    (let s := portIn { state := 3 } ready
     (port s 26).state = 3 ∧ s.fabric.chains.contains 5 = false) ∧
    (let s := portIn { state := 3, chainOk := true } (planned ready)
     (port s 0).state = 3 ∧ (port s 0).chainOk = true ∧ Link.planned s 0 = some ⟨1, 3⟩) ∧
    (let s := other { state := 4, peer := 0, peerPort := 3 }
     (port s 0).state = 4 ∧ Link.initiator s (port s 0) = false) ∧
    (let s := { portIn { state := 4, peer := 1, rekeys := [⟨0, 0, [], none, none⟩] } (planned ready) with ns := 2000000 }
     (port s 0).state = 4 ∧ Link.initiator s (port s 0) = true ∧ (port s 0).rekeys = [⟨0, 0, [], none, none⟩] ∧
     (port s 0).keyingAt + 2000000 ≤ now { s with ftime := { s.ftime with count := 2000000 } } ∧ Order.turn 5 s = true) ∧
    (let s := { other { state := 5, peer := 0 } with sched := [(0, { entry := ⟨900, 7, 0, 255, 0, 1, 0x100000001, false⟩, ring := none })] }
     isUp s 0 = true ∧ Link.initiator s (port s 0) = false ∧ Link.rekeyPending s 900 1 0 = true) ∧
    (isUp linked 0 = true ∧ Link.initiator linked (port linked 0) = true) ∧
    (let s := { portIn { state := 7, rekeys := [⟨30000, 1, [], none, some 10000⟩], grace := some ⟨0, [], 10000⟩ } ready with
                ftime := { ready.ftime with count := 10000 } }
     isUp s 26 = true ∧ (port s 26).rekeys = [⟨30000, 1, [], none, some (now s)⟩] ∧ now s + 20000 ≤ 30000 ∧
     (port s 26).grace = some ⟨0, [], now s⟩) ∧
    (port linked 0).epochAt + 172800000000000 ≤ (now { linked with ftime := { linked.ftime with count := 172800000000000 } } : Int) := by
  decide +kernel

/-- A frame as port 26 takes it, and a probe of module 1 whose time is over. -/
def frameIn (counter : Nat) (ok tag : Bool) : FrameIn :=
  { epoch := 0, retryReq := false, counter := counter, credits := [], ackOrRetry := 0, flits := [], errors := if ok then [10, 0] else [11], tagOk := tag }
def probed (a : Option Nat) : State := { linked with remote := { remote0 with probes := [(1, 0, a)] } }

theorem witness_LinksRunAndFail :
    (26 : Nat) < 27 ∧ isUp linked 26 = true ∧ (port linked 26).txRetry = none ∧ (port linked 26).replay.length < Link.replayCap 26 ∧
    (frameIn 0 false false).errors.all Coding.corrects = false ∧
    ((frameIn 0 true false).errors.all Coding.corrects = true ∧ (frameIn 0 true false).tagOk = false) ∧
    ((frameIn 0 true true).tagOk = true ∧ Link.epochHeld (port linked 26) (now linked) (frameIn 0 true true).epoch = true ∧
      Link.expected (port linked 26) (frameIn 0 true true) = true ∧ Link.expected (port linked 26) (frameIn 1 true true) = false) ∧
    (port linked 0).state = 5 ∧
    (∀ a ∈ [some 0, none, some 6], (probed a).remote.probes.find? (fun q => q.1 == 1) = some (1, 0, a) ∧ 0 ≤ now (probed a) ∧
      Order.turn 5 (probed a) = true) := by
  decide +kernel

/-- A firefly, and the module in HOLDOVER at a time of its clock. -/
def fly (epoch stratum : Nat) : FireflyMsg :=
  { rootId := 1, stratum := stratum, rootEpoch := epoch, seq := 0, tTx := 0, tEcho := 0, tEchoRx := 0 }
def timed (st : TimeState) (stratum ns : Nat) : State :=
  { linked with ns := ns, ftime := { linked.ftime with state := st, stratum := stratum } }

theorem witness_FabricTimeCommandsComplete :
    isUp linked 26 = true ∧ (linked.ftime.state = .free ∧ (fly 0 13).stratum < 14) ∧
    (let s := timed .locked 0 0
     s.ftime.state = .locked ∧ s.ftime.stratum = 0 ∧ (fly 0 0).rootEpoch ≤ s.ftime.rootEpoch ∧ s.ftime.parentPort ≠ 26) ∧
    (let s := timed .locked 1 100000
     s.ftime.state = .locked ∧ s.ftime.stratum ≠ 0 ∧ s.ftime.usableAt + 100000 ≤ s.ns) ∧
    (let s := timed .holdover 14 5000000; s.ftime.state = .holdover ∧ s.ftime.holdSince + 5000000 ≤ s.ns) ∧
    (let s := timed .holdover 14 1000000; s.ftime.holdSince + 1000000 ≤ s.ns ∧ s.ftime.newEpoch = false) ∧
    (let s := timed .locked 1 50000
     Clock.isBackup s = true ∧ s.ftime.state = .locked ∧ s.ftime.stratum ≠ 0 ∧ s.ftime.rootHeard + 50000 ≤ s.ns) := by decide +kernel

/-- A table with one entry of an action at instant 1,000, which is now. -/
def entry (action align scope : Nat) (param : BitVec 128) : SchedEntry :=
  { instant := 1000, action := action, align := align, ctx := 1, scope := scope, id := 5, param := param }
def slotOf (e : SchedEntry) : SchedSlot := { entry := e, ring := none }
def sched (e : SchedEntry) (t : Nat) (s : State) : State :=
  { s with sched := [(0, slotOf e)], ftime := { s.ftime with state := .locked, count := t }, err := { s.err with drillEnable := true } }

theorem witness_ScheduledActionsFire :
    (let e := entry 1 0 1 9
     let s := sched e 1000 (withCtx { ctxStep with step := { setup := some {} } } linked)
     Sched.find s 5 = some (0, slotOf e) ∧ Sched.due s (0, slotOf e) = true ∧ field e.param.toNat 127 64 = 0 ∧
     (ctx? s e.ctx).any (fun x => stepped x && x.step.setup.isSome && !x.step.everOpened && !x.unrestored) = true ∧
     (requiredPorts s e.ctx).all (fun p => (port s p).state == 5) = true ∧ requiredPorts s e.ctx = [0]) ∧
    (∀ a ∈ [6, 7], Sched.due (sched (entry a 0 0 0) 1000 ready) (0, slotOf (entry a 0 0 0)) = true) ∧
    (∀ p ∈ [(1, 63), (2, 63), (3, 26), (4, 0), (5, 26), (6, 127)], let e := entry 8 0 0 (BitVec.ofNat 128 (p.1 + 65536 * p.2))
      let s := sched e 1000 ready
      Sched.due s (0, slotOf e) = true ∧ s.err.drillEnable = true ∧ Sched.drillKind e = p.1 ∧ Sched.drillTarget e = p.2) ∧
    (let e := entry 8 0 0 1; Sched.drillKind e = 1 ∧ ready.err.drillEnable = false) ∧
    (let e := entry 2 1 1 0
     let s := sched e 60000001000 ready
     Sched.find s 5 = some (0, slotOf e) ∧ Sched.fires s = true ∧ e.align = 1 ∧ e.instant + 60000000000 ≤ now s) := by decide +kernel

/-! ## The step vote -/

/-- A stepped context at its boundary in module 1, whose parent is port 26 and whose child is port 0. -/
def leafSetup : StepSetupBody := { ctx := 1, parent := 26, children := 1, modules := 2 }
def voteStep : StepState :=
  { setup := some leafSetup, isOpen := true, boundary := some 0, digestDone := true, confirmDone := true, step := 7 }
def voting (t : StepState) : State := withCtx { ctxStep with step := t } linked
def verdict (count : Nat) (fail : W32) (dig nf : Nat) : VoteUpMsg :=
  { ctx := 1, count := count, stepMin := 7, stepMax := 7, fail := fail, nonfinite := nf, saturated := 0, digMin := 4, digMax := dig, loss := 0 }

theorem witness_VerdictsCombineInAnyOrder :
    (verdict 1 0 4 0).ctx = (verdict 1 1 5 2).ctx ∧
    (ctx? (voting voteStep) 1).any (fun x => stepped x && !x.step.aborted && !x.step.contributed && x.step.digestDone && x.step.confirmDone) = true ∧
    isUp (voting voteStep) 0 = true ∧ fenced (voting voteStep) = false ∧ (Vote.children leafSetup).contains 0 = true ∧
    SMap.look voteStep.votes 0 = none ∧ leafSetup.root = false ∧
    (Vote.children leafSetup).all (fun c => (SMap.look (SMap.ins voteStep.votes 0 (verdict 1 0 4 0)) c).isSome) = true := by decide +kernel

theorem witness_VoteCommandsComplete :
    (let u : StepSetupBody := { leafSetup with censusStop := true }
     let failed := fun (v : VoteUpMsg) => decide (v.fail.extractLsb' 0 11 ≠ 0 ∨ v.digMin ≠ v.digMax)
     let differs := fun (v : VoteUpMsg) => decide (v.stepMin ≠ v.stepMax ∨ v.count ≠ u.modules)
     (verdict 2 0x10000 4 0).fail.getLsbD 16 = true ∧ ((verdict 3 0 4 0).fail.getLsbD 16 = false ∧ differs (verdict 3 0 4 0) = true) ∧
     (differs (verdict 2 0x400 4 0) = false ∧ failed (verdict 2 0x400 4 0) = true) ∧ failed (verdict 2 0 5 0) = true ∧
     (differs (verdict 2 0 4 1) = false ∧ failed (verdict 2 0 4 1) = false ∧ (verdict 2 0 4 1).nonfinite ≠ 0) ∧
     (failed (verdict 2 0 4 0) = false ∧ (verdict 2 0 4 0).nonfinite = 0)) ∧
    (let s := withCtx { ctxStep with cores := [(0, { res with streams := [(0, { str with run := .atStepEnd })] })] } linked
     fenced s = false ∧ (ctx? s 1).any (fun x => Vote.reached s 1 x && x.step.setup.isSome) = true) ∧
    (let t := { voteStep with digestDone := false }
     let s := { voting t with ftime := { linked.ftime with count := 50000 } }
     t.boundary = some 0 ∧ t.digestDone = false ∧ t.aborted = false ∧ now (voting t) ≤ 0 + 50000 ∧ 0 + 50000 ≤ now s ∧ Order.turn 5 s = true) ∧
    (let u := { leafSetup with buddy := 2, confirmWait := 3, confAddr := 512 }
     let t := { voteStep with setup := some u, confirmDone := false, confirmFrom := some 0 }
     let s := { voting t with ftime := { linked.ftime with count := 3000 } }
     let s1 := Vote.progress s 1
     (ctx? s1 1).any (fun y => y.step.setup == some u && y.step.confirmFrom == some 0 && !y.step.confirmDone && !y.step.aborted) = true ∧
     0 + 1000 * u.confirmWait ≤ now s1 ∧ Order.turn 5 s1 = true) ∧
    (isUp (voting { voteStep with contributed := true }) 26 = true ∧ 26 = leafSetup.parent ∧ leafSetup.root = false) ∧
    (let s := { voting { voteStep with holdUntil := some 20000 } with ftime := { linked.ftime with count := 20000 } }
     20000 ≤ now s ∧ (ctx? s 1).any (fun x => !StepOps.stepsOver x && !x.step.aborted && x.step.holdUntil == some 20000) = true) ∧
    (let u := { leafSetup with stepDeadline := 1 }
     let s := { voting { voteStep with setup := some u } with ftime := { linked.ftime with count := 1000000 } }
     u.stepDeadline ≠ 0 ∧ voteStep.isOpen = true ∧ voteStep.openedAt + 1000000 * u.stepDeadline ≤ now s ∧ Order.turn 5 s = true) := by decide +kernel

/-! ## Abort, reset, alarm -/

def abort0 (reset : Bool) (hops : Nat) : AbortMsg :=
  { ctx := 1, cause := 1, hops := hops, origin := 1, originGen := 7, reset := reset, sender := 1, time := 0, step := 0 }

theorem witness_AbortCommandsComplete :
    (∀ r ∈ [true, false], isUp linked 26 = true ∧ AbortOps.seenBy linked (abort0 r 1) = false ∧ (abort0 r 1).hops ≠ 0 ∧ (abort0 r 1).reset = r) ∧
    (let s := { linked with fabric := { linked.fabric with seen := [(1, 1, 0, 0)] }, ftime := { linked.ftime with count := 1000000 } }
     s.fabric.seen[0]? = some (1, 1, 0, 0) ∧ 0 + 1000000 ≤ now s) ∧
    (let s := voting { voteStep with quiesceDue := true }
     fenced s = false ∧ (ctx? s 1).any (fun x => x.step.quiesceDue && AbortOps.quiet s 1 x) = true) := by decide +kernel

/-- A module in its reset sequence since time 0, and one in bring-up, at a time of the fabric and of its own clock. -/
def resetting (stage t : Nat) : State :=
  { linked with resetSeq := some ⟨0, stage, 1, false, 0⟩, ftime := { linked.ftime with count := t } }
def bringup (cold ns : Nat) : State := { State.reset with ns := ns, dex := { State.reset.dex with coldCycle := cold } }

theorem witness_ResetCommandsComplete :
    (ready.dex.state = .ready ∧ ready.resetSeq = none) ∧ RemoteOps.draining (resetting 1 0) = false ∧
    (let s := { resetting 1 100000 with remote := { remote0 with pairs := [(5, { window := [sent9] })] } }
     RemoteOps.draining s = true ∧ 0 + 100000 ≤ now s) ∧
    (ResetOps.abortsLeft (resetting 2 0) ⟨0, 2, 1, false, 0⟩ = true ∧
      ResetOps.abortsLeft (portIn { state := 5, outq := [{ buf := 13, data := [] }] } (resetting 2 10000)) ⟨0, 2, 1, false, 0⟩ = true) ∧
    0 + 150000 ≤ now (resetting 1 150000) ∧ Order.turn 5 (resetting 1 150000) = true ∧
    (let s := resetting 1 150000; { s with dex := { s.dex with state := .removing } }.dex.state = .removing) ∧
    ((bringup 0 13000000000).dex.state = .bringup ∧ (bringup 0 13000000000).dex.assertedAt + 13000000000 ≤ (bringup 0 13000000000).ns) ∧
    (bringup 1 1000000000).dex.coldAt + 1000000000 ≤ (bringup 1 1000000000).ns ∧
    (bringup 2 19000000000).dex.assertedAt + 19000000000 ≤ (bringup 2 19000000000).ns := by decide +kernel

theorem witness_PackageResetClearsFlags :
    (resetting 2 0).resetSeq = some ⟨0, 2, 1, false, 0⟩ ∧ (resetting 2 0).dex.state = .ready ∧
    ResetOps.abortsLeft (resetting 2 0) ⟨0, 2, 1, false, 0⟩ = true := by decide +kernel

theorem witness_AlarmCommandsComplete :
    ready.dex.state = .ready ∧ (0 < 1 ∧ 511 < 512) ∧
    (∀ m ∈ [MgmtState.standby, .safe, .removing], let s := inState m
      let t := { s with sec := { s.sec with alarmAt := [0, 0] } }
      s.dex.state = m ∧ t.dex.state = m ∧ Alarm.recent (Alarm.count (Alarm.eraseKeys (Alarm.endItems s)) 1) < 3 ∧
      3 ≤ Alarm.recent (Alarm.count (Alarm.eraseKeys (Alarm.endItems t)) 1)) ∧
    (∀ cold ∈ [0, 2], let s := { bringup cold 1000000000 with sec := { State.reset.sec with alarmSince := some 8 } }
      s.sec.alarmSince = some 8 ∧ s.dex.state = .bringup ∧ s.dex.assertedAt + 1000000000 ≤ s.ns ∧ s.dex.coldCycle ≠ 1) := by decide +kernel

/-! ## Checkpoints -/

/-- A block at address 4,096 with one region, whose table is at 8,192; the block; a context with it; ring 0 enabled, descriptor 0 next. -/
def blockBytes : Bytes :=
  layout 256 [(66, le 2 1), (69, le 1 1), (70, le 1 1), (71, le 1 1), (72, le 6 8192)]
def ckpt0 : CkptBlock :=
  { jobDigest := 0, shard := 0, shards := 1, replica := 0, replicas := 1, root := true, regions := [], snapRegions := [], fact := 0, fcore := 0,
    flag := 0, notice := 0, manifest := 512, hostSlot0 := 0, hostSlot1 := 0, hostCap := 0, snapHost := 0, snapCap := 0 }
def ringed (s : State) : State := { s with host := { s.host with rings := [(0, { enable := true, sqHead := 1 })] } }
def head (c : Nat) : DescHead := { ring := 0, t := 0, ctx := c }
def shardState (s : State) : State := withCtx { ctx with ckpt := some ckpt0, jobKey := some 3 } s
/-- A header with magic, version, kind and step 7, of the shard alone, for a partial load. -/
def loadOf (part : Bool) : LoadBody :=
  { ctx := 1, acceptNarrow := false, partialLoad := part, step := 7, hostAddr := 0, length := Ckpts.fileLen 0,
    header := layout 256 [(0, le 4 0x4853584B), (4, le 1 1), (5, le 1 1), (8, le 8 7)] }
def manifest0 : Bytes := layout 128 [(64, le 8 7), (75, le 1 1)]

theorem witness_CheckpointCommandsComplete :
    (let s := ringed (poked (poked busy 4096 blockBytes) 8192 (layout 32 [(16, le 8 64)]))
     let s1 := Desc.register s (head 1) (Desc.entry (head 1) 7 false)
     let s2 := (Mem.load s1 4096 256 false (Ckpts.req 1)).1
     Desc.starts s (head 1) false = true ∧ fenced s = false ∧ (head 1).bad = false ∧ (head 1).ctx < 255 ∧ (Ckpts.block s2 4096).isSome = true ∧
     (ctx? s2 1).isSome = true ∧ Ckpts.writing s2 1 = false) ∧
    (let i : WriterItem := { ctx := 1, snapshot := false, slot := 0, format := 0, step := 7, dest := 0, stage := 0 }
     let s := { shardState linked with ckpt := { linked.ckpt with items := [i] } }
     s.ckpt.items = i :: [] ∧ Ckpts.early s .fault = false ∧ (ctx? s i.ctx).any (fun x => x.ckpt == some ckpt0) = true) ∧
    (let s := ringed (poked (shardState linked) 512 manifest0)
     let s1 := (Mem.load (Desc.register s (head 1) (Desc.entry (head 1) 8 false)) ckpt0.manifest (128 * ckpt0.shards) true (Ckpts.req 1)).1
     Desc.starts s (head 1) false = true ∧ ckpt0.root = true ∧
     (List.range ckpt0.shards).find? (fun i => !Ckpts.entryOk s1 ckpt0 0 7 i) = none) ∧
    (let s := ringed (shardState linked)
     Desc.starts s (head 1) false = true ∧ Ckpts.badLoad (head 1) (loadOf true) = false ∧ (head 1).poisoned = false ∧
     Ckpts.loadCheck ckpt0 (loadOf true) = none) ∧
    (let s := { shardState linked with ckpt := { linked.ckpt with loads := [(1, [(head 1, loadOf false)])] } }
     SMap.val [] s.ckpt.loads 1 = (head 1, loadOf false) :: [] ∧ (loadOf false).partialLoad = false ∧
     (ctx? s 1).any (fun x => x.ckpt == some ckpt0 && x.jobKey == some 3) = true) ∧
    (let s := { shardState linked with ckpt := { linked.ckpt with releases := [(1, none)] } }
     s.ckpt.releases.contains (1, none) = true ∧ Ckpts.writing s 1 = false ∧ s.ctxs.length = 1 ∧
     (ctx? s 1).any (fun x => AbortOps.quiet s 1 x) = true ∧ Ckpts.pendingWork s 1 = false) ∧
    { two with ckpt := { two.ckpt with releases := [(1, none)] } }.ctxs.length ≠ 1 ∧
    { ready with ckpt := { ready.ckpt with releases := [(1, some 4)] } }.ckpt.releases.find? (fun r => r.2.isSome) = some (1, some 4) := by
  decide +kernel

/-! ## Tests, sensors, the health score, the governor -/

def aged : State := { ready with dex := { ready.dex with powered := 14400000000000 } }

theorem witness_KnownAnswerTestsComplete :
    (4 * Swaps.hour ≤ Swaps.age aged 70 ∧ Weevils.isFailed aged 70 = false ∧ (logicalOf aged 70).isSome = true) ∧
    (4 * Swaps.hour ≤ Swaps.age aged 71 ∧ logicalOf aged 71 = none ∧ (Swaps.role aged (71 / 9)).spare = 71 % 9) ∧
    SMap.val false { aged with weevil := { aged.weevil with testing := [(71, true)] } }.weevil.testing 71 = true := by decide +kernel

theorem witness_SensorCommandsComplete :
    ready.dex.state = .ready ∧ ((3 : Nat) < 4 ∧ 680 ≤ 792 ∧ (823 : Int) < 824) ∧
    (let s := { ready with mem := { ready.mem with stackTherm := [(3, { hotAt := some 0 })] }, ftime := { ready.ftime with count := 1000000000 } }
     (SMap.val {} s.mem.stackTherm 3 : StackTherm).hotAt = some 0 ∧ 0 + 1000000000 ≤ now s) ∧
    (Sensors.powered ready = true ∧ 10 < 11 ∧ 525 ≤ 678 ∧ 678 < 679 ∧ 524 < 525) ∧
    (Mem.inDram (Mem.dramEnd - 1) 1 = true ∧ SMap.val false ready.mem.poison ((Mem.dramEnd - 1) / 64) = false) ∧
    (Mem.locate (Mem.spadBase 63 + 0x5FFFFF) = .spad 63 0x5FFFFF ∧ SMap.val false ready.mem.badWord ((Mem.spadBase 63 + 0x5FFFFF) / 8) = false ∧
      (match Mem.locate 0x400000000000 with | .pantry _ _ => true | _ => false) = true ∧
      (match Mem.locate 0x600000000000 with | .flags _ _ => true | _ => false) = true) := by
  decide +kernel

theorem witness_HealthScoreRules :
    ready.dex.state = .ready ∧ Sensors.overdue ready = ready ∧
    Sensors.band ready.health ready.dex.band (Sensors.score ready) = ready.dex.band ∧
    (let s := { ready with dex := { ready.dex with events := [(0, 300)] } }
     Sensors.overdue s = s ∧ Sensors.band s.health s.dex.band (Sensors.score s) ≠ s.dex.band) ∧
    ((750 : Nat) ≤ 750 ∧ 750 < 701 + 50 ∧ (299 : Nat) < 300 ∧ 250 + 50 ≤ 300) := by decide +kernel

def hotDies (t : Int) (ns : Nat) : State :=
  { ready with ns := ns, power := { ready.power with sample := ⟨[t], [], [], [], 0, 0⟩ } }

theorem witness_GovernorCommandsComplete :
    (Sensors.powered ready = true ∧ 0 + 100000 ≤ { ready with ns := 100000 }.ns) ∧
    (let g : Governor := { sum := 70001, samples := 10 }; g.limit * 10 * g.samples < g.sum) ∧
    (let g : Governor := { sum := 67500, samples := 10 }; g.sum ≤ g.limit * 10 * g.samples ∧ (g.limit - 25) * 10 * g.samples ≤ g.sum) ∧
    (let g : Governor := { sum := 67499, samples := 10, below := 9, level := 1 }
     0 < g.samples ∧ g.sum < (g.limit - 25) * 10 * g.samples ∧ 9 ≤ g.below ∧ 0 < g.level) ∧
    (let g : Governor := { sum := 67499, samples := 10, below := 8 }; g.sum < (g.limit - 25) * 10 * g.samples ∧ g.below < 9) ∧
    (let s := hotDies 800 1000000; s.power.sample.tdie.any (fun x => decide (800 ≤ x)) = true ∧ s.gov.floorAt + 1000000 ≤ s.ns) ∧
    (let s := hotDies 776 10000000
     s.power.sample.tdie ≠ [] ∧ s.power.sample.tdie.all (fun x => decide (x ≤ 776)) = true ∧ s.gov.floorAt + 10000000 ≤ s.ns) := by decide +kernel

/-! ## Power, bring-up, removal -/

def off (ok : Bool) (auto : Bool) : State :=
  let s := inState .off
  { s with dex := { s.dex with autostart := auto }, power := { s.power with inputOk := ok } }

theorem witness_InputPowerCommandsComplete :
    ((off false true).dex.state = .off ∧ (off false true).power.overLock = false ∧ (off false true).power.present = true) ∧
    { ready with power := { ready.power with present := false } }.power.present = false ∧ Powering.removable (inState .bringup).dex.state = false ∧
    Powering.removable (inState .safe).dex.state = true ∧
    (ready.dex.state ≠ .off ∧ (44000 ≤ 44000 ∧ 44000 < 48000 ∨ 60000 < 44000 ∧ 44000 ≤ 63000) ∧
      (44000 ≤ 60001 ∧ 60001 < 48000 ∨ 60000 < 60001 ∧ 60001 ≤ 63000) ∧ 1000 ≤ 1000 ∧ ready.power.excursionAt = none) ∧
    (let s := { ready with ns := 999999999, power := { ready.power with excursionAt := some 0 } }; s.ns < 0 + 1000000000 ∧ s.ns ≤ 0 + 1000 * 1000000) ∧
    ready.power.trips = [] ∧
    (let s := { ready with dex := { ready.dex with powered := 86399999999999 }, power := { ready.power with trips := [0] } }
     ∃ t ∈ s.power.trips, s.dex.powered < t + 86400000000000) := by decide +kernel

/-- Bring-up in a phase. -/
def phaseAt (p ns : Nat) : State := { State.reset with ns := ns, dex := { State.reset.dex with phase := p } }

theorem witness_BringUpCommandsComplete :
    (∀ auto ∈ [false, true], let s := off true auto
      s.dex.state = .off ∧ s.power.inputOk = true ∧ (Sensors.update (Report.enterState s .standby)).dex.autostart = auto) ∧
    (∀ p ∈ [1, 2, 3, 4, 5, 6, 7, 8], (phaseAt p 0).dex.state = .bringup ∧ (phaseAt p 0).dex.coldCycle = 0 ∧ (phaseAt p 0).dex.phase = p) ∧
    (let s := { phaseAt 1 0 with power := { State.reset.power with rails := .rising 0 } }
     (Powering.railOrder.findIdx? (fun l => l.contains 9)).isSome = true ∧ s.power.rails = .rising 0 ∧ Powering.tooOld s [1] = false) ∧
    ((off true true).power.present = true ∧ ({ ok := true, lostChannels := [127], failedCores := [] } : PhaseResult).ok = true) ∧
    (phaseAt 8 600000000).dex.phaseAt + 600000000 ≤ (phaseAt 8 600000000).ns ∧
    { phaseAt 8 0 with ftime := { State.reset.ftime with state := .locked } }.ftime.state = .locked := by decide +kernel

/-- A removal that waits up to a second, and one that runs. -/
def waitFor (force : Bool) (s : State) : State :=
  { s with ns := 1000000000, dex := { s.dex with removal := some { force := force, since := 0, wait := 1, running := false } } }

theorem witness_RemovalCommandsComplete :
    (ready.dex.removal = none ∧ ready.dex.state = .ready) ∧
    (fenced (waitFor false ready) = false ∧ (waitFor false ready).dex.state = .ready ∧ (waitFor false ready).ctxs = []) ∧
    (∀ f ∈ [false, true], let s := waitFor f busy
      s.dex.removal = some { force := f, since := 0, wait := 1, running := false } ∧ s.ctxs ≠ [] ∧ (1 : Nat) ≠ 0 ∧ 0 + 1000000000 * 1 ≤ s.ns) ∧
    (∀ n ∈ [1, 3, 4, 5], ∀ f ∈ [false, true],
      let r : Removal := { force := false, since := 0, wait := 1, running := true, step := n, failed := f }
      let s := { ready with dex := { ready.dex with state := .removing, removal := some r } }
      s.dex.state = .removing ∧ s.dex.removal = some r ∧ Powering.stepOneOver s = true) := by decide +kernel

/-! ## The host port -/

theorem witness_HostLinkCommandsComplete :
    (ready.dex.state = .ready ∧ ready.resetSeq = none ∧ ready.power.perst = false ∧ ready.host.linkUp = true) ∧
    (inState .bringup).dex.state ≠ .ready ∧
    (let s := { ready with host := {} }; s.power.perst = false ∧ s.host.linkUp = false ∧ s.host.secure = false) ∧
    (let s := { ready with host := { linkUp := true, ideKeys := [(1, 5)], ideGo := [(1, true)] } }
     (1 : Nat) < 2 ∧ SMap.look s.host.ideKeys 1 = some 5 ∧ SMap.val false s.host.ideGo 1 = true ∧ s.host.secure = false) ∧
    (let s := { ready with host := { ready.host with ideOn := [(1, true)] } }; s.host.secure = true ∧ s.host.ideOn = [(1, true)]) ∧
    (let s := { ready with host := { ready.host with ideKeys := [(1, 5)] },
                           sec := { ready.sec with negotiated := 7, sessions := [⟨1, 0, true, 0, 0, 0⟩] } }
     Spdm.served s true = true ∧ s.sec.negotiated = 7 ∧ Spdm.session? s 1 true = some ⟨1, 0, true, 0, 0, 0⟩ ∧ (SMap.look s.host.ideKeys 1).isSome = true) := by decide +kernel

def ringWith (x : Ring) : State := { ready with host := { ready.host with rings := [(127, x)] } }

theorem witness_RingCommandsComplete :
    (let s := ringWith { enable := true }
     let x := ring s 127
     (127 : Nat) < 128 ∧ hostServed s = true ∧ x.enable = true ∧ x.err = false ∧ dist32 (16 : W32).toNat x.sqHead ≤ 2 ^ x.sqLog ∧ x.held = [] ∧
     s.host.linkUp = true ∧ s.host.secure = true ∧
     min (dist32 (16 : W32).toNat x.sqHead) (32 - (dist32 x.sqHead x.nextStart + x.inProg.length)) ≠ 0 ∧
     min (dist32 (0 : W32).toNat x.sqHead) (32 - (dist32 x.sqHead x.nextStart + x.inProg.length)) = 0 ∧ 2 ^ x.sqLog < dist32 (17 : W32).toNat x.sqHead ∧
     (ringWith { enable := true, held := [(false, { kind := 3 })] }).host.rings ≠ [] ∧ dist32 x.written (0x80000001 : W32).toNat < 2147483648 ∧ 2147483648 ≤ dist32 x.written (0x80000000 : W32).toNat) ∧
    (let w := (0x80000000000001CC : W64).toNat
     (0x80000000000001CC : W64).getLsbD 63 = true ∧
     (1 ≤ field w 15 8 ∧ 4 ≤ field w 7 4 ∧ field w 7 4 ≤ 12 ∧ 4 ≤ field w 3 0 ∧ field w 3 0 ≤ 12)) ∧
    (let w := (0x8000000000000144 : W64).toNat
     1 ≤ field w 15 8 ∧ 4 ≤ field w 7 4 ∧ field w 7 4 ≤ 12 ∧ 4 ≤ field w 3 0 ∧ field w 3 0 ≤ 12) ∧
    (let s := { ready with host := { linkUp := true } }; hostReady s = false ∧ s.host.linkUp = true ∧ fenced s = false) ∧
    cqRoom (ringWith { enable := true }) { enable := true } = true ∧
    (¬ (1 ≤ field (0x80000000000000CC : W64).toNat 15 8) ∧ ¬ (4 ≤ field (0x800000000000013C : W64).toNat 7 4) ∧
      ¬ (field (0x80000000000001D4 : W64).toNat 7 4 ≤ 12)) ∧
    (0x144 : W64).getLsbD 63 = false ∧
    (let s := { ringWith { irqEn := true, unsignalled := 1, coalUs := 1 } with ftime := { ready.ftime with count := 1000 } }
     let x := ring s 127
     x.irqEn = true ∧ s.host.secure = true ∧ 0 < x.unsignalled ∧ x.coalUs ≠ 0 ∧ x.unsignalledAt + 1000 * x.coalUs ≤ now s) := by decide +kernel

theorem witness_HostAccessesComplete :
    (hostServed ready = true ∧ Order.readable ready 4096 = true ∧ Order.meetsTrace 4096 8 = false ∧ ([1] : Bytes) ≠ [] ∧
      { ready with host := { linkUp := true } }.host.secure = false) ∧
    (Mem.inDram (Mem.dramEnd - 1) ([1] : Bytes).length = true ∧ Mem.writeStatus ready (Mem.dramEnd - 1) ([1] : Bytes).length = 0) ∧
    (let s := { ready with census := [(1, 4096, 2, 0)] }
     let cleared := fun (b : Nat) => s.census.any (fun t => Mem.inRecord t.2 4128 ([1] : Bytes).length b)
     cleared 4127 = false ∧ cleared 4131 = false ∧ cleared 4132 = true ∧ cleared 4159 = true ∧ cleared 4160 = false) := by
  decide +kernel

/-! ## Host descriptors -/

def fields0 : CtxFields := { cores := 1, accCount := 1024 }
def setup0 : StepSetupBody := { ctx := 1, root := true, replayLimit := 15, modules := 9216, replayHold := 10000, stepDeadline := 3600000 }

theorem witness_ContextDescriptorsComplete :
    (let s := ringed ready
     Desc.starts s (head 254) false = true ∧ fenced s = false ∧ (head 254).bad = false ∧ (head 254).ctx < 255 ∧
     HostDesc.badDefine fields0 = false ∧ ctx? s 254 = none ∧ HostDesc.lowerFirst s (head 254) = false ∧ s.err.redMask.getLsbD 254 = false ∧ s.health.probation = false) ∧
    (let s := ringed { ready with err := { ready.err with redMask := 2 ^ 254 } }
     s.err.redMask.getLsbD 254 = true ∧
     HostDesc.badPairs (Desc.register s (head 254) (Desc.entry (head 254) 1 false)) fields0 = false) ∧
    (let s := ringed busy
     Desc.starts s (head 1) false = true ∧ ctx? s 1 = some ctx ∧ ctx.deleting = none) ∧
    (let s := ringed (withCtx { ctx with fields := { ctx.fields with stepped := 1 } } ready)
     Desc.starts s (head 1) false = true ∧ (head 1).fault = false ∧ HostDesc.badSetup (head 1) setup0 = false ∧
     (ctx? s 1).any (fun x => stepped x && !x.step.isOpen && x.step.holdUntil.isNone) = true) ∧
    (∀ result ∈ [1, 2], let y : ResolveBody := { ctx := 1, result := result, step := 7, tv := 0 }
      y.bad = false ∧ y.ctx = (head 1).ctx ∧ y.result = result ∧
      (ctx? (ringed (voting { voteStep with pending := true })) 1).any (fun x => x.step.step == y.step && x.step.pending) = true) ∧
    (Desc.starts (ringed ready) (head 255) true = true ∧ (head 255).ctx = 255 ∧ (head 255).badOp = false ∧ (head 255).poisoned = false) ∧
    Desc.starts (ringed (resetting 1 0)) (head 255) true = true ∧ fenced (ringed (resetting 1 0)) = true := by decide +kernel

/-- A descriptor in progress on ring 0. -/
def progress (i : InProgress) (s : State) : State :=
  { s with host := { s.host with rings := [(0, { enable := true, sqHead := 1, nextStart := 1, inProg := [i] })] },
           flags := { s.flags with vals := [(0, true)] } }
def inCopy (op c : Nat) : InProgress := { head := head c, data := true, op := op }

theorem witness_CopiesAndWorkComplete :
    (Desc.starts (ringed ready) (head 255) true = true ∧ (1 ≤ 4294967296 ∧ 4294967296 ≤ 4294967296) ∧ (63 : Nat) < 64 ∧ (8191 : Nat) < 8192) ∧
    (let s := progress (inCopy 11 255) ready
     inProg? s 0 0 = some (inCopy 11 255) ∧ Report.waiting (inCopy 11 255) = true ∧ FlagOps.value s 0 0 = true ∧ ctx? s 255 = none) ∧
    (let s := progress (inCopy 11 1) (voting voteStep)
     inProg? s 0 0 = some (inCopy 11 1) ∧ (ctx? s 1).any stepped = true ∧ s.ckpt.egress.length < 1024) ∧
    (HostDesc.pushArea (inCopy 10 255).copy.localAddr = none ∧ ([1] : Bytes).length = (inCopy 10 255).copy.length ∧
      (inCopy 10 255).copy.queue = false) ∧
    (let i := { inCopy 11 255 with sending := true }
     let s := progress i ready
     hostReady s = true ∧ inProg? s 0 0 = some i ∧ StepOps.behindEgress s i.head.ctx 0 0 = false ∧
     (Bus.read (StepOps.egressDone s 0 0) i.copy.localAddr i.copy.length { unit := Report.unitCode 11 0, ctx := i.head.ctx }).2.status = 0) ∧
    (let i := { inCopy 12 1 with deadline := some 0 }
     inProg? (progress i ready) 0 0 = some i ∧ FlagOps.value (progress i ready) i.work.doneCore i.work.doneFlag = true ∧
     0 ≤ now (progress i ready) ∧ Order.turn 5 (progress i ready) = true ∧ FlagOps.value { progress i ready with flags := {} } i.work.doneCore i.work.doneFlag = false) ∧
    (Desc.starts (ringed busy) (head 1) true = true ∧ stepped ctx = false ∧ ctx.step.dead = false) := by decide +kernel

/-! ## Set-up registers -/

theorem witness_HealthControlRegister :
    hostServed ready = true ∧
    (let v : W64 := 0x000103E8_01F4_012C
     (v.extractLsb' 0 10).toNat = 300 ∧ (v.extractLsb' 16 10).toNat = 500 ∧ (v.extractLsb' 32 10).toNat = 1000) ∧
    (let v : W64 := 0x000003E9_01F4_012C; ¬ ((v.extractLsb' 32 10).toNat ≤ 1000)) ∧
    (let v : W64 := 0x000003E8_012C_012C; ¬ ((v.extractLsb' 0 10).toNat < (v.extractLsb' 16 10).toNat)) := by decide +kernel

theorem witness_RemoteTimeoutRegisters :
    hostServed ready = true ∧ (200 ≤ ((200 : W64).extractLsb' 0 27).toNat ∧ 2 * ready.remote.ordTimeout ≤ 200) ∧
    ((100000 : W64).extractLsb' 0 27).toNat ≤ 100000 ∧ ¬ (200 ≤ ((199 : W64).extractLsb' 0 27).toNat) ∧
    ¬ (((100001 : W64).extractLsb' 0 27).toNat ≤ 100000) ∧
    (10 ≤ ((10 : W64).extractLsb' 0 24).toNat ∧ 2 * 250 ≤ ready.remote.opTimeout) ∧ ¬ (2 * ((251 : W64).extractLsb' 0 24).toNat ≤ ready.remote.opTimeout) ∧
    ¬ (10 ≤ ((9 : W64).extractLsb' 0 24).toNat) := by decide +kernel

theorem witness_RegisterAccessesComplete :
    hostServed ready = true ∧ (1048576 : W64).toNat % 2 ^ 21 ≤ 1048576 ∧ dist32 ready.err.head ((0 : W64).toNat % 2 ^ 32) ≤ ready.err.size ∧
    ready.err.size < dist32 ready.err.head ((4294967295 : W64).toNat % 2 ^ 32) ∧
    (ctx? ready 255 = none ∧ Mem.inDram (SMap.val (0, 0, 0) ready.census 255).1 (32 * ((0xFFFFFF : W64).toNat % 2 ^ 24)) = true) ∧
    (ctx? busy 1).isSome = true ∧ Mem.inDram (SMap.val (0, 0, 0) { ready with census := [(255, 2 ^ 47, 0, 0)] }.census 255).1 (32 * 1) = false ∧
    ready.fabric.activeBank = 0 ∧
    (let s := { ready with fabric := { ready.fabric with bank1 := { valid := true, table := 9 } },
                           sched := [(0, slotOf (entry 6 0 0 (9 * 2 ^ 32)))] }
     (Regs.bank s 1).valid = true ∧ ∃ q ∈ s.sched, q.2.entry.action = 6 ∧ field q.2.entry.param.toNat 47 32 = (Regs.bank s 1).table) ∧
    ((ring ready 127).enable = false ∧ (ring (ringWith { enable := true }) 127).enable = true) ∧
    ((RegMode.core ready 71).mode = false ∧ (RegMode.core (rmAt 71 {} 0x88 {}) 71).mode = true) ∧
    (let p := (168 : W64).toNat % 256; 1 ≤ p ∧ p ≤ 168) ∧ (let p := (256 : W64).toNat % 256; p < 1) ∧
    (let q := (100000 : W64).toNat % 2 ^ 27; 10 ≤ q ∧ q ≤ 100000) ∧ (9 : W64).toNat % 2 ^ 27 < 10 ∧
    (let w := (0x5A00001 : W64).toNat / 65536 % 2048; 1 ≤ w ∧ w ≤ 1440) ∧ 1 ≤ (0x5A00001 : W64).toNat % 16 ∧ (0x5A00010 : W64).toNat % 16 < 1 ∧
    (ready.fabric.activeBank ≠ 1 ∧ (Regs.bank ready 1).valid = false) ∧
    (Regs.isMsix 0x20 = false ∧ (Regs.value ready (0x20 - 0x20 % 8)).isSome = true ∧ 0x24 % 8 ≠ 0 ∧ (Regs.value ready (0x24 - 0x24 % 8)).isSome = true) ∧
    (Regs.isMsix 0xFFFFF8 = false ∧ Regs.value ready 0xFFFFF8 = none) := by decide +kernel

theorem witness_RegisterValues :
    (∀ off ∈ [0x0, 0x20, 0x11FC8, 0x30008, 0x400D0, 0x501F0, 0x8FFF8, 0xBFFF8, 0xC0038, 0xD1FF0, 0xE21C0, 0x110338, 0x7FFE00],
      Regs.isMsix off = false) ∧
    (∀ off ∈ [0x0, 0x20, 0x11FD0, 0x30008, 0x400D0, 0xBFFF8, 0xE1038, 0x110338, 0x7FFE00], (Regs.value ready (off - off % 8)).isSome = true) ∧
    Regs.value ready 0xFFFFF8 = none ∧ (7 ≠ 8 ∨ 0x20 % 8 ≠ 0) ∧ (8 ≠ 8 ∨ 0x21 % 8 ≠ 0) := by decide +kernel

/-! ## Management and security -/

/-- A request over I3C in session 1, and the ready module with that session open. -/
def mgmt : MgmtHead := { session := some 1 }
/-- A whole image of type 3 without a body (R436): its header and room for the signature. -/
def image0 : Bytes := layout 128 [(0, [0x4B, 0x58, 0x46, 0x57]), (4, [3, 1])] ++ zeros 4627

def session (s : State) : State := { s with sec := { s.sec with negotiated := 7, sessions := [⟨1, 0, true, 0, 0, 0⟩] } }

theorem witness_ManagementCommandsComplete :
    (Spdm.served (session ready) mgmt.i3c = true ∧ mgmt.operandOk = true ∧ Mgmt.secured (session ready) mgmt = true ∧ Mgmt.secured ready mgmt = false ∧
      Mgmt.busy (session ready) = false ∧ Mgmt.busy { ready with dex := { ready.dex with busyTill := some 0 } } = true) ∧
    ({ ready with dex := { ready.dex with records := [({} : ErrRec)] } }.dex.records[0]?.isSome = true) ∧
    ((session (inState .safe)).dex.state = .safe ∧ (session (inState .standby)).dex.state = .standby ∧ (session ready).dex.state = .ready ∧
      (session ready).resetSeq = none ∧ (session ready).ctxs = [] ∧ (session busy).ctxs ≠ []) ∧
    (Sensors.powered (session (planned ready)) = true ∧ Mgmt.planRoot (session (planned ready)) = true ∧
      (session (planned ready)).ftime.state = .free ∧ (-10 : Int) ≤ -10 ∧ (10 : Int) ≤ 10 ∧ 300 ≤ 300 ∧ 700 ≤ 700 ∧ (299 < 300 ∨ 700 < 299)) ∧
    (Mgmt.imageOk ready image0 ⟨true, true⟩ = true ∧ Mgmt.imageOk ready [] ⟨true, true⟩ = false ∧ 1 ≤ 3 ∧ Digest.svn ready 3 = 0) := by decide +kernel

theorem witness_ScheduleChangesComplete :
    (let e := { entry 6 0 0 (BitVec.ofNat 128 40000) with instant := 100000 }
     let s := ringed (session { ready with ftime := { ready.ftime with state := .locked } })
     s.ftime.state = .locked ∧ e.bad = false ∧ Sched.permitted e = true ∧ Sched.find s e.id = none ∧ now s + 100000 ≤ e.instant ∧
     s.sched.length < 256 ∧ e.action ≠ 7 ∧ Desc.starts s (head 255) false = true ∧ fenced s = false ∧ Mgmt.secured s mgmt = true ∧
     Spdm.served s mgmt.i3c = true ∧ Mgmt.busy s = false) ∧
    (let e := { entry 8 0 0 1 with instant := 50001 }
     let s := sched e 0 ready
     Sched.find s 5 = some (0, slotOf e) ∧ now s + 50000 < e.instant ∧ Sched.find s 6 = none) ∧
    (Sched.permitted (entry 8 0 0 1) = true ∧ (entry 8 0 0 1).instant < now ready + 100000) := by decide +kernel

theorem witness_SecurityRequestsComplete :
    (ready.dex.state ≠ .off ∧ { ready with sec := { ready.sec with negotiated := 1 } }.sec.negotiated = 1 ∧
      { ready with sec := { ready.sec with negotiated := 3 } }.sec.negotiated = 3 ∧ (session ready).sec.negotiated = 7) ∧
    { ready with sec := { ready.sec with identity := some 4 } }.sec.identity.isSome = true ∧ (1 ≤ 6 ∧ 6 ≤ 6) ∧
    (let s := { ready with sec := { ready.sec with negotiated := 7, attested := true, psks := [⟨2, 9, 0⟩] }, ns := 59999999999 }
     s.sec.attested = true ∧ s.sec.sessions.length < 4 ∧
     s.sec.psks.find? (fun k => k.hint == 2 && decide (s.ns < k.stored + 60000000000)) = some ⟨2, 9, 0⟩) ∧
    (let s := { ready with sec := { ready.sec with negotiated := 7, sessions := [⟨1, 0, false, 0, 0, 0⟩] } }
     Spdm.session? s 1 false = some ⟨1, 0, false, 0, 0, 0⟩) ∧ Spdm.session? (session ready) 1 true = some ⟨1, 0, true, 0, 0, 0⟩ ∧
    (Spdm.served ready true = true ∧ Spdm.served ready false = true) ∧
    (let s := { ready with sec := { ready.sec with kem := some ([], 1, 2) } }
     s.sec.kem = some ([], 1, 2) ∧ (zeros 1568).length = 1568 ∧ 2 ^ 128 - 1 < 2 ^ 128) ∧
    (ctx? (session busy) 1 = some ctx ∧ Ckpts.writing (session busy) 1 = false ∧ ctx.ckpt = none) := by decide +kernel

theorem witness_FloatExtremesAndComparisons :
    (Numeric.Val.nan = .nan ∨ Numeric.Val.inf false = .nan) ∧ Numeric.Val.fin false 0 0 = .fin false 0 0 ∧
    Numeric.Val.fin true 0 0 = .fin (!false) 0 0 := by decide +kernel

/-! ## Well-formedness: an ill-formed command for each check, which it refuses -/

/-- Of instructions. -/
def badInstructions : List Instr :=
  [.pass ⟨64, 0, 0, []⟩ ⟨{}, []⟩, .pass ⟨0, 4, 0, []⟩ ⟨{}, []⟩, .pass ⟨0, 0, 4, []⟩ ⟨{}, []⟩, .pass iss ⟨{ chunk := 4 }, []⟩, .pass iss ⟨{ entry := 1024 }, []⟩,
   .pass iss ⟨{ wdesc := 4096 }, []⟩, .pass iss ⟨{ tile := 65536 }, []⟩, .pass iss ⟨{ flag := 8192 }, []⟩, .add iss { ctr := 16 }, .add iss { a := 4096 }, .add iss { fact := 4 },
   .put iss ⟨{ osel := 16 }, none⟩ [], .put iss ⟨{ rank := 16384 }, none⟩ [], .put iss ⟨{ raddr := 2 ^ 48 }, none⟩ [], .put iss ⟨{ rcore := 64 }, none⟩ [],
   .waits iss { nfl := 64 }, .waits iss { timeout := 2 ^ 24 }, .nop iss { cond := 8 }, .nop iss { target := 2 ^ 32 }, .nop iss { rsvd := 2 ^ 49 },
   .ldi 72 {}, .ldi 0 { vd := 32 }, .ldi 0 { rsvd := 4 }, .pass iss ⟨{}, [⟨2 ^ 48, .clean⟩]⟩, .passFeedStart 64, .quantumExpiry 64, .contextSwitch 0 ⟨4, [], none⟩, .nop ⟨0, 0, 0, [⟨2 ^ 48, .clean⟩]⟩ {}, .swapComplete ⟨8, false⟩]

/-- Of the other commands. -/
def badCommands : List Instr :=
  [.churnDescriptorFinish 8, .adam 0 16 [], .pack 2 0 [], .hiveTake 8 0 ⟨64, []⟩, .hiveTake 0 2048 ⟨64, []⟩, .write ⟨{ unit := 128 }, []⟩, .write ⟨{ len := 1024 }, []⟩,
   .write ⟨{ payload := zeros 513 }, []⟩, .frameSend 27, .orderingTimeout 0 (2 ^ 32), .operationTimeout 65536, .startEntry 65536, .stepBoundary 255,
   .securityAlarm 512, .dramStackTempSample 4 0 0, .dramPatrolScrub (2 ^ 48) .clean, .weevilDue 72, .weevilTestDone 0 ⟨true, 4, 0, 0, false⟩,
   .frameReceive 0 ⟨0, false, 0, [], 0, [], [257], true⟩, .bringupPhaseEnd 5 { ok := true, lostChannels := [], failedCores := [(72, ⟨false, 0, 0, 0, false⟩)] }]

theorem test_wellFormed_refuses :
    badInstructions.all (fun c => !wellFormed c) = true ∧ badCommands.all (fun c => !wellFormed c) = true := by decide +kernel

theorem test_wellFormed_accepts : [Instr.pass ⟨63, 3, 3, []⟩ ⟨{ entry := 1023 }, []⟩, .weevilDue 71, .frameSend 26, .hiveTake 7 2047 ⟨512, []⟩].all wellFormed = true := by
  decide +kernel

/-! ## Numbers of the manual -/

/-- The eight words of R115. -/
theorem test_stochastic_words :
    (List.range 4).map (fun i => Numeric.srWord 0 0 0 (BitVec.ofNat 32 i)) = [0x313E87AC, 0x83A56F4D, 0x30DD6E53, 0xF088B866] ∧
    (List.range 4).map (fun i => Numeric.srWord 1 0 0 (BitVec.ofNat 32 i)) = [0x14EF621B, 0x33E53B4A, 0x5ED4B8D9, 0xB3603B6B] := by decide +kernel

/-- The CRC of "123456789" (R287). -/
theorem test_crc : crc [0x31, 0x32, 0x33, 0x34, 0x35, 0x36, 0x37, 0x38, 0x39] = 0xE3069283 := by decide +kernel

/-- The worked address of R214: stack 2, channel 23; its register is number 87. -/
theorem test_channel : Mem.channelOf 0x002400012A40 = 87 := by decide +kernel

/-- "One chunk in the window": the E5M2 products sum to 1 exactly, and the bf16 ones to +0. -/
def e5m2 (a b : Nat) : Numeric.Res × Int := Array.product (Array.opd 4 a 127) (Array.opd 4 b 127)
def bf16 (a b : Nat) : Numeric.Res × Int := Array.product (Array.opd 1 a 127) (Array.opd 1 b 127)

theorem test_window :
    (Array.promote false false Array.Total.zero (Array.chunkSum false [e5m2 0x6C 0x6C, e5m2 0x3C 0x3C, e5m2 0xEC 0x6C] none).sum).code = 0x3F800000 ∧
    (let c := Array.chunkSum false [bf16 0x5D80 0x5D80, bf16 0x3A80 0x3A80, bf16 0xDD80 0x5D80] none
     (Array.promote false false Array.Total.zero c.sum).code = 0 ∧ c.lost = true) := by decide +kernel

/-- "An MXFP4 block": 7.0, 5.0, -0.3 and 0.0. -/
theorem test_mxfp4 :
    (Operand.fromBlock 9 ([(0x40E00000, false), (0x40A00000, false), (0xBE99999A, false)] ++ List.replicate 29 (0, false))).1 = 0x7F ∧
    ((Operand.fromBlock 9 ([(0x40E00000, false), (0x40A00000, false), (0xBE99999A, false)] ++ List.replicate 29 (0, false))).2.take 4).map
      (fun e => (e.code, e.zero, e.subnormal, e.sat)) =
      [(0x7, false, false, false), (0x6, false, false, false), (0x9, false, true, false), (0, true, false, false)] := by decide +kernel

/-- "Rounding a master weight to bf16" (R116). -/
theorem test_bf16_weight :
    (List.range 4).map (fun k => (ChurnOps.workCode { ChurnOps.parse [] with wfmt := 1 } 0 k (Numeric.x40.decode 0x3FC0A00000)).1) =
      [0x3FC1, 0x3FC1, 0x3FC1, 0x3FC0] := by decide +kernel

/-- "One Adam element" (R193): the new weight in X40, and the states in FP32. -/
def lit (c : Nat) : ChurnOps.X := ChurnOps.lit (Numeric.fp32.decode c)
def adam0 : ChurnOps.Params :=
  { lr := lit 0x3A800000, wd := lit 0x3D800000, b1 := lit 0x3F600000, a1 := lit 0x3E000000, b2 := lit 0x3F700000, a2 := lit 0x3D800000,
    eps := lit 0x35800000, k1 := lit 0x41000000, k2 := lit 0x41800000, c := lit 0x3F800000, seed := 0 }
def adamOut : ChurnOps.X × List ChurnOps.X :=
  ChurnOps.update { ChurnOps.parse [] with opt := 1 } adam0 (lit 0x3F000000) (lit 0x3F800000) (lit 0) (lit 0)

theorem test_adam :
    ChurnOps.code40 adamOut.1.v = 0x3F7FBC0008 ∧
    adamOut.2.map (fun x => (Numeric.encode Numeric.fp32 false x.v).1) = [0x3D800000, 0x3C800000] := by decide +kernel

/-- "Dependent against independent" (R66): a pass of 16 FP8 vectors takes 283 cycles. -/
theorem test_pass_time : Array.doneAt { passRun false (some 0) with m := 16 } = 283 := by decide +kernel

/-- "One correction" (R36): a path of 254 ns and an offset of 8 ns. -/
theorem test_correction :
    Clock.delta 0 1000000 1000262 1004000 1004246 = 254 ∧ Clock.theta 0 1000000 1000262 1004000 1004246 = 8 := by decide +kernel

/-- The line code (R297): a lane's symbols are a polynomial with the roots alpha^0 to alpha^19. The data symbols before these are zero. -/
theorem test_line_code :
    let data := [1, 0, 511, 0x155]
    (Coding.parity data).length = 20 ∧ ∀ r ∈ Coding.powers 20 1, Coding.value (data ++ Coding.parity data) r = 0 := by decide +kernel

/-- "A module that would be expelled" (R373): the four scores, the bands and the recommendations. -/
def ailing (stand : Bool) (t : Nat) (events : List (Nat × Nat)) : State :=
  { ready with dex := { ready.dex with
      powered := t * 60000000000, events := events, roles := [(2, { failed := 1 })], unreplaceable := if stand then [19] else [] } }

theorem test_health_score :
    Sensors.score (ailing false 0 [(0, 300)]) = 400 ∧
    Sensors.score (ailing false 60 [(0, 300), (3600000000000, 60)]) = 427 ∧
    Sensors.score (ailing true 70 [(0, 300), (3600000000000, 60), (4200000000000, 60)]) = 881 ∧
    Sensors.score (ailing true 90 [(0, 300), (3600000000000, 60), (4200000000000, 60)]) = 866 := by decide +kernel

theorem test_health_band :
    Sensors.band ready.health 0 400 = 1 ∧ Sensors.band ready.health 1 427 = 1 ∧ Sensors.band ready.health 1 881 = 3 ∧
    Sensors.recommend { ready.health with floor := 4, available := 3 } 3 = 2 ∧
    Sensors.recommend { ready.health with floor := 4, available := 5 } 3 = 3 := by decide +kernel

/-- "An escape route across the torus" (R306): the ports of the hops, with both directions of X permitted and with -X alone. -/
def hop (dirs here there : Nat) : Option Nat :=
  let s := { ready with
    dex := { ready.dex with plan := some { plan0 with module := here, nx := 8, ny := 8 } },
    fabric := { ready.fabric with bank0 := { dirs := [(64 * (0x2A53 / 256) + there / 256, dirs)] } } }
  Router.escapePort s { src := 0x2A53, dst := there }

theorem test_escape_route :
    (List.map (hop 5 · 0x0B7A) [0x2A53, 0x3253, 0x3A53, 0x0253, 0x0A53, 0x0B53, 0x0B73, 0x0B7A]) =
      [some 23, some 23, some 23, some 23, some 25, some 21, some 9, none] ∧
    hop 6 0x2A53 0x0B7A = some 24 := by decide +kernel

/-- "Capping a rack" (R500): the levels after each period at a limit of 600 W. -/
def governed (level watts : Nat) : Option Nat :=
  let s := { ready with ns := 100000, gov := { level := level, limit := 600, sum := watts * 10, samples := 1 } }
  match exec .governingPeriodEnd s with | .next t => some t.gov.level | _ => none

theorem test_capping : [governed 0 700, governed 1 664, governed 2 627, governed 3 589] = [some 1, some 2, some 3, some 3] := by decide +kernel

/-- One step each of a counter write, a taken branch, a flag set and a take from an empty queue. -/
def after (c : Instr) (s : State) : State := match exec c s with | .next t => t | _ => s

theorem test_setc :
    counterAt (after (.setc iss { ctr := 15, imm := 7 }) (wordAt (0xA23C0000000000000000000700000000) busy)) 1 0 15 = 7 := by decide +kernel

theorem test_brc :
    (streamAt (after (.brc iss { cond := 4, target := 9 }) (wordAt (0xA7000000000000090000000000000000) busy)) 1 0 0).pc = 9 := by decide +kernel

theorem test_set_flag :
    FlagOps.value (after (.setFlags iss ⟨{ flag := 100, nfl := 1 }, none⟩) (wordAt (0x88103200000000000000000000000000) busy)) 0 101 = true := by
  decide +kernel

/-- A word of a reserved control code, and one of class 0, make the context FAULTED on the core (R163). -/
theorem test_reserved_words :
    [ctlBits 11, 0].map (fun x => ((ctx? (after (.nop iss {}) (wordAt x busy)) 1).map (fun y => (onCore y 0).state))) =
      [some .faulted, some .faulted] := by decide +kernel

/-- A stream issues one instruction a cycle (R161). -/
theorem test_one_issue_a_cycle :
    let s := poked (wordAt 0xA23C0000000000000000000700000000 busy) 0x10010 (le 16 0xA0000000000000000000000000000000)
    (streamAt (after (.nop iss {}) (after (.setc iss { ctr := 15, imm := 7 }) s)) 1 0 0).pc = 1 ∧
    (streamAt (after (.nop iss {}) { after (.setc iss { ctr := 15, imm := 7 }) s with ns := 1 }) 1 0 0).pc = 2 := by decide +kernel

theorem test_take_empty : (HiveOps.hive (after (.hiveTake 7 2047 ⟨64, []⟩) (hiveWith 0 [])) 7).empty = 1 := by decide +kernel

/-- CMPLT of -0 and 0, and the larger of them (R134): in MAX and MIN −0 is below +0, in a comparison the two are equal. -/
theorem test_zeros :
    VecMath.compare' 0x20 (.fin true 0 0) (.fin false 0 0) = false ∧ VecMath.compare' 0x22 (.fin true 0 0) (.fin false 0 0) = true := by decide +kernel

end Sys2Proof.Tests
end

section
/-! PROOFS. What a host's write to the set-up registers does (R14, R359, R504, R508, R512 to R514, R518). A served write reaches the rule of
the register that its offset names and answers that rule's status; the rest says which register each offset names and what its rule does. -/

namespace Sys2Proof.Proofs.RegisterWrites

open Sys2Proof.Machine Sys2Proof.Machine.Ops Sys2Proof.Machine.Bits Sys2Proof.Laws

/-! ## Fields, bytes and maps -/

theorem field_eq_div_mod (x hi lo : Nat) : field x hi lo = x / 2 ^ lo % 2 ^ (hi + 1 - lo) := by
  rw [field, Nat.shiftRight_eq_div_pow]

theorem field_zero (x hi : Nat) : field x hi 0 = x % 2 ^ (hi + 1) := by
  rw [field_eq_div_mod, Nat.pow_zero, Nat.div_one, Nat.sub_zero]

/-- A field that reaches to bit 63 of a word is everything from its lowest bit up. -/
theorem field_top (v : W64) {lo : Nat} (h : lo ≤ 64) : field v.toNat 63 lo = v.toNat / 2 ^ lo := by
  rw [field_eq_div_mod, Nat.mod_eq_of_lt]
  rw [Nat.div_lt_iff_lt_mul (Nat.two_pow_pos lo), ← Nat.pow_add, Nat.sub_add_cancel h]
  exact v.isLt

/-- A field that starts at bit `lo`, put back in its place, is the word cut at the field's top and cleared below it. -/
theorem field_mul (x : Nat) {hi lo : Nat} (h : lo ≤ hi + 1) : field x hi lo * 2 ^ lo = x % 2 ^ (hi + 1) / 2 ^ lo * 2 ^ lo := by
  rw [field_eq_div_mod, ← Nat.pow_sub_mul_pow 2 h, Nat.mul_comm (2 ^ _), Nat.mod_mul_right_div_self]

@[simp] theorem length_le (n x : Nat) : (le n x).length = n := by
  induction n generalizing x with
  | zero => rfl
  | succ n ih => simp [le, ih]

theorem ofLe_le (n x : Nat) : ofLe (le n x) = x % 256 ^ n := by
  induction n generalizing x with
  | zero => simp [le, ofLe, Nat.mod_one]
  | succ n ih => rw [le, ofLe, ih, Nat.pow_succ', Nat.mod_mul, BitVec.toNat_ofNat]

/-- A word survives the bytes it is written as. -/
theorem ofNat_ofLe_le (v : W64) : BitVec.ofNat 64 (ofLe (le 8 v.toNat)) = v := by
  rw [ofLe_le, Nat.mod_eq_of_lt (show v.toNat < 256 ^ 8 from v.isLt), BitVec.ofNat_toNat, BitVec.setWidth_eq]

theorem val_put {α : Type} [DecidableEq α] (d : α) (m : SMap α) (k j : Nat) (v : α) :
    SMap.val d (SMap.put d m k v) j = if j = k then v else SMap.val d m j := by
  split
  · next e => rw [e, SMap.val_put_self]
  · next e => exact SMap.val_put_ne m v e

/-- The entries that a packed word replaces, and no others (R508). -/
theorem val_unpack (d w n first v : Nat) (m : SMap Nat) (e : Nat) :
    SMap.val d (Regs.unpack d w n first v m) e =
      if first ≤ e ∧ e < first + n then v / 2 ^ (w * (e - first)) % 2 ^ w else SMap.val d m e := by
  induction n with
  | zero => rw [if_neg (by omega)]; rfl
  | succ n ih =>
    have step : Regs.unpack d w (n + 1) first v m =
        SMap.put d (Regs.unpack d w n first v m) (first + n) ((v >>> (w * n)) % 2 ^ w) := by
      simp [Regs.unpack, List.range_succ]
    rw [step, val_put, ih]
    by_cases here : e = first + n
    · rw [if_pos here, if_pos (by omega), here, Nat.add_sub_cancel_left, Nat.shiftRight_eq_div_pow]
    · rw [if_neg here]
      exact if_congr (by omega) rfl rfl

/-- The fields of a written word that a register keeps: bit `i` is kept where some field covers it. -/
theorem keep_testBit {fs : List (Nat × Nat)} {n : Nat} (tidy : tidyBelow 64 (fs.map (fun f => (f.1, f.2, field n f.1 f.2))) = true) (i : Nat) :
    (Regs.keep fs n).getLsbD i = (decide (i < 64 ∧ ∃ f ∈ fs, f.2 ≤ i ∧ i ≤ f.1) && n.testBit i) := by
  rw [Regs.keep, BitVec.getLsbD_ofNat]
  by_cases covered : ∃ f ∈ fs, f.2 ≤ i ∧ i ≤ f.1
  · obtain ⟨f, mem, lo, hi⟩ := covered
    have covered : ∃ f ∈ fs, f.2 ≤ i ∧ i ≤ f.1 := ⟨f, mem, lo, hi⟩
    rw [word_testBit_in _ 64 _ i tidy (List.mem_map_of_mem mem) lo hi]
    simp only [covered, and_true, field, Nat.testBit_mod_two_pow, Nat.testBit_shiftRight]
    rw [Nat.add_sub_cancel' lo]
    have : i - f.2 < f.1 + 1 - f.2 := by omega
    simp [this]
  · have out : ∀ f ∈ fs.map (fun f => (f.1, f.2, field n f.1 f.2)), i < f.2.1 ∨ f.1 < i := by
      intro g mem
      obtain ⟨f, memf, rfl⟩ := List.mem_map.mp mem
      by_contra none
      exact covered ⟨f, memf, by simp at none; omega⟩
    rw [word_testBit_out _ 64 i tidy out]
    simp [covered]

/-- The fields kept are a mask over the word. -/
theorem keep_eq_and (fs : List (Nat × Nat)) (tidy : ∀ n, tidyBelow 64 (fs.map (fun f => (f.1, f.2, field n f.1 f.2))) = true) (v : W64) :
    Regs.keep fs v.toNat = v &&& Regs.keep fs (2 ^ 64 - 1) := by
  apply BitVec.eq_of_getLsbD_eq
  intro i hi
  rw [BitVec.getLsbD_and, keep_testBit (tidy _), keep_testBit (tidy _), Nat.testBit_two_pow_sub_one, BitVec.testBit_toNat]
  simp [hi, Bool.and_comm]

/-- Word `w` of a mask of 256 bits replaced (R519). -/
theorem setMask_getLsbD (m : BitVec 256) {w : Nat} (v : W64) {c : Nat} (hc : c < 256) :
    (Regs.setMask m w v).getLsbD c = if c / 64 = w then v.getLsbD (c % 64) else m.getLsbD c := by
  simp only [Regs.setMask, BitVec.getLsbD_or, BitVec.getLsbD_and, BitVec.getLsbD_not, BitVec.getLsbD_ofNat, hc, decide_true, Bool.true_and,
    Nat.testBit_mul_two_pow, Nat.testBit_two_pow_sub_one, BitVec.testBit_toNat]
  split
  · next e =>
    have lo : 64 * w ≤ c := by omega
    have hi : c - 64 * w < 64 := by omega
    have i : c - 64 * w = c % 64 := by omega
    simp [lo, i, Nat.mod_lt]
  · next e =>
    by_cases lo : 64 * w ≤ c
    · have hi : ¬ c - 64 * w < 64 := by omega
      have z : v.getLsbD (c - 64 * w) = false := BitVec.getLsbD_of_ge _ _ (by omega)
      simp [lo, hi, z]
    · simp [lo]

/-! ## Answers to a host's write (R14, R449, R504) -/

/-- The command changes `s` to `t` and answers the host that the write was accepted. -/
def Accepts (c : Instr) (s t : State) : Prop := exec c s = .next (emit t (.answer 0 []))

/-- The command changes no register and answers an Unsupported Request (R14, R504). -/
def Refuses (c : Instr) (s : State) : Prop := exec c s = .next (emit s (.answer 2 []))

/-- A served write leaves the state that the register's rule gives, and answers with the status that the host sees. -/
theorem hostWrite_served {s : State} (served : hostServed s = true) {ok : Bool} (inRange : ok = true) (r : State × Nat) :
    Regs.hostWrite s ok r = emit r.1 (.answer (hostStatus r.2) []) := by
  simp [Regs.hostWrite, fromHost, served, inRange]

theorem accepts_of_hostWrite {c : Instr} {s t : State} {r : State × Nat} {ok : Bool} (served : hostServed s = true)
    (arm : exec c s = .next (Regs.hostWrite s ok r)) (inRange : ok = true) (write : r = (t, 0)) : Accepts c s t := by
  rw [Accepts, arm, hostWrite_served served inRange, write]
  rfl

theorem refuses_of_hostWrite {c : Instr} {s : State} {r : State × Nat} {ok : Bool} (served : hostServed s = true)
    (arm : exec c s = .next (Regs.hostWrite s ok r)) (inRange : ok = true) (write : r = (s, 3)) : Refuses c s := by
  rw [Refuses, arm, hostWrite_served served inRange, write]
  rfl

/-- An aligned offset that the map lists, outside the MSI-X structures (R503, R504). -/
structure IsRegister (s : State) (o : Nat) : Prop where
  aligned : o % 8 = 0
  place : o < 0x20000 ∨ 0x21020 ≤ o ∧ o < 0x1000000
  mapped : (Regs.value s o).isSome = true

/-- Eight aligned bytes written to a register reach the register's rule. -/
theorem write_register {s : State} {o : Nat} (reg : IsRegister s o) (v : W64) : Regs.write s o (le 8 v.toNat) = Regs.writeAt s o v := by
  obtain ⟨aligned, place, mapped⟩ := reg
  have notMsix : Regs.isMsix o = false := decide_eq_false (by omega)
  simp [Regs.write, notMsix, aligned, Option.isNone_eq_false_iff.mpr mapped, ofNat_ofLe_le]

theorem setupWrite_accepts {s t : State} (served : hostServed s = true) {o : Nat} {v : W64} (reg : IsRegister s o)
    (write : Regs.writeAt s o v = (t, 0)) : Accepts (.setupRegisterWrite o 8 v) s t :=
  accepts_of_hostWrite served rfl (decide_eq_true (by have := reg.place; omega)) ((write_register reg v).trans write)

theorem setupWrite_refuses {s : State} (served : hostServed s = true) {o : Nat} {v : W64} (reg : IsRegister s o)
    (write : Regs.writeAt s o v = (s, 3)) : Refuses (.setupRegisterWrite o 8 v) s :=
  refuses_of_hostWrite served rfl (decide_eq_true (by have := reg.place; omega)) ((write_register reg v).trans write)

/-- A write that is not 8 aligned bytes of a register is refused (R14). -/
theorem setupWrite_refuses_of_misfit {s : State} (served : hostServed s = true) {o n : Nat} (v : W64) (inRegion : o < 0x1000000)
    (notMsix : Regs.isMsix o = false) (mapped : (Regs.value s (o - o % 8)).isSome = true) (misfit : n ≠ 8 ∨ o % 8 ≠ 0) :
    Refuses (.setupRegisterWrite o n v) s := by
  have fit : ¬ (n = 8 ∧ o % 8 = 0) := by omega
  refine refuses_of_hostWrite served rfl (decide_eq_true inRegion) ?_
  simp [Regs.write, notMsix, Option.isNone_eq_false_iff.mpr mapped, fit]

/-- A write to an offset that the map does not list counts one more unmapped access (R210). -/
theorem setupWrite_unmapped {s : State} (served : hostServed s = true) {o n : Nat} (v : W64) (inRegion : o < 0x1000000)
    (notMsix : Regs.isMsix o = false) (unmapped : Regs.value s (o - o % 8) = none) :
    exec (.setupRegisterWrite o n v) s = .next (emit (Report.countUnmapped s) (.answer 2 [])) := by
  have write : Regs.write s o (le n v.toNat) = (Report.countUnmapped s, 2) := by simp [Regs.write, notMsix, unmapped]
  change Host.Outcome.next (Regs.hostWrite s (decide (o < 0x1000000)) (Regs.write s o (le n v.toNat))) = _
  rw [hostWrite_served served (decide_eq_true inRegion), write]
  rfl

/-! ## The registers that the map lists (R503) -/

theorem value_ring {s : State} {o : Nat} (lo : 0x10000 ≤ o) (hi : o < 0x12000) : Regs.value s o = Regs.readRing s o := by
  rw [Regs.value, if_neg (by omega), if_pos hi]

theorem value_fabric {s : State} {o : Nat} (lo : 0x12000 ≤ o) (hi : o < 0x80000) : Regs.value s o = Regs.readLow s o := by
  rw [Regs.value, if_neg (by omega), if_neg (by omega), if_pos hi]

theorem value_mid {s : State} {o : Nat} (lo : 0x80000 ≤ o) (hi : o < 0xE0000) : Regs.value s o = Regs.readMid s o := by
  rw [Regs.value, if_neg (by omega), if_neg (by omega), if_neg (by omega), if_pos hi]

theorem value_high {s : State} {o : Nat} (lo : 0xE0000 ≤ o) : Regs.value s o = Regs.readHigh s o := by
  rw [Regs.value, if_neg (by omega), if_neg (by omega), if_neg (by omega), if_neg (by omega)]

/-- The base registers of a ring (R463). -/
theorem isRegister_ringBase (s : State) {o : Nat} (lo : 0x10000 ≤ o) (hi : o < 0x12000) (word : o % 0x40 = 0 ∨ o % 0x40 = 8) :
    IsRegister s o := by
  refine ⟨by omega, by omega, ?_⟩
  rw [value_ring lo hi, Regs.readRing]
  rcases word with word | word <;> rw [word] <;> rfl

/-- The state of a port (R324). -/
theorem isRegister_port (s : State) {p : Nat} (h : p < 27) : IsRegister s (0x40000 + 8 * p) := by
  refine ⟨by omega, by omega, ?_⟩
  rw [value_fabric (by omega) (by omega)]
  simp (disch := omega) only [Regs.readLow, beq_iff_eq, ↓if_neg, ↓if_pos, Option.isSome_some]

/-- The rank-map windows, the rank map and the channels' counts (R264, R512). -/
theorem isRegister_mid (s : State) {o : Nat} (aligned : o % 8 = 0)
    (window : 0x81000 ≤ o ∧ o < 0x81800 ∨ 0xA0000 ≤ o ∧ o < 0xC0000 ∨ 0xC1000 ≤ o ∧ o < 0xC1400) : IsRegister s o := by
  refine ⟨aligned, by omega, ?_⟩
  rw [value_mid (by omega) (by omega)]
  rcases window with window | window | window <;>
    simp (disch := omega) only [Regs.readMid, beq_iff_eq, ↓if_neg, ↓if_pos, Option.isSome_some]

/-- The census misses (R513). -/
theorem isRegister_censusMiss (s : State) {c : Nat} (h : c < 256) : IsRegister s (0xD0010 + 0x20 * c) := by
  refine ⟨by omega, by omega, ?_⟩
  rw [value_mid (by omega) (by omega)]
  simp (disch := omega) only [Regs.readMid, beq_iff_eq, ↓if_neg, ↓if_pos]
  rw [show (0xD0010 + 0x20 * c) % 0x20 = 0x10 by omega]
  rfl

/-- The register-mode registers of the physical cores (R516). -/
theorem isRegister_registerMode (s : State) {o : Nat} (aligned : o % 8 = 0) (lo : 0xF0000 ≤ o) (hi : o < 0xF0900) : IsRegister s o := by
  refine ⟨aligned, by omega, ?_⟩
  rw [value_high (by omega)]
  simp (disch := omega) only [Regs.readHigh, beq_iff_eq, ↓if_neg, ↓if_pos]
  have word : o % 0x20 = 0 ∨ o % 0x20 = 8 ∨ o % 0x20 = 0x10 ∨ o % 0x20 = 0x18 := by omega
  rcases word with word | word | word | word <;> rw [word] <;> rfl

/-- The masks, the states of the tests and the multicast groups (R509, R519, R520). -/
theorem isRegister_high (s : State) {o : Nat} (aligned : o % 8 = 0)
    (window : 0x110040 ≤ o ∧ o < 0x110060 ∨ 0x110060 ≤ o ∧ o < 0x110080 ∨ 0x110100 ≤ o ∧ o < 0x110340 ∨ 0x400000 ≤ o ∧ o < 0x800000) :
    IsRegister s o := by
  refine ⟨aligned, by omega, ?_⟩
  rw [value_high (by omega)]
  rcases window with window | window | window | window <;>
    simp (disch := omega) only [Regs.readHigh, beq_iff_eq, ↓if_neg, ↓if_pos, Option.isSome_some]

/-- The registers that stand alone and whose fields are all RO (R398, R455, R501, R505 to R508, R512, R518). -/
def loneReadOnly : List Nat :=
  [0x0, 0x8, 0x10, 0x18, 0x30, 0x30000, 0x30008, 0x40100, 0x40108, 0x80010, 0x80018, 0x80020, 0x80028, 0x80030, 0x80038, 0x80040,
   0xC0000, 0xC0010, 0x110010, 0x110020]

theorem loneReadOnly_isRegister (s : State) {o : Nat} (mem : o ∈ loneReadOnly) : IsRegister s o := by
  have placed : ∀ o ∈ loneReadOnly, o % 8 = 0 ∧ (o < 0x20000 ∨ 0x21020 ≤ o ∧ o < 0x1000000) := by decide
  have mapped : loneReadOnly.all (fun o => (Regs.value s o).isSome) = true := rfl
  exact ⟨(placed o mem).1, (placed o mem).2, List.all_eq_true.mp mapped o mem⟩

/-! ## The rules that writes reach -/

theorem writeAt_ring {s : State} {v : W64} {o r j : Nat} (h : r < 128) (hj : j < 0x40) (offset : o = 0x10000 + 0x40 * r + j) :
    Regs.writeAt s o v = Regs.ringWrite s r j v.toNat := by
  subst offset
  simp (disch := omega) only [Regs.writeAt, beq_iff_eq, ↓if_neg, ↓if_pos]
  rw [show (0x10000 + 0x40 * r + j - 0x10000) / 0x40 = r by omega, show (0x10000 + 0x40 * r + j) % 0x40 = j by omega]

theorem writeAt_rankWindow {s : State} {c : Nat} {v : W64} (h : c < 256) : Regs.writeAt s (0x81000 + 8 * c) v =
    (modRemote s (fun r => { r with win := SMap.put 0#64 r.win c (Regs.keep [(30, 16), (13, 0)] v.toNat) }), 0) := by
  simp (disch := omega) only [Regs.writeAt, beq_iff_eq, ↓if_neg, ↓if_pos]
  rw [show (0x81000 + 8 * c - 0x81000) / 8 = c by omega]

theorem writeAt_rankEntry {s : State} {e : Nat} {v : W64} (h : e < 16384) : Regs.writeAt s (0xA0000 + 8 * e) v =
    (modRemote s (fun r => { r with map := SMap.put 0#64 r.map e (Regs.keep [(15, 15), (13, 0)] v.toNat) }), 0) := by
  simp (disch := omega) only [Regs.writeAt, beq_iff_eq, ↓if_neg, ↓if_pos]
  rw [show (0xA0000 + 8 * e - 0xA0000) / 8 = e by omega]

theorem writeAt_registerMode {s : State} {v : W64} {o k j : Nat} (h : k < 72) (hj : j < 0x20) (offset : o = 0xF0000 + 0x20 * k + j) :
    Regs.writeAt s o v = Regs.vecRmWrite s k j v := by
  subst offset
  simp (disch := omega) only [Regs.writeAt, beq_iff_eq, ↓if_neg, ↓if_pos]
  rw [show (0xF0000 + 0x20 * k + j - 0xF0000) / 0x20 = k by omega, show (0xF0000 + 0x20 * k + j) % 0x20 = j by omega]

theorem writeAt_redMask {s : State} {w : Nat} {v : W64} (h : w < 4) : Regs.writeAt s (0x110040 + 8 * w) v =
    (modErr s (fun e => { e with redMask := Regs.setMask e.redMask w v }), 0) := by
  simp (disch := omega) only [Regs.writeAt, beq_iff_eq, ↓if_neg, ↓if_pos]
  rw [show (0x110040 + 8 * w - 0x110040) / 8 = w by omega]

theorem writeAt_weevilHold {s : State} {w : Nat} {v : W64} (h : w < 4) : Regs.writeAt s (0x110060 + 8 * w) v =
    (modErr s (fun e => { e with weevilHold := Regs.setMask e.weevilHold w v }), 0) := by
  simp (disch := omega) only [Regs.writeAt, beq_iff_eq, ↓if_neg, ↓if_pos]
  rw [show (0x110060 + 8 * w - 0x110060) / 8 = w by omega]

/-- The first word of a multicast group (R509). -/
theorem writeAt_multicastHead {s : State} {v : W64} {g : Nat} (h : g < 4096) : Regs.writeAt s (0x400000 + 0x400 * g) v =
    (modRemote s (fun r => { r with mcast := SMap.put 0xFF0000#64 r.mcast (128 * g) (Regs.keep [(23, 16), (8, 0)] v.toNat) }), 0) := by
  simp (disch := omega) only [Regs.writeAt, beq_iff_eq, ↓if_neg, ↓if_pos, Regs.mcastWrite]
  rw [show (0x400000 + 0x400 * g - 0x400000) / 0x400 = g by omega]

/-- A word of four leaves of a multicast group (R509). -/
theorem writeAt_multicastLeaves {s : State} {v : W64} {g w : Nat} (h : g < 4096) (lo : 1 ≤ w) (hi : w ≤ 64) :
    Regs.writeAt s (0x400000 + 0x400 * g + 8 * w) v =
      (modRemote s (fun r => { r with
        mcast := SMap.put 0#64 r.mcast (128 * g + w) (Regs.keep [(61, 48), (45, 32), (29, 16), (13, 0)] v.toNat) }), 0) := by
  simp (disch := omega) only [Regs.writeAt, beq_iff_eq, ↓if_neg, ↓if_pos, Regs.mcastWrite]
  rw [show (0x400000 + 0x400 * g + 8 * w - 0x400000) / 0x400 = g by omega,
    show (0x400000 + 0x400 * g + 8 * w - 0x400000) % 0x400 / 8 = w by omega]

/-- The offsets that a rule for writes answers for: all others of the map hold only RO fields (R503, R504). -/
def Writable (o : Nat) : Prop :=
  o = 0x20 ∨ o = 0x28 ∨ (0x10000 ≤ o ∧ o < 0x12000) ∨ (0x50000 ≤ o ∧ o < 0x70000) ∨ o = 0x80000 ∨ o = 0x80008 ∨
  (0x81000 ≤ o ∧ o < 0x81800) ∨ (0xA0000 ≤ o ∧ o < 0xC0000) ∨ o = 0xC0008 ∨ (0xD0000 ≤ o ∧ o < 0xD2000 ∧ o % 0x20 < 0x10) ∨
  o = 0xE0000 ∨ o = 0xE0008 ∨ (0xF0000 ≤ o ∧ o < 0xF0900) ∨ o = 0x110000 ∨ o = 0x110008 ∨ o = 0x110018 ∨ o = 0x110028 ∨
  (0x110040 ≤ o ∧ o < 0x110080) ∨ (0x400000 ≤ o ∧ o < 0x800000)

/-- A write anywhere else changes nothing and is refused (R504). -/
theorem writeAt_readOnly {s : State} {o : Nat} {v : W64} (h : ¬ Writable o) : Regs.writeAt s o v = (s, 3) := by
  unfold Writable at h
  simp (disch := omega) only [Regs.writeAt, beq_iff_eq, ↓if_neg]

theorem loneReadOnly_not_writable {o : Nat} (mem : o ∈ loneReadOnly) : ¬ Writable o := by
  have fixed : ∀ o ∈ loneReadOnly, ¬ Writable o := by unfold Writable; decide
  exact fixed o mem

theorem readOnly_refuses {s : State} (served : hostServed s = true) {o : Nat} {v : W64} (reg : IsRegister s o) (h : ¬ Writable o) :
    Refuses (.setupRegisterWrite o 8 v) s :=
  setupWrite_refuses served reg (writeAt_readOnly h)

/-! ## The error log (R359, R518) -/

/-- The log begun again with a new base or a new size: what was held on die is written (R518). -/
theorem logBase_accepts {s : State} (served : hostServed s = true) (v : W64) : Accepts (.errLogSetupWrite 0 v) s
    (Report.flushLog 256 (modErr s (fun e => { e with base := v.toNat / 64 * 64, head := 0, tail := 0 }))) := by
  refine accepts_of_hostWrite served rfl rfl ?_
  simp [Regs.logSetup, field_top]

theorem logSize_accepts {s : State} (served : hostServed s = true) {v : W64} (size : v.toNat % 2 ^ 21 ≤ 1048576) :
    Accepts (.errLogSetupWrite 8 v) s
      (Report.flushLog 256 (modErr s (fun e => { e with size := v.toNat % 2 ^ 21, head := 0, tail := 0 }))) := by
  refine accepts_of_hostWrite served rfl rfl ?_
  simpa [Regs.logSetup, field_zero] using size

theorem logSize_refuses {s : State} (served : hostServed s = true) {v : W64} (size : 1048576 < v.toNat % 2 ^ 21) :
    Refuses (.errLogSetupWrite 8 v) s := by
  refine refuses_of_hostWrite served rfl rfl ?_
  simpa [Regs.logSetup, field_zero] using size

theorem logTail_accepts {s : State} (served : hostServed s = true) {v : W64} (room : dist32 s.err.head (v.toNat % 2 ^ 32) ≤ s.err.size) :
    Accepts (.errLogTailWrite v) s (Report.flushLog 256 (modErr s (fun e => { e with tail := v.toNat % 2 ^ 32 }))) := by
  refine accepts_of_hostWrite served rfl rfl ?_
  rw [Regs.logTail, field_zero, if_neg (Nat.not_lt.mpr room)]

theorem logTail_refuses {s : State} (served : hostServed s = true) {v : W64} (past : s.err.size < dist32 s.err.head (v.toNat % 2 ^ 32)) :
    Refuses (.errLogTailWrite v) s := by
  refine refuses_of_hostWrite served rfl rfl ?_
  rw [Regs.logTail, field_zero, if_pos past]

/-! ## The census (R513) -/

/-- The registers of a census after a write of its base or of its count. -/
def censusEntry (s : State) (c : Nat) (count : Bool) (n : Nat) : Nat × Nat × Nat :=
  let r := SMap.val (0, 0, 0) s.census c
  if count then (r.1, n % 2 ^ 24, r.2.2) else (n % 2 ^ 48 / 32 * 32, r.2.1, r.2.2)

theorem censusWrite_eq (s : State) (c : Nat) (count : Bool) (n : Nat) :
    Regs.censusWrite s c count n =
      if (ctx? s c).isSome || !Mem.inDram (censusEntry s c count n).1 (32 * (censusEntry s c count n).2.1) then (s, 3)
      else ({ s with census := SMap.put (0, 0, 0) s.census c (censusEntry s c count n) }, 0) := by
  have base : field n 47 5 * 32 = n % 2 ^ 48 / 32 * 32 := field_mul n (hi := 47) (lo := 5) (by decide)
  rw [Regs.censusWrite, base, field_zero]
  rfl

theorem census_accepts {s : State} (served : hostServed s = true) {c : Nat} (hc : c < 256) (count : Bool) (v : W64)
    (undefined : ctx? s c = none)
    (inDram : Mem.inDram (censusEntry s c count v.toNat).1 (32 * (censusEntry s c count v.toNat).2.1) = true) :
    Accepts (.censusRegisterWrite c count v) s
      { s with census := SMap.put (0, 0, 0) s.census c (censusEntry s c count v.toNat) } := by
  refine accepts_of_hostWrite served rfl (decide_eq_true hc) ?_
  rw [censusWrite_eq, undefined, inDram]
  rfl

theorem census_refuses {s : State} (served : hostServed s = true) {c : Nat} (hc : c < 256) (count : Bool) (v : W64)
    (refused : (ctx? s c).isSome = true ∨
      Mem.inDram (censusEntry s c count v.toNat).1 (32 * (censusEntry s c count v.toNat).2.1) = false) :
    Refuses (.censusRegisterWrite c count v) s := by
  refine refuses_of_hostWrite served rfl (decide_eq_true hc) ?_
  rw [censusWrite_eq, if_pos (by simpa using refused)]

/-! ## The route table banks (R508) -/

/-- The state with a bank replaced. -/
def setBank (s : State) (b : Nat) (y : Bank) : State := modFabric s (fun f => if b = 0 then { f with bank0 := y } else { f with bank1 := y })

/-- A bank that takes no writes: it is active, or it is valid and a ROUTE_SWAP names its table. -/
def BankClosed (s : State) (b : Nat) : Prop :=
  s.fabric.activeBank = b ∨ (Regs.bank s b).valid = true ∧ Regs.swapNames s (Regs.bank s b).table = true

theorem bankWrite_open {s : State} {b o n : Nat} {y : Bank} (set : Regs.bankSet (Regs.bank s b) o n = some y) (isOpen : ¬ BankClosed s b) :
    Regs.bankWrite s b o n = (setBank s b y, 0) := by
  unfold BankClosed at isOpen
  simp [Regs.bankWrite, set, isOpen, setBank]

theorem bankWrite_closed {s : State} {b o n : Nat} {y : Bank} (set : Regs.bankSet (Regs.bank s b) o n = some y) (closed : BankClosed s b) :
    Regs.bankWrite s b o n = (s, 3) := by
  unfold BankClosed at closed
  simp [Regs.bankWrite, set, closed]

/-- The word of an open bank at an aligned offset takes its fields. -/
theorem bankWord_accepts {s : State} (served : hostServed s = true) {b o : Nat} (hb : b < 2) (aligned : o % 8 = 0) {v : W64} {y : Bank}
    (isOpen : ¬ BankClosed s b) (set : Regs.bankSet (Regs.bank s b) o v.toNat = some y) :
    Accepts (.routeBankWrite b o v) s (setBank s b y) :=
  accepts_of_hostWrite served rfl (by simp [hb, aligned]) (bankWrite_open set isOpen)

theorem bankWord_refuses {s : State} (served : hostServed s = true) {b o : Nat} (hb : b < 2) (aligned : o % 8 = 0) {v : W64} {y : Bank}
    (closed : BankClosed s b) (set : Regs.bankSet (Regs.bank s b) o v.toNat = some y) : Refuses (.routeBankWrite b o v) s :=
  refuses_of_hostWrite served rfl (by simp [hb, aligned]) (bankWrite_closed set closed)

theorem bankSet_table (x : Bank) (v : W64) : Regs.bankSet x 0 v.toNat = some { x with table := v.toNat % 65536, valid := v.getLsbD 16 } := rfl

theorem bankSet_portEn (x : Bank) (n : Nat) : Regs.bankSet x 8 n = some { x with portEn := n % 2 ^ 27 } := rfl

theorem bankSet_detour (x : Bank) (n : Nat) {w : Nat} (h : w < 3) : Regs.bankSet x (0x10 + 8 * w) n =
    some { x with detour := Regs.unpack 31 5 (min 12 (27 - 12 * w)) (12 * w) n x.detour } := by
  simp (disch := omega) only [Regs.bankSet, beq_iff_eq, ↓if_neg, ↓if_pos]
  rw [show (0x10 + 8 * w - 0x10) / 8 = w by omega]

theorem bankSet_dirs (x : Bank) (n : Nat) {w : Nat} (h : w < 256) : Regs.bankSet x (0x800 + 8 * w) n =
    some { x with dirs := Regs.unpack 0 4 16 (16 * w) n x.dirs } := by
  simp (disch := omega) only [Regs.bankSet, beq_iff_eq, ↓if_neg, ↓if_pos]
  rw [show (0x800 + 8 * w - 0x800) / 8 = w by omega]

theorem ofNat_mod_eq_and (v : W64) : BitVec.ofNat 64 (v.toNat % 2 ^ 55) = v &&& 0x7FFFFFFFFFFFFF := by
  apply BitVec.eq_of_toNat_eq
  rw [BitVec.toNat_and, BitVec.toNat_ofNat, show (0x7FFFFFFFFFFFFF : W64).toNat = 2 ^ 55 - 1 by decide, Nat.and_two_pow_sub_one_eq_mod]
  omega

theorem bankSet_mcast (x : Bank) (v : W64) {g : Nat} (h : g < 4096) : Regs.bankSet x (0x8000 + 8 * g) v.toNat =
    some { x with mcast := SMap.put 0#64 x.mcast g (v &&& 0x7FFFFFFFFFFFFF) } := by
  simp (disch := omega) only [Regs.bankSet, beq_iff_eq, ↓if_neg, ↓if_pos]
  rw [show (0x8000 + 8 * g - 0x8000) / 8 = g by omega, ofNat_mod_eq_and]

/-- A word of RT_DETOUR holds the entries of twelve ports, the last word those of three. -/
theorem val_detourWord (m : SMap Nat) (n p : Nat) {w : Nat} (h : w < 3) :
    SMap.val 31 (Regs.unpack 31 5 (min 12 (27 - 12 * w)) (12 * w) n m) p =
      if p < 27 ∧ p / 12 = w then n / 2 ^ (5 * (p % 12)) % 32 else SMap.val 31 m p := by
  have inWord : (12 * w ≤ p ∧ p < 12 * w + min 12 (27 - 12 * w)) ↔ (p < 27 ∧ p / 12 = w) := by omega
  rw [val_unpack, if_congr inWord rfl rfl]
  split
  · rw [show p - 12 * w = p % 12 by omega]
    rfl
  · rfl

/-- A word of RT_DIRS holds sixteen entries. -/
theorem val_dirsWord (m : SMap Nat) (n e w : Nat) :
    SMap.val 0 (Regs.unpack 0 4 16 (16 * w) n m) e = if e / 16 = w then n / 2 ^ (4 * (e % 16)) % 16 else SMap.val 0 m e := by
  have inWord : (16 * w ≤ e ∧ e < 16 * w + 16) ↔ e / 16 = w := by omega
  rw [val_unpack, if_congr inWord rfl rfl]
  split
  · rw [show e - 16 * w = e % 16 by omega]
    rfl
  · rfl

/-- A pending ROUTE_SWAP that names a bank's table closes the bank once it is valid. -/
theorem bankClosed_of_pending {s : State} {b : Nat} (h : s.fabric.activeBank = b ∨ (Regs.bank s b).valid = true ∧
    ∃ q ∈ s.sched, q.2.entry.action = 6 ∧ field q.2.entry.param.toNat 47 32 = (Regs.bank s b).table) : BankClosed s b := by
  refine h.imp_right fun ⟨valid, q, mem, action, table⟩ => ⟨valid, ?_⟩
  rw [Regs.swapNames, Bool.or_eq_true]
  exact .inl (List.any_eq_true.mpr ⟨q, mem, by simp [action, table]⟩)

/-- A bank that is neither active nor, while valid, named by a ROUTE_SWAP is open. -/
theorem not_bankClosed {s : State} {b : Nat} (inactive : s.fabric.activeBank ≠ b)
    (unnamed : (Regs.bank s b).valid = false ∨ Regs.swapNames s (Regs.bank s b).table = false) : ¬ BankClosed s b := by
  rintro (active | ⟨valid, named⟩)
  · exact inactive active
  · rcases unnamed with invalid | unnamed
    · exact Bool.false_ne_true (invalid.symm.trans valid)
    · exact Bool.false_ne_true (unnamed.symm.trans named)

/-- Each word of an open bank takes its fields (R508). -/
theorem bankWords_accept {s : State} (served : hostServed s = true) (v : W64) {b : Nat} (hb : b < 2) (isOpen : ¬ BankClosed s b) :
    let x := Regs.bank s b
    Accepts (.routeBankWrite b 0 v) s (setBank s b { x with table := v.toNat % 65536, valid := v.getLsbD 16 }) ∧
    Accepts (.routeBankWrite b 8 v) s (setBank s b { x with portEn := v.toNat % 2 ^ 27 }) ∧
    (∀ w < 3, ∃ m, Accepts (.routeBankWrite b (0x10 + 8 * w) v) s (setBank s b { x with detour := m }) ∧
      ∀ p, SMap.val 31 m p = if p < 27 ∧ p / 12 = w then v.toNat / 2 ^ (5 * (p % 12)) % 32 else SMap.val 31 x.detour p) ∧
    (∀ w < 256, ∃ m, Accepts (.routeBankWrite b (0x800 + 8 * w) v) s (setBank s b { x with dirs := m }) ∧
      ∀ e, SMap.val 0 m e = if e / 16 = w then v.toNat / 2 ^ (4 * (e % 16)) % 16 else SMap.val 0 x.dirs e) ∧
    (∀ g < 4096, Accepts (.routeBankWrite b (0x8000 + 8 * g) v) s
      (setBank s b { x with mcast := SMap.put 0#64 x.mcast g (v &&& 0x7FFFFFFFFFFFFF) })) := by
  intro x
  refine ⟨?table, ?portEn, fun w h => ⟨_, ?detour, fun p => val_detourWord x.detour v.toNat p h⟩,
    fun w h => ⟨_, ?dirs, fun e => val_dirsWord x.dirs v.toNat e w⟩, fun g h => ?mcast⟩
  case table => exact bankWord_accepts served hb (by decide) isOpen (bankSet_table x v)
  case portEn => exact bankWord_accepts served hb (by decide) isOpen (bankSet_portEn x v.toNat)
  case detour => exact bankWord_accepts served hb (by omega) isOpen (bankSet_detour x v.toNat h)
  case dirs => exact bankWord_accepts served hb (by omega) isOpen (bankSet_dirs x v.toNat h)
  case mcast => exact bankWord_accepts served hb (by omega) isOpen (bankSet_mcast x v h)

/-- No word of a closed bank is written (R508). -/
theorem bankWords_refuse {s : State} (served : hostServed s = true) (v : W64) {b : Nat} (hb : b < 2) (closed : BankClosed s b) :
    Refuses (.routeBankWrite b 0 v) s ∧ Refuses (.routeBankWrite b 8 v) s ∧ (∀ w < 3, Refuses (.routeBankWrite b (0x10 + 8 * w) v) s) ∧
    (∀ w < 256, Refuses (.routeBankWrite b (0x800 + 8 * w) v) s) ∧ (∀ g < 4096, Refuses (.routeBankWrite b (0x8000 + 8 * g) v) s) :=
  ⟨bankWord_refuses served hb (by decide) closed (bankSet_table _ v),
    bankWord_refuses served hb (by decide) closed (bankSet_portEn _ v.toNat),
    fun _ h => bankWord_refuses served hb (by omega) closed (bankSet_detour _ v.toNat h),
    fun _ h => bankWord_refuses served hb (by omega) closed (bankSet_dirs _ v.toNat h),
    fun _ h => bankWord_refuses served hb (by omega) closed (bankSet_mcast _ v h)⟩

/-! ## Rings, maps, masks and limits -/

theorem healthPool_accepts {s : State} (served : hostServed s = true) (v : W64) : Accepts (.setupRegisterWrite 0x28 8 v) s
    { s with health := { s.health with floor := v.toNat / 65536 % 65536, available := v.toNat % 65536 } } := by
  refine setupWrite_accepts served ⟨by decide, by decide, rfl⟩ ?_
  rw [show v.toNat / 65536 % 65536 = field v.toNat 31 16 from (field_eq_div_mod _ 31 16).symm,
    show v.toNat % 65536 = field v.toNat 15 0 from (field_zero _ 15).symm]
  rfl

theorem ringBase_mul (v : W64) : field v.toNat 63 12 * 4096 = v.toNat / 4096 * 4096 :=
  congrArg (· * 4096) (field_top v (lo := 12) (by decide))

/-- A ring's bases are taken while it is disabled, and stand while it is enabled (R463). -/
theorem sqBase_accepts {s : State} (served : hostServed s = true) (v : W64) {r : Nat} (h : r < 128) :
    Accepts (.setupRegisterWrite (0x10000 + 0x40 * r) 8 v) s
      (if (ring s r).enable then s else setRing s r { ring s r with sqBase := v.toNat / 4096 * 4096 }) := by
  refine setupWrite_accepts served (isRegister_ringBase s (by omega) (by omega) (by omega)) ?_
  rw [writeAt_ring h (j := 0) (by decide) (Nat.add_zero _).symm, ← ringBase_mul]
  rfl

theorem cqBase_accepts {s : State} (served : hostServed s = true) (v : W64) {r : Nat} (h : r < 128) :
    Accepts (.setupRegisterWrite (0x10008 + 0x40 * r) 8 v) s
      (if (ring s r).enable then s else setRing s r { ring s r with cqBase := v.toNat / 4096 * 4096 }) := by
  refine setupWrite_accepts served (isRegister_ringBase s (by omega) (by omega) (by omega)) ?_
  rw [writeAt_ring h (j := 8) (by decide) (by omega), ← ringBase_mul]
  rfl

/-- The bases of a ring, which stand while it is enabled (R463). -/
theorem ringBases_accept {s : State} (served : hostServed s = true) (v : W64) {r : Nat} (h : r < 128) :
    ((ring s r).enable = false →
      Accepts (.setupRegisterWrite (0x10000 + 0x40 * r) 8 v) s (setRing s r { ring s r with sqBase := v.toNat / 4096 * 4096 }) ∧
      Accepts (.setupRegisterWrite (0x10008 + 0x40 * r) 8 v) s (setRing s r { ring s r with cqBase := v.toNat / 4096 * 4096 })) ∧
    ((ring s r).enable = true →
      Accepts (.setupRegisterWrite (0x10000 + 0x40 * r) 8 v) s s ∧ Accepts (.setupRegisterWrite (0x10008 + 0x40 * r) 8 v) s s) := by
  have sq := sqBase_accepts served v h
  have cq := cqBase_accepts served v h
  constructor <;> intro enable
  · rw [enable, if_neg (by decide)] at sq cq
    exact ⟨sq, cq⟩
  · rw [enable, if_pos rfl] at sq cq
    exact ⟨sq, cq⟩

theorem rankWindow_accepts {s : State} (served : hostServed s = true) (v : W64) {c : Nat} (h : c < 256) :
    Accepts (.setupRegisterWrite (0x81000 + 8 * c) 8 v) s
      (modRemote s (fun r => { r with win := SMap.put 0#64 r.win c (v &&& 0x7FFF3FFF) })) := by
  refine setupWrite_accepts served (isRegister_mid s (by omega) (by omega)) ?_
  rw [writeAt_rankWindow h, keep_eq_and _ (fun _ => rfl), show Regs.keep [(30, 16), (13, 0)] (2 ^ 64 - 1) = 0x7FFF3FFF by decide]

theorem rankEntry_accepts {s : State} (served : hostServed s = true) (v : W64) {e : Nat} (h : e < 16384) :
    Accepts (.setupRegisterWrite (0xA0000 + 8 * e) 8 v) s
      (modRemote s (fun r => { r with map := SMap.put 0#64 r.map e (v &&& 0xBFFF) })) := by
  refine setupWrite_accepts served (isRegister_mid s (by omega) (by omega)) ?_
  rw [writeAt_rankEntry h, keep_eq_and _ (fun _ => rfl), show Regs.keep [(15, 15), (13, 0)] (2 ^ 64 - 1) = 0xBFFF by decide]

theorem multicastHead_accepts {s : State} (served : hostServed s = true) (v : W64) {g : Nat} (h : g < 4096) :
    Accepts (.setupRegisterWrite (0x400000 + 0x400 * g) 8 v) s
      (modRemote s (fun r => { r with mcast := SMap.put 0xFF0000#64 r.mcast (128 * g) (v &&& 0xFF01FF) })) := by
  refine setupWrite_accepts served (isRegister_high s (by omega) (by omega)) ?_
  rw [writeAt_multicastHead h, keep_eq_and _ (fun _ => rfl), show Regs.keep [(23, 16), (8, 0)] (2 ^ 64 - 1) = 0xFF01FF by decide]

theorem multicastLeaves_accepts {s : State} (served : hostServed s = true) (v : W64) {g w : Nat} (h : g < 4096) (lo : 1 ≤ w) (hi : w ≤ 64) :
    Accepts (.setupRegisterWrite (0x400000 + 0x400 * g + 8 * w) 8 v) s
      (modRemote s (fun r => { r with mcast := SMap.put 0#64 r.mcast (128 * g + w) (v &&& 0x3FFF3FFF3FFF3FFF) })) := by
  refine setupWrite_accepts served (isRegister_high s (by omega) (by omega)) ?_
  rw [writeAt_multicastLeaves h lo hi, keep_eq_and _ (fun _ => rfl),
    show Regs.keep [(61, 48), (45, 32), (29, 16), (13, 0)] (2 ^ 64 - 1) = 0x3FFF3FFF3FFF3FFF by decide]

/-- MEM_SCRUB_CTL (R512). -/
theorem writeAt_scrub (s : State) (v : W64) : Regs.writeAt s 0xC0008 v =
    if v.toNat % 256 < 1 ∨ 168 < v.toNat % 256 then (s, 3) else (modMem s (fun m => { m with scrubPeriod := v.toNat % 256 }), 0) := by
  rw [← show field v.toNat 7 0 = v.toNat % 256 from field_zero _ 7]
  rfl

theorem scrub_accepts {s : State} (served : hostServed s = true) {v : W64} (lo : 1 ≤ v.toNat % 256) (hi : v.toNat % 256 ≤ 168) :
    Accepts (.setupRegisterWrite 0xC0008 8 v) s (modMem s (fun m => { m with scrubPeriod := v.toNat % 256 })) :=
  setupWrite_accepts served ⟨by decide, by decide, rfl⟩ ((writeAt_scrub s v).trans (if_neg (by omega)))

theorem scrub_refuses {s : State} (served : hostServed s = true) {v : W64} (out : v.toNat % 256 < 1 ∨ 168 < v.toNat % 256) :
    Refuses (.setupRegisterWrite 0xC0008 8 v) s :=
  setupWrite_refuses served ⟨by decide, by decide, rfl⟩ ((writeAt_scrub s v).trans (if_pos out))

/-- SEQ_QUANTUM (R514). -/
theorem writeAt_quantum (s : State) (v : W64) : Regs.writeAt s 0xE0000 v =
    if v.toNat % 2 ^ 27 < 10 ∨ 100000 < v.toNat % 2 ^ 27 then (s, 3) else ({ s with quantum := v.toNat % 2 ^ 27 }, 0) := by
  rw [← field_zero _ 26]
  rfl

theorem quantum_accepts {s : State} (served : hostServed s = true) {v : W64} (lo : 10 ≤ v.toNat % 2 ^ 27) (hi : v.toNat % 2 ^ 27 ≤ 100000) :
    Accepts (.setupRegisterWrite 0xE0000 8 v) s { s with quantum := v.toNat % 2 ^ 27 } :=
  setupWrite_accepts served ⟨by decide, by decide, rfl⟩ ((writeAt_quantum s v).trans (if_neg (by omega)))

theorem quantum_refuses {s : State} (served : hostServed s = true) {v : W64} (out : v.toNat % 2 ^ 27 < 10 ∨ 100000 < v.toNat % 2 ^ 27) :
    Refuses (.setupRegisterWrite 0xE0000 8 v) s :=
  setupWrite_refuses served ⟨by decide, by decide, rfl⟩ ((writeAt_quantum s v).trans (if_pos out))

/-- ARR_SWAP_CTL (R514). -/
theorem writeAt_swapCtl (s : State) (v : W64) : Regs.writeAt s 0xE0008 v =
    if v.toNat / 65536 % 2048 < 1 ∨ 1440 < v.toNat / 65536 % 2048 ∨ v.toNat % 16 < 1 then (s, 3)
    else (modWeevil s (fun y => { y with window := v.toNat / 65536 % 2048, count := v.toNat % 16 }), 0) := by
  rw [← show field v.toNat 26 16 = v.toNat / 65536 % 2048 from field_eq_div_mod _ 26 16,
    ← show field v.toNat 3 0 = v.toNat % 16 from field_zero _ 3]
  rfl

theorem swapCtl_accepts {s : State} (served : hostServed s = true) {v : W64} (lo : 1 ≤ v.toNat / 65536 % 2048)
    (hi : v.toNat / 65536 % 2048 ≤ 1440) (count : 1 ≤ v.toNat % 16) : Accepts (.setupRegisterWrite 0xE0008 8 v) s
      (modWeevil s (fun y => { y with window := v.toNat / 65536 % 2048, count := v.toNat % 16 })) :=
  setupWrite_accepts served ⟨by decide, by decide, rfl⟩ ((writeAt_swapCtl s v).trans (if_neg (by omega)))

theorem swapCtl_refuses {s : State} (served : hostServed s = true) {v : W64}
    (out : v.toNat / 65536 % 2048 < 1 ∨ 1440 < v.toNat / 65536 % 2048 ∨ v.toNat % 16 < 1) : Refuses (.setupRegisterWrite 0xE0008 8 v) s :=
  setupWrite_refuses served ⟨by decide, by decide, rfl⟩ ((writeAt_swapCtl s v).trans (if_pos out))

/-! ## The register-mode registers (R516) -/

theorem writeAt_seed {s : State} {k : Nat} (h : k < 72) (v : W64) : Regs.writeAt s (0xF0008 + 0x20 * k) v =
    if (RegMode.core s k).mode then (s, 3) else (RegMode.setCore s k { RegMode.core s k with seed := v }, 0) :=
  writeAt_registerMode h (j := 8) (by decide) (by omega)

theorem writeAt_win {s : State} {k : Nat} (h : k < 72) (v : W64) : Regs.writeAt s (0xF0010 + 0x20 * k) v =
    if (RegMode.core s k).mode then (s, 3)
    else (RegMode.setCore s k { RegMode.core s k with win := v.toNat % 2 ^ 48 / 1024 * 1024 }, 0) := by
  rw [writeAt_registerMode h (j := 0x10) (by decide) (by omega),
    ← show field v.toNat 47 10 * 1024 = v.toNat % 2 ^ 48 / 1024 * 1024 from field_mul _ (hi := 47) (lo := 10) (by decide)]
  rfl

theorem writeAt_digest {s : State} {k : Nat} (h : k < 72) (v : W64) : Regs.writeAt s (0xF0018 + 0x20 * k) v = (s, 3) :=
  writeAt_registerMode h (j := 0x18) (by decide) (by omega)

/-- SEED and WIN are taken while the core is out of register mode. -/
theorem registerMode_accepts {s : State} (served : hostServed s = true) (v : W64) {k : Nat} (h : k < 72) (off : (RegMode.core s k).mode = false) :
    Accepts (.setupRegisterWrite (0xF0008 + 0x20 * k) 8 v) s (RegMode.setCore s k { RegMode.core s k with seed := v }) ∧
    Accepts (.setupRegisterWrite (0xF0010 + 0x20 * k) 8 v) s
      (RegMode.setCore s k { RegMode.core s k with win := v.toNat % 2 ^ 48 / 1024 * 1024 }) := by
  constructor
  · exact setupWrite_accepts served (isRegister_registerMode s (by omega) (by omega) (by omega)) ((writeAt_seed h v).trans (if_neg (by simp [off])))
  · exact setupWrite_accepts served (isRegister_registerMode s (by omega) (by omega) (by omega)) ((writeAt_win h v).trans (if_neg (by simp [off])))

theorem registerMode_refuses {s : State} (served : hostServed s = true) (v : W64) {k : Nat} (h : k < 72) (on : (RegMode.core s k).mode = true) :
    Refuses (.setupRegisterWrite (0xF0008 + 0x20 * k) 8 v) s ∧ Refuses (.setupRegisterWrite (0xF0010 + 0x20 * k) 8 v) s := by
  constructor
  · exact setupWrite_refuses served (isRegister_registerMode s (by omega) (by omega) (by omega)) ((writeAt_seed h v).trans (if_pos on))
  · exact setupWrite_refuses served (isRegister_registerMode s (by omega) (by omega) (by omega)) ((writeAt_win h v).trans (if_pos on))

theorem digest_refuses {s : State} (served : hostServed s = true) (v : W64) {k : Nat} (h : k < 72) :
    Refuses (.setupRegisterWrite (0xF0018 + 0x20 * k) 8 v) s :=
  setupWrite_refuses served (isRegister_registerMode s (by omega) (by omega) (by omega)) (writeAt_digest h v)

/-! ## Drills and masks (R518, R519) -/

theorem drillEnable_accepts {s : State} (served : hostServed s = true) (v : W64) :
    Accepts (.setupRegisterWrite 0x110028 8 v) s (modErr s (fun e => { e with drillEnable := v.getLsbD 0 })) :=
  setupWrite_accepts served ⟨by decide, by decide, rfl⟩ rfl

theorem redMask_accepts {s : State} (served : hostServed s = true) (v : W64) {w : Nat} (h : w < 4) :
    Accepts (.setupRegisterWrite (0x110040 + 8 * w) 8 v) s (modErr s (fun e => { e with redMask := Regs.setMask s.err.redMask w v })) :=
  setupWrite_accepts served (isRegister_high s (by omega) (by omega)) (writeAt_redMask h)

theorem weevilHold_accepts {s : State} (served : hostServed s = true) (v : W64) {w : Nat} (h : w < 4) :
    Accepts (.setupRegisterWrite (0x110060 + 8 * w) 8 v) s (modErr s (fun e => { e with weevilHold := Regs.setMask s.err.weevilHold w v })) :=
  setupWrite_accepts served (isRegister_high s (by omega) (by omega)) (writeAt_weevilHold h)

/-- The masks of 256 contexts, a word of each at a time (R519). -/
theorem masks_accept {s : State} (served : hostServed s = true) (v : W64) {w : Nat} (h : w < 4) :
    ∃ a b : BitVec 256, Accepts (.setupRegisterWrite (0x110040 + 8 * w) 8 v) s (modErr s (fun e => { e with redMask := a })) ∧
      Accepts (.setupRegisterWrite (0x110060 + 8 * w) 8 v) s (modErr s (fun e => { e with weevilHold := b })) ∧
      ∀ c < 256, a.getLsbD c = (if c / 64 = w then v.getLsbD (c % 64) else s.err.redMask.getLsbD c) ∧
        b.getLsbD c = (if c / 64 = w then v.getLsbD (c % 64) else s.err.weevilHold.getLsbD c) :=
  ⟨_, _, redMask_accepts served v h, weevilHold_accepts served v h,
    fun _ hc => ⟨setMask_getLsbD _ v hc, setMask_getLsbD _ v hc⟩⟩

/-! ## The statement -/

/-- Settles O55: each write reaches the rule of the register it names, and the status of that rule is answered. -/
theorem registerAccessesComplete : Obligations.RegisterAccessesComplete := by
  unfold Obligations.RegisterAccessesComplete
  intro s v served
  refine ⟨logBase_accepts served v, logSize_accepts served, logSize_refuses served, logTail_accepts served, logTail_refuses served,
    fun c count hc => ?census, fun b hb => ?bank, healthPool_accepts served v, fun r h => ringBases_accept served v h,
    fun c h => rankWindow_accepts served v h, fun e h => rankEntry_accepts served v h,
    fun g h => ⟨multicastHead_accepts served v h, fun w lo hi => multicastLeaves_accepts served v h lo hi⟩,
    ⟨scrub_accepts served, scrub_refuses served⟩, ⟨quantum_accepts served, quantum_refuses served⟩,
    ⟨swapCtl_accepts served, swapCtl_refuses served⟩, fun k h => ?registerMode, drillEnable_accepts served v,
    fun w h => masks_accept served v h,
    fun o mem => readOnly_refuses served (loneReadOnly_isRegister s mem) (loneReadOnly_not_writable mem),
    fun p h => readOnly_refuses served (isRegister_port s h) (by unfold Writable; omega),
    fun i h => readOnly_refuses served (isRegister_mid s (by omega) (by omega)) (by unfold Writable; omega),
    fun c h => readOnly_refuses served (isRegister_censusMiss s h) (by unfold Writable; omega),
    fun k h => readOnly_refuses served (isRegister_high s (by omega) (by omega)) (by unfold Writable; omega),
    fun o n inRegion notMsix => ?other⟩
  case census =>
    exact ⟨census_accepts served hc count v, fun _ out => census_refuses served hc count v (.inr out),
      fun defined => census_refuses served hc count v (.inl defined)⟩
  case bank =>
    exact ⟨fun inactive unnamed => bankWords_accept served v hb (not_bankClosed inactive unnamed),
      fun closed => bankWords_refuse served v hb (bankClosed_of_pending closed)⟩
  case registerMode =>
    exact ⟨registerMode_accepts served v h, registerMode_refuses served v h, digest_refuses served v h⟩
  case other =>
    exact ⟨setupWrite_refuses_of_misfit served v inRegion notMsix, setupWrite_unmapped served v inRegion notMsix⟩

end Sys2Proof.Proofs.RegisterWrites
end

section
/-! PROOFS. Waits on flags and flag actions (R53, R161, R168, R254 to R257, R261, R362, R363). -/

namespace Sys2Proof.Proofs.FlagStatements

open Sys2Proof.Machine Sys2Proof.Machine.Ops Sys2Proof.Machine.Bits Sys2Proof.Safety Sys2Proof.Laws

/-- A legal wait whose flags are set passes in its stream's turn (R161, R168). -/
theorem wait_passes {s : State} {i : Issuer} {w : FlagWord} {r : Issue.Runner} {consuming : Bool} (legal : Issue.legalFlag w = true)
    (can : CanIssue s i r (.flag (if consuming then 1 else 0) w)) (met : FlagOps.met s i.core (FlagCtl.waitOf s consuming w) = true) :
    FlagCtl.wait s i consuming w = FlagOps.passWait (Issue.noted s i) r.c i.core i.stream (FlagCtl.waitOf s consuming w) := by
  obtain ⟨reached, turn⟩ := can
  simp [FlagCtl.wait, fetched_eq reached, legal, met, turn]

/-- A legal wait with a flag that is not set blocks its stream (R168). -/
theorem wait_blocks {s : State} {i : Issuer} {w : FlagWord} {r : Issue.Runner} {consuming : Bool} (legal : Issue.legalFlag w = true)
    (reached : Reached s i r (.flag (if consuming then 1 else 0) w))
    (unmet : FlagOps.met s i.core (FlagCtl.waitOf s consuming w) = false) :
    FlagCtl.wait s i consuming w = modStream s r.c i.core i.stream (fun t => { t with wait := some (FlagCtl.waitOf s consuming w) }) := by
  simp [FlagCtl.wait, fetched_eq reached, legal, unmet]

/-- A stream that is blocked on a met wait passes it in its turn (R161, R257). -/
theorem satisfied_passes {s : State} {i : Issuer} {c : Nat} {w : WaitState} (pending : Issue.pendingWait s i = some (c, w))
    (turn : Issue.myTurn s i = true) (met : FlagOps.met s i.core w = true) :
    FlagCtl.satisfied s i = FlagOps.passWait (Issue.noted s i) c i.core i.stream w := by
  simp [FlagCtl.satisfied, Issue.unblocked, Issue.passPending, pending, turn, met]

theorem overdue_iff (s : State) (w : WaitState) :
    FlagCtl.overdue s w = true ↔ w.timeout ≠ 0 ∧ 1000 * w.timeout ≤ w.used + (now s - w.since) := by
  simp [FlagCtl.overdue]

/-- Settles O12: each wait is met, unmet, or past its deadline in its turn. -/
theorem flagWaitsComplete : Obligations.FlagWaitsComplete := by
  unfold Obligations.FlagWaitsComplete
  refine ⟨fun s i w r legal => ⟨?waits, ?waitsBlocks, ?waitc, ?waitcBlocks⟩, ?satisfied, ?timeout⟩
  case waits => exact fun can met => congrArg Host.Outcome.next (wait_passes (consuming := false) legal can met)
  case waitsBlocks => exact fun reached unmet => congrArg Host.Outcome.next (wait_blocks (consuming := false) legal reached unmet)
  case waitc => exact fun can met => congrArg Host.Outcome.next (wait_passes (consuming := true) legal can met)
  case waitcBlocks => exact fun reached unmet => congrArg Host.Outcome.next (wait_blocks (consuming := true) legal reached unmet)
  case satisfied =>
    exact fun s i c w pending turn met => congrArg Host.Outcome.next (satisfied_passes pending turn met)
  case timeout =>
    intro s i c x t w waiting turn unmet limit past
    have due : FlagCtl.overdue s w = true := (overdue_iff s w).mpr ⟨limit, past⟩
    show Host.Outcome.next (FlagCtl.timeout s i) = _
    simp [FlagCtl.timeout, waiting, turn, unmet, due]

/-- A pair that agrees, or a context without one, leaves a field as it is (R363). -/
theorem field_agrees {s : State} {x : Pairs.Site} (addr width v : Nat) {pair : Option PairFault}
    (agrees : pair = none ∨ Pairs.redundant s x.ctx = false) : Pairs.field s x addr width v pair = (s, v) := by
  obtain rfl | plain := agrees
  · rfl
  · cases pair <;> simp [Pairs.field, plain]

/-- What SET or CLEAR does to one flag that it names: a flag on which a wait has timed out takes it as a late one (R53, R168, R256). -/
def actOn (set : Bool) (i : Issuer) (p : Party) (acc : State) (f : Nat) : State :=
  let s1 := FlagOps.late (FlagOps.noteIssue acc i.core f) i.core f
  if set then FlagOps.setFlag s1 i.core f p else FlagOps.clearFlag s1 i.core f p

/-- SET and CLEAR act on each flag they name in ascending order (R168, R256). -/
theorem action_acts {s : State} {i : Issuer} {w : FlagWord} {r : Issue.Runner} {pair : Option PairFault} {set : Bool}
    (legal : Issue.legalFlag w = true) (agrees : pair = none ∨ Pairs.redundant (Issue.noted s i) r.c = false)
    (can : CanIssue s i r (.flag (if set then 2 else 3) w)) :
    FlagCtl.action s i set w pair = FlagCtl.actAll (actOn set i (FlagOps.streamParty s i.core r.c i.stream)) (w.nfl + 1)
      (Issue.advance (Issue.noted s i) r.c i) w.flag := by
  have low : w.flag ≤ 8191 - w.nfl := by
    simp only [Issue.legalFlag, Bool.and_eq_true, decide_eq_true_eq] at legal
    omega
  simp only [FlagCtl.action, issue_eq can (fun _ _ => nofun), legal, if_true]
  rw [field_agrees 0 13 w.flag agrees, Nat.min_eq_left low]
  rfl

/-- A host's write to FLG_ACT in its place of the cycle, on a core that is no partner, is carried out and answered (R261). -/
theorem hostAct_acts {s : State} {q fact : Nat} {v : W64} (turn : Order.turn 3 s = true) (served : hostServed s = true)
    (named : v.toNat / 16384 % 4 = fact) (legal : fact ≠ 3) (single : isPartner s q = false) :
    FlagWindow.hostAct s q v fact = emit (FlagOps.arrive s q (v.toNat % 8192) fact (FlagWindow.hostParty s)) (.answer 0 []) := by
  have hfact : field v.toNat 15 14 = fact := by rw [RegisterWrites.field_eq_div_mod]; exact named
  have hflag : field v.toNat 12 0 = v.toNat % 8192 := RegisterWrites.field_zero _ 12
  simp [FlagWindow.hostAct, FlagWindow.actWrite, turn, single, hfact, hflag, legal, fromHost, served, hostStatus]

/-- The partner core of a redundant pair refuses a host's write to FLG_ACT (R362). -/
theorem hostAct_refuses {s : State} {q fact : Nat} {v : W64} (turn : Order.turn 3 s = true) (served : hostServed s = true)
    (named : v.toNat / 16384 % 4 = fact) (doubled : isPartner s q = true) :
    FlagWindow.hostAct s q v fact = emit s (.answer 2 []) := by
  have hfact : field v.toNat 15 14 = fact := by rw [RegisterWrites.field_eq_div_mod]; exact named
  simp [FlagWindow.hostAct, turn, doubled, hfact, fromHost, served]

/-- A flag action that reaches a core under no swap takes effect. -/
theorem arrive_acts {s : State} {q : Nat} (f fact : Nat) (p : Party) (single : isPartner s q = false) (still : FlagOps.swapping s q = false) :
    FlagOps.arrive s q f fact p = FlagOps.act s q f fact p := by
  simp [FlagOps.arrive, single, still]

/-- A flag action that reaches a core under a swap is held (R85). -/
theorem arrive_holds {s : State} {q fact : Nat} (f : Nat) (p : Party) (single : isPartner s q = false) (swap : FlagOps.swapping s q = true)
    (acts : fact ≠ 0) : FlagOps.arrive s q f fact p = modFlags s (fun x => { x with held := x.held ++ [(q, .act f fact p)] }) := by
  simp [FlagOps.arrive, single, swap, acts]

/-- Settles O13: a stream acts on its flags one by one; a host write acts, is held under a swap, or is refused on a partner. -/
theorem flagActionsComplete : Obligations.FlagActionsComplete := by
  unfold Obligations.FlagActionsComplete
  constructor
  · intro s i w r pair legal p n agrees seen
    exact ⟨fun can => congrArg Host.Outcome.next (action_acts (set := true) legal agrees can),
      fun can => congrArg Host.Outcome.next (action_acts (set := false) legal agrees can)⟩
  intro s q v turn served f ok
  refine ⟨fun still single => ?taken, fun swap single named => ?held, fun doubled => ?refused⟩
  case taken =>
    have acts {fact : Nat} (named : v.toNat / 16384 % 4 = fact) (legal : fact ≠ 3) : FlagWindow.hostAct s q v fact =
        ok (FlagOps.act s q f fact (FlagWindow.hostParty s)) := by
      rw [hostAct_acts turn served named legal single, arrive_acts _ _ _ single still]
    exact ⟨fun named => congrArg Host.Outcome.next (acts named (by decide)), fun named => congrArg Host.Outcome.next (acts named (by decide)),
      fun named => congrArg Host.Outcome.next (acts named (by decide))⟩
  case held =>
    have acts := hostAct_acts turn served named (by decide) single
    rw [arrive_holds _ _ single swap (by decide)] at acts
    exact congrArg Host.Outcome.next acts
  case refused =>
    have refuses {fact : Nat} (named : v.toNat / 16384 % 4 = fact) : FlagWindow.hostAct s q v fact = emit s (.answer 2 []) :=
      hostAct_refuses turn served named doubled
    exact ⟨fun named => congrArg Host.Outcome.next (refuses named), fun named => congrArg Host.Outcome.next (refuses named),
      fun named => congrArg Host.Outcome.next (refuses named)⟩

end Sys2Proof.Proofs.FlagStatements
end

section
/-! PROOFS. The end of a vector operation (R146, R147, R149, R170, R363). -/

namespace Sys2Proof.Proofs.VectorEnd

open Sys2Proof.Machine Sys2Proof.Machine.Ops Sys2Proof.Safety Sys2Proof.Laws

/-- Settles O15, by the one branch of the end of an operation that nothing corrupts. -/
theorem vectorOperationsComplete : Obligations.VectorOperationsComplete := by
  unfold Obligations.VectorOperationsComplete
  intro s q t0 op rest pair head turn next started past clean noCtr noFault x o s0 w s1 s2 y
  have ended : Vector.vectorComplete s q [] pair =
      Issue.complete y.1 op.ctx q op.stream
        (Issue.flagBit (o.counts.any (fun c => decide (0 < c.2.saturated))) Issue.bSaturated |||
         Issue.flagBit (o.counts.any (fun c => decide (0 < c.2.nonfinite))) Issue.bNonfinite |||
         Issue.flagBit o.capacity Issue.bCapacity) op.word.fact y.2 := by
    simp only [Vector.vectorComplete, head, turn, next, started, past, Option.any_some, decide_true, Bool.and_self, if_true]
    simp only [Mem.inject, List.foldl_nil, noCtr, noFault, clean, Bool.false_eq_true, if_false]
    rfl
  refine ⟨congrArg Host.Outcome.next ended, fun agrees => ?_⟩
  subst agrees
  exact ⟨rfl, rfl⟩

end Sys2Proof.Proofs.VectorEnd
end

section
/-! PROOFS. The end of a pass, with and without LAST, in one array and in those of a redundant pair (R66, R106 to R111, R165, R361 to R363). -/

namespace Sys2Proof.Proofs.PassEnd

open Sys2Proof.Machine Sys2Proof.Machine.Ops Sys2Proof.Safety Sys2Proof.Laws

/-! ## Passes without an error -/

/-- Vectors of which none mismatches name none (R80). -/
theorem firstMismatch_none {vs : List (Nat × Nat × Array.Vec)} (agree : ∀ r ∈ vs, r.2.2.mismatch = false) : Array.firstMismatch vs = none := by
  have none_found : vs.find? (fun r => r.2.2.mismatch) = none := List.find?_eq_none.mpr (by simpa using agree)
  rw [Array.firstMismatch, none_found, Option.map_none]

/-- A pass without a mismatch, on hardware without a fault, raises nothing. -/
theorem raiseErrors_clean (s : State) (q : Nat) (a : ArrayCore) (p : PassOp) {vs : List (Nat × Nat × Array.Vec)}
    (agree : ∀ r ∈ vs, r.2.2.mismatch = false) : Array.raiseErrors s q a p vs none = s := by
  simp [Array.raiseErrors, Array.errorAt, firstMismatch_none agree, Array.unitFlags]

theorem mismatches_nil {vs : List (Nat × Nat × Array.Vec)} (agree : ∀ r ∈ vs, r.2.2.mismatch = false) :
    vs.filter (fun r => r.2.2.mismatch) = [] :=
  List.filter_eq_nil_iff.mpr (by simpa using agree)

/-- The counters of a pass leave every array as it is (R505). -/
theorem arrayOf_countStalls (s : State) (k q : Nat) (p : PassOp) : Array.arrayOf (Array.countStalls s k p) q = Array.arrayOf s q := rfl

theorem arrayOf_bump (s : State) (k j n q : Nat) : Array.arrayOf (Cicada.bump s k j n) q = Array.arrayOf s q := rfl

theorem arrayOf_setArray (s : State) (q : Nat) (a : ArrayCore) : Array.arrayOf (Array.setArray s q a) q = a := by
  simp [Array.arrayOf, Array.setArray]

/-- The counters of R505 after a pass of which no vector mismatches. -/
def counted (s : State) (k : Nat) (p : PassOp) (vs : List (Nat × Nat × Array.Vec)) : State :=
  let skips := (vs.filter (fun r => r.2.2.skipped)).length
  let lost := vs.foldl (fun n r => r.2.2.lanes.foldl (fun m l => m + l.lost) n) 0
  Array.countStalls (Cicada.bump (Cicada.bump (Cicada.bump (Cicada.bump (Cicada.bump s k 0 1) k 1 (vs.length - skips)) k 2 skips) k 3 0)
    k 6 lost) k p

theorem arrayOf_counted (s : State) (k q : Nat) (p : PassOp) (vs : List (Nat × Nat × Array.Vec)) :
    Array.arrayOf (counted s k p vs) q = Array.arrayOf s q := by
  simp only [counted, arrayOf_countStalls, arrayOf_bump]

/-- A pass without a mismatch ends with its accumulators and its counters. -/
theorem endOn_clean (s : State) (q : Nat) (p : PassOp) (e : Array.Ended) (agree : ∀ r ∈ e.vs, r.2.2.mismatch = false) :
    Array.endOn s q p e none = counted (Array.setArray s q e.after) (physOf s q) p e.vs := by
  simp only [Array.endOn, raiseErrors_clean _ q _ p agree, mismatches_nil agree]
  rfl

/-- The write-out of an array that runs alone. -/
theorem writePass_alone (s : State) (q : Nat) (p : PassOp) (pair : Option PairFault) (rq : Mem.Req) {a : ArrayCore}
    (holds : Array.arrayOf s q = a) : Array.writePass s q p none pair rq =
      Operand.censusAdd (Mem.storeMap s (Array.writeOut s p a).1 rq) p.ctx p.o.tensor (Array.writeOut s p a).2
        (SMap.val false a.tileLoss p.word.entry) p.word.ovf rq := by
  rw [Array.writePass, holds]
  rfl

/-! ## The end of the pass that has fed longest -/

/-- What a pass names as the requester of its reads and writes. -/
def requester (q : Nat) (p : PassOp) : Mem.Req :=
  { unit := Report.unitCode 0 q, ctx := p.ctx, stream := some p.stream, op := Report.opField 1 0 }

/-- The end of a pass once its results are stored: status bits and flag action of its stream, and a swap of the core that is due (R85, R165). -/
def ended (s : State) (q : Nat) (p : PassOp) (own : Array.Ended) (pair : Option PairFault) (t : State) : State :=
  let y := Pairs.action t (Array.site q p) p.word.fact p.word.flag pair
  Swaps.atPass (Issue.complete y.1 p.ctx q p.stream
    (Issue.flagBit (SMap.val false own.after.tileSat p.word.entry) Issue.bSaturated |||
     Issue.flagBit (Array.lossOf own.after p) Issue.bWindowLoss |||
     Issue.flagBit (Array.firstMismatch own.vs).isSome Issue.bMismatch) p.word.fact y.2) q (Swaps.dueAtPass s q)

section
variable {s : State} {q : Nat} {p : PassOp} {rest : List PassOp} (pair : Option PairFault)
  (head : (Array.arrayOf s q).passes = p :: rest) (fed : p.fed ≠ none) (turn : Order.turn 4 s = true)
  (next : Issue.nextToComplete s q (4 * p.slot + p.stream, p.serial) = true) (past : Array.doneAt p ≤ cycle s)
  (activations : Operand.anyBad s p.x = false) (weights : p.tile.bad = [])
include head fed turn next past activations weights

/-- A pass with clean operands ends in the array of its core alone. -/
theorem passComplete_alone (plain : Pairs.redundant s p.ctx = false) :
    let own := Array.ranOn s { Array.arrayOf s q with passes := rest } p none
    let s1 := Array.endOn (Operand.loadAll s p.x (requester q p)) q p own none
    Array.passComplete s q ⟨none, none, pair⟩ [] =
      ended s q p own pair (if p.word.last = true then Array.writePass s1 q p none pair (requester q p) else s1) := by
  simp only [Array.passComplete, head, turn, next, past, Option.isSome_iff_ne_none.mpr fed, decide_true, Bool.and_self, if_true]
  simp only [Mem.inject, List.foldl_nil, plain, activations, weights, List.isEmpty_nil, Bool.not_true, Bool.or_self, Bool.false_eq_true,
    if_false]
  rfl

/-- A pass of a redundant context ends in the arrays of both cores (R361 to R363). -/
theorem passComplete_paired (paired : Pairs.redundant s p.ctx = true) :
    let own := Array.ranOn s { Array.arrayOf s q with passes := rest } p none
    let other := Array.ranOn s (Array.arrayOf s (q + 1)) p none
    let s1 := Array.endOn (Array.endOn (Operand.loadAll s p.x (requester q p)) q p own none) (q + 1) p other none
    Array.passComplete s q ⟨none, none, pair⟩ [] =
      ended s q p own pair (if p.word.last = true then Array.writePass s1 q p (some other.after) pair (requester q p) else s1) := by
  simp only [Array.passComplete, head, turn, next, past, Option.isSome_iff_ne_none.mpr fed, decide_true, Bool.and_self, if_true]
  simp only [Mem.inject, List.foldl_nil, paired, activations, weights, List.isEmpty_nil, Bool.not_true, Bool.or_self, Bool.false_eq_true,
    if_false, if_true]
  rfl

end

/-- Where no vector mismatches, the status bits of a pass are the tile's flags alone (R108, R165). -/
theorem ended_clean {s : State} {q : Nat} {p : PassOp} {own : Array.Ended} {pair : Option PairFault} {t : State}
    (agree : ∀ r ∈ own.vs, r.2.2.mismatch = false) : ended s q p own pair t =
      let y := Pairs.action t (Array.site q p) p.word.fact p.word.flag pair
      Swaps.atPass (Issue.complete y.1 p.ctx q p.stream
        (Issue.flagBit (SMap.val false own.after.tileSat p.word.entry) Issue.bSaturated |||
         Issue.flagBit (SMap.val false own.after.tileLoss p.word.entry) Issue.bWindowLoss) p.word.fact y.2) q (Swaps.dueAtPass s q) := by
  have none_named : Issue.flagBit (Array.firstMismatch own.vs).isSome Issue.bMismatch = 0#8 := by rw [firstMismatch_none agree]; rfl
  simp only [ended, none_named, BitVec.or_zero]
  rfl

/-- Settles O17, on one array and on the two of a redundant pair, once a pass without a mismatch raises nothing. -/
theorem passesComplete : Obligations.PassesComplete := by
  unfold Obligations.PassesComplete
  constructor
  case left =>
    intro s q p rest pair head fed turn next past activations weights plain a rq s0 k vs agree a1 skips lost s1 s2 ends
    have alone := passComplete_alone pair head fed turn next past activations weights plain
    have finish (t : State) : ended s q p (Array.ranOn s a p none) pair t = ends t := ended_clean agree
    have arrays : Array.endOn s0 q p (Array.ranOn s a p none) none = s2 := endOn_clean s0 q p (Array.ranOn s a p none) agree
    refine ⟨fun inner => congrArg Host.Outcome.next ?_, fun last => congrArg Host.Outcome.next ?_⟩
    · rw [alone, if_neg (by simp [inner]), finish]
      exact congrArg ends arrays
    · rw [alone, if_pos last, finish]
      have holds : Array.arrayOf s2 q = a1 := (arrayOf_counted (Array.setArray s0 q a1) k q p vs).trans (arrayOf_setArray s0 q a1)
      have written := writePass_alone s2 q p pair rq holds
      exact congrArg ends ((congrArg (fun t => Array.writePass t q p none pair rq) arrays).trans written)
  case right =>
    intro s q p rest pair head fed turn next past activations weights paired
    exact congrArg Host.Outcome.next (passComplete_paired pair head fed turn next past activations weights paired)

end Sys2Proof.Proofs.PassEnd
end

section
/-! PROOFS. The engines: slots of their rings, the start and the finish of Press runs and of update descriptors (R181, R183, R193 to R206, R225
to R235, R499). -/

namespace Sys2Proof.Proofs.Engines

open Sys2Proof.Machine Sys2Proof.Machine.Ops Sys2Proof.Machine.Bits Sys2Proof.Safety Sys2Proof.Laws

/-! ## Slots of the rings (R181, R225) -/

/-- A whole slot whose SEQ names it is stored in a Churn's ring; any other write is refused (R181). -/
theorem churnSlotWrite_eq (s : State) (n o : Nat) (data : Bytes) : ChurnOps.slotWrite s n o data =
    if data.length = 128 ∧ o % 128 = 0 ∧ at' data 0 4 % 64 = o / 128 % 64 then
      (ChurnOps.setChurn s n { ChurnOps.churn s n with
        slots := SMap.ins (ChurnOps.churn s n).slots (64 * (o / 8192) + o / 128 % 64) data }, 0)
    else (s, 3) := by
  simp only [ChurnOps.slotWrite, Bool.and_eq_true, beq_iff_eq, and_assoc]

/-- A whole slot whose SEQ names it is stored in a Press's ring; any other write is refused (R225). -/
theorem pressSlotWrite_eq (s : State) (n o : Nat) (data : Bytes) : PressOps.slotWrite s n o data =
    if data.length = 64 ∧ o % 64 = 0 ∧ at' data 0 4 % 64 = o / 64 % 64 then
      (PressOps.setPress s n { PressOps.press s n with
        slots := SMap.ins (PressOps.press s n).slots (64 * (o / 4096) + o / 64 % 64) data }, 0)
    else (s, 3) := by
  simp only [PressOps.slotWrite, Bool.and_eq_true, beq_iff_eq, and_assoc]

theorem exec_churnSlotWrite {s : State} {n o a : Nat} {data : Bytes} (within : Mem.locate a = .churn n o) :
    exec (.churnSlotWrite a data) s =
      .next (emit (ChurnOps.slotWrite s n o data).1 (.answer (ChurnOps.slotWrite s n o data).2 [])) := by
  show ChurnOps.execChurnSlotWrite a data s = _
  rw [ChurnOps.execChurnSlotWrite, within]

theorem exec_pressSlotWrite {s : State} {n o a : Nat} {data : Bytes} (within : Mem.locate a = .press n o) :
    exec (.pressSlotWrite a data) s =
      .next (emit (PressOps.slotWrite s n o data).1 (.answer (PressOps.slotWrite s n o data).2 [])) := by
  show PressOps.execPressSlotWrite a data s = _
  rw [PressOps.execPressSlotWrite, within]

/-! ## Runs of a Press (R226, R228, R233 to R235) -/

/-- A Press with a run begun appends it, and sends what it can (R226, R235). -/
def pressBegun (n r : Nat) (b : State × PressRun) : State :=
  let y := PressOps.press b.1 n
  RemoteOps.pressPump 64 (PressOps.setPress b.1 n { y with runs := y.runs ++ [b.2], lastRing := r }) n r

/-- A good descriptor of a living context at the head of the ring that the Press starts next begins its operation (R226, R228). -/
theorem press_starts {s : State} {n r op : Nat} (image : Option Bytes) {hits : List CodeHit} (running : fenced s = false)
    (room : (PressOps.press s n).runs.length < 4) (chosen : PressOps.chosen (PressOps.press s n) = some r)
    (named : (PressOps.headDesc (PressOps.press s n) r).op = op)
    (alive : dead (Mem.inject s hits (PressOps.requester n (PressOps.headDesc (PressOps.press s n) r)))
      (PressOps.headDesc (PressOps.press s n) r).ctx = false)
    (good : PressOps.bad (PressOps.headDesc (PressOps.press s n) r) = false) :
    PressOps.start s n r op image hits = pressBegun n r
      (let d := PressOps.headDesc (PressOps.press s n) r
       let s0 := Mem.inject s hits (PressOps.requester n d)
       if op == 1 then PressOps.pack s0 n r d else PressOps.unpack s0 n r d image) := by
  simp [PressOps.start, running, Nat.not_le.mpr room, chosen, named, alive, good, pressBegun]

/-- A run with nothing left to send or to receive finishes in its turn; an image read from a memory peer is decoded first (R52, R233). -/
theorem press_finishes {s : State} {n r : Nat} {ok : Bool} {u : PressRun} (runs : RemoteOps.runOf s n r = some u)
    (quiet : PressOps.quiet u = true) (turn : Order.turn 2 s = true) :
    PressOps.finish s n r ok =
      if u.desc.op = 2 ∧ u.desc.tgt = 2 ∧ u.status = 1 ∧ u.failed = false then
        let len := u.buf.foldl (fun acc p => max acc (p.1 + 1)) 0
        let v := PressOps.unpackBytes s.free u ((List.range len).map (fun i => SMap.val 0#8 u.buf i))
        PressOps.finishRun (drawn s) n v (PressOps.finalStatus s v ok) ok
      else PressOps.finishRun s n u (PressOps.finalStatus s u ok) ok := by
  have fetched_iff : (u.desc.op == 2 && u.desc.tgt == 2 && u.status == 1 && !u.failed) = true ↔
      u.desc.op = 2 ∧ u.desc.tgt = 2 ∧ u.status = 1 ∧ u.failed = false := by
    simp only [Bool.and_eq_true, beq_iff_eq, Bool.not_eq_true', and_assoc]
  simp only [PressOps.finish, runs, quiet, turn, Bool.and_self, if_true, fetched_iff]
  split <;> rfl

/-- Settles O24, by window write, start and finish of a run. -/
theorem engineSlotsAndPressesComplete : Obligations.EngineSlotsAndPressesComplete := by
  unfold Obligations.EngineSlotsAndPressesComplete
  constructor
  · intro s n o a data
    refine ⟨fun within => ⟨fun whole => ?_, fun part => ?_⟩, fun within => ⟨fun whole => ?_, fun part => ?_⟩⟩
    · rw [exec_churnSlotWrite within, churnSlotWrite_eq, if_pos whole]
    · rw [exec_churnSlotWrite within, churnSlotWrite_eq, if_neg part]
    · rw [exec_pressSlotWrite within, pressSlotWrite_eq, if_pos whole]
    · rw [exec_pressSlotWrite within, pressSlotWrite_eq, if_neg part]
  · intro s n r image hits ok u x d s0
    constructor
    · intro running room chosen alive good
      exact ⟨fun named => congrArg Host.Outcome.next (press_starts none running room chosen named alive good),
        fun named => congrArg Host.Outcome.next (press_starts image running room chosen named alive good)⟩
    · intro runs quiet turn
      have finishes := press_finishes (ok := ok) runs quiet turn
      exact ⟨fun kept => congrArg Host.Outcome.next (finishes.trans (if_neg kept)),
        fun fetched => congrArg Host.Outcome.next (finishes.trans (if_pos fetched))⟩

/-! ## Update descriptors (R183, R193 to R202, R206) -/

/-- A Churn with a descriptor begun holds its run. -/
def churnBegun (n : Nat) (b : State × ChurnRun) : State := ChurnOps.setChurn b.1 n { ChurnOps.churn b.1 n with run := some b.2 }

/-- The descriptor at the head of the ring that a free Churn runs next starts in the window of the governor's share (R183, R499). -/
theorem churn_starts {s : State} {n r opt : Nat} {hits : List CodeHit} (running : fenced s = false)
    (idle : (ChurnOps.churn s n).run = none) (chosen : ChurnOps.chosen (ChurnOps.churn s n) = some r)
    (window : Issue.windowOpen s (Issue.vectorShare (Issue.level s)) = true)
    (named : (ChurnOps.headDesc (ChurnOps.churn s n) r).opt = opt) :
    ChurnOps.start s n r opt hits = churnBegun n
      (let d := ChurnOps.headDesc (ChurnOps.churn s n) r
       ChurnOps.begin' (Mem.inject s hits (ChurnOps.requester n d)) n r d) := by
  simp [ChurnOps.start, running, idle, chosen, window, named, churnBegun]

/-- A running descriptor whose time has passed finishes in its turn (R52, R199). -/
theorem churn_finishes {s : State} {n : Nat} {u : ChurnRun} (runs : (ChurnOps.churn s n).run = some u) (turn : Order.turn 1 s = true)
    (past : ChurnOps.timeOver u = true) : ChurnOps.finish s n = ChurnOps.finishRun s n u := by
  simp [ChurnOps.finish, runs, turn, past]

@[simp] theorem churn_setChurn (s : State) (n : Nat) (x : Churn) : ChurnOps.churn (ChurnOps.setChurn s n x) n = x := by
  simp [ChurnOps.churn, ChurnOps.setChurn]

/-- A finished descriptor leaves the Churn, whose last ring is its own (R202). -/
theorem churn_finishRun (s : State) (n : Nat) (u : ChurnRun) :
    (ChurnOps.churn (ChurnOps.finishRun s n u) n).run = none ∧ (ChurnOps.churn (ChurnOps.finishRun s n u) n).lastRing = u.ring := by
  simp only [ChurnOps.finishRun, churn_setChurn, and_self]

/-- Settles O25: one start serves every update operation, and one finish serves all of them. -/
theorem updateDescriptorsRun : Obligations.UpdateDescriptorsRun := by
  unfold Obligations.UpdateDescriptorsRun
  constructor
  · intro s n r hits running idle chosen window d
    have starts {opt : Nat} {hits : List CodeHit} (named : d.opt = opt) : ChurnOps.start s n r opt hits = churnBegun n
        (ChurnOps.begin' (Mem.inject s hits (ChurnOps.requester n d)) n r d) := churn_starts running idle chosen window named
    constructor
    · intro p row named
      simp only [List.mem_cons, List.not_mem_nil, or_false] at row
      obtain rfl | rfl | rfl | rfl | rfl | rfl := row
      all_goals exact congrArg Host.Outcome.next (starts named)
    · exact fun named => congrArg Host.Outcome.next (starts named)
  · intro s n u runs turn past
    exact ⟨_, rfl, churn_finishes runs turn past, by rw [churn_finishes runs turn past]; exact churn_finishRun s n u⟩

end Sys2Proof.Proofs.Engines
end

section
/-! PROOFS. What comes back to the source of a remote operation: answers, time-outs and resends (R267, R270 to R276, R300). -/

namespace Sys2Proof.Proofs.SourceEvents

open Sys2Proof.Machine Sys2Proof.Machine.Ops Sys2Proof.Machine.Bits Sys2Proof.Safety Sys2Proof.Laws

/-! ## Answers -/

/-- A response with a good header, of this generation, outside a reset and not of the link monitor reaches the operation of its tag (R53, R273,
R274, R384). -/
theorem response_reaches {s : State} {p : Pkt} {codes : Bool} {o : RemoteOp} (good : RemoteOps.badFields p = false) (code : codes = true)
    (present : p.echoGen = s.dex.gen) (awake : ∀ q, s.resetSeq = some q → q.stage ≠ 2) (operation : p.unit ≠ 127)
    (flies : SMap.look s.remote.ops p.tag = some o) (f : RemoteOp → State) : RemoteOps.response s p codes f = f o := by
  have notReset : s.resetSeq.any (fun q => q.stage == 2) = false := by
    cases reset : s.resetSeq with
    | none => rfl
    | some q => simpa using awake q reset
  simp [RemoteOps.response, good, code, present, notReset, operation, flies]

theorem pair_unloaded (s : State) (p : Pkt) (k : Nat) : pair (unloaded s p) k = pair s k := by simp [pair]

theorem sentOf_unloaded (s : State) (p q : Pkt) (n : Nat) : RemoteOps.sentOf (unloaded s p) q n = RemoteOps.sentOf s q n := by
  simp [RemoteOps.sentOf, pair_unloaded]

section
variable {s : State} {p : Pkt} {o : RemoteOp} (good : RemoteOps.badFields p = false) (present : p.echoGen = s.dex.gen)
  (awake : ∀ q, s.resetSeq = some q → q.stage ≠ 2) (operation : p.unit ≠ 127) (flies : SMap.look s.remote.ops p.tag = some o)
include good present awake operation flies

/-- The same once the packet has left its receive buffer (R300). -/
theorem response_unloaded {codes : Bool} (code : codes = true) (f : RemoteOp → State) :
    RemoteOps.response (unloaded s p) p codes f = f o :=
  response_reaches good code (by simpa using present) (by simpa using awake) operation (by simpa using flies) f

/-- An ACK answers the RLEN packets that end at its SEQ (R274). -/
theorem ackIn_answers (ok : p.status = 0) : RemoteOps.ackIn (unloaded s p) p =
    RemoteOps.settlePair ((List.range (min p.rlen 64)).foldl
      (fun acc i => RemoteOps.answerSeq acc p p.src (dist32 p.seq (min p.rlen 64 - 1 - i))) (unloaded s p)) o.key :=
  response_unloaded good present awake operation flies (by simp [ok]) _

/-- BUSY marks the packet it answers for a resend (R276). -/
theorem errorIn_busy (busy : p.status = 1) : RemoteOps.errorIn (unloaded s p) p = setPair (unloaded s p) o.key { pair s o.key with
    window := (pair s o.key).window.map (fun w => if RemoteOps.isSent p p.seq w then { w with busyAt := some s.ns } else w) } := by
  rw [RemoteOps.errorIn, response_unloaded good present awake operation flies (by simp [busy])]
  simp [busy, RemoteOps.busyAnswer, pair_unloaded]

/-- Every other error answers its packet with its status, for the leaf it names where it comes of a pruned one (R271, R283). -/
theorem errorIn_answers {w : Sent} (lo : 2 ≤ p.status) (hi : p.status ≤ 8) (sent : RemoteOps.sentOf s p p.seq = some w) :
    RemoteOps.errorIn (unloaded s p) p =
      let m := if p.status = 8 then p.leaf else p.src
      RemoteOps.settlePair (RemoteOps.answerSeq (RemoteOps.noteFenced
        (RemoteOps.noteStatus (unloaded s p) p.tag p.status) p.tag p.status m) p m p.seq) o.key := by
  have notBusy : p.status ≠ 1 := by omega
  rw [RemoteOps.errorIn, response_unloaded good present awake operation flies (by simp [hi]; omega)]
  simp [notBusy, sentOf_unloaded, sent]

/-- The bytes of a READ_RSP that agree with their check value are written, and its request is answered once all of it has come (R267, R270). -/
theorem readRspIn_lands {w : Sent} {a : Nat} (ok : p.status = 0) (sent : RemoteOps.sentOf s p p.seq = some w)
    (placed : RemoteOps.place o p = some a) (sound : crc p.payload = p.pcheck)
    (taken : (RemoteOps.landing (unloaded s p) o a p).2 = 0) : RemoteOps.readRspIn (unloaded s p) p =
      let s1 := (RemoteOps.landing (unloaded s p) o a p).1
      let less := fun (l : List Sent) => l.filterMap (fun (w : Sent) =>
        if RemoteOps.isSent p p.seq w then (if w.left ≤ p.len then none else some { w with left := w.left - p.len }) else some w)
      RemoteOps.settlePair (RemoteOps.pumpAll (setPair s1 o.key { pair s1 o.key with
        window := less (pair s1 o.key).window, past := less (pair s1 o.key).past }) o.key) o.key := by
  rw [RemoteOps.readRspIn, response_unloaded good present awake operation flies (by simp [ok])]
  simp [sentOf_unloaded, sent, placed, sound, taken]

end

/-! ## Deadlines and resends -/

/-- An operation past its deadline is retired in its turn (R52, R272). -/
theorem timeout_retires {s : State} {tag : Nat} {o : RemoteOp} (flies : SMap.look s.remote.ops tag = some o) (past : o.deadline ≤ now s)
    (turn : Order.turn 5 s = true) : RemoteOps.timeout s tag =
      let press := decide (64 ≤ o.core)
      let s1 := Report.raise s
        { cls := 0x23, unit := if press then Report.unitCode 7 (o.core - 64) else Report.unitCode 9 0, ctx := o.ctx,
          stream := if press then 0 else Report.streamByte o.stream,
          op := if press then Report.opField 0 (2 - o.rop % 2) else Report.opField 3 o.rop,
          aux := 3, detail := Report.detail [(40, le 2 tag), (42, le 2 o.rank), (44, le 4 o.pc)] }
        (Report.stepEffect s o.ctx) (s.err.drilled.contains (0, tag))
      let other := fun (w : Sent) => w.pkt.tag != tag
      let x := pair s1 o.key
      RemoteOps.settlePair (RemoteOps.finishOp (RemoteOps.noteStatus (RemoteOps.pumpAll (setPair s1 o.key { x with
        window := x.window.filter other, waiting := x.waiting.filter other, past := x.past.filter other }) o.key) tag 9) tag)
        o.key := by
  simp only [RemoteOps.timeout, flies, Nat.not_lt.mpr past, turn, decide_false, Bool.not_true, Bool.or_self, Bool.false_eq_true, if_false]

/-- LOW of a pair: the oldest packet that is not answered, or the packet itself (R276). -/
def lowOf (x : Pair) (seq : Nat) : Nat := match x.window with | o :: _ => o.pkt.seq | [] => seq

/-- A packet answered BUSY a microsecond ago goes out again with a fresh LOW (R276). -/
theorem resend_sends {s : State} {key seq t : Nat} {w : Sent} (found : (pair s key).window.find? (fun w => w.pkt.seq == seq) = some w)
    (busy : w.busyAt = some t) (waited : t + 1000 ≤ s.ns) : RemoteOps.resend s key seq =
      let p := { w.pkt with low := lowOf (pair s key) seq, start := false }
      sendPkt (setPair s key { pair s key with
        window := (pair s key).window.map (fun y => if y.pkt.seq == seq then { y with pkt := p, busyAt := none } else y) }) p := by
  simp only [RemoteOps.resend, found, busy, Nat.not_lt.mpr waited, if_false]
  rfl

/-- Settles O27, by what each kind of answer does to the operation in flight. -/
theorem sourceEventsComplete : Obligations.SourceEventsComplete := by
  unfold Obligations.SourceEventsComplete
  constructor
  · intro s p o w a good present awake operation flies place u
    refine ⟨fun kind ok => ?ack, fun kind busy => ?busy, fun kind lo hi sent => ?error, fun kind ok sent placed sound taken => ?read⟩
    case ack =>
      show RemoteOps.execAck p s = _
      simp only [RemoteOps.execAck, kind, place, beq_self_eq_true, Bool.and_self, if_true]
      exact congrArg Host.Outcome.next (ackIn_answers good present awake operation flies ok)
    case busy =>
      show RemoteOps.execErrorRsp p s = _
      simp only [RemoteOps.execErrorRsp, kind, place, beq_self_eq_true, Bool.and_self, if_true]
      exact congrArg Host.Outcome.next (errorIn_busy good present awake operation flies busy)
    case error =>
      show RemoteOps.execErrorRsp p s = _
      simp only [RemoteOps.execErrorRsp, kind, place, beq_self_eq_true, Bool.and_self, if_true]
      exact congrArg Host.Outcome.next (errorIn_answers good present awake operation flies lo hi sent)
    case read =>
      show RemoteOps.execReadRsp ⟨p, []⟩ s = _
      simp only [RemoteOps.execReadRsp, kind, place, beq_self_eq_true, Bool.and_self, if_true]
      exact congrArg Host.Outcome.next (readRspIn_lands good present awake operation flies ok sent placed sound taken)
  · intro s tag key seq t o w
    exact ⟨fun flies past turn => congrArg Host.Outcome.next (timeout_retires flies past turn),
      fun found busy waited => congrArg Host.Outcome.next (resend_sends found busy waited)⟩

end Sys2Proof.Proofs.SourceEvents
end

section
/-! PROOFS. Requests at their destination: taken, dropped or refused by the tracker, and held flag actions past their deadline (R271, R277 to
R279, R342, R384, R386). -/

namespace Sys2Proof.Proofs.Requests

open Sys2Proof.Machine Sys2Proof.Machine.Ops Sys2Proof.Machine.Bits Sys2Proof.Safety Sys2Proof.Laws

/-! ## The commands that bring a request -/

section
variable {s : State} {p : Pkt} (hits : List CodeHit) (mine : Tracker.forMe s p = true)
include mine

theorem exec_write (kind : p.kind = 1) : exec (.write ⟨p, hits⟩) s = .next (Tracker.deliver (unloaded s p) p hits) := by
  show Tracker.execWrite ⟨p, hits⟩ s = _
  simp [Tracker.execWrite, Tracker.landed, kind, mine]

theorem exec_writeF (kind : p.kind = 2) : exec (.writeF ⟨p, hits⟩) s = .next (Tracker.deliver (unloaded s p) p hits) := by
  show Tracker.execWriteF ⟨p, hits⟩ s = _
  simp [Tracker.execWriteF, Tracker.landed, kind, mine]

theorem exec_flagPkt (kind : p.kind = 3) : exec (.flagPkt p) s = .next (Tracker.deliver (unloaded s p) p []) := by
  show Tracker.execFlagPkt p s = _
  simp [Tracker.execFlagPkt, Tracker.landed, kind, mine]

/-- A read follows the appends to its queue and, where it reads FLG_TRACE, everything else of its cycle (R251, R262). -/
theorem exec_readReq (kind : p.kind = 4)
    (follows : Order.readable s p.addr = true ∧ (Order.meetsTrace p.addr p.rlen = false ∨ Order.turn 9 s = true)) :
    exec (.readReq p hits) s = .next (Tracker.deliver (unloaded s p) p hits) := by
  show Tracker.execReadReq p hits s = _
  obtain ⟨appended, last⟩ := follows
  have inTurn : (!Order.meetsTrace p.addr p.rlen || Order.turn 9 s) = true := by simpa using last
  simp [Tracker.execReadReq, Tracker.landed, kind, mine, appended, inTurn]

end

/-! ## What the tracker does with a request -/

theorem fenced_unloaded (s : State) (p : Pkt) : fenced (unloaded s p) = fenced s := by simp [fenced]

theorem staleStep_unloaded (s : State) (p q : Pkt) : Tracker.staleStep (unloaded s p) q = Tracker.staleStep s q := by
  rw [unloaded_eq]
  rfl

/-- A request of another generation of its sender is late (R53, R384). -/
theorem deliver_late {s : State} {p : Pkt} {g : Nat} (hits : List CodeHit) (good : RemoteOps.badFields p = false)
    (known : SMap.look s.remote.peerGen p.src = some g) (earlier : g ≠ p.gen) :
    Tracker.deliver (unloaded s p) p hits = Tracker.lateRequest (unloaded s p) p 255 := by
  simp [Tracker.deliver, Tracker.peer, good, known, earlier]

section
variable {s : State} {p : Pkt} (hits : List CodeHit) (good : RemoteOps.badFields p = false)
  (known : SMap.look s.remote.peerGen p.src = some p.gen)
include good known

/-- A request that reaches a fenced module is answered FENCED (R386). -/
theorem deliver_fenced (down : fenced s = true) (single : p.mcast = false) :
    Tracker.deliver (unloaded s p) p hits = answer (unloaded s p) p 6 := by
  simp [Tracker.deliver, Tracker.peer, good, known, fenced_unloaded, down, single]

/-- A request of the present generation whose ordering stream is known reaches its record (R278). -/
theorem deliver_known {t : Track} (running : fenced s = false) (kept : SMap.val false s.remote.reclaimed p.ctx = false)
    (fresh : Tracker.staleStep s p = false) (stream : Tracker.track? s (trackKey p) = some t) :
    Tracker.deliver (unloaded s p) p hits = Tracker.onRequest (unloaded s p) (trackKey p) t p hits := by
  have stream' : Tracker.track? (unloaded s p) (trackKey p) = some t := by simpa [Tracker.track?] using stream
  simp [Tracker.deliver, Tracker.peer, good, known, fenced_unloaded, running, kept, staleStep_unloaded, fresh, stream']

end

/-- The record as a request finds it: NEXT has moved up to the sender's LOW (R278). -/
def reachedBy (s : State) (t : Track) (p : Pkt) : Track :=
  { (if seqLt t.next p.low = true then Tracker.advanceTo t p.low else t) with used := s.ns }

/-- The place of a request is passed or taken (R278, R342). -/
def Passed (t : Track) (p : Pkt) : Prop := seqLt p.seq t.next = true ∨ t.arrived.contains p.seq = true ∨ Tracker.marked t p.seq = true

section
variable {s : State} {k : Nat} {t : Track} {p : Pkt} {hits : List CodeHit}

/-- A request whose place is neither passed nor taken is taken (R278). -/
theorem onRequest_takes (free : ¬ Passed (reachedBy s t p) p) :
    Tracker.onRequest s k t p hits = Tracker.take s k (reachedBy s t p) p hits := by
  have notPassed : (seqLt p.seq (reachedBy s t p).next || (reachedBy s t p).arrived.contains p.seq ||
      Tracker.marked (reachedBy s t p) p.seq) = false := by
    simpa only [Passed, not_or, Bool.not_eq_true, Bool.or_eq_false_iff, and_assoc] using free
  exact if_neg (Bool.eq_false_iff.mp notPassed)

/-- A request whose place is passed or taken is late below the dropped-below mark, and a copy otherwise (R53, R278, R279). -/
theorem onRequest_drops (passed : Passed (reachedBy s t p) p) : Tracker.onRequest s k t p hits =
    if seqLt p.seq (reachedBy s t p).drop = true then
      Tracker.lateOrdered (Tracker.setTrack s k (reachedBy s t p)) k p (reachedBy s t p).next
    else modRemote (Tracker.setTrack s k (reachedBy s t p)) (fun r => { r with dup := min 4294967295 (r.dup + 1) }) := by
  have isPassed : (seqLt p.seq (reachedBy s t p).next || (reachedBy s t p).arrived.contains p.seq ||
      Tracker.marked (reachedBy s t p) p.seq) = true := by
    simpa only [Passed, Bool.or_eq_true, or_assoc] using passed
  exact if_pos isPassed

end

theorem reachedBy_unloaded (s : State) (q : Pkt) (t : Track) (p : Pkt) : reachedBy (unloaded s q) t p = reachedBy s t p := by
  simp [reachedBy]

/-- A held flag action past its deadline is answered ORDERING, and the places below it that have not arrived are dropped (R52, R278, R279). -/
theorem orderingTimeout_drops {s : State} {key seq : Nat} {t : Track} {h : Held} {rest : List Held}
    (stream : Tracker.track? s key = some t) (held : takeFirst (fun (x : Held) => x.seq == seq) t.held = some (h, rest))
    (past : h.deadline ≤ now s) (turn : Order.turn 5 s = true) : Tracker.orderingTimeout s key seq =
      let x := (seq + 1) % 4294967296
      let drill := s.err.drilled.any (fun d => d.1 == 4)
      let s1 := Report.raise (if drill then modErr s (fun e => { e with drilled := (3, key) :: e.drilled }) else s)
        (Tracker.faultRec h.pkt t.next (Tracker.missing t seq)) (Report.stepEffect s h.pkt.ctx) drill
      Tracker.setTrack (answer s1 h.pkt 7) key (Tracker.advanceTo { t with held := rest, drop := x } x) := by
  simp only [Tracker.orderingTimeout, stream, held, Nat.not_lt.mpr past, turn, decide_false, Bool.not_true, Bool.or_self,
    Bool.false_eq_true, if_false]

/-- Settles O28, by where the tracker stands to a request: of an old generation, fenced, passed or taken, or new. -/
theorem requestsReachTheTracker : Obligations.RequestsReachTheTracker := by
  unfold Obligations.RequestsReachTheTracker
  refine ⟨?known, ?refused, ?deadline⟩
  case known =>
    intro s p t0 hits mine good known running kept fresh stream follows u t passed c row kind
    have delivered : exec c.1 s = .next (Tracker.onRequest u (trackKey p) t0 p c.2.2) := by
      rw [← deliver_known c.2.2 good known running kept fresh stream]
      simp only [List.mem_cons, List.not_mem_nil, or_false] at row
      obtain rfl | rfl | rfl | rfl := row
      · exact exec_write hits mine kind
      · exact exec_writeF hits mine kind
      · exact exec_flagPkt mine kind
      · exact exec_readReq hits mine kind (follows kind)
    have record : reachedBy u t0 p = t := reachedBy_unloaded s p t0 p
    refine ⟨fun free => ?_, fun gone below => ?_, fun gone above => ?_⟩
    · rw [delivered, onRequest_takes (by rw [record]; exact free), record]
    · rw [delivered, onRequest_drops (by rw [record]; exact gone), record, if_pos below]
    · rw [delivered, onRequest_drops (by rw [record]; exact gone), record, if_neg (by simp [above])]
  case refused =>
    intro s p g hits mine good known follows c row kind
    have delivered : ∃ hits', exec c.1 s = .next (Tracker.deliver (unloaded s p) p hits') := by
      simp only [List.mem_cons, List.not_mem_nil, or_false] at row
      obtain rfl | rfl | rfl | rfl := row
      · exact ⟨hits, exec_write hits mine kind⟩
      · exact ⟨hits, exec_writeF hits mine kind⟩
      · exact ⟨[], exec_flagPkt mine kind⟩
      · exact ⟨hits, exec_readReq hits mine kind (follows kind)⟩
    obtain ⟨hits', delivered⟩ := delivered
    refine ⟨fun earlier => ?_, fun present down single => ?_⟩
    · rw [delivered, deliver_late hits' good known earlier]
    · subst present
      rw [delivered, deliver_fenced hits' good known down single]
  case deadline =>
    exact fun s key seq t h rest stream held past turn => congrArg Host.Outcome.next (orderingTimeout_drops stream held past turn)

end Sys2Proof.Proofs.Requests
end

section
/-! PROOFS. Ports: discovery, keying and rekeying, frames of a port in use, and how a port goes down (R36, R294 to R300, R310, R315 to R323,
R394, R441). -/

namespace Sys2Proof.Proofs.Links

open Sys2Proof.Machine Sys2Proof.Machine.Ops Sys2Proof.Machine.Bits Sys2Proof.Safety Sys2Proof.Laws

/-- A command of one of the 27 ports takes effect. -/
theorem next_of_port {p : Nat} (valid : p < 27) {s t u : State} (h : t = u) :
    (Host.Outcome.next (if Link.valid p then t else s) : Host.Outcome State Fault Refusal) = .next u := by
  rw [Link.valid, if_pos (decide_eq_true valid), h]

/-! ## Discovery (R315, R316, R320, R441) -/

section
variable {s : State} {p : Nat}

theorem retry_trains (downState : (port s p).state = 1) (plan : (Link.planned s p).isSome = true)
    (waited : (port s p).downAt + 100000000 ≤ s.ns) : Link.retry s p =
      setPort s p { Link.cleared (port s p) 2 (port s p).cause (port s p).downAt with chainOk := false, warned := false } := by
  simp only [Link.retry, downState, plan, waited, beq_self_eq_true, decide_true, Bool.and_self, if_true]
  rfl

/-- The end of training has the effect of its result (R316). -/
theorem trained_eq (training : (port s p).state = 2) (r : Train) : Link.trained s p r =
    match r with
    | .trained asym =>
      let m := Link.ownHello (Link.measured s p asym) p
      Link.handshake (emit (modPort m.2 p (fun y => { y with state := 3, transcript := m.1 })) (.handshake p (Digest.chain s) [])) p m.1 m.1
    | .noSignal => Link.down s p 1
    | .failed => Link.down s p 2 := by
  cases r <;> simp only [Link.trained, training, bne_self_eq_false, Bool.false_eq_true, if_false]

theorem chain_keeps {d : BitVec 512} (trained : (port s p).state = 3) (new : s.fabric.chains.contains d = false) :
    Link.chain s p d true =
      modFabric (setPort s p { port s p with chainOk := true }) (fun f => { f with chains := d :: f.chains }) := by
  have stays : ((port s p).state != 3) = false := by rw [trained]; rfl
  simp only [Link.chain, stays, new, Bool.false_eq_true, Bool.not_false, Bool.and_self, if_false, if_true]
  rfl

theorem chain_refuses (d : BitVec 512) (trained : (port s p).state = 3) :
    Link.chain s p d false = setPort s p { port s p with chainOk := false } := by
  have stays : ((port s p).state != 3) = false := by rw [trained]; rfl
  simp only [Link.chain, stays, Bool.false_eq_true, Bool.false_and, if_false]
  rfl

/-- A port whose peer's HELLO agrees with the plan: keying begins (R316, R320, R384). -/
def agreed (s : State) (p : Nat) (h : HelloMsg) : State :=
  let s1 := modRemote (modPort s p (fun x => { x with peer := h.module, peerPort := h.port }))
    (fun r => { r with peerGen := SMap.ins r.peerGen h.module h.gen })
  modPort s1 p (fun x => { x with state := 4, keyingAt := now s, transcript := Link.hellos s1 p x.transcript h })

/-- The initiator sends a fresh encapsulation key (R320). -/
def offered (s : State) (p : Nat) : State :=
  let k := Config.kemKey s.free
  let s1 := modPort (drawn s) p (fun x => { x with rekeys := [⟨0, 0, k, none, none⟩], transcript := x.transcript ++ k })
  Link.handshake s1 p k (port s1 p).transcript

/-- What the port of an agreed HELLO holds, and what else changes. -/
theorem agreed_eq (s : State) (p : Nat) (h : HelloMsg) :
    (port (agreed s p h) p).state = 4 ∧ (port (agreed s p h) p).peer = h.module ∧ (port (agreed s p h) p).keyingAt = now s ∧
    (agreed s p h).remote = { s.remote with peerGen := SMap.ins s.remote.peerGen h.module h.gen } ∧
    agreed s p h = { s with remote := (agreed s p h).remote, fabric := (agreed s p h).fabric } := by
  refine ⟨?_, ?_, ?_, rfl, rfl⟩
  · simp only [agreed, modPort, port_setPort]
  · simp only [agreed, modPort, port_setPort]
    exact congrArg Port.peer (port_setPort s p _)
  · simp only [agreed, modPort, port_setPort]

/-- The initiator's key draws two free values, and leaves its port in the keying that it was in. -/
theorem offered_eq (s : State) (p : Nat) :
    (port (offered s p) p).state = (port s p).state ∧ (port (offered s p) p).peer = (port s p).peer ∧
    (port (offered s p) p).keyingAt = (port s p).keyingAt ∧ (offered s p).remote = s.remote ∧ (offered s p).free = s.free + 2 ∧
    offered s p = { s with fabric := (offered s p).fabric, free := (offered s p).free, out := (offered s p).out } := by
  have held : port (offered s p) p =
      { port s p with rekeys := [⟨0, 0, Config.kemKey s.free, none, none⟩], transcript := (port s p).transcript ++ Config.kemKey s.free } :=
    port_setPort (drawn s) p _
  rw [held]
  exact ⟨rfl, rfl, rfl, rfl, rfl, rfl⟩

/-- A HELLO of a trained port that agrees with the plan starts the keying (R316, R320). -/
theorem hello_agrees {h : HelloMsg} {n : PlanPort} (trained : (port s p).state = 3) (signed : h.sigOk = true)
    (chained : (port s p).chainOk = true) (revision : h.revision = 1) (plan : Link.planned s p = some n) (peer : n.peer = h.module)
    (peerPort : n.peerPort = h.port) :
    Link.hello s p h = if moduleId s < h.module then offered (agreed s p h) p else agreed s p h := by
  have first : Link.initiator (agreed s p h) (port (agreed s p h) p) = decide (moduleId s < h.module) := by
    rw [Link.initiator, (agreed_eq s p h).2.1]
    rfl
  simp only [Link.hello, trained, signed, chained, revision, plan, peer, peerPort, bne_self_eq_false, Bool.not_true, Bool.or_self,
    Bool.false_eq_true, if_false]
  exact (if_congr (by rw [← decide_eq_true_iff (p := moduleId s < h.module), ← first]; rfl) rfl rfl)

/-! ## Keying (R316, R320) -/

/-- A responder sends its ciphertext back and is keyed; a bad signature takes the port down (R320). -/
theorem encapKey_eq (keying : (port s p).state = 4) (responds : Link.initiator s (port s p) = false) (key : Bytes) (sigOk : Bool) :
    Link.encapKey s p key sigOk = if sigOk = true then
      let ct := Config.kemCipher key s.free
      let h := (port s p).transcript ++ key ++ ct
      Link.enterUp (Link.handshake (drawn s) p ct h) p (Link.linkKeys key ct h 0)
    else Link.down s p 2 := by
  have stays : ((port s p).state != 4) = false := by rw [keying]; rfl
  cases sigOk <;>
    simp only [Link.encapKey, stays, responds, Bool.or_self, Bool.not_true, Bool.not_false, Bool.false_eq_true, if_false, if_true]

/-- The initiator is keyed by the ciphertext; a bad signature takes the port down (R320). -/
theorem ciphertext_eq {r : Rekey} {rs : List Rekey} (keying : (port s p).state = 4) (begins : Link.initiator s (port s p) = true)
    (key : (port s p).rekeys = r :: rs) (ct : Bytes) (sigOk : Bool) :
    Link.ciphertext s p ct sigOk = if sigOk = true then Link.enterUp s p (Link.linkKeys r.pub ct ((port s p).transcript ++ ct) 0)
      else Link.down s p 2 := by
  have stays : ((port s p).state != 4) = false := by rw [keying]; rfl
  cases sigOk <;>
    simp only [Link.ciphertext, stays, begins, key, Bool.or_self, Bool.not_true, Bool.not_false, Bool.false_eq_true, if_false, if_true]

theorem keyingTimeout_downs (keying : (port s p).state = 4) (past : (port s p).keyingAt + 2000000 ≤ now s) (turn : Order.turn 5 s = true) :
    Link.keyingTimeout s p = Link.down s p 2 := by
  simp [Link.keyingTimeout, keying, past, turn]

/-! ## Rekeying of a running link (R322, R323) -/

section
variable (up : isUp s p = true)
include up

/-- A responder with a pending entry answers with its ciphertext and holds the keys, and otherwise answers NOT_SCHEDULED (R322). -/
theorem rekeyMsg_encapKey (responds : Link.initiator s (port s p) = false) (instant epoch : Nat) (key : Bytes) :
    Link.rekeyMsg s p (.encapKey instant epoch key) = if Link.rekeyPending s instant epoch p = true then
      let ct := Config.kemCipher key s.free
      sendControl (setPort (drawn s) p { port s p with rekeys := (port s p).rekeys.filter (fun r => !Link.isRekey instant epoch r) ++
        [⟨instant, epoch, key, some (Link.rekeyKeys instant epoch key ct), none⟩] }) p (Link.rekeyCipher instant epoch ct)
    else sendControl s p (Config.rekeyMessage 2 instant epoch []) := by
  simp only [Link.rekeyMsg, up, responds, Bool.not_true, Bool.false_eq_true, if_false]
  rfl

/-- An initiator holds the keys of the ciphertext that comes (R322). -/
theorem rekeyMsg_cipher (begins : Link.initiator s (port s p) = true) (instant epoch : Nat) (ct : Bytes) :
    Link.rekeyMsg s p (.cipher instant epoch ct) =
      setPort s p { port s p with rekeys := (port s p).rekeys.map (fun r => if Link.isRekey instant epoch r = true
        then { r with keys := some (Link.rekeyKeys instant epoch r.pub ct), retryAt := none } else r) } := by
  simp only [Link.rekeyMsg, up, begins, Bool.not_true, Bool.and_true, Bool.false_eq_true, if_false]
  rfl

/-- After a NOT_SCHEDULED the exchange is tried again 10 µs later (R322). -/
theorem rekeyMsg_notScheduled (instant epoch : Nat) : Link.rekeyMsg s p (.notScheduled instant epoch) =
    setPort s p { port s p with rekeys := (port s p).rekeys.map (fun r => if Link.isRekey instant epoch r = true ∧ r.keys = none
      then { r with retryAt := some (now s + 10000) } else r) } := by
  simp only [Link.rekeyMsg, up, Bool.not_true, Bool.false_eq_true, if_false, Bool.and_eq_true, Option.isNone_iff_eq_none]
  rfl

theorem rekeyRetry_starts {r : Rekey} {t : Nat} (only : (port s p).rekeys = [r]) (retry : r.retryAt = some t) (due : t ≤ now s)
    (early : now s + 20000 ≤ r.instant) : Link.rekeyRetry s p = Link.rekeyStart s r.instant r.epoch p := by
  simp [Link.rekeyRetry, up, only, retry, due, early]

theorem down_up (cause : Nat) : Link.down s p cause = Link.leaveUp s p cause := by
  simp only [Link.down, up, if_true]

theorem keyAge_downs (old : (port s p).epochAt + 172800000000000 ≤ (now s : Int)) : Link.keyAge s p = Link.leaveUp s p 10 := by
  simp [Link.keyAge, up, old, down_up up]

end

theorem graceEnd_drops {g : Grace} (grace : (port s p).grace = some g) (past : g.till ≤ now s) :
    Link.graceEnd s p = setPort s p { port s p with grace := none } := by
  simp only [Link.graceEnd, grace, past, if_true]
  rfl

end

/-- Settles O30, by the message or deadline that moves the port. -/
theorem linkKeyingCompletes : Obligations.LinkKeyingCompletes := by
  unfold Obligations.LinkKeyingCompletes
  constructor
  · intro s p valid x
    refine ⟨⟨?retry, ?trained, ?chain⟩, ?hello, ?encapKey, ?ciphertext, ?timeout⟩
    case retry => exact fun off plan waited => next_of_port valid (retry_trains off plan waited)
    case trained =>
      exact fun training => ⟨fun asym => next_of_port valid (trained_eq training (.trained asym)),
        next_of_port valid (trained_eq training .noSignal), next_of_port valid (trained_eq training .failed)⟩
    case chain =>
      exact fun d trained => ⟨fun new => next_of_port valid (chain_keeps trained new), next_of_port valid (chain_refuses d trained)⟩
    case hello =>
      intro h n trained signed chained revision plan peer peerPort
      have agrees := hello_agrees trained signed chained revision plan peer peerPort
      obtain ⟨state, who, since, remote, rest⟩ := agreed_eq s p h
      refine ⟨_, next_of_port valid agrees, ?_⟩
      by_cases first : moduleId s < h.module
      · rw [if_pos first, if_pos first]
        obtain ⟨state', who', since', remote', free', rest'⟩ := offered_eq (agreed s p h) p
        exact ⟨state'.trans state, who'.trans who, since'.trans since, remote'.trans remote, free', by rw [rest', rest]⟩
      · rw [if_neg first, if_neg first]
        exact ⟨state, who, since, remote, by rw [rest], by rw [rest]⟩
    case encapKey =>
      exact fun key keying responds => ⟨next_of_port valid (encapKey_eq keying responds key true),
        next_of_port valid (encapKey_eq keying responds key false)⟩
    case ciphertext =>
      exact fun ct r rs keying begins key => ⟨next_of_port valid (ciphertext_eq keying begins key ct true),
        next_of_port valid (ciphertext_eq keying begins key ct false)⟩
    case timeout => exact fun keying past turn => next_of_port valid (keyingTimeout_downs keying past turn)
  · intro s p instant epoch valid up x
    refine ⟨?pending, ?absent, ?cipher, ?notScheduled, ?retry, ?grace, ?age⟩
    case pending =>
      exact fun key responds entry => next_of_port valid ((rekeyMsg_encapKey up responds instant epoch key).trans (if_pos entry))
    case absent =>
      exact fun key responds noEntry => next_of_port valid ((rekeyMsg_encapKey up responds instant epoch key).trans (if_neg (by simp [noEntry])))
    case cipher => exact fun ct begins => next_of_port valid (rekeyMsg_cipher up begins instant epoch ct)
    case notScheduled => exact next_of_port valid (rekeyMsg_notScheduled up instant epoch)
    case retry => exact fun r t only retry due early => next_of_port valid (rekeyRetry_starts up only retry due early)
    case grace => exact fun g grace past => next_of_port valid (graceEnd_drops grace past)
    case age => exact fun old => next_of_port valid (keyAge_downs up old)

/-! ## Frames of a port in use (R294 to R298, R300) -/

/-- The acknowledgement that a new frame carries: the resend it asks for, or the last frame taken in order (R295, R298). -/
def ackOf (x : Port) : Nat := match Link.asked x with | some r => r.2 % 4294967296 | none => (x.rxCounter + 4294967295) % 4294967296

/-- The new frame of a port with the flits that leave (R295). -/
def newFrame (s : State) (x : Port) (fl : List QueuedFlit) : Frame :=
  { counter := x.txCounter, epoch := x.epoch, retryReq := (Link.asked x).isSome, ack := ackOf x, credits := (Link.creditEntries x.owed).1,
    flits := fl.map (fun q => { buf := q.buf, data := Link.leaving (now s) q }), tags := fl.filterMap (·.tag) }

section
variable {s : State} {p : Nat} (up : isUp s p = true)
include up

/-- With no resend due and room in the replay buffer a new frame goes out (R294, R298). -/
theorem frameSend_new {y : Port} {fl : List QueuedFlit} (noRetry : (port s p).txRetry = none)
    (room : (port s p).replay.length < Link.replayCap p) (filled : Link.fillSlots (Link.copyReady s p) 16 p (port s p) [] = (y, fl)) :
    Link.frameSend s p =
      let x := port s p
      let f := newFrame s x fl
      Link.sealFrame (freeOrigins (setPort s p { y with
        txCounter := (x.txCounter + 1) % 18446744073709551616, askRetry := false, owed := (Link.creditEntries x.owed).2,
        replay := x.replay ++ [f] }) fl) p (if Link.initiator s x = true then 0 else 1) f := by
  simp only [Link.frameSend, up, noRetry, Nat.not_le.mpr room, filled, Bool.not_true, Bool.false_eq_true, if_false]
  rfl

/-- The port as a frame that arrives finds it: the symbols corrected in it are counted. -/
def counting (s : State) (p : Nat) (f : FrameIn) : Port := { port s p with corrected := (port s p).corrected + Coding.corrected f.errors }

/-- What a frame does on a port in use, by its code words, its key and tag, and its place in the order (R297, R298). -/
theorem frameReceive_eq (f : FrameIn) : Link.frameReceive s p f =
    let s1 := setPort s p (counting s p f)
    if f.errors.all Coding.corrects = false then Link.badFrame s1 p f false
    else if Link.epochHeld (port s p) (now s) f.epoch = false ∨ f.tagOk = false then Link.badFrame s1 p f true
    else if Link.expected (port s p) f = true then setPort s1 p (Link.goodFrame (counting s p f) f)
    else s1 := by
  have reads : port (setPort s p (counting s p f)) p = counting s p f := port_setPort s p _
  simp only [Link.frameReceive, up, Bool.not_true, Bool.false_eq_true, if_false, Bool.or_eq_true, Bool.not_eq_true']
  rw [show modPort s p _ = setPort s p (counting s p f) from rfl, reads]
  rfl

theorem signalLoss_downs (cause : Nat) :
    Link.signalLoss s p cause = Link.leaveUp s p (if cause = 2 ∨ cause = 12 then cause else 1) := by
  simp only [Link.signalLoss, down_up up, Bool.or_eq_true, beq_iff_eq]

/-- A neighbour's announcement takes the port down with cause 11 (R318). -/
theorem announced_downs : Link.announced s p = Link.leaveUp (setPort s p { port s p with warned := true }) p 11 := by
  have stillUp : isUp (setPort s p { port s p with warned := true }) p = true := by
    simpa only [isUp, port_setPort] using up
  simp only [Link.announced, up, if_true]
  exact down_up stillUp 11

end

/-- A fence notice leaves the port in PEER_FENCED (R310). -/
theorem fenceNotice_enters {s : State} {p : Nat} (upState : (port s p).state = 5) :
    Link.fenceNotice s p = setPort s p { port s p with state := 7, warned := true } := by
  simp only [Link.fenceNotice, upState, beq_self_eq_true, if_true]
  rfl

/-- The probe of a module is over: it is forgotten, with what waits on its pair (R394). -/
def probeOver (s : State) (m : Nat) : State :=
  let k := pairKey false m 255 127 0
  let s1 := modRemote s (fun r => { r with probes := r.probes.filter (fun q => q.1 != m) })
  setPair s1 k { pair s1 k with window := [], waiting := [] }

/-- A probe without a good answer in time broadcasts an ABORT for each context that maps the module (R52, R394). -/
theorem probeOutcome_eq {s : State} {m t : Nat} {a : Option Nat} (probe : s.remote.probes.find? (fun q => q.1 == m) = some (m, t, a))
    (past : t ≤ now s) (turn : Order.turn 5 s = true) : Link.probeOutcome s m =
      if a = some 0 then probeOver s m
      else (((probeOver s m).ctxs.map (·.1)).filter (fun c => mapsModule (probeOver s m) c m)).foldl
        (fun acc c => AbortOps.broadcast acc c 2 m (SMap.val 0 acc.remote.peerGen m)) (probeOver s m) := by
  simp only [Link.probeOutcome, probe, Nat.not_lt.mpr past, turn, decide_false, Bool.not_true, Bool.or_self, Bool.false_eq_true, if_false,
    beq_iff_eq]
  rfl

/-- Settles O31, by the frames sent and received and the events that take a port down. -/
theorem linksRunAndFail : Obligations.LinksRunAndFail := by
  unfold Obligations.LinksRunAndFail
  intro s p valid x
  refine ⟨?send, ?receive, ?loss, ?announce, ?fence, ?probe⟩
  case send =>
    intro y fl up noRetry room filled owed f
    exact next_of_port valid (frameSend_new up noRetry room filled)
  case receive =>
    intro f up y s1
    have receives := frameReceive_eq up f
    refine ⟨fun broken => ?_, fun sound stale => ?_, fun sound held tagged => ⟨fun inOrder => ?_, fun outOfOrder => ?_⟩⟩
    · exact next_of_port valid (receives.trans (if_pos broken))
    · exact next_of_port valid ((receives.trans (if_neg (by simp [sound]))).trans (if_pos stale))
    · refine next_of_port valid (((receives.trans (if_neg (by simp [sound]))).trans (if_neg ?_)).trans (if_pos inOrder))
      simp [x, held, tagged]
    · refine next_of_port valid (((receives.trans (if_neg (by simp [sound]))).trans (if_neg ?_)).trans (if_neg (by simp [x, outOfOrder])))
      simp [x, held, tagged]
  case loss => exact fun cause up => next_of_port valid (signalLoss_downs up cause)
  case announce => exact fun up => next_of_port valid (announced_downs up)
  case fence => exact fun upState => next_of_port valid (fenceNotice_enters upState)
  case probe =>
    intro m t a probe past turn k s1 s2
    have outcome := probeOutcome_eq probe past turn
    exact ⟨fun answered => congrArg Host.Outcome.next (outcome.trans (if_pos answered)),
      fun failed => congrArg Host.Outcome.next (outcome.trans (if_neg failed))⟩

end Sys2Proof.Proofs.Links
end

section
/-! PROOFS. Fabric time: fireflies, holdover and the backup root (R35 to R40). -/

namespace Sys2Proof.Proofs.FabricTime

open Sys2Proof.Machine Sys2Proof.Machine.Ops Sys2Proof.Safety Sys2Proof.Laws

/-- A command of one of the 27 ports takes effect. -/
theorem next_of_lt {p : Nat} (valid : p < 27) {s t u : State} (h : t = u) :
    (Host.Outcome.next (if p < 27 then t else s) : Host.Outcome State Fault Refusal) = .next u := by
  rw [if_pos valid, h]

/-! ## Fireflies that leave and come (R35 to R38) -/

theorem send_sends {s : State} {p : Nat} (up : isUp s p = true)
    (due : ∀ a, (SMap.val {} s.ftime.links p : FfLink).sentAt = some a → a + 4000 ≤ s.ns) : Clock.send s p =
      let l : FfLink := SMap.val {} s.ftime.links p
      modTime (sendFirefly s p (Clock.fireflyFlit s.ftime l (now s)))
        (fun t => { t with links := SMap.ins t.links p { l with seqTx := (l.seqTx + 1) % 4294967296, sentAt := some s.ns } }) := by
  have sendDue : Clock.sendDue s (SMap.val {} s.ftime.links p) = true := by
    unfold Clock.sendDue
    cases sent : (SMap.val {} s.ftime.links p : FfLink).sentAt with
    | none => rfl
    | some a => exact decide_eq_true (due a sent)
  simp only [Clock.send, up, sendDue, Bool.and_self, if_true]

/-- A firefly as its port keeps it, before anything follows from it. -/
def kept (s : State) (p : Nat) (f : FireflyMsg) : State :=
  let l : FfLink := SMap.val {} s.ftime.links p
  modTime s (fun t => { t with
    links := SMap.ins t.links p { l with last := some f, heard := s.ns, rxAt := now s, rootedAt := if f.stratum < 15 then some s.ns else l.rootedAt },
    newEpoch := t.newEpoch || (t.state == .holdover && decide (t.rootEpoch < f.rootEpoch)),
    rootHeard := if Clock.fromRoot s p then s.ns else t.rootHeard })

/-- The state, the root and the epoch that a module follows, and whether its count is set. -/
def following (s : State) : TimeState × Nat × Nat × Bool := (s.ftime.state, s.ftime.rootId, s.ftime.rootEpoch, s.ftime.acquired)

/-- A choice of a parent changes none of these (R37). -/
theorem following_choose (s : State) : following (Clock.choose s) = following s := by
  unfold Clock.choose
  dsimp only
  split
  · rfl
  · split
    · split <;> rfl
    · rfl

/-- The first offset in ACQUIRE sets the count, and leaves the state, the root and the epoch (R36, R38). -/
theorem following_measure {s : State} {root epoch : Nat} (acquires : following s = (.acquire, root, epoch, false))
    (f prev : FireflyMsg) (t2 : Nat) (asym : Int) : following (Clock.measure s f prev t2 asym) = (.acquire, root, epoch, true) := by
  simp only [following, Prod.mk.injEq] at acquires
  obtain ⟨state, rootId, rootEpoch, acquired⟩ := acquires
  simp only [Clock.measure, modTime, state, acquired, beq_self_eq_true, Bool.not_false, Bool.and_self, if_true]
  simp only [following, Clock.setCount, modFabric, modTime, rootId, rootEpoch]

/-- A module in FREE takes the root and the epoch of the first usable firefly (R38). -/
theorem firefly_acquires {s : State} {p : Nat} {f : FireflyMsg} (up : isUp s p = true) (free : s.ftime.state = .free) (usable : f.stratum < 14) :
    ∃ acquired, following (Clock.firefly s p f) = (.acquire, f.rootId, f.rootEpoch, acquired) := by
  have follows : following (Clock.choose (Clock.follow (kept s p f) p f)) = (.acquire, f.rootId, f.rootEpoch, false) := by
    rw [following_choose]
    have free' : (kept s p f).ftime.state = .free := free
    simp only [Clock.follow, free', Clock.usableFf, usable, beq_self_eq_true, decide_true, if_true]
    rfl
  simp only [Clock.firefly, up, Bool.not_true, Bool.false_eq_true, if_false]
  rw [← kept]
  generalize Clock.choose (Clock.follow (kept s p f) p f) = u at follows ⊢
  have heard : following (modTime u (fun t => { t with usableAt := s.ns })) = (.acquire, f.rootId, f.rootEpoch, false) := follows
  split
  · split
    · split
      · exact ⟨false, heard⟩
      · exact ⟨true, following_measure heard f _ _ _⟩
    · exact ⟨false, heard⟩
  · exact ⟨false, follows⟩

/-- The root keeps a firefly of no higher epoch that comes on a port which is not its parent's, and follows nobody (R37, R40). -/
theorem firefly_root {s : State} {p : Nat} {f : FireflyMsg} (up : isUp s p = true) (locked : s.ftime.state = .locked)
    (root : s.ftime.stratum = 0) (old : f.rootEpoch ≤ s.ftime.rootEpoch) (other : s.ftime.parentPort ≠ p) :
    Clock.firefly s p f = kept s p f := by
  have locked' : (kept s p f).ftime.state = .locked := locked
  have root' : Clock.isRoot (kept s p f) = true := by
    have stratum' : (kept s p f).ftime.stratum = 0 := root
    simp [Clock.isRoot, locked', stratum']
  have old' : ¬ (kept s p f).ftime.rootEpoch < f.rootEpoch := Nat.not_lt.mpr old
  have other' : ((kept s p f).ftime.parentPort == p) = false := beq_false_of_ne other
  have stays : Clock.choose (Clock.follow (kept s p f) p f) = kept s p f := by
    have follows : Clock.follow (kept s p f) p f = kept s p f := by
      simp only [Clock.follow, locked', old', if_false]
      rfl
    rw [follows]
    simp only [Clock.choose, root', Bool.or_true, if_true]
  simp only [Clock.firefly, up, Bool.not_true, Bool.false_eq_true, if_false]
  rw [← kept, stays]
  simp only [other', Bool.false_and, Bool.false_eq_true, if_false]

/-! ## Holdover and the backup root (R38 to R40) -/

theorem isRoot_of_stratum {s : State} (follower : s.ftime.stratum ≠ 0) : Clock.isRoot s = false := by
  simp [Clock.isRoot, follower]

section
variable {s : State} (turn : Order.turn 5 s = true)
include turn

theorem holdoverEntry_holds (locked : s.ftime.state = .locked) (follower : s.ftime.stratum ≠ 0) (alone : s.ftime.usableAt + 100000 ≤ s.ns) :
    Clock.holdoverEntry s =
      { s with ftime := { s.ftime with state := .holdover, stratum := 14, holdSince := s.ns, newEpoch := false, goodRun := 0 } } := by
  simp only [Clock.holdoverEntry, turn, locked, isRoot_of_stratum follower, alone, beq_self_eq_true, Bool.not_false, decide_true, Bool.and_self,
    if_true]
  rfl

theorem holdoverLimit_loses (holds : s.ftime.state = .holdover) (past : s.ftime.holdSince + 5000000 ≤ s.ns) :
    Clock.holdoverLimit s = Clock.lose s := by
  simp [Clock.holdoverLimit, turn, holds, past]

theorem epochWait_loses (holds : s.ftime.state = .holdover) (past : s.ftime.holdSince + 1000000 ≤ s.ns) (noEpoch : s.ftime.newEpoch = false) :
    Clock.epochWait s = Clock.lose s := by
  simp [Clock.epochWait, turn, holds, past, noEpoch]

/-- From LOCKED the backup root becomes the root of the next epoch (R40). -/
theorem takeover_takes (backup : Clock.isBackup s = true) (locked : s.ftime.state = .locked) (follower : s.ftime.stratum ≠ 0)
    (silent : s.ftime.rootHeard + 50000 ≤ s.ns) : Clock.takeover s =
      { s with ftime := { s.ftime with stratum := 0, rootId := moduleId s, rootEpoch := (s.ftime.rootEpoch + 1) % 256, parentPort := 31 } } := by
  have takes : (Order.turn 5 s && Clock.isBackup s && (s.ftime.state == .locked || s.ftime.state == .holdover) && !Clock.isRoot s &&
      decide (s.ftime.rootHeard + 50000 ≤ s.ns)) = true := by
    simp [turn, backup, locked, isRoot_of_stratum follower, silent]
  rw [Clock.takeover, if_pos takes]
  exact congrArg (fun state => { s with ftime := { s.ftime with
    state := state, stratum := 0, rootId := moduleId s, rootEpoch := (s.ftime.rootEpoch + 1) % 256, parentPort := 31 } }) locked.symm

end

/-- Settles O32, by the state of the fabric-time unit that each firefly or deadline meets. -/
theorem fabricTimeCommandsComplete : Obligations.FabricTimeCommandsComplete := by
  unfold Obligations.FabricTimeCommandsComplete
  intro s p f valid
  refine ⟨?send, ?acquire, ?root, ?deadlines⟩
  case send => exact fun up due => next_of_lt valid (send_sends up due)
  case acquire =>
    intro up free usable
    obtain ⟨acquired, follows⟩ := firefly_acquires up free usable
    simp only [following, Prod.mk.injEq] at follows
    obtain ⟨state, root, epoch, _⟩ := follows
    exact ⟨_, next_of_lt valid rfl, state, root, epoch⟩
  case root =>
    exact fun up locked root old other => ⟨_, next_of_lt valid (firefly_root up locked root old other),
      SMap.look_ins_self s.ftime.links p _, rfl, rfl, rfl⟩
  case deadlines =>
    intro turn
    refine ⟨?entry, ?lost, ?takeover⟩
    case entry => exact fun locked follower alone => congrArg Host.Outcome.next (holdoverEntry_holds turn locked follower alone)
    case lost =>
      exact fun holds => ⟨fun past => congrArg Host.Outcome.next (holdoverLimit_loses turn holds past),
        fun past noEpoch => congrArg Host.Outcome.next (epochWait_loses turn holds past noEpoch)⟩
    case takeover =>
      exact fun backup locked follower silent => congrArg Host.Outcome.next (takeover_takes turn backup locked follower silent)

end Sys2Proof.Proofs.FabricTime
end

section
/-! PROOFS. Scheduled actions that fire, report and expire (R42 to R50, R312, R322, R370, R371, R537). -/

namespace Sys2Proof.Proofs.ScheduledActions

open Sys2Proof.Machine Sys2Proof.Machine.Ops Sys2Proof.Machine.Bits Sys2Proof.Safety Sys2Proof.Laws

/-! ## Firing (R48 to R50) -/

/-- A due entry of the kind asked for leaves the table, has its effect and is reported with the time. -/
theorem fireId_fires {s : State} {id : Nat} {q : Nat × SchedSlot} (found : Sched.find s id = some q) (due : Sched.due s q = true)
    {kind : SchedEntry → Bool} (named : kind q.2.entry = true) {effect : SchedEntry → State → State × Nat} {t : State} {status : Nat}
    (effects : effect q.2.entry { s with sched := SMap.del s.sched q.1 } = (t, status)) :
    Sched.fireId s id kind effect = Sched.report t q.2 status (now s) := by
  simp only [Sched.fireId, found, due, named, Bool.and_self, if_true, Sched.fire, effects]

/-- The same for an entry of an ACTION. -/
theorem fireId_action {s : State} {id action : Nat} {q : Nat × SchedSlot} (found : Sched.find s id = some q) (due : Sched.due s q = true)
    (named : q.2.entry.action = action) {effect : SchedEntry → State → State × Nat} {t : State} {status : Nat}
    (effects : effect q.2.entry { s with sched := SMap.del s.sched q.1 } = (t, status)) :
    Sched.fireId s id (fun e => e.action == action) effect = Sched.report t q.2 status (now s) :=
  fireId_fires (kind := fun e => e.action == action) found due (beq_iff_eq.mpr named) effects

/-- An entry with ALIGN 1 is reported as expired 60 s past its INSTANT (R49). -/
theorem expire_reports {s : State} {id : Nat} {q : Nat × SchedSlot} (found : Sched.find s id = some q) (fires : Sched.fires s = true)
    (turn : Order.turn 5 s = true) (bound : q.2.entry.align = 1) (past : q.2.entry.instant + 60000000000 ≤ now s) :
    Sched.expire s id = Sched.report { s with sched := SMap.del s.sched q.1 } q.2 Status.expired (now s) := by
  simp only [Sched.expire, found, fires, turn, bound, past, beq_self_eq_true, decide_true, Bool.and_self, if_true]
  rfl

/-! ## The effects (R370, R537) -/

/-- START opens the first step of a context whose set-up is complete (R537). -/
theorem start_opens {s : State} {e : SchedEntry} {x : Ctx} (params : field e.param.toNat 127 64 = 0) (defined : ctx? s e.ctx = some x)
    (steps : stepped x = true) (setup : x.step.setup.isSome = true) (first : x.step.everOpened = false) (restored : x.unrestored = false)
    (linked : (requiredPorts s e.ctx).all (fun p => (port s p).state == 5) = true) : Sched.start e s =
      (StepOps.opened (modStep s e.ctx (fun t =>
        { t with step := field e.param.toNat 63 0, first := true, failures := 0, fail := 0, failNext := 0 })) e.ctx, 0) := by
  have complete : x.step.setup.isNone = false := by simpa [← Option.not_isSome] using setup
  simp only [Sched.start, params, defined, steps, complete, first, restored, linked, bne_self_eq_false, Bool.not_true, Bool.or_self,
    Bool.false_eq_true, if_false]
  rfl

/-- What an enabled drill of a kind does at its target (R370). -/
def drillEffect (kind target : Nat) (s : State) : State :=
  match kind with
  | 1 => Sched.flipChecksum target s
  | 2 => Sched.flipBlock target s
  | 3 => Sched.loseLink target s
  | 4 => Sched.resetModule s
  | 5 => Sched.dropPacket target s
  | _ => Sched.correctRead target s

/-- An enabled drill whose kind and target are in range has its effect (R370). -/
theorem drill_effect {s : State} {e : SchedEntry} {kind : Nat} (enabled : s.err.drillEnable = true) (named : Sched.drillKind e = kind)
    (inRange : Sched.drillOk e = true) : Sched.drill e s = (drillEffect kind (Sched.drillTarget e) s, 0) := by
  simp only [Sched.drill, enabled, inRange, Bool.not_true, Bool.false_eq_true, if_false, named]
  rfl

/-- A drill that is not enabled has no effect (R370). -/
theorem drill_disabled {s : State} (e : SchedEntry) (off : s.err.drillEnable = false) : Sched.drill e s = (s, Status.disabled) := by
  simp only [Sched.drill, off, Bool.not_false, if_true]

theorem isDrill_of {e : SchedEntry} {kind : Nat} (drills : e.action = 8) (named : Sched.drillKind e = kind) : Sched.isDrill kind e = true := by
  simp [Sched.isDrill, drills, named]

/-- A due drill of a kind and a target in range has its effect and is reported as fired (R49, R370). -/
theorem fireId_drill {s : State} {id kind : Nat} {q : Nat × SchedSlot} (found : Sched.find s id = some q) (due : Sched.due s q = true)
    (drills : q.2.entry.action = 8) (enabled : s.err.drillEnable = true) (named : Sched.drillKind q.2.entry = kind)
    (inRange : Sched.drillOk q.2.entry = true) : Sched.fireId s id (Sched.isDrill kind) Sched.drill =
      Sched.report (drillEffect kind (Sched.drillTarget q.2.entry) { s with sched := SMap.del s.sched q.1 }) q.2 0 (now s) :=
  fireId_fires found due (isDrill_of drills named) (drill_effect enabled named inRange)

/-- Settles O33: a due entry leaves the table and reports, whatever its ACTION, so each clause needs only the effect. -/
theorem scheduledActionsFire : Obligations.ScheduledActionsFire := by
  unfold Obligations.ScheduledActionsFire
  intro s id q found e s1
  refine ⟨fun due => ⟨?start, ?swap, ?rekey, ?drill, ?disabled⟩, ?expired⟩
  case start =>
    exact fun x action params defined steps setup first restored linked => congrArg Host.Outcome.next
      (fireId_action found due action (start_opens params defined steps setup first restored linked))
  case swap => exact fun action => congrArg Host.Outcome.next (fireId_action found due action rfl)
  case rekey => exact fun action => congrArg Host.Outcome.next (fireId_action found due action rfl)
  case drill =>
    intro drills enabled k
    have fires {kind : Nat} (named : Sched.drillKind e = kind) (inRange : Sched.drillOk e = true) :
        Sched.fireId s id (Sched.isDrill kind) Sched.drill = Sched.report (drillEffect kind k s1) q.2 0 (now s) :=
      fireId_drill found due drills enabled named inRange
    exact ⟨fun named target => congrArg Host.Outcome.next (fires named (by simpa [Sched.drillOk, named] using target)),
      fun named target => congrArg Host.Outcome.next (fires named (by simpa [Sched.drillOk, named] using target)),
      fun named target => congrArg Host.Outcome.next (fires named (by simpa [Sched.drillOk, named] using target)),
      fun named => congrArg Host.Outcome.next (fires named (by simp [Sched.drillOk, named])),
      fun named target => congrArg Host.Outcome.next (fires named (by simpa [Sched.drillOk, named] using target)),
      fun named target => congrArg Host.Outcome.next (fires named (by simpa [Sched.drillOk, named] using target))⟩
  case disabled =>
    exact fun drills off named => congrArg Host.Outcome.next (fireId_fires found due (isDrill_of drills named) (drill_disabled e off))
  case expired => exact fun fires turn bound past => congrArg Host.Outcome.next (expire_reports found fires turn bound past)

end Sys2Proof.Proofs.ScheduledActions
end

section
/-! PROOFS. The step vote: the root's decision and the commands of the vote (R331, R335, R336, R338, R342, R348, R451, R538). -/

namespace Sys2Proof.Proofs.StepVote

open Sys2Proof.Machine Sys2Proof.Machine.Ops Sys2Proof.Machine.Bits Sys2Proof.Safety Sys2Proof.Laws

/-! ## The root's decision (R335) -/

/-- The table of R335 in the order of its rows. -/
theorem decide'_eq (u : StepSetupBody) (n : Nat) (v : VoteUpMsg) : Vote.decide' u n v =
    if v.fail.getLsbD 16 = true then (3, n)
    else if v.stepMin ≠ v.stepMax ∨ v.count ≠ u.modules then (3, n)
    else if v.fail.extractLsb' 0 11 ≠ 0 ∨ v.digMin ≠ v.digMax then (if u.replayLimit < n + 1 then 3 else 2, n + 1)
    else if u.censusStop = true ∧ v.nonfinite ≠ 0 then (3, n)
    else (1, n) := by
  simp only [Vote.decide', Vote.mismatch, Bool.or_eq_true, Bool.and_eq_true, bne_iff_ne]

/-! ## The commands of the vote -/

section
variable {s : State} {c : Nat} {x : Ctx} {u : StepSetupBody} (defined : ctx? s c = some x)
include defined

/-- At its boundary a context takes its loss, its census sums and its digest (R331, R451). -/
theorem boundary_takes (setup : x.step.setup = some u) (running : fenced s = false) (reached : Vote.reached s c x = true) :
    Vote.boundary s c =
      let r := Mem.load s u.lossAddr 8 false { unit := Report.unitCode 13 0, ctx := c }
      let sums := Operand.censusSum r.1 c
      modStep r.1 c (fun t => { t with
        boundary := some (now s), loss := BitVec.ofNat 64 (ofLe r.2.data), nonfinite := sums.1, saturated := sums.2,
        digest := Digest.truncated s c x, confirmDone := x.step.first || u.buddy == 65535 }) := by
  have noWait : (!(!x.step.first && u.buddy != 65535)) = (x.step.first || u.buddy == 65535) := by
    rw [Bool.not_and, Bool.not_not, bne, Bool.not_not]
  simp only [Vote.boundary, defined, setup, running, reached, Bool.not_true, Bool.or_self, Bool.false_eq_true, if_false, noWait]

/-- The digest's return lets the verdict go on (R451). -/
theorem digestReturn_proceeds {b : Nat} (boundary : x.step.boundary = some b) (waits : x.step.digestDone = false)
    (alive : x.step.aborted = false) (intime : now s ≤ b + 50000) :
    Vote.digestReturn s c = Vote.progress (modStep s c (fun t => { t with digestDone := true })) c := by
  simp only [Vote.digestReturn, defined, boundary, waits, alive, Nat.ble_eq_true_of_le intime, Bool.not_false, Bool.and_self, if_true]

/-- Without the digest the verdict goes on after 50 µs (R451). -/
theorem digestTimeout_proceeds {b : Nat} (boundary : x.step.boundary = some b) (waits : x.step.digestDone = false)
    (alive : x.step.aborted = false) (past : b + 50000 ≤ now s) (turn : Order.turn 5 s = true) :
    Vote.digestTimeout s c = Vote.progress (Report.setFail (modStep (drawn s) c (fun t =>
      { t with digestDone := true, digest := Config.lateDigest s.free })) c 8) c := by
  simp only [Vote.digestTimeout, defined, boundary, waits, alive, past, turn, Bool.not_false, decide_true, Bool.and_self, if_true]

/-- A VOTE_DOWN of the parent is forwarded and then applied (R336, R538). -/
theorem voteDown_applies {p : Nat} {v : VoteDownMsg} (named : v.ctx = c) (setup : x.step.setup = some u) (up : isUp s p = true)
    (running : fenced s = false) (parent : p = u.parent) (inner : u.root = false) (steps : stepped x = true) (alive : x.step.aborted = false)
    (contributed : x.step.contributed = true) (result : v.result = 1 ∨ v.result = 2 ∨ v.result = 3) (present : v.step = x.step.step) :
    Vote.voteDown s p v = Vote.apply (Vote.sendTree s (Vote.children u) (Vote.downFlit v)) v := by
  have decides : (v.result == 1 || v.result == 2 || v.result == 3) = true := by simpa [or_assoc] using result
  simp only [Vote.voteDown, named, defined, setup, up, running, parent.symm, inner, steps, alive, contributed, decides, present,
    beq_self_eq_true, Bool.not_false, Bool.and_self, if_true]

/-- A replay opens when its hold ends (R342). -/
theorem holdEnd_opens {t : Nat} (hold : x.step.holdUntil = some t) (past : t ≤ now s) (goesOn : StepOps.stepsOver x = false)
    (alive : x.step.aborted = false) : Vote.holdEnd s c = StepOps.opened s c := by
  simp only [Vote.holdEnd, defined, hold, past, StepOps.openAttempt, goesOn, alive, Bool.or_self, Bool.false_eq_true, if_true, if_false]

/-- A step past its deadline is aborted (R338). -/
theorem deadline_aborts (setup : x.step.setup = some u) (limit : u.stepDeadline ≠ 0) (runs : x.step.isOpen = true)
    (alive : x.step.aborted = false) (past : x.step.openedAt + 1000000 * u.stepDeadline ≤ now s) (turn : Order.turn 5 s = true) :
    Vote.deadline s c = AbortOps.broadcastOwn
      (Report.raise s { cls := 0x23, unit := Report.unitCode 13 0, ctx := c, aux := 4 } 7 (Report.drilledNow s)) c 4 := by
  simp only [Vote.deadline, defined, setup, bne_iff_ne.mpr limit, runs, alive, Nat.ble_eq_true_of_le past, turn, Bool.not_false, Bool.and_self,
    if_true]

end

/-- The end of the wait for the confirmation record lets the verdict go on (R348). -/
theorem confirmExpiry_proceeds {s : State} {c f : Nat} {y : Ctx} {v : StepSetupBody} (defined : ctx? (Vote.progress s c) c = some y)
    (setup : y.step.setup = some v) (since : y.step.confirmFrom = some f) (waits : y.step.confirmDone = false) (alive : y.step.aborted = false)
    (past : f + 1000 * v.confirmWait ≤ now (Vote.progress s c)) (turn : Order.turn 5 (Vote.progress s c) = true) :
    Vote.confirmExpiry s c =
      Vote.progress (Report.setFail (modStep (Vote.progress s c) c (fun t => { t with confirmDone := true })) c 24) c := by
  simp only [Vote.confirmExpiry, defined, setup, since, waits, alive, past, turn, Bool.not_false, decide_true, Bool.and_self, if_true]

/-- Settles O35, by the rows of the decision and the stage of the vote that each command finds. -/
theorem voteCommandsComplete : Obligations.VoteCommandsComplete := by
  unfold Obligations.VoteCommandsComplete
  constructor
  case left =>
    intro u n v failed differs
    rw [decide'_eq]
    refine ⟨fun stop => if_pos stop, fun go differ => ?_, fun go same fail => ?_, fun go same pass census bad => ?_,
      fun go same pass clean => ?_⟩
    · rw [if_neg (Bool.eq_false_iff.mp go), if_pos differ]
    · rw [if_neg (Bool.eq_false_iff.mp go), if_neg same, if_pos fail]
    · rw [if_neg (Bool.eq_false_iff.mp go), if_neg same, if_neg pass, if_pos ⟨census, bad⟩]
    · rw [if_neg (Bool.eq_false_iff.mp go), if_neg same, if_neg pass, if_neg]
      rintro ⟨census, bad⟩
      obtain off | none_bad := clean
      · simp [off] at census
      · exact bad none_bad
  case right =>
    intro s c x u defined setup
    refine ⟨?boundary, ?digest, ?confirm, ?down, ?hold, ?deadline⟩
    case boundary => exact fun running reached => congrArg Host.Outcome.next (boundary_takes defined setup running reached)
    case digest =>
      exact fun b boundary waits alive =>
        ⟨fun intime => congrArg Host.Outcome.next (digestReturn_proceeds defined boundary waits alive intime),
         fun past turn => congrArg Host.Outcome.next (digestTimeout_proceeds defined boundary waits alive past turn)⟩
    case confirm =>
      exact fun y v f defined' setup' since waits alive past turn =>
        congrArg Host.Outcome.next (confirmExpiry_proceeds defined' setup' since waits alive past turn)
    case down =>
      exact fun p v named up running parent inner steps alive contributed result present => congrArg Host.Outcome.next
        (voteDown_applies defined named setup up running parent inner steps alive contributed result present)
    case hold => exact fun t hold past goesOn alive => congrArg Host.Outcome.next (holdEnd_opens defined hold past goesOn alive)
    case deadline =>
      exact fun limit runs alive past turn => congrArg Host.Outcome.next (deadline_aborts defined setup limit runs alive past turn)

end Sys2Proof.Proofs.StepVote
end

section
/-! PROOFS. Management commands, with and without a session (R34, R376, R382, R397, R437, R484, R488, R490 to R499). -/

namespace Sys2Proof.Proofs.Management

open Sys2Proof.Machine Sys2Proof.Machine.Ops Sys2Proof.Machine.Bits Sys2Proof.Safety Sys2Proof.Laws

/-! ## The frame of a command (R491, R492) -/

section
variable {s : State} {m : MgmtHead} (served : Spdm.served s m.i3c = true)
include served

/-- A command that comes while the controller carries an earlier one out is answered BUSY (R492). -/
theorem run_busy (busy : Mgmt.busy s = true) (command : Nat) (f : State → State × Nat × Bytes) :
    Mgmt.run s m command f = Mgmt.respond s m (Mgmt.session s m) command 3 [] := by
  simp only [Mgmt.run, served, busy, Bool.not_true, Bool.false_eq_true, if_false, if_true]
  rfl

/-- So is a secured one, in a session or outside. -/
theorem runS_busy (busy : Mgmt.busy s = true) (command : Nat) (f : State → State × Nat × Bytes) :
    Mgmt.runS s m command f = Mgmt.respond s m (Mgmt.session s m) command 3 [] := by
  rw [Mgmt.runS, busy, Bool.not_true, Bool.and_false, Bool.false_and, if_neg Bool.false_ne_true, run_busy served busy]

variable (idle : Mgmt.busy s = false)
include idle

/-- A secured command outside a session is answered NOT_SECURED and changes nothing (R491). -/
theorem runS_notSecured (clear : Mgmt.secured s m = false) (command : Nat) (f : State → State × Nat × Bytes) :
    Mgmt.runS s m command f = emit s (.mgmt command m.seq 2 []) := by
  simp only [Mgmt.runS, served, idle, clear, Bool.not_false, Bool.and_self, if_true]
  rfl

variable (legal : m.operandOk = true)
include legal

/-- A command with a legal operand answers what its effect answers on the state that has taken it. -/
theorem run_answers (command : Nat) {f : State → State × Nat × Bytes} {t : State} {code : Nat} {b : Bytes}
    (effect : f (Mgmt.take s) = (t, code, b)) : Mgmt.run s m command f = Mgmt.respond t m (Mgmt.session s m) command code b := by
  rw [mgmt_run served idle legal, effect]

/-- So does a secured command inside a session. -/
theorem runS_answers (secured : Mgmt.secured s m = true) (command : Nat) {f : State → State × Nat × Bytes} {t : State} {code : Nat} {b : Bytes}
    (effect : f (Mgmt.take s) = (t, code, b)) : Mgmt.runS s m command f = Mgmt.respond t m (Mgmt.session s m) command code b := by
  rw [mgmt_runS secured, run_answers served idle legal command effect]

end

/-! ## Status and records (R494, R495) -/

theorem records_eq {s : State} {i : Nat} (low : i < 256) :
    Mgmt.records s i = (s, 0, match s.dex.records[i]? with | some r => Report.recBytes r | none => []) :=
  if_neg (Nat.not_le.mpr low)

/-! ## Power and reset (R382, R397, R484) -/

section
variable {s : State}

theorem powerOn_enables (off : s.dex.state = .standby ∨ s.dex.state = .safe) (present : s.power.present = true) :
    Mgmt.powerOn s = (Powering.enableRails s, 0, []) :=
  if_pos (by simpa [present] using off)

theorem powerOn_refuses (notStandby : s.dex.state ≠ .standby) (notSafe : s.dex.state ≠ .safe) : Mgmt.powerOn s = (s, 4, []) :=
  if_neg (by simp [notStandby, notSafe])

/-- A trigger at a READY package fences it and starts the reset sequence (R382, R385). -/
theorem trigger_fences (ready : s.dex.state = .ready) (noReset : s.resetSeq = none) (abort cause cls : Nat) (failed : Bool) :
    Report.trigger s abort cause cls failed =
      Report.fence (modDex s (fun d => { d with lastCause := cause, lastClass := cls }))
        { td := now s, stage := 1, cause := abort, failed := failed, ta := 0 } := by
  simp only [Report.trigger, ready, noReset]

/-- A trigger in BRINGUP that does not fail the module resets the package at once (R407). -/
theorem trigger_restarts (bringup : s.dex.state = .bringup) (abort cause cls : Nat) :
    Report.trigger s abort cause cls false = Report.packageReset s cause cls := by
  simp only [Report.trigger, bringup, Bool.false_eq_true, if_false]

theorem resettable_of (there : s.dex.state = .ready ∨ s.dex.state = .bringup) : Mgmt.resettable s = true := by
  simpa [Mgmt.resettable] using there

/-- Outside READY and BRINGUP there is nothing to reset. -/
theorem not_resettable (notReady : s.dex.state ≠ .ready) (notBringup : s.dex.state ≠ .bringup) : ¬ Mgmt.resettable s = true := by
  simp [Mgmt.resettable, notReady, notBringup]

theorem reset_fences (ready : s.dex.state = .ready) (noReset : s.resetSeq = none) : Mgmt.reset s =
    (Report.fence { s with dex := { s.dex with lastCause := 3, lastClass := 0 } }
      { td := now s, stage := 1, cause := 8, failed := false, ta := 0 }, 0, []) := by
  rw [Mgmt.reset, if_pos (resettable_of (.inl ready)), trigger_fences ready noReset]
  rfl

theorem reset_restarts (bringup : s.dex.state = .bringup) : Mgmt.reset s = (Report.packageReset s 3 0, 0, []) := by
  rw [Mgmt.reset, if_pos (resettable_of (.inr bringup)), trigger_restarts bringup]
  rfl

theorem coldCycle_begins (there : s.dex.state = .ready ∨ s.dex.state = .bringup) :
    Mgmt.coldCycle s = (ResetOps.coldCycle s 3 0, 0, []) :=
  if_pos (resettable_of there)

theorem autostart_sets {v : Nat} (legal : v < 2) :
    Mgmt.autostart s v = ({ s with dex := { s.dex with autostart := v == 1 } }, 0, []) :=
  if_neg (Nat.not_le.mpr legal)

/-! ## The plan (R316, R494, R502) -/

/-- A part of a plan is held (R494). -/
theorem loadPlan_part (none_defined : s.ctxs = []) (b : Bytes) (good : Bool) :
    Mgmt.loadPlan s ⟨b, none⟩ good = ({ s with dex := { s.dex with planParts := s.dex.planParts ++ b } }, 0, []) := by
  rw [Mgmt.loadPlan, if_neg (by simp [none_defined])]
  rfl

/-- The last part installs the plan, or is refused where the whole fails its check (R494). -/
theorem loadPlan_last (none_defined : s.ctxs = []) (b : Bytes) (p : Plan) (good : Bool) :
    Mgmt.loadPlan s ⟨b, some p⟩ good =
      let u := { s with dex := { s.dex with planParts := [] } }
      if good = true then (Mgmt.install u { p with text := s.dex.planParts ++ b }, 0, []) else (u, 1, []) := by
  rw [Mgmt.loadPlan, if_neg (by simp [none_defined])]
  rfl

theorem loadPlan_refuses (defined : s.ctxs ≠ []) (x : PlanPart) (good : Bool) : Mgmt.loadPlan s x good = (s, 4, []) :=
  if_pos (by simpa using defined)

/-- In STANDBY a plan is only written to the record. -/
theorem install_standby (standby : s.dex.state = .standby) (p : Plan) :
    Mgmt.install s p = { s with dex := { s.dex with plan := some p } } := by
  have untrained : Mgmt.trainedOnce s = false := by simp [Mgmt.trainedOnce, standby]
  simp only [Mgmt.install, untrained, Bool.false_eq_true, if_false]
  rfl

/-- Once the ports have been trained, every port goes down and retrains against the plan (R316, R502). -/
theorem install_retrains (trained : s.dex.state = .ready ∨ s.dex.state = .removing) (p : Plan) :
    Mgmt.install s p =
      let s1 := (List.range 27).foldl Mgmt.portDown s
      (List.range 27).foldl Link.train { s1 with dex := { s1.dex with plan := some p } } := by
  have trainedOnce : Mgmt.trainedOnce s = true := by obtain h | h := trained <;> simp [Mgmt.trainedOnce, h]
  simp only [Mgmt.install, trainedOnce, if_true]
  rfl

/-! ## Time, settings and firmware (R34, R376, R436, R437, R499) -/

theorem setTime_sets (root : Mgmt.planRoot s = true) (power : Sensors.powered s = true) (free : s.ftime.state = .free) (v : Nat) :
    Mgmt.setTime s v = (modTime (Clock.setCount s (v % 18446744073709551616))
      (fun t => { t with state := .locked, stratum := 0, rootId := moduleId s, parentPort := 31 }), 0, []) :=
  if_pos (by simp [root, power, free])

theorem steerTime_sets {ppm : Int} (root : Mgmt.planRoot s = true) (lo : -10 ≤ ppm) (hi : ppm ≤ 10) :
    Mgmt.steerTime s ppm = ({ s with ftime := { s.ftime with steerPpm := ppm, steerAcc := 0 } }, 0, []) := by
  have inRange : ¬ (10 < ppm ∨ ppm < -10) := by omega
  simp only [Mgmt.steerTime, root, inRange, decide_false, Bool.not_true, Bool.false_eq_true, if_false]
  rfl

theorem probation_sets {v : Nat} (legal : v < 2) (power : Sensors.powered s = true) :
    Mgmt.probation s v = ({ s with health := { s.health with probation := v == 1 } }, 0, []) := by
  simp only [Mgmt.probation, Nat.not_le.mpr legal, power, Bool.not_true, Bool.false_eq_true, if_false]
  rfl

theorem powerLimit_sets {w : Nat} (lo : 300 ≤ w) (hi : w ≤ 700) (power : Sensors.powered s = true) :
    Mgmt.powerLimit s w = ({ s with gov := { s.gov with newLimit := some w } }, 0, []) := by
  have inRange : ¬ (w < 300 ∨ 700 < w) := by omega
  simp only [Mgmt.powerLimit, inRange, power, Bool.not_true, Bool.false_eq_true, if_false]
  rfl

theorem powerLimit_refuses {w : Nat} (out : w < 300 ∨ 700 < w) : Mgmt.powerLimit s w = (s, 1, []) := if_pos out

/-- The last part of an image stages it when the whole meets R436, and is refused otherwise (R437). -/
theorem stage_last (b : Bytes) (c : ImageCheck) : Mgmt.stage s ⟨b, some c⟩ =
    let image := s.sec.imageParts ++ b
    if Mgmt.imageOk s image c = true then
      let y : StagedImage := ⟨Mgmt.imageSvn image, Mgmt.imageBody image⟩
      ({ s with sec := { s.sec with imageParts := [], staged := SMap.ins s.sec.staged (Mgmt.imageType image) y } }, 0, [])
    else ({ s with sec := { s.sec with imageParts := [] } }, 1, []) := rfl

theorem raiseMin_raises {type svn : Nat} (lo : 1 ≤ type) (hi : type ≤ 3) (runs : Digest.svn s type = svn) : Mgmt.raiseMin s type svn =
    ({ s with sec := { s.sec with minSvn := SMap.ins s.sec.minSvn type (max svn (SMap.val 0 s.sec.minSvn type)) } }, 0, []) :=
  if_pos (by simp [lo, hi, runs])

end

/-- Settles O57: an idle controller answers what the effect of a command gives, so each clause needs only the effect. -/
theorem managementCommandsComplete : Obligations.ManagementCommandsComplete := by
  unfold Obligations.ManagementCommandsComplete
  constructor
  case left =>
    intro s m served x
    refine ⟨fun c busy => ?busy, fun idle legal => ?unbusy, fun b => ?control, fun t => rfl⟩
    case busy =>
      exact ⟨congrArg Host.Outcome.next (run_busy served busy c _), congrArg Host.Outcome.next (run_busy served busy 1 _),
        congrArg Host.Outcome.next (runS_busy served busy 0x10 _)⟩
    case unbusy =>
      have answers (command : Nat) {f : State → State × Nat × Bytes} {t : State} {code : Nat} {b : Bytes}
          (effect : f (Mgmt.take s) = (t, code, b)) :
          (Host.Outcome.next (Mgmt.run s m command f) : Host.Outcome State Fault Refusal) = .next (Mgmt.respond t m x command code b) :=
        congrArg Host.Outcome.next (run_answers served idle legal command effect)
      refine ⟨answers 1 rfl, answers 2 rfl, fun i low => ⟨fun r found => answers 3 ?_, fun missing => answers 3 ?_⟩, fun c => answers c rfl⟩
      · rw [records_eq low, take_records, found]
      · rw [records_eq low, take_records, missing]
    case control =>
      show Mgmt.execMctpControlMessage m.i3c b s = _
      rw [Mgmt.execMctpControlMessage, if_pos served]
  case right =>
    intro s m wait type svn v ppm e x b p c served legal idle u ans ok
    constructor
    case left =>
      intro clear d row
      have refuses (command : Nat) (f : State → State × Nat × Bytes) :
          (Host.Outcome.next (Mgmt.runS s m command f) : Host.Outcome State Fault Refusal) = .next (emit s (.mgmt command m.seq 2 [])) :=
        congrArg Host.Outcome.next (runS_notSecured served idle clear command f)
      simp only [List.mem_cons, List.not_mem_nil, or_false] at row
      obtain rfl | rfl | rfl | rfl | rfl | rfl | rfl | rfl | rfl | rfl | rfl | rfl | rfl | rfl | rfl | rfl := row
      all_goals exact refuses _ _
    case right =>
      intro secured
      have answers (command : Nat) {f : State → State × Nat × Bytes} {t : State} {code : Nat} (effect : f u = (t, code, [])) :
          (Host.Outcome.next (Mgmt.runS s m command f) : Host.Outcome State Fault Refusal) = ans t command code :=
        congrArg Host.Outcome.next (runS_answers served idle legal secured command effect)
      refine ⟨answers 0x04 rfl, fun off present => answers 0x10 (powerOn_enables (s := u) off present),
        fun notStandby notSafe => answers 0x10 (powerOn_refuses (s := u) notStandby notSafe), answers 0x11 rfl, answers 0x11 rfl,
        fun ready noReset => answers 0x12 (reset_fences (s := u) ready noReset),
        fun bringup => answers 0x12 (reset_restarts (s := u) bringup), fun there => answers 0x12 (coldCycle_begins (s := u) there),
        fun notReady notBringup => ?nothing, fun flag => answers 0x13 (autostart_sets (s := u) flag), ?plan,
        fun out => answers 0x33 (powerLimit_refuses (s := u) out), fun power => ?powered, ?image,
        fun lo hi runs => answers 0x31 (raiseMin_raises (s := u) lo hi runs)⟩
      case nothing =>
        have none_there := not_resettable (s := u) notReady notBringup
        exact ⟨answers 0x12 (if_neg none_there), answers 0x12 (if_neg none_there)⟩
      case plan =>
        intro text u0
        have last (undefined : s.ctxs = []) (good : Bool) := loadPlan_last (s := u) undefined b p good
        refine ⟨fun undefined good => answers 0x20 (loadPlan_part (s := u) undefined b good), fun undefined standby => answers 0x20 ?_,
          fun undefined trained => answers 0x20 ?_, fun undefined => answers 0x20 (last undefined false),
          fun defined => answers 0x20 (loadPlan_refuses (s := u) defined _ true)⟩
        · exact (last undefined true).trans (congrArg (·, 0, []) (install_standby (s := u0) standby { p with text := text }))
        · exact (last undefined true).trans (congrArg (·, 0, []) (install_retrains (s := u0) trained { p with text := text }))
      case powered =>
        exact ⟨fun root free => answers 0x21 (setTime_sets (s := u) root power free v),
          fun root lo hi => answers 0x22 (steerTime_sets (s := u) root lo hi),
          fun flag => answers 0x32 (probation_sets (s := u) flag power),
          fun lo hi => answers 0x33 (powerLimit_sets (s := u) lo hi power)⟩
      case image =>
        intro image
        exact ⟨answers 0x30 rfl, fun good => answers 0x30 ((stage_last (s := u) b c).trans (if_pos good)),
          fun bad => answers 0x30 ((stage_last (s := u) b c).trans (if_neg (Bool.eq_false_iff.mp bad)))⟩

end Sys2Proof.Proofs.Management
end

section
/-! PROOFS. Writing and cancelling scheduled actions, on a ring and over MCTP (R44 to R46, R469). -/

namespace Sys2Proof.Proofs.ScheduleChanges

open Sys2Proof.Machine Sys2Proof.Machine.Ops Sys2Proof.Machine.Bits Sys2Proof.Safety Sys2Proof.Laws Sys2Proof.Proofs.Management

/-! ## The table (R43 to R46) -/

section
variable {s : State} (locked : s.ftime.state = .locked)
include locked

/-- A permitted entry with a new ENTRY_ID, far enough ahead, takes the lowest free slot (R44, R46). -/
theorem write_accepts {e : SchedEntry} (legal : e.bad = false) (permitted : Sched.permitted e = true) (new : Sched.find s e.id = none)
    (ahead : now s + 100000 ≤ e.instant) (room : s.sched.length < 256) (noRekey : e.action ≠ 7) (ring : Option Nat) :
    Sched.write s e ring = ({ s with sched := SMap.ins s.sched (Sched.freeSlot s) { entry := e, ring := ring } }, Status.ok) := by
  have isLocked : (s.ftime.state != .locked) = false := by rw [locked]; rfl
  simp only [Sched.write, isLocked, legal, permitted, new, Nat.not_lt.mpr ahead, Nat.not_le.mpr room, beq_false_of_ne noRekey,
    Option.isSome_none, Bool.not_true, Bool.or_self, Bool.false_eq_true, if_false]

/-- A write less than 100 µs ahead is LATE (R46). -/
theorem write_late {e : SchedEntry} (legal : e.bad = false) (permitted : Sched.permitted e = true) (new : Sched.find s e.id = none)
    (late : e.instant < now s + 100000) (ring : Option Nat) : Sched.write s e ring = (s, Status.late) := by
  have isLocked : (s.ftime.state != .locked) = false := by rw [locked]; rfl
  simp only [Sched.write, isLocked, legal, permitted, new, late, Option.isSome_none, Bool.not_true, Bool.or_self, Bool.false_eq_true,
    if_false, if_true]

/-- A cancellation in LOCKED goes by what the table holds (R46). -/
theorem cancel_eq (id : Nat) : Sched.cancel s id =
    match Sched.find s id with
    | none => (s, Status.noEntry)
    | some p =>
      if now s + 50000 < p.2.entry.instant then ({ s with sched := SMap.del s.sched p.1 }, Status.cancelled) else (s, Status.tooLate) := by
  have clocked : (s.ftime.state == .free || s.ftime.state == .acquire) = false := by rw [locked]; rfl
  rw [Sched.cancel, clocked]
  rfl

/-- A pending entry more than 50 µs ahead is cancelled (R46). -/
theorem cancel_cancels {id : Nat} {q : Nat × SchedSlot} (found : Sched.find s id = some q) (ahead : now s + 50000 < q.2.entry.instant) :
    Sched.cancel s id = ({ s with sched := SMap.del s.sched q.1 }, Status.cancelled) := by
  rw [cancel_eq locked, found]
  exact if_pos ahead

theorem cancel_noEntry {id : Nat} (missing : Sched.find s id = none) : Sched.cancel s id = (s, Status.noEntry) := by
  rw [cancel_eq locked, missing]

end

/-! ## On a ring (R468, R469) -/

/-- A descriptor that starts on a module that is not fenced has its effect and ends at once with its status. -/
theorem atOnce_ends {s : State} {d : DescHead} {data : Bool} (starts : Desc.starts s d data = true) (running : fenced s = false) (op : Nat)
    {f : State → State × Nat × List (Nat × Bytes)} {t : State} {status : Nat} {body : List (Nat × Bytes)}
    (effect : f (Desc.register s d (Desc.entry d op data)) = (t, status, body)) :
    Desc.atOnce s d op data f = endDesc t d.ring d.t status body := by
  simp only [Desc.atOnce, starts, running, Bool.false_eq_true, if_true, if_false, effect]

/-- Settles O58: the effect on the table is proved once and carried to the ring and to MCTP. -/
theorem scheduleChangesComplete : Obligations.ScheduleChangesComplete := by
  unfold Obligations.ScheduleChangesComplete
  intro s d m e ring id q
  refine ⟨?write, ?cancel, ?refused⟩
  case write =>
    intro locked legal permitted new ahead room noRekey
    constructor
    · intro starts running good known noCtx low s1
      refine congrArg Host.Outcome.next (atOnce_ends starts running 5 ?_)
      have accepts := write_accepts (s := s1) locked legal permitted new ahead room noRekey (some ring)
      rw [if_neg (by simp [Desc.badCode, good, known, noCtx, legal, low])]
      exact congrArg (fun r : State × Nat => (r.1, r.2, ([] : List (Nat × Bytes)))) accepts
    · intro served operand idle secured
      refine congrArg Host.Outcome.next (runS_answers served idle operand secured 0x23 ?_)
      exact congrArg (fun r : State × Nat => (r.1, Mgmt.ok, le 1 r.2))
        (write_accepts (s := Mgmt.take s) locked legal permitted new ahead room noRekey none)
  case cancel =>
    intro locked found ahead
    constructor
    · intro starts running good known noCtx s1
      refine congrArg Host.Outcome.next (atOnce_ends starts running 6 ?_)
      rw [if_neg (by simp [Desc.badCode, good, known, noCtx])]
      exact congrArg (fun r : State × Nat => (r.1, r.2, ([] : List (Nat × Bytes)))) (cancel_cancels (s := s1) locked found ahead)
    · intro served operand idle secured
      refine congrArg Host.Outcome.next (runS_answers served idle operand secured 0x24 ?_)
      exact congrArg (fun r : State × Nat => (r.1, Mgmt.ok, le 1 r.2)) (cancel_cancels (s := Mgmt.take s) locked found ahead)
  case refused =>
    intro locked served operand idle secured
    constructor
    · rintro n missing rfl
      refine congrArg Host.Outcome.next (runS_answers served idle operand secured 0x24 ?_)
      exact congrArg (fun r : State × Nat => (r.1, Mgmt.ok, le 1 r.2)) (cancel_noEntry (s := Mgmt.take s) locked missing)
    · intro permitted legal new late
      refine congrArg Host.Outcome.next (runS_answers served idle operand secured 0x23 ?_)
      exact congrArg (fun r : State × Nat => (r.1, Mgmt.ok, le 1 r.2))
        (write_late (s := Mgmt.take s) locked legal permitted new late none)

end Sys2Proof.Proofs.ScheduleChanges
end

section
/-! PROOFS. Passes issue and enter the array, and the levels of its Cicada move (R56, R61 to R63, R73, R161, R165, R176, R505). -/

namespace Sys2Proof.Proofs.PassStart

open Sys2Proof.Machine Sys2Proof.Machine.Ops Sys2Proof.Safety Sys2Proof.Laws

/-! ## The issue of a pass (R63, R161, R165) -/

/-- An entry of the descriptor table is found by where it lies, whatever the state holds there (R127). -/
theorem descAt_isSome_iff (s : State) (x : Ctx) (q d : Nat) :
    (Operand.descAt s x q d).isSome = true ↔ x.fields.descBase + 32 * d + 32 ≤ 0x600000 := by
  simp [Operand.descAt]

/-- The descriptors that a legal pass names lie in its context's table (R165). -/
theorem legalPass_named {s : State} {r : Issue.Runner} {q : Nat} {w : PassWord} {ds : StreamDesc × StreamDesc × StreamDesc}
    (legal : Array.legalPass s r q w = some ds) : ∀ d ∈ Array.passDescs w, (Operand.descAt s r.x q d).isSome = true := by
  unfold Array.legalPass at legal
  split at legal
  case h_2 => simp at legal
  case h_1 tile activations output =>
    cases fresh : w.neww
    case false => simp [Array.passDescs, fresh, activations, output]
    case true =>
      rw [Array.tileDesc, if_pos fresh] at tile
      simp [Array.passDescs, fresh, tile, activations, output]

/-- A legal pass in its stream's turn, whose descriptors are clean, is held by the array, and its stream moves on (R63, R161, R165). -/
theorem pass_launches {s : State} {i : Issuer} {w : PassWord} {r : Issue.Runner} {d x o : StreamDesc} (can : CanIssue s i r (.pass w))
    (legal : Array.legalPass s r i.core w = some (d, x, o)) (core : i.core < 64)
    (clean : Operand.descBad (Issue.noted s i) r.x i.core (Array.passDescs w) = false) :
    Array.pass s i w [] =
      let lt := Array.tileFor (Issue.noted s i) r.c i.core i.stream w d
      let s1 := Array.hold lt.1 i.core
        { ctx := r.c, slot := i.slot, stream := i.stream, serial := r.t.serial, pc := r.t.pc, word := w, tile := lt.2,
          x := x, o := o, m := x.rows, half := Array.four d.format && w.read, fed := none }
      Issue.launched
        (if w.neww then modCore s1 r.c i.core (fun k => { k with tile := some d, tileIndex := w.tile }) else s1) r.c i := by
  have named (e : Nat) (mem : e ∈ Array.passDescs w) : (Operand.descAt (Issue.noted s i) r.x i.core e).isSome = true :=
    (descAt_isSome_iff _ _ _ _).mpr ((descAt_isSome_iff _ _ _ _).mp (legalPass_named legal e mem))
  simp only [Array.pass, issue_eq can (fun _ _ => nofun), legal, Mem.inject, List.foldl_nil, descRead_clean core _ named clean]

/-! ## The first vector of a pass enters (R56, R61, R62, R73, R176) -/

/-- The next pass to be fed enters once nothing holds it back, and its tile becomes the active one. -/
theorem feedStart_enters {s : State} {q : Nat} {p : PassOp} (next : Array.nextFeed (Array.arrayOf s q).passes = some p)
    (full : Array.fullLevel s q p.ctx = true) (ready : Array.weightsReady (Array.arrayOf s q) p = true)
    (apart : Array.earliest (Array.arrayOf s q) p ≤ cycle s) (still : Cicada.switching s q = false)
    (noSwitch : Slots.switchReady s q = false) :
    Array.feedStart s q =
      let a := Array.arrayOf s q
      let iv := Array.interval p.tile.desc.format
      Array.setArray s q { a with
        passes := Bits.updFirst (fun (x : PassOp) => x.fed.isNone) (fun x => { x with fed := some (cycle s) }) a.passes,
        active := p.tile, lastEnter := some (cycle s + iv * (Array.vectors p - 1), p.word.read, iv) } := by
  simp [Array.feedStart, next, full, ready, apart, still, noSwitch]

/-- Settles O16: a legal pass reads clean descriptors and is held; the next one enters once nothing holds it back. -/
theorem passesIssueAndFeed : Obligations.PassesIssueAndFeed := by
  unfold Obligations.PassesIssueAndFeed
  constructor
  · intro s i w r d x o can legal n core clean
    exact congrArg Host.Outcome.next (pass_launches can legal core clean)
  · intro s q p a iv next full ready apart still noSwitch
    exact congrArg Host.Outcome.next (feedStart_enters next full ready apart still noSwitch)

/-! ## The Cicada (R73, R505) -/

section
variable {s : State} {k : Nat}

/-- After 2,048 gap cycles in a row a level above 0 starts to fall. -/
theorem rampDownStart_falls (gap : Cicada.inGap s k = true) (still : (Cicada.physAt s k).ramp = 0) (above : 0 < (Cicada.physAt s k).level)
    (run : 2048 ≤ (Cicada.physAt s k).gapRun) :
    Array.rampDownStart s k = Cicada.setPhys s k { Cicada.physAt s k with ramp := 2, rampAt := cycle s } := by
  simp [Array.rampDownStart, gap, still, above, run]

/-- 40 cycles after the last step a falling level goes down by one, to 0 at last. -/
theorem levelStep_falls (past : (Cicada.physAt s k).rampAt + 40 ≤ cycle s) (falling : (Cicada.physAt s k).ramp = 2)
    (above : 0 < (Cicada.physAt s k).level) :
    Array.levelStep s k = let a := Cicada.physAt s k
      Cicada.setPhys s k { a with level := a.level - 1, rampAt := a.rampAt + 40, ramp := if a.level = 1 then 0 else 2 } := by
  simp [Array.levelStep, past, falling, above]

/-- 40 cycles after the last step a rising level goes up by one, to 64 at last. -/
theorem levelStep_rises (past : (Cicada.physAt s k).rampAt + 40 ≤ cycle s) (rising : (Cicada.physAt s k).ramp = 1)
    (below : (Cicada.physAt s k).level < 64) :
    Array.levelStep s k = let a := Cicada.physAt s k
      Cicada.setPhys s k { a with level := a.level + 1, rampAt := a.rampAt + 40, ramp := if a.level + 1 = 64 then 0 else 1 } := by
  simp [Array.levelStep, past, rising, below]

end

/-- A counter of a core that is raised grows up to its 48 bits (R505). -/
theorem raised_counter_same (a : ArrayPhys) (j n : Nat) :
    SMap.val 0 (Cicada.raised a j n).counters j = min (2 ^ 48 - 1) (SMap.val 0 a.counters j + n) := SMap.val_ins_self ..

/-- The other counters of the core stay. -/
theorem raised_counter_other (a : ArrayPhys) {i j : Nat} (n : Nat) (other : i ≠ j) :
    SMap.val 0 (Cicada.raised a j n).counters i = SMap.val 0 a.counters i := SMap.val_ins_ne _ _ _ other

/-- Settles O18: each command takes the branch of its ramp, and cycles that pass raise the dummy counter alone. -/
theorem cicadaLevelsMove : Obligations.CicadaLevelsMove := by
  unfold Obligations.CicadaLevelsMove
  intro s k a
  refine ⟨?starts, ?falls, ?rises, ?passes⟩
  case starts => exact fun gap still above run => congrArg Host.Outcome.next (rampDownStart_falls gap still above run)
  case falls => exact fun past falling above => congrArg Host.Outcome.next (levelStep_falls past falling above)
  case rises => exact fun past rising below => congrArg Host.Outcome.next (levelStep_rises past rising below)
  case passes => exact fun n => ⟨rfl, raised_counter_same _ 5 _, fun j other => raised_counter_other _ _ other, rfl, rfl⟩

end Sys2Proof.Proofs.PassStart
end

section
/-! PROOFS. Quanta that expire, context switches and spare-core swaps that complete (R73, R82, R86, R88, R173, R174, R176, R178, R514, R527). -/

namespace Sys2Proof.Proofs.SlotsAndSwaps

open Sys2Proof.Machine Sys2Proof.Machine.Ops Sys2Proof.Laws

/-! ## The state of a context on a core -/

/-- The state of a context on a core, when the context is defined. -/
def coreAt (s : State) (c q : Nat) : Option CoreCtx := (ctx? s c).map (onCore · q)

/-- A context is defined, and its state on a core has a property. -/
def HoldsAt (P : CoreCtx → Prop) (c q : Nat) (s : State) : Prop := ∃ k, coreAt s c q = some k ∧ P k

/-- A change of a context on a core reaches that context alone. -/
theorem coreAt_modCore (s : State) (c d q : Nat) (f : CoreCtx → CoreCtx) :
    coreAt (modCore s d q f) c q = if c = d then (coreAt s c q).map f else coreAt s c q := by
  cases defined : ctx? s d with
  | none =>
    have same : modCore s d q f = s := by simp [modCore, modCtx, defined]
    rw [same]
    split
    · next named => simp [coreAt, named, defined]
    · rfl
  | some x =>
    have at_d : SMap.look s.ctxs d = some x := defined
    rw [modCore, modCtx_eq defined]
    split
    · next named => simp [coreAt, ctx?, onCore, named, at_d]
    · next other => simp only [coreAt, ctx?, SMap.look_ins_ne _ _ other]

/-- A change of a context there keeps a property that it keeps of each state. -/
theorem HoldsAt.after_modCore {P : CoreCtx → Prop} {c q : Nat} {s : State} (holds : HoldsAt P c q s) (d : Nat) {f : CoreCtx → CoreCtx}
    (keeps : ∀ k, P k → P (f k)) : HoldsAt P c q (modCore s d q f) := by
  obtain ⟨k, at_k, pk⟩ := holds
  by_cases named : c = d
  · exact ⟨f k, by rw [coreAt_modCore, if_pos named, at_k]; rfl, keeps k pk⟩
  · exact ⟨k, by rw [coreAt_modCore, if_neg named, at_k], pk⟩

/-! ## Quanta that expire (R173, R174, R514) -/

/-- The quantum of a context on a core has expired, and the next one begins now, with the length of SEQ_QUANTUM. -/
def Renewed (s : State) (k : CoreCtx) : Prop := k.expired = true ∧ k.quantumAt = now s ∧ k.quantum = s.quantum

/-- The end of one quantum and the beginning of the next. -/
def renew (s : State) (k : CoreCtx) : CoreCtx := { k with expired := true, quantumAt := now s, quantum := s.quantum }

theorem renewed_renew (s : State) (k : CoreCtx) : Renewed s (renew s k) := ⟨rfl, rfl, rfl⟩

/-- A candidate of a core is a defined context. -/
theorem candidate_defined {s : State} {q : Nat} {p : Nat × CoreCtx} (mem : p ∈ Contexts.candidates s q) :
    HoldsAt (fun _ => True) p.1 q s := by
  obtain ⟨slot, -, found⟩ := List.mem_filterMap.mp mem
  obtain ⟨c, -, found⟩ := Option.bind_eq_some_iff.mp found
  obtain ⟨x, defined, found⟩ := Option.bind_eq_some_iff.mp found
  obtain ⟨-, named⟩ := Option.ite_none_right_eq_some.mp found
  cases named
  exact ⟨onCore x q, by rw [coreAt, defined]; rfl, trivial⟩

/-- Renewing the quanta of some contexts in turn renews each of them. -/
theorem renewAll_renews {s t : State} {q : Nat} {l : List (Nat × CoreCtx)} {p : Nat × CoreCtx} (mem : p ∈ l)
    (defined : HoldsAt (fun _ => True) p.1 q t) :
    HoldsAt (Renewed s) p.1 q (l.foldl (fun acc e => modCore acc e.1 q (renew s)) t) := by
  obtain ⟨before, after, rfl⟩ := List.append_of_mem mem
  rw [List.foldl_append, List.foldl_cons]
  obtain ⟨k, at_k, -⟩ := List.foldlRecOn before _ defined (fun _ kept e _ => kept.after_modCore e.1 (f := renew s) (fun _ _ => trivial))
  exact List.foldlRecOn after _ ⟨renew s k, by rw [coreAt_modCore, if_pos rfl, at_k]; rfl, renewed_renew s k⟩
    (fun _ kept e _ => kept.after_modCore e.1 (fun k _ => renewed_renew s k))

/-- Counting the contexts that a quantum passes over leaves the quanta as they are. -/
theorem passOver_keeps_renewed {s t : State} {q c : Nat} (out : Nat) (holds : HoldsAt (Renewed s) c q t) :
    HoldsAt (Renewed s) c q (Contexts.passOver t q out) := by
  refine List.foldlRecOn _ _ holds (fun u kept w _ => ?_)
  split
  · exact kept
  · exact kept.after_modCore w.1 (fun _ renewed => renewed)

/-- Every quantum whose time is up expires, and the next one begins. -/
theorem endQuanta_renews {s : State} {q : Nat} {p : Nat × CoreCtx} (mem : p ∈ Contexts.candidates s q)
    (up : Contexts.timeUp s p.2 = true) : HoldsAt (Renewed s) p.1 q (Contexts.endQuanta s q) := by
  have renewed := renewAll_renews (s := s) (l := (Contexts.candidates s q).filter (fun p => Contexts.timeUp s p.2))
    (List.mem_filter.mpr ⟨mem, up⟩) (candidate_defined mem)
  unfold Contexts.endQuanta
  dsimp only
  split
  · split
    · exact passOver_keeps_renewed _ renewed
    · exact renewed
  · exact renewed

section
variable {s : State} {q : Nat} (running : FlagOps.paused s q = false) (noYield : Contexts.yielding s q = false)
  (turn : Order.turn 8 s = true)
include running noYield turn

/-- For an expired quantum the context with the longest residency becomes due, where a waiting context may take its slot. -/
theorem quantumExpiry_makesDue {c e : Nat} {k : CoreCtx} (none_starved : Slots.starved s q = none)
    (longest : Contexts.longest (Contexts.endQuanta s q) q = some (c, k)) (expired : Contexts.consumed (Contexts.endQuanta s q) q c = some e)
    (may : Slots.mayLeave (Contexts.endQuanta s q) c q = true) :
    Contexts.quantumExpiry s q =
      Slots.makeDue (modCore (Contexts.endQuanta s q) e q (fun k => { k with expired := false })) c q := by
  simp [Contexts.quantumExpiry, running, noYield, turn, none_starved, longest, expired, may]

/-- At an expiry the slots that hold back a starved context are cleared. -/
theorem quantumExpiry_evicts {w : Nat × Ctx} (up : (Contexts.candidates s q).any (fun p => Contexts.timeUp s p.2) = true)
    (none_clearing : Slots.clearing s q = none) (starved : Slots.starved s q = some w) :
    Contexts.quantumExpiry s q = Contexts.evict (Contexts.endQuanta s q) q w := by
  simp only [Contexts.quantumExpiry, running, noYield, turn, up, none_clearing, starved, Bool.not_true, Bool.or_self, Bool.false_eq_true,
    Option.isNone_none, Bool.and_self, if_true, if_false]

end

/-! ## The switch and its completion (R173, R176, R178) -/

/-- A due context that is idle is saved and leaves its slot to the one that enters. -/
theorem contextSwitch_switches {s : State} {q slot c d : Nat} {x : Ctx} (pair : Option PairFault) (holder : ctxInSlot s q slot = some c)
    (defined : ctx? s c = some x) (resident : (onCore x q).state = .resident) (due : (onCore x q).due = true)
    (idle : Issue.idle (onCore x q) = true) (running : FlagOps.paused s q = false) (noPass : Contexts.feeding s q = false)
    (kept : x.deleting = none) (next : Slots.incoming s q (some c) = some d) :
    Contexts.contextSwitch s q ⟨slot, [], pair⟩ =
      modCore (modCore (Slots.save s c q pair) c q (fun k =>
        { Contexts.chargeWaits s k with state := .leaving, slot := none, due := false, yielded := none, waitingSince := now s,
                                        passedOver := 0 })) d q (fun k => { k with state := .entering, slot := some slot }) := by
  simp [Contexts.contextSwitch, Mem.inject, holder, defined, resident, due, idle, running, noPass, kept, next]

/-- The context that enters is resident when its switch completes, unless its job was aborted meanwhile. -/
theorem switchComplete_enters {s : State} {q slot c : Nat} {x y : Ctx} (pair : Option PairFault) (holder : ctxInSlot s q slot = some c)
    (defined : ctx? s c = some x) (entering : (onCore x q).state = .entering) (left : ctx? (Contexts.leave s q) c = some y)
    (goesOn : y.step.aborted = false) :
    Contexts.switchComplete s q ⟨slot, [], pair⟩ =
      Swaps.atSwitchEnd (Slots.fill (Slots.becomeResident (Array.reload (Contexts.leave s q) c q) c q slot) q) q := by
  simp [Contexts.switchComplete, Mem.inject, holder, defined, entering, left, goesOn]

/-! ## The end of a swap (R73, R86) -/

/-- Nothing holds a swap back once the array of the moving core is drained and the spare stands at level 64. -/
theorem swap_not_held {s : State} {n : Nat} {w : Swap} (drained : Swaps.drained s (8 * n + w.logical) = true)
    (full : (Cicada.physAt s (9 * n + w.spare)).level = 64) :
    ¬ (!Swaps.drained s (8 * n + w.logical) || (Cicada.physAt s (9 * n + w.spare)).level != 64) = true := by
  simp [drained, full]

/-- Settles O21, by the branch of each command that its hypotheses leave. -/
theorem slotsAndSwapsComplete : Obligations.SlotsAndSwapsComplete := by
  unfold Obligations.SlotsAndSwapsComplete
  refine ⟨?quanta, ?switches, ?swaps⟩
  case quanta =>
    intro s q running noYield turn s1
    refine ⟨fun c e k none_starved longest expired may => ?_, fun w up none_clearing starved => ?_, fun p mem up => ?_⟩
    · exact congrArg Host.Outcome.next (quantumExpiry_makesDue running noYield turn none_starved longest expired may)
    · exact congrArg Host.Outcome.next (quantumExpiry_evicts running noYield turn up none_clearing starved)
    · obtain ⟨k, at_k, renewed⟩ := endQuanta_renews mem up
      obtain ⟨x, defined, rfl⟩ := Option.map_eq_some_iff.mp at_k
      exact ⟨x, defined, renewed⟩
  case switches =>
    intro s q slot c d x y pair
    constructor
    · intro holder defined resident due idle running noPass kept next
      exact congrArg Host.Outcome.next (contextSwitch_switches pair holder defined resident due idle running noPass kept next)
    · intro s1 holder defined entering left goesOn
      exact congrArg Host.Outcome.next (switchComplete_enters pair holder defined entering left goesOn)
  case swaps =>
    intro s n w load q old k swap drained full s1 s2 s3 span late held s4 s5 s6
    have completes : Swaps.complete s n load = Swaps.copyCheck s6 q load := by
      simp only [Swaps.complete, swap, if_neg (swap_not_held drained full)]
      rfl
    exact congrArg Host.Outcome.next completes

end Sys2Proof.Proofs.SlotsAndSwaps
end

section
/-! PROOFS. The Weevil's known-answer tests: when a core is due, and how a test ends (R73, R365 to R368). -/

namespace Sys2Proof.Proofs.KnownAnswerTests

open Sys2Proof.Machine Sys2Proof.Machine.Ops Sys2Proof.Machine.Bits

section
variable {s : State} {k : Nat}

/-! ## A core is due (R366) -/

section
variable (valid : k < 72) (ready : s.dex.state = .ready) (old : 4 * Swaps.hour ≤ Swaps.age s k) (works : Weevils.isFailed s k = false)
include valid ready old works

/-- An active core whose age reaches four hours is due. -/
theorem due_active (active : (logicalOf s k).isSome = true) :
    Weevils.due s k = modWeevil s (fun w => { w with due := SMap.ins w.due k true }) := by
  simp [Weevils.due, valid, ready, old, works, active]

/-- The spare is tested in place. -/
theorem due_spare (inactive : logicalOf s k = none) (spare : (Swaps.role s (k / 9)).spare = k % 9) :
    Weevils.due s k =
      modWeevil s (fun w => { w with testing := SMap.ins w.testing k true, testFrom := SMap.ins w.testFrom k s.ns }) := by
  simp [Weevils.due, valid, ready, old, works, inactive, spare]

end

/-! ## A test ends (R365, R367) -/

/-- The array rests after its test, which the Weevil no longer counts. -/
def tested (s : State) (k : Nat) : State :=
  modWeevil (Swaps.rest s k) (fun w =>
    { w with testing := SMap.del w.testing k, testFrom := SMap.del w.testFrom k, due := SMap.del w.due k })

/-- A test is passed when the command says so, the register-mode program left no fail bit, and it took no more than 300 ms. -/
def Passed (s : State) (k : Nat) (r : TestResult) : Prop :=
  r.pass = true ∧ (RegMode.core s k).fail = false ∧ ¬ SMap.val 0 s.weevil.testFrom k + 300000000 < s.ns

theorem passed_iff (s : State) (k : Nat) (r : TestResult) :
    (r.pass && !(RegMode.core s k).fail && !Weevils.overran s k) = true ↔ Passed s k r := by
  simp [Passed, Weevils.overran, and_assoc]

/-- A passed test sets the age of its core to zero. -/
theorem testDone_passed {r : TestResult} (testing : SMap.val false s.weevil.testing k = true) (passed : Passed s k r) :
    Weevils.testDone s k r =
      modWeevil (tested s k) (fun w => { w with passedAt := SMap.ins w.passedAt k s.dex.powered, overdue := SMap.del w.overdue k }) := by
  simp only [Weevils.testDone, testing, if_true, if_pos ((passed_iff s k r).mpr passed)]
  rfl

/-- Any other test fails, at a limit where the command says so or the 300 ms are over. -/
theorem testDone_failed {r : TestResult} {limit : Bool} (testing : SMap.val false s.weevil.testing k = true) (failed : ¬ Passed s k r)
    (cut : limit = true ↔ r.limit = true ∨ SMap.val 0 s.weevil.testFrom k + 300000000 < s.ns) :
    Weevils.testDone s k r = Weevils.failTest (tested s k) k r limit := by
  have limit_eq : (r.limit || Weevils.overran s k) = limit := by
    rw [Bool.eq_iff_iff, cut, Bool.or_eq_true, Weevils.overran, decide_eq_true_iff]
  simp only [Weevils.testDone, testing, if_true, if_neg (mt (passed_iff s k r).mp failed), limit_eq]
  rfl

end

/-- Settles O41, by what makes a core due and by how its test ended. -/
theorem knownAnswerTestsComplete : Obligations.KnownAnswerTestsComplete := by
  unfold Obligations.KnownAnswerTestsComplete
  intro s k r valid
  constructor
  · intro ready old works
    exact ⟨fun active => congrArg Host.Outcome.next (due_active valid ready old works active),
      fun inactive spare => congrArg Host.Outcome.next (due_spare valid ready old works inactive spare)⟩
  · intro testing s1 late passed
    exact ⟨fun pass => congrArg Host.Outcome.next (testDone_passed testing pass),
      fun fail cut => congrArg Host.Outcome.next (testDone_failed (limit := true) testing fail (iff_of_true rfl cut)),
      fun fail whole => congrArg Host.Outcome.next (testDone_failed (limit := false) testing fail (iff_of_false nofun whole))⟩

end Sys2Proof.Proofs.KnownAnswerTests
end

section
/-! PROOFS. The host's direct access (R386, R461, R462): a write whose own reads fence the module is not carried out. -/

namespace Sys2Proof.Proofs.HostAccesses

open Sys2Proof.Machine Sys2Proof.Machine.Ops

/-- A host's write that meets, as its codes report, an error that fences the module is not carried out: the state is the one which the
reports leave, with neither the bytes nor an answer (R386). -/
theorem hostMemoryWrite_fenced {s : State} {a : Nat} {data : Bytes} {hits : List CodeHit} (served : hostServed s = true) (bytes : data ≠ [])
    (plain : Order.isFlagWrite (.hostMemoryWrite a { data := data }) = false) (fences : fenced (Mem.inject s hits Bus.hostReq) = true) :
    exec (.hostMemoryWrite a { data := data, hits := hits }) s = .next (Mem.inject s hits Bus.hostReq) := by
  have refuses : hostServed (Mem.inject s hits Bus.hostReq) = false := by simp [hostServed, fences]
  have kept : Bus.hostWrite s a data hits = Mem.inject s hits Bus.hostReq := by
    simp [Bus.hostWrite, served, bytes, plain, refuses, fences]
  exact congrArg Host.Outcome.next kept

/-- A READY module at its reset values, with its host link up and a stream Secure. -/
def servedModule : State :=
  { State.reset with dex := { State.reset.dex with state := .ready }, host := { State.reset.host with linkUp := true, secure := true } }

/-- The DRAM command at address 0 has failed its parity check on three attempts in a row: its channel is lost (R218). -/
def channelLoss : List CodeHit := [{ addr := 0, ecc := .parity }]

/-- A lost channel is a failed module, whose reset sequence fences it at once (R218, R385). -/
theorem channelLoss_fences : fenced (Mem.inject servedModule channelLoss Bus.hostReq) = true := by decide +kernel

/-- Refutes O50: the statement says what a served write does for every report of the codes, with the host served before the reports and
nothing said of it after them. The write of one byte at address 0 reads the access it merges into; where that read loses the channel, the
module is fenced when the write would take effect, and the byte stays 0, where the statement has it written. -/
theorem not_hostAccessesComplete : ¬ Obligations.HostAccessesComplete := by
  unfold Obligations.HostAccessesComplete
  rintro ⟨accesses, -⟩
  obtain ⟨served, -⟩ := accesses servedModule 0 0 [1] channelLoss
  obtain ⟨write, -⟩ := served (by decide +kernel)
  have claimed := Host.Outcome.next.inj
    ((hostMemoryWrite_fenced (by decide +kernel) (by decide) (by decide) channelLoss_fences).symm.trans (write (by decide) (by decide)))
  have stays : Mem.byteAt (Mem.inject servedModule channelLoss Bus.hostReq) 0 = 0 := by decide +kernel
  rw [claimed] at stays
  exact absurd stays (by decide +kernel)

end Sys2Proof.Proofs.HostAccesses
end

section
/-! PROOFS. Vector operations issue (R126 to R129, R150, R159 to R161, R166, R499). -/

namespace Sys2Proof.Proofs.VectorIssue

open Sys2Proof.Machine Sys2Proof.Machine.Ops Sys2Proof.Safety Sys2Proof.Laws

section
variable {s : State} {i : Issuer} {r : Issue.Runner}

/-- Each command of the vector stream engine is the issue of its code (R133). -/
theorem exec_vectorCommand {w : VecWord} : ∀ p ∈ vectorCommands i w, exec p.1 s = .next (Vector.vector s i p.2 w) :=
  List.map_inj_left.mp rfl

/-- A descriptor that an operation must have and that was fetched lies in its context's table (R127). -/
theorem fetch_named {x : Ctx} {q idx : Nat} {present : Bool} {d : Option StreamDesc}
    (found : Vector.fetch s x q present idx = some d) (needed : present = true) : (Operand.descAt s x q idx).isSome = true := by
  rw [Vector.fetch, if_pos needed, Option.map_eq_some_iff] at found
  obtain ⟨e, at_idx, -⟩ := found
  exact Option.isSome_of_eq_some at_idx

/-- A legal vector operation is of the code and the word that name it, reading its descriptors has not tainted it, and those that it names
lie in its context's table (R129, R166). -/
theorem legal_op {code : Nat} {w : VecWord} {op : VecOp} (legal : Vector.legal s r i code w = some op) :
    op.code = code ∧ op.word = w ∧ op.tainted = false ∧ ∀ d ∈ Vector.named code w, (Operand.descAt s r.x i.core d).isSome = true := by
  dsimp only [Vector.legal] at legal
  -- Which kind operand A must be of plays no part: named, it leaves the case split to the descriptors fetched.
  generalize (if Vector.maskA code then 1 else 0) = kind at legal
  split at legal
  case h_2 => simp at legal
  case h_1 a b ce m d =>
    obtain ⟨-, made⟩ := Option.ite_none_right_eq_some.mp legal
    cases made
    refine ⟨rfl, rfl, rfl, ?_⟩
    simp only [Vector.named, List.forall_mem_append, List.mem_ite_nil_left, List.mem_ite_nil_right, List.mem_singleton]
    refine ⟨⟨⟨⟨?a, ?b⟩, ?ce⟩, ?m⟩, ?d⟩
    case a => rintro _ ⟨has, rfl⟩; exact fetch_named a (by simpa using has)
    case b => rintro _ ⟨has, rfl⟩; exact fetch_named b has
    case ce => rintro _ ⟨has, rfl⟩; exact fetch_named ce has
    case m => rintro _ ⟨has, rfl⟩; exact fetch_named m has
    case d => rintro _ ⟨has, rfl⟩; exact fetch_named d has

/-- A legal operation in its stream's turn, whose descriptors are clean, enters the engine's queue, and its stream moves on; a compress
makes its counter awaited (R159 to R161, R499). -/
theorem vector_enqueues {code : Nat} {w : VecWord} {op : VecOp} (can : CanIssue s i r (.vec code w))
    (legal : Vector.legal s r i code w = some op) (core : i.core < 64)
    (clean : Operand.descBad (Issue.noted s i) r.x i.core (Vector.named code w) = false) :
    Vector.vector s i code w =
      let n := Issue.noted s i
      let s1 := Issue.launched (Vector.setQueue n i.core (Vector.startNext s (Vector.queue n i.core ++ [op]))) r.c i
      if Vector.isCompress code = true
      then modStream s1 r.c i.core i.stream (fun t => { t with ctrBusy := t.ctrBusy ++ [w.ctr] }) else s1 := by
  obtain ⟨rfl, rfl, untainted, table⟩ := legal_op legal
  have named (d : Nat) (mem : d ∈ Vector.named op.code op.word) : (Operand.descAt (Issue.noted s i) r.x i.core d).isSome = true :=
    (PassStart.descAt_isSome_iff _ _ _ _).mpr ((PassStart.descAt_isSome_iff _ _ _ _).mp (table d mem))
  have same : { op with tainted := false } = op := by rw [← untainted]
  simp only [Vector.vector, issue_eq can (fun _ _ => nofun), legal, Vector.enqueue, descRead_clean core _ named clean, clean, same]

end

theorem isCompress_iff (code : Nat) : Vector.isCompress code = true ↔ code = 0x30 ∨ code = 0x31 := by
  simp [Vector.isCompress]

/-- Settles O14: every command is the issue of its code, and a legal operation with clean descriptors is queued. -/
theorem vectorOperationsIssue : Obligations.VectorOperationsIssue := by
  unfold Obligations.VectorOperationsIssue
  intro s i w r op p command can legal n core clean s1
  rw [exec_vectorCommand p command, vector_enqueues can legal core clean]
  simp only [isCompress_iff]
  rfl

end Sys2Proof.Proofs.VectorIssue
end

section
/-! PROOFS. An illegal instruction faults its context (R129, R150, R162, R163, R168, R169). -/

namespace Sys2Proof.Proofs.IllegalInstructions

open Sys2Proof.Machine Sys2Proof.Machine.Ops Sys2Proof.Safety Sys2Proof.Laws

section
variable {s : State} {i : Issuer} {r : Issue.Runner}

/-! ## Control words (R163, R169) -/

section
variable {w : CtlWord} (reserved : w.rsvd ≠ 0)
include reserved

theorem control_illegal : Control.legal w = false := by
  simp [Control.legal, reserved]

/-- A control word with a nonzero unused field takes the response of R163, whatever it would do. -/
theorem control_rejects {cop : Nat} (can : CanIssue s i r (.ctl cop w)) (body : State → Issue.Runner → State) :
    Control.control s i cop w body = Issue.reject s i r 5 cop := by
  simp [Control.control, issue_eq can (fun _ _ => nofun), control_illegal reserved]

theorem mark_rejects (can : CanIssue s i r (.ctl 7 w)) : Control.mark s i w = Issue.reject s i r 5 7 := by
  simp [Control.mark, issue_eq can (fun _ _ => nofun), control_illegal reserved]

theorem stepend_rejects (can : CanIssue s i r (.ctl 9 w)) : Control.stepend s i w = Issue.reject s i r 5 9 := by
  simp [Control.stepend, issue_eq can (fun _ _ => nofun), control_illegal reserved]

end

/-! ## Flag words (R163, R168) -/

section
variable {w : FlagWord} (illegal : w.rsvd ≠ 0 ∨ 8191 < w.flag + w.nfl)
include illegal

theorem flagWord_illegal : Issue.legalFlag w = false := by
  rw [← Bool.not_eq_true]
  simp only [Issue.legalFlag, Bool.and_eq_true, beq_iff_eq, decide_eq_true_eq]
  omega

/-- A wait on a flag past 8191, or with a nonzero unused field, takes the response of R163 in its stream's turn. -/
theorem wait_rejects {consuming : Bool} (can : CanIssue s i r (.flag (if consuming then 1 else 0) w)) :
    FlagCtl.wait s i consuming w = Issue.reject s i r 4 (if consuming then 1 else 0) := by
  obtain ⟨reached, turn⟩ := can
  simp [FlagCtl.wait, fetched_eq reached, flagWord_illegal illegal, turn]

theorem action_rejects {set : Bool} (can : CanIssue s i r (.flag (if set then 2 else 3) w)) (pair : Option PairFault) :
    FlagCtl.action s i set w pair = Issue.reject s i r 4 (if set then 2 else 3) := by
  simp [FlagCtl.action, issue_eq can (fun _ _ => nofun), flagWord_illegal illegal]

end

/-! ## Operations with descriptors and reserved words (R129, R150, R162, R163) -/

/-- A vector operation that is not legal takes the response of R163, once its descriptors have been read. -/
theorem vector_rejects {code : Nat} {w : VecWord} (can : CanIssue s i r (.vec code w)) (illegal : Vector.legal s r i code w = none) :
    Vector.vector s i code w = Issue.rejectRead s i r 2 code (Vector.named code w) := by
  simp only [Vector.vector, issue_eq can (fun _ _ => nofun), illegal]

/-- A pass that is not legal takes the response of R163, once its descriptors have been read. -/
theorem pass_rejects {w : PassWord} (can : CanIssue s i r (.pass w)) (illegal : Array.legalPass s r i.core w = none) (hits : List CodeHit) :
    Array.pass s i w hits = Issue.rejectRead s i r 1 w.aop (Array.passDescs w) := by
  simp only [Array.pass, issue_eq can (fun _ _ => nofun), illegal]

/-- A word of a reserved class or code that a stream has reached takes the response of R163, whatever instruction its command names. -/
theorem reserved_rejects {cls code : Nat} (reached : Reached s i r (.reserved cls code)) (word : StreamWord) (body : Issue.Runner → State) :
    Issue.fetched s i word body = Issue.reject s i r cls code := by
  obtain ⟨running, fetches, sound, found⟩ := reached
  simp [Issue.fetched, running, fetches, sound, found]

end

/-- Settles O10: no issue takes a word that is not legal, so that only the response of R163 is left. -/
theorem illegalInstructionFaultsContext : Obligations.IllegalInstructionFaultsContext := by
  unfold Obligations.IllegalInstructionFaultsContext
  intro s i w f v p r heard fault
  refine ⟨fun unused => ?controls, fun illegal => ?flags, fun c command can illegal => ?vectors, fun can illegal => ?passes,
    fun cls code reached => ?reserved⟩
  case controls =>
    simp only [List.forall_mem_cons, List.not_mem_nil, false_imp_iff, implies_true, and_true]
    refine ⟨?_, ?_, ?_, ?_, ?_, ?_, ?_, ?mark, ?_, ?stepend, ?_⟩
    case mark => exact fun can => congrArg Host.Outcome.next (mark_rejects unused can)
    case stepend => exact fun can => congrArg Host.Outcome.next (stepend_rejects unused can)
    all_goals exact fun can => congrArg Host.Outcome.next (control_rejects unused can _)
  case flags =>
    simp only [List.forall_mem_cons, List.not_mem_nil, false_imp_iff, implies_true, and_true]
    refine ⟨?waits, ?waitc, ?set, ?clear⟩
    case waits => exact fun can => congrArg Host.Outcome.next (wait_rejects (consuming := false) illegal can)
    case waitc => exact fun can => congrArg Host.Outcome.next (wait_rejects (consuming := true) illegal can)
    case set => exact fun can => congrArg Host.Outcome.next (action_rejects (set := true) illegal can none)
    case clear => exact fun can => congrArg Host.Outcome.next (action_rejects (set := false) illegal can none)
  case vectors => exact (VectorIssue.exec_vectorCommand c command).trans (congrArg Host.Outcome.next (vector_rejects can illegal))
  case passes => exact congrArg Host.Outcome.next (pass_rejects can illegal [])
  case reserved => exact congrArg Host.Outcome.next (reserved_rejects reached (.ctl 0 w) _)

end Sys2Proof.Proofs.IllegalInstructions
end

section
/-! PROOFS. Register mode: its instructions, LOOP, HALT, the program limit, entry and exit (R133, R151 to R155, R516). -/

namespace Sys2Proof.Proofs.RegisterMode

open Sys2Proof.Machine Sys2Proof.Machine.Ops Sys2Proof.Machine.Bits Sys2Proof.Safety Sys2Proof.Laws

section
variable {s : State} {k : Nat} {w : RmWord}

/-! ## The record of a core -/

@[simp] theorem core_setCore (x : RmCore) : RegMode.core (RegMode.setCore s k x) k = x := by
  simp [RegMode.core, RegMode.setCore]

@[simp] theorem setCore_setCore (x y : RmCore) : RegMode.setCore (RegMode.setCore s k x) k y = RegMode.setCore s k y := by
  simp [RegMode.setCore, ins_ins]

@[simp] theorem setCore_ns (x : RmCore) : (RegMode.setCore s k x).ns = s.ns := rfl
@[simp] theorem setCore_free (x : RmCore) : (RegMode.setCore s k x).free = s.free := rfl

theorem drawn_setCore (x : RmCore) : drawn (RegMode.setCore s k x) = RegMode.setCore (drawn s) k x := rfl

/-- The word of an instruction that is ready stands at the program counter (R152). -/
theorem stands_ready {op : Nat} (ready : RmReady s k op w) : RegMode.stands (RegMode.core s k) op w = true := by
  obtain ⟨mode, running, inside, -, word⟩ := ready
  simp [RegMode.stands, RegMode.active, mode, running, inside, ← word]

theorem noReserved_ready {op : Nat} (ready : RmReady s k op w) : w.rsvd % 4 = 0 := by
  obtain ⟨-, -, -, unused, -⟩ := ready
  exact unused

theorem core_of_rm {t : State} (same : t.rm = s.rm) (k : Nat) : RegMode.core t k = RegMode.core s k := by
  rw [RegMode.core, RegMode.core, same]

/-- An instruction is ready in a state with the same register-mode records. -/
theorem ready_of_rm {t : State} {op : Nat} (ready : RmReady s k op w) (same : t.rm = s.rm) : RmReady t k op w := by
  simpa only [RmReady, core_of_rm same] using ready

/-! ## LD and ST (R153) -/

/-- Bytes of SRAM are not DRAM (R209). -/
theorem notDram_of_inSram {a n : Nat} (bytes : 0 < n) (sram : Mem.inSram a n = true) : Mem.inDram a n = false := by
  rw [← Bool.not_eq_true]
  intro dram
  have low : a < Mem.dramEnd := by
    simp only [Mem.inDram, decide_eq_true_eq] at dram
    omega
  simp [Mem.inSram, Mem.locate, low] at sram

/-- A window of memory is the 1,024 bytes of SRAM at window base + IMM (R153). -/
theorem window_mem {x : RmCore} {imm : W32} {a : Nat} (lies : RegMode.window s k x imm = some (.mem a)) : Mem.inSram a 1024 = true := by
  dsimp only [RegMode.window] at lies
  split at lies
  · simp at lies
  next legal =>
    simp only [Bool.or_eq_true, not_or, Bool.not_eq_true', Bool.not_eq_false] at legal
    have there : x.win + imm.toNat = a := by
      split at lies
      case h_1 =>
        simp only [Option.ite_none_right_eq_some, Option.some.injEq, RegMode.Window.mem.injEq] at lies
        exact lies.2
      case h_2 =>
        split at lies
        · simp only [Option.ite_none_right_eq_some, Option.some.injEq, RegMode.Window.mem.injEq] at lies
          exact lies.2
        · simp at lies
      case h_3 => simp at lies
    exact there ▸ legal.2

/-- LD of a core's own scratchpad takes the lanes of the register from there. -/
theorem ld_own {o : Nat} (ready : RmReady s k 0x82 w) (lies : RegMode.window s k (RegMode.core s k) w.imm = some (.own o)) :
    RegMode.ldOp s k w [] = RegMode.setCore s k (RegMode.nextPc (RegMode.setReg (RegMode.core s k) w.vd
      (RegMode.lanesOf ((List.range 1024).map (fun i => SMap.val 0 (RegMode.core s k).spad (o + i)))))) := by
  simp only [RegMode.ldOp, Mem.inject, List.foldl_nil, ite_self, lies]
  exact run_ready ready rfl

/-- LD of clean words of memory takes the lanes of the register from there, and raises nothing. -/
theorem ld_mem {a : Nat} (ready : RmReady s k 0x82 w) (lies : RegMode.window s k (RegMode.core s k) w.imm = some (.mem a))
    (clean : Mem.anyMarked s.mem.badWord 8 a 1024 = false) :
    RegMode.ldOp s k w [] = RegMode.setCore s k (RegMode.nextPc (RegMode.setReg (RegMode.core s k) w.vd
      (RegMode.lanesOf (Mem.bytesAt s a 1024)))) := by
  have sram := window_mem lies
  simp only [RegMode.ldOp, Mem.inject, List.foldl_nil, ite_self, lies, load_eq _ (notDram_of_inSram (by decide) sram) sram clean]
  exact run_ready ready rfl

/-- ST into a core's own scratchpad stores the bytes of the register there. -/
theorem st_own {o : Nat} (ready : RmReady s k 0x83 w) (lies : RegMode.window s k (RegMode.core s k) w.imm = some (.own o)) :
    RegMode.stOp s k w [] = let x := RegMode.core s k
      RegMode.setCore s k (RegMode.nextPc { x with spad := Mem.pokeCells x.spad o (RegMode.bytesOf (RegMode.reg x w.va)) }) := by
  simp only [RegMode.stOp, Mem.inject, List.foldl_nil, ite_self, lies]
  exact run_ready ready rfl

theorem poke_rm (t : State) (a : Nat) (b : Bytes) (press : Bool) : (Mem.poke t a b press).rm = t.rm := rfl

theorem clearRecords_rm (t : State) (a n : Nat) : (Mem.clearRecords t a n).rm = t.rm := by
  unfold Mem.clearRecords
  split <;> rfl

/-- A write into storage that meets no error leaves the register-mode records (R212). -/
theorem store_rm {a : Nat} {b : Bytes} {q : Mem.Req} (quiet : Mem.reactWrite s a b.length q = s) : (Mem.store' s a b q).rm = s.rm := by
  simp only [Mem.store', Mem.store, clearRecords_rm, Mem.storeRaw, quiet]
  split
  case isTrue => split <;> rfl
  case isFalse =>
    split
    case isTrue => rfl
    case isFalse =>
      dsimp only
      split
      · split <;> simp only [poke_rm]
      · exact poke_rm ..

/-- ST into memory that meets no bad word stores the bytes of its register there. -/
theorem st_mem {a : Nat} (ready : RmReady s k 0x83 w) (lies : RegMode.window s k (RegMode.core s k) w.imm = some (.mem a))
    (quiet : Mem.reactWrite s a (RegMode.bytesOf (RegMode.reg (RegMode.core s k) w.va)).length (RegMode.requester s k) = s) :
    RegMode.stOp s k w [] =
      RegMode.setCore (Mem.store' s a (RegMode.bytesOf (RegMode.reg (RegMode.core s k) w.va)) (RegMode.requester s k)) k
        (RegMode.nextPc (RegMode.core s k)) := by
  have there := ready_of_rm ready (store_rm quiet)
  simp only [RegMode.stOp, Mem.inject, List.foldl_nil, ite_self, lies, stands_ready ready, noReserved_ready ready, beq_self_eq_true,
    Bool.and_self, if_true]
  rw [run_ready there rfl, core_of_rm (store_rm quiet)]

/-! ## The instructions (R133, R153, R154) -/

/-- A lane operation runs where its code is none of those of register mode only (R153). -/
theorem laneOp_runs {y : RmCore} (ready : RmReady s k w.op w) (shared : ¬ (0x80 ≤ w.op ∧ w.op ≤ 0x88))
    (result : RegMode.laneOp w (RegMode.core s k) = some y) :
    exec (.rmLaneOp k w) s = .next (RegMode.setCore s k (RegMode.nextPc y)) := by
  show RegMode.execRmLaneOp k w s = _
  rw [RegMode.execRmLaneOp, if_neg (by simpa using shared), run_ready ready result]

/-! ## LOOP, HALT and the program limit (R153, R155, R367) -/

/-- A LOOP of some words, some times, begins at the next word. -/
theorem loop_begins (ready : RmReady s k 0x87 w) (free : (RegMode.core s k).loop = none) (words : w.imm.toNat / 65536 % 4096 ≠ 0)
    (times : w.imm.toNat % 65536 ≠ 0) :
    RegMode.rmLoopOp s k w = let x := RegMode.core s k
      RegMode.setCore s k { x with loop := some (x.pc + 1, w.imm.toNat / 65536 % 4096, w.imm.toNat % 65536), pc := x.pc + 1 } := by
  have len : field w.imm.toNat 27 16 = w.imm.toNat / 65536 % 4096 := RegisterWrites.field_eq_div_mod ..
  have count : field w.imm.toNat 15 0 = w.imm.toNat % 65536 := RegisterWrites.field_zero ..
  simp [RegMode.rmLoopOp, RegMode.loopOp, stands_ready ready, noReserved_ready ready, free, len, count, words, times]

/-- HALT reports the digest and stops the program. -/
theorem halt_stops (ready : RmReady s k 0x88 w) :
    RegMode.haltOp s k w = let x := RegMode.core s k
      RegMode.setCore s k { x with halted := true, running := false, digest := x.acc, loop := none } := by
  simp [RegMode.haltOp, stands_ready ready, noReserved_ready ready]

/-- A program past its limit, of a core under no test, stops with the fail bit set. -/
theorem programLimit_stops (mode : (RegMode.core s k).mode = true) (running : (RegMode.core s k).running = true)
    (past : (RegMode.core s k).started + 1000 * (RegMode.core s k).limit ≤ s.ns) (untested : Weevils.underTest s k = false) :
    Weevils.programLimit s k = RegMode.setCore s k (RegMode.stopFail (RegMode.core s k)) := by
  simp [Weevils.programLimit, mode, running, past, untested]

/-! ## Entry and exit (R151, R155, R516) -/

section
variable {v : W64}

/-- LIMIT of VEC_RM_CTL (R516). -/
theorem field_limit (v : W64) : field v.toNat 63 40 = v.toNat / 1099511627776 % 16777216 := RegisterWrites.field_eq_div_mod ..

theorem bit_mode (v : W64) : bit v.toNat 0 = decide (v.toNat % 2 = 1) := Nat.testBit_zero _

/-- Whether a core may enter register mode does not hang on its record. -/
theorem mayEnter_setCore (x : RmCore) : RegMode.mayEnter (RegMode.setCore s k x) k = RegMode.mayEnter s k := rfl

/-- The controller loads the program and starts it at word 0, with its limit (R151, R516). -/
theorem modeSet_enters (program : List W64) (core : k < 72) (set : v.toNat % 2 = 1) (limited : v.toNat / 1099511627776 % 16777216 ≠ 0)
    (out : (RegMode.core s k).mode = false) (may : RegMode.mayEnter s k = true) :
    RegMode.modeSet s k v program = let x := RegMode.core s k
      RegMode.setCore (drawn s) k
        { x with program := (program ++ x.program.drop program.length).take 2048, mode := true, limit := v.toNat / 1099511627776 % 16777216,
                 fail := false, halted := false, regs := [], acc := 0, pc := 0, gens := 0, loop := none, started := s.ns, running := true,
                 draw := s.free } := by
  simp [RegMode.modeSet, RegMode.ctlWrite, RegMode.enter, bit_mode, field_limit, core, set, limited, out, mayEnter_setCore, may, drawn_setCore]

/-- The controller ends register mode with the limit in force: what the registers hold is not kept. -/
theorem modeClear_leaves (core : k < 72) (clear : v.toNat % 2 = 0) (limited : v.toNat / 1099511627776 % 16777216 ≠ 0)
    (same : (RegMode.core s k).limit = v.toNat / 1099511627776 % 16777216) :
    RegMode.modeClear s k v = RegMode.setCore s k { RegMode.core s k with mode := false, running := false, regs := [], loop := none } := by
  rw [← same] at limited
  simp [RegMode.modeClear, RegMode.ctlWrite, RegMode.leave, bit_mode, field_limit, core, clear, ← same, limited]

end

end

/-- Settles O19: an instruction that is ready runs; LD and ST move the bytes of the window they name. -/
theorem registerModeInstructionsComplete : Obligations.RegisterModeInstructionsComplete := by
  unfold Obligations.RegisterModeInstructionsComplete
  constructor
  · intro s k w x
    refine ⟨?ldi, ?ldgen, ?digest, ?chklo, ?chkhi, ?lanes⟩
    case lanes => exact fun y ready shared result => laneOp_runs ready shared result
    all_goals exact fun ready => congrArg Host.Outcome.next (run_ready ready rfl)
  · intro s k w x
    refine ⟨?ldOwn, ?stOwn, ?ldMem, ?stMem⟩
    case ldOwn => exact fun o ready lies => congrArg Host.Outcome.next (ld_own ready lies)
    case stOwn => exact fun o ready lies => congrArg Host.Outcome.next (st_own ready lies)
    case ldMem => exact fun a ready lies clean => congrArg Host.Outcome.next (ld_mem ready lies clean)
    case stMem => exact fun a ready lies quiet => congrArg Host.Outcome.next (st_mem ready lies quiet)

/-- Settles O20: each command takes the branch that changes the program's run or the mode. -/
theorem registerModeControlCompletes : Obligations.RegisterModeControlCompletes := by
  unfold Obligations.RegisterModeControlCompletes
  intro s k w v program x
  refine ⟨?loop, ?halt, ?limit, ?enters, ?leaves⟩
  case loop => exact fun ready free words times => congrArg Host.Outcome.next (loop_begins ready free words times)
  case halt => exact fun ready => congrArg Host.Outcome.next (halt_stops ready)
  case limit => exact fun mode running past untested => congrArg Host.Outcome.next (programLimit_stops mode running past untested)
  case enters =>
    exact fun core set limited out may => congrArg Host.Outcome.next (modeSet_enters program core set limited out may)
  case leaves => exact fun core clear limited same => congrArg Host.Outcome.next (modeClear_leaves core clear limited same)

end Sys2Proof.Proofs.RegisterMode
end

section
/-! PROOFS. MAX, MIN and the comparisons of NaN and of the two zeros (R134). -/

namespace Sys2Proof.Proofs.FloatExtremes

open Sys2Proof.Machine

theorem maxVal_nan {a b : Numeric.Val} (isNan : a = .nan ∨ b = .nan) : VecMath.maxVal a b = .nan := by
  obtain rfl | rfl := isNan <;> simp [VecMath.maxVal, Numeric.isNan]

theorem minVal_nan {a b : Numeric.Val} (isNan : a = .nan ∨ b = .nan) : VecMath.minVal a b = .nan := by
  obtain rfl | rfl := isNan <;> simp [VecMath.minVal, Numeric.isNan]

/-- No zero is less than another, whatever their signs and exponents. -/
theorem ltVal_zeros (n p : Bool) (e f : Int) : Numeric.ltVal (.fin n 0 e) (.fin p 0 f) = false := by
  simp [Numeric.ltVal, Numeric.toExact, Numeric.Exact.lt, Numeric.Exact.at]

theorem toF32_zero (ovf n : Bool) (e : Int) :
    Numeric.toF32 ovf (Numeric.moved (.fin n 0 e)) = (Numeric.withSign Numeric.fp32 n 0, false) := rfl

/-- The larger of two zeros is +0. -/
theorem maxVal_zeros (n : Bool) (e f : Int) : VecMath.maxVal (.fin n 0 e) (.fin (!n) 0 f) = .fin false 0 (if n then f else e) := by
  simp only [VecMath.maxVal, Numeric.isNan, ltVal_zeros, Numeric.signOf]
  cases n <;> rfl

/-- The smaller of two zeros is -0. -/
theorem minVal_zeros (n : Bool) (e f : Int) : VecMath.minVal (.fin n 0 e) (.fin (!n) 0 f) = .fin true 0 (if n then e else f) := by
  simp only [VecMath.minVal, Numeric.isNan, ltVal_zeros, Numeric.signOf]
  cases n <;> rfl

/-- MAX in the float domain moves the larger operand (R91, R134). -/
theorem floatOp_max (ovf : Bool) (a b c sc : Numeric.Val) :
    VecMath.floatOp 0x06 ovf a b c sc = VecMath.ofPair (Numeric.toF32 ovf (Numeric.moved (VecMath.maxVal a b))) := rfl

/-- MIN in the float domain moves the smaller operand (R91, R134). -/
theorem floatOp_min (ovf : Bool) (a b c sc : Numeric.Val) :
    VecMath.floatOp 0x07 ovf a b c sc = VecMath.ofPair (Numeric.toF32 ovf (Numeric.moved (VecMath.minVal a b))) := rfl

/-- Of the comparisons with a NaN, CMPNE alone holds. -/
theorem compare_nan {a b : Numeric.Val} (isNan : a = .nan ∨ b = .nan) :
    VecMath.compare' 0x20 a b = false ∧ VecMath.compare' 0x21 a b = false ∧ VecMath.compare' 0x22 a b = false ∧
    VecMath.compare' 0x23 a b = true := by
  have nan : (Numeric.isNan a || Numeric.isNan b) = true := by obtain rfl | rfl := isNan <;> simp [Numeric.isNan]
  simp [VecMath.compare', nan]

/-- Two zeros compare equal. -/
theorem compare_zeros (n p : Bool) (e f : Int) :
    let a := Numeric.Val.fin n 0 e
    let b := Numeric.Val.fin p 0 f
    VecMath.compare' 0x22 a b = true ∧ VecMath.compare' 0x20 a b = false ∧ VecMath.compare' 0x21 a b = true ∧
    VecMath.compare' 0x23 a b = false := by
  simp [VecMath.compare', Numeric.isNan, ltVal_zeros]

/-- Settles O60: a NaN operand decides each result, and no zero is less than another. -/
theorem floatExtremesAndComparisons : Obligations.FloatExtremesAndComparisons := by
  unfold Obligations.FloatExtremesAndComparisons
  intro ovf a b c sc
  constructor
  · intro isNan
    rw [floatOp_max, floatOp_min, maxVal_nan isNan, minVal_nan isNan]
    exact ⟨rfl, rfl, compare_nan isNan⟩
  · rintro e f n rfl rfl
    rw [floatOp_max, floatOp_min, maxVal_zeros, minVal_zeros, toF32_zero, toF32_zero]
    exact ⟨rfl, rfl, compare_zeros n (!n) e f⟩

end Sys2Proof.Proofs.FloatExtremes
end

section
/-! PROOFS. Streams and counters, and the control instructions that complete (R158 to R161, R166, R169 to R173). -/

namespace Sys2Proof.Proofs.StreamControl

open Sys2Proof.Machine Sys2Proof.Machine.Ops Sys2Proof.Safety Sys2Proof.Laws

/-! ## Streams and counters (R158, R166) -/

/-- A change of a context leaves everything but the contexts. -/
theorem modCtx_frame (s : State) (c : Nat) (f : Ctx → Ctx) : modCtx s c f = { s with ctxs := (modCtx s c f).ctxs } := by
  unfold modCtx
  split <;> rfl

/-- A core of a defined context that was changed reads as changed. -/
theorem onCore_modCore {s : State} {c : Nat} {x : Ctx} (defined : ctx? s c = some x) (q : Nat) (f : CoreCtx → CoreCtx) :
    ∃ y, ctx? (modCore s c q f) c = some y ∧ onCore y q = f (onCore x q) :=
  ⟨_, ctx_modCtx defined _, SMap.val_ins_self ..⟩

/-- A counter of a defined context after a write of one. -/
theorem counterAt_setCounter {s : State} {c : Nat} {x : Ctx} (defined : ctx? s c = some x) (q n n' : Nat) (v : W32) :
    counterAt (Issue.setCounter s c q n v) c q n' = if n' = n then v else counterAt s c q n' := by
  obtain ⟨y, now_y, changed⟩ := onCore_modCore defined q (fun k => { k with counters := SMap.ins k.counters n v })
  simp only [counterAt, Issue.setCounter, now_y, changed, defined, Issue.counter, SMap.val, SMap.look_ins]
  split <;> rfl

/-- Settles O7: each operation is one change of one context, and a counter write changes the engines' queues beside it. -/
theorem streamAndCounterOperations : Obligations.StreamAndCounterOperations := by
  unfold Obligations.StreamAndCounterOperations
  intro s c n n' pc x i v defined
  have moved (f : StreamState → StreamState) := stream_modStream defined i.core i.stream f
  have written (m : Nat) : counterAt (Control.writeCounter s c i.core n v) c i.core m = if m = n then v else counterAt s c i.core m :=
    counterAt_setCounter defined i.core n m v
  have left : Issue.setCounter s c i.core n v = { s with ctxs := (Issue.setCounter s c i.core n v).ctxs } := modCtx_frame s c _
  refine ⟨moved _, moved _, moved _, ?same, ?other, modCtx_frame s c _, modCtx_frame s c _, modCtx_frame s c _, ?queues⟩
  case same => rw [written, if_pos rfl]
  case other => exact fun different => by rw [written, if_neg different]
  case queues => rw [Control.writeCounter, left]

/-! ## Control words that issue (R159 to R162) -/

section
variable {s : State} {i : Issuer} {r : Issue.Runner} {w : CtlWord} (legal : Control.legal w = true)
include legal

/-- A legal control word of a stream that can issue takes its slot and has its effect. -/
theorem control_issues {cop : Nat} (can : CanIssue s i r (.ctl cop w)) (body : State → Issue.Runner → State) :
    Control.control s i cop w body = body (Issue.noted s i) r := by
  rw [Control.control, issue_eq can (fun _ _ => nofun), if_pos legal]

/-- MARK writes the two halves of the fabric time to an even counter and the next (R169). -/
theorem mark_issues (can : CanIssue s i r (.ctl 7 w)) (even : w.ctr % 2 = 0) :
    Control.mark s i w =
      let low := Control.writeCounter (Issue.noted s i) r.c i.core w.ctr (BitVec.ofNat 32 (now s))
      Issue.advance (Control.writeCounter low r.c i.core (w.ctr + 1) (BitVec.ofNat 32 (now s / 4294967296))) r.c i := by
  have low : (BitVec.ofNat 64 (now s)).setWidth 32 = BitVec.ofNat 32 (now s) := BitVec.setWidth_ofNat_of_le (by decide) _
  have high : (BitVec.ofNat 64 (now s) >>> 32).setWidth 32 = BitVec.ofNat 32 (now s / 4294967296) := by
    apply BitVec.eq_of_toNat_eq
    simp only [BitVec.toNat_setWidth, BitVec.toNat_ushiftRight, BitVec.toNat_ofNat, Nat.shiftRight_eq_div_pow]
    omega
  rw [Control.mark, issue_eq can (fun _ _ => nofun), if_neg (by simp [legal, even])]
  simp only [low, high]

/-- STEPEND in a context with the step protocol stops its stream at the word after it (R171). -/
theorem stepend_issues (can : CanIssue s i r (.ctl 9 w)) (steps : r.x.fields.stepped = 1) :
    Control.stepend s i w =
      modStream (Issue.noted s i) r.c i.core i.stream (fun t => { t with pc := t.pc + 1, run := .atStepEnd }) := by
  rw [Control.stepend, issue_eq can (fun _ _ => nofun), if_neg (by simp [legal, stepped, steps])]

end

/-- A branch that is taken on a value other than zero. -/
theorem branch_bne_zero (s : State) (c : Nat) (i : Issuer) {n : Nat} (v : BitVec n) (w : CtlWord) :
    Control.branch s c i (v != 0) w = if v = 0 then Issue.advance s c i else Control.goTo s c i w.target := by
  by_cases zero : v = 0 <;> simp [Control.branch, zero]

/-- Settles O8: a legal word that can issue is its effect, and LOOP branches on its counter. -/
theorem controlInstructionsComplete : Obligations.ControlInstructionsComplete := by
  unfold Obligations.ControlInstructionsComplete
  intro s i w r legal n
  refine ⟨?nop, ?setc, ?addc, ?brc, ?loop, ?mark⟩
  case loop => exact fun can => congrArg Host.Outcome.next ((control_issues legal can _).trans (branch_bne_zero ..))
  case mark => exact fun can even => congrArg Host.Outcome.next (mark_issues legal can even)
  all_goals exact fun can => congrArg Host.Outcome.next (control_issues legal can _)

/-- Settles O9: a legal word that can issue is its effect, and BRS branches on the bits that it tests. -/
theorem statusBranchesAndStreamEndsComplete : Obligations.StatusBranchesAndStreamEndsComplete := by
  unfold Obligations.StatusBranchesAndStreamEndsComplete
  intro s i w r legal n
  refine ⟨?brs, ?yield, ?waitdone, ?stepend, ?endStream⟩
  case brs => exact fun can => congrArg Host.Outcome.next ((control_issues legal can _).trans (branch_bne_zero ..))
  case stepend => exact fun can steps => congrArg Host.Outcome.next (stepend_issues legal can steps)
  all_goals exact fun can => congrArg Host.Outcome.next (control_issues legal can _)

end Sys2Proof.Proofs.StreamControl
end

section
/-! PROOFS. Remote operations issue, also to an unmapped rank (R161, R263 to R272, R282, R284, R363). -/

namespace Sys2Proof.Proofs.RemoteIssue

open Sys2Proof.Machine Sys2Proof.Machine.Ops Sys2Proof.Safety Sys2Proof.Laws

section
variable {s : State} {i : Issuer} {w : RemWord} {pair : Option PairFault}

/-- Each remote command is the start of its code, with what the codes report of its local data (R267, R282, R284). -/
theorem exec_remoteCommand {hits : List CodeHit} :
    ∀ p ∈ [(Instr.put i ⟨w, pair⟩ hits, 0, hits), (.get i ⟨w, pair⟩, 1, []), (.putf i ⟨w, pair⟩ hits, 2, hits), (.fset i ⟨w, pair⟩, 3, []),
           (.fclr i ⟨w, pair⟩, 4, []), (.mput i ⟨w, pair⟩ hits, 5, hits), (.chain i ⟨w, pair⟩ hits, 6, hits)],
      exec p.1 s = .next (RemoteOps.start s i p.2.1 w p.2.2 pair) :=
  List.map_inj_left.mp rfl

/-- FSET and FCLR move no data, and the other codes need a descriptor. -/
theorem ite_needs {α : Type} (rop : Nat) (a b : α) :
    (if (rop != 3 && rop != 4) = true then a else b) = if rop = 3 ∨ rop = 4 then b else a := by
  by_cases three : rop = 3 <;> by_cases four : rop = 4 <;> simp [three, four]

/-- The descriptor that an operation of a code moves, where it moves data. -/
def operand (s : State) (i : Issuer) (r : Issue.Runner) (rop : Nat) (w : RemWord) : Option StreamDesc :=
  if rop = 3 ∨ rop = 4 then none else RemoteOps.dataDesc s r i.core w

/-- The remote engine as it reads for an operation of a stream. -/
def source (i : Issuer) (r : Issue.Runner) (rop : Nat) : Mem.Req :=
  { unit := Report.unitCode 9 0, ctx := r.c, stream := some i.stream, op := Report.opField 3 rop }

/-- The operation has taken its issue slot, and what the codes report of its local data and its descriptor is raised. -/
def heardOperand (s : State) (i : Issuer) (r : Issue.Runner) (rop : Nat) (w : RemWord) (hits : List CodeHit) : State :=
  Operand.descRead (Mem.inject (Issue.noted s i) hits (source i r rop)) r.x i.core (if rop = 3 ∨ rop = 4 then [] else [w.ldesc]) (source i r rop)

variable {r : Issue.Runner} {rop tag : Nat}

/-- A legal operation has what it needs: its code moves no data, or its descriptor is legal. -/
theorem not_refused (legal : RemoteOps.legalWord rop w = true) (needed : (rop = 3 ∨ rop = 4) ∨ operand s i r rop w ≠ none) :
    ¬ ((!RemoteOps.legalWord rop w || ((rop != 3 && rop != 4) && (operand s i r rop w).isNone)) = true) := by
  obtain (rfl | rfl) | some := needed
  · simp [legal]
  · simp [legal]
  · simp [legal, some]

section
variable (can : CanIssue s i r (.rem rop w)) (legal : RemoteOps.legalWord rop w = true) (free : RemoteOps.freeTag s = some tag)
  (needed : (rop = 3 ∨ rop = 4) ∨ operand s i r rop w ≠ none) (hits : List CodeHit)
include can legal free needed

/-- With its destinations mapped, a legal operation is sent under the free tag (R263, R267, R272, R282). -/
theorem start_sends {ms : List Nat} (mapped : RemoteOps.destinations s r.c rop w = .ok ms) :
    RemoteOps.start s i rop w hits pair =
      let h := RemoteOps.header (heardOperand s i r rop w hits) i r rop w pair
      RemoteOps.send h.1 i r rop h.2 (operand s i r rop w) ms tag pair := by
  have legal_op := not_refused legal needed
  rw [operand] at legal_op
  simp only [RemoteOps.start, issue_eq can (fun _ _ => nofun), ite_needs, if_neg legal_op, free, mapped]
  rfl

/-- A rank that maps no module ends a legal operation at once with PARTIAL (R266). -/
theorem start_unmapped {rank : Nat} (unmapped : RemoteOps.destinations s r.c rop w = .error rank) :
    RemoteOps.start s i rop w hits pair =
      let h := RemoteOps.header (heardOperand s i r rop w hits) i r rop w pair
      Issue.complete (RemoteOps.noRank (Issue.launched h.1 r.c i) r.c (Report.streamByte i.stream) (Report.opField 3 rop) r.t.pc rank)
        r.c i.core i.stream Issue.bPartial w.fact w.flag := by
  have legal_op := not_refused legal needed
  rw [operand] at legal_op
  simp only [RemoteOps.start, issue_eq can (fun _ _ => nofun), ite_needs, if_neg legal_op, free, unmapped]
  rfl

end

end

/-- Settles O26: each command starts the operation of its code, whose destinations are mapped or name a rank that is not. -/
theorem remoteOperationsIssue : Obligations.RemoteOperationsIssue := by
  unfold Obligations.RemoteOperationsIssue
  intro s i w hits pair r tag free p command can legal flag d needed rq s0 h
  have starts := exec_remoteCommand (s := s) p command
  constructor
  · exact fun ms mapped => starts.trans (congrArg Host.Outcome.next (start_sends can legal free needed p.2.2 mapped))
  · exact fun rank unmapped => starts.trans (congrArg Host.Outcome.next (start_unmapped can legal free needed p.2.2 unmapped))

end Sys2Proof.Proofs.RemoteIssue
end

section
/-! PROOFS. Descriptors of contexts and steps (R156, R178, R327, R386, R393, R469). -/

namespace Sys2Proof.Proofs.ContextDescriptors

open Sys2Proof.Machine Sys2Proof.Machine.Ops Sys2Proof.Safety Sys2Proof.Proofs.ScheduleChanges

/-! ## When a descriptor runs (R468, R386) -/

section
variable {s : State} {d : DescHead}

/-- A header that breaks no layout and names a context is legal. -/
theorem badHead_eq_false (good : d.bad = false) (known : d.badOp = false) (low : d.ctx < 255) : Desc.badHead d = false := by
  simp [Desc.badHead, Desc.badCode, good, known, low]

/-- A body that was read, and did not come poisoned, gives no status. -/
theorem bodyStatus_eq_none (read : d.fault = false) (clean : d.poisoned = false) : Desc.bodyStatus d = none := by
  simp [Desc.bodyStatus, read, clean]

/-- A fenced module completes a descriptor that starts with FENCED (R386). -/
theorem atOnce_fenced {data : Bool} (starts : Desc.starts s d data = true) (closed : fenced s = true) (op : Nat)
    (f : State → State × Nat × List (Nat × Bytes)) :
    Desc.atOnce s d op data f = endDesc (Desc.register s d (Desc.entry d op data)) d.ring d.t Status.fenced [] := by
  rw [Desc.atOnce, if_pos starts, if_pos closed]

/-- A descriptor whose checks give no status runs on in the state that they leave. -/
theorem lasting_runs {i : InProgress} (starts : Desc.starts s d i.data = true) (running : fenced s = false)
    {f : State → State × Option Nat} {t : State} (runs : f (Desc.register s d i) = (t, none)) : Desc.lasting s d i f = t := by
  simp only [Desc.lasting, starts, running, Bool.false_eq_true, if_true, if_false, runs]

end

/-! ## What each descriptor does -/

section
variable {s : State} {d : DescHead} (head : Desc.badHead d = false)
include head

/-- A legal definition creates its context where the identifier is free, redundant on whole pairs, or plain outside probation (R156, R361,
R376). -/
theorem define_creates {x : CtxFields} (legal : HostDesc.badDefine x = false) (undefined : ctx? s d.ctx = none)
    (kind : s.err.redMask.getLsbD d.ctx = false ∧ s.health.probation = false ∨
      s.err.redMask.getLsbD d.ctx = true ∧ HostDesc.badPairs s x = false) :
    HostDesc.define s d x = HostDesc.create s d x (s.err.redMask.getLsbD d.ctx) := by
  have accepted : (s.err.redMask.getLsbD d.ctx && HostDesc.badPairs s x || !s.err.redMask.getLsbD d.ctx && s.health.probation) = false := by
    obtain ⟨plain, sound⟩ | ⟨redundant, pairs⟩ := kind
    · simp [plain, sound]
    · simp [redundant, pairs]
  simp only [HostDesc.define, head, legal, undefined, accepted, Option.isSome_none, Bool.or_self, Bool.false_eq_true, if_false]

/-- The deletion of a context that is not being deleted begins, and its descriptor runs on (R178). -/
theorem delete_begins {x : Ctx} (defined : ctx? s d.ctx = some x) (once : x.deleting = none) :
    HostDesc.delete s d = (HostDesc.beginDelete s d x, none) := by
  simp only [HostDesc.delete, head, defined, once, Option.isSome_none, Bool.false_eq_true, if_false]

section
variable (body : Desc.bodyStatus d = none) {x : Ctx} (defined : ctx? s d.ctx = some x)
include body defined

/-- A legal set-up of a stepped context is kept between attempts (R327). -/
theorem stepSetup_keeps {u : StepSetupBody} (legal : HostDesc.badSetup d u = false) (steps : stepped x = true)
    (closed : x.step.isOpen = false) (free : x.step.holdUntil = none) :
    HostDesc.stepSetup s d u = (modStep s d.ctx (fun t => { t with setup := some u }), Status.ok, []) := by
  simp only [HostDesc.stepSetup, head, body, legal, defined, steps, closed, free, Option.isSome_none, Bool.not_true, Bool.or_self,
    Bool.false_eq_true, if_false]

/-- A resolution that names the step of a PENDING context decides it (R393). -/
theorem stepResolve_decides {y : ResolveBody} (legal : y.bad = false) (same : y.ctx = d.ctx) (result : y.result = 1 ∨ y.result = 2)
    (step : y.step = x.step.step) (pending : x.step.pending = true) :
    HostDesc.stepResolve s d y =
      (modStep (if y.result = 1 then HostDesc.resolveCommit s d.ctx y else HostDesc.resolveUndecided s d.ctx) d.ctx
        (fun t => { t with pending := false }), Status.ok, []) := by
  have named : (y.bad || y.ctx != d.ctx || !(y.result == 1 || y.result == 2)) = false := by
    obtain decided | decided := result <;> simp [legal, same, decided]
  simp only [HostDesc.stepResolve, head, body, named, defined, step, pending, bne_self_eq_false, beq_iff_eq, Option.isSome_none,
    Bool.not_true, Bool.false_eq_true, if_false]

end

end

/-- Settles O51: each descriptor that starts is registered, has its effect there, and ends with its status. -/
theorem contextDescriptorsComplete : Obligations.ContextDescriptorsComplete := by
  unfold Obligations.ContextDescriptorsComplete
  intro s d good known
  refine ⟨fun starts running low => ?contexts, fun starts running noCtx => ?nop, fun starts closed => ?fenced⟩
  case contexts =>
    have head := badHead_eq_false good known low
    refine ⟨?define, fun x defined once => ?delete, fun x u read clean legal defined steps closed free => ?setup, ?resolve⟩
    case define =>
      intro x legal undefined first s1 red kind r
      have served : exec (.ctxDefine d x) s = .next (Desc.atOnce s d 1 false (fun t => HostDesc.define t d x)) :=
        congrArg Host.Outcome.next (if_neg (by simp [first]))
      exact served.trans (congrArg Host.Outcome.next (atOnce_ends starts running 1 (define_creates (s := s1) head legal undefined kind)))
    case delete =>
      exact congrArg Host.Outcome.next (lasting_runs starts running (delete_begins (s := Desc.register s d _) head defined once))
    case setup =>
      exact congrArg Host.Outcome.next (atOnce_ends starts running 3
        (stepSetup_keeps (s := Desc.register s d _) head (bodyStatus_eq_none read clean) defined legal steps closed free))
    case resolve =>
      intro x y read clean legal same defined step pending s1
      have decides (result : y.result = 1 ∨ y.result = 2) := atOnce_ends starts running 4 (f := fun t => HostDesc.stepResolve t d y)
        (stepResolve_decides (s := s1) head (bodyStatus_eq_none read clean) defined legal same result step pending)
      refine ⟨fun commit => congrArg Host.Outcome.next ?_, fun undecided => congrArg Host.Outcome.next ?_⟩
      · simpa only [if_pos commit] using decides (.inl commit)
      · simpa only [if_neg (show ¬ y.result = 1 by simp [undecided])] using decides (.inr undecided)
  case nop =>
    have data : (!d.badOp) = true := by rw [known]; rfl
    have ok : (Desc.badCode d || d.ctx != 255) = false := by simp [Desc.badCode, good, known, noCtx]
    refine congrArg Host.Outcome.next ?_
    rw [data]
    exact atOnce_ends starts running 13 (by rw [if_neg (by simp [ok])])
  case fenced =>
    refine congrArg Host.Outcome.next ?_
    rw [known]
    exact atOnce_fenced starts closed 13 _

end Sys2Proof.Proofs.ContextDescriptors
end

section
/-! PROOFS. Memory keeps its canonical form (R212, R219): what a step does, read for its cells. -/

namespace Sys2Proof.Proofs.CanonicalMemory

open Sys2Proof.Machine Sys2Proof.Laws

/-- What a step can do: on an empty queue one nanosecond passes and the rest is steady from there; else the front command leaves the queue
and its meaning is steady from there. -/
theorem step_cases {s t : State} (h : step s = .next t) :
    (s.pending = [] ∧ Steady { s with ns := s.ns + 1 } t) ∨
    (∃ c rest, s.pending = c :: rest ∧ exec c { s with pending := rest } = .next t ∧ Steady { s with pending := rest } t) := by
  by_cases empty : s.pending = []
  · obtain rfl : Idle.tick s = t := Host.Outcome.next.inj ((step_nil empty).symm.trans h)
    exact .inl ⟨empty, idle_steady s⟩
  · obtain ⟨c, rest, front⟩ := List.exists_cons_of_ne_nil empty
    have runs : exec c { s with pending := rest } = .next t := (step_cons front).symm.trans h
    obtain ⟨u, answers, steady⟩ := exec_goes c { s with pending := rest }
    obtain rfl : u = t := Host.Outcome.next.inj (answers.symm.trans runs)
    exact .inr ⟨c, rest, front, runs, steady⟩

/-- Settles O4: neither the clock nor the queue is memory, and from there on a step is steady. -/
theorem stepKeepsMemoryCanonical : Obligations.StepKeepsMemoryCanonical := by
  unfold Obligations.StepKeepsMemoryCanonical
  intro s t canonical h
  obtain ⟨_, idle⟩ | ⟨_, _, _, _, command⟩ := step_cases h
  · exact idle.mem canonical
  · exact command.mem canonical

end Sys2Proof.Proofs.CanonicalMemory
end

section
/-! PROOFS. Sensors, scrubs and polls (R216, R219 to R221, R224, R369, R452, R495). -/

namespace Sys2Proof.Proofs.SensorsAndScrubs

open Sys2Proof.Machine Sys2Proof.Machine.Ops

section
variable {s : State}

/-! ## Samples (R220, R221, R369, R495) -/

/-- A package that is READY has its rails. -/
theorem powered_of_ready (ready : s.dex.state = .ready) : Sensors.powered s = true := by
  simp [Sensors.powered, ready]

/-- With the rails up, a sample refreshes the telemetry and tests the dies, then the core rails, then the alarm sources. -/
theorem sample_powered (on : s.dex.state ≠ .off) (power : Sensors.powered s = true) (x : SensorData) :
    let s1 := modPower s (fun p => { p with sample := x, telemetry := Sensors.telemetry s x })
    Sensors.sample s x =
      Alarm.alarm ((x.vcore.zip x.droopNs).zipIdx.foldl (fun acc r => Sensors.droop acc r.2 r.1.1 r.1.2)
        (x.tdie.zipIdx.foldl (fun acc r => Sensors.dieSample acc r.2 r.1) s1)) (Sensors.sources x) := by
  simp only [Sensors.sample, beq_eq_false_iff_ne.mpr on, power, Bool.not_true, Bool.false_eq_true, if_false]

/-- Below 103 °C no excursion begins or goes on, whether or not one was in progress. -/
theorem cool_not_hot {temp : Int} (cool : temp < 824) (hot : Bool) :
    (if hot then decide (824 ≤ temp) else decide (840 ≤ temp)) = false := by
  cases hot with
  | false => exact decide_eq_false (by omega)
  | true => exact decide_eq_false (by omega)

/-- A sample below 103 °C with a legal threshold sets the threshold, moves the level and ends an excursion, without a record. -/
theorem stackSample_cool {temp : Int} {tth : Nat} (lo : 680 ≤ tth) (hi : tth ≤ 792) (cool : temp < 824) (i : Nat) :
    let th : StackTherm := SMap.val {} s.mem.stackTherm i
    let th1 : StackTherm :=
      { th with tth := tth, level := Sensors.nextLevel tth th.level temp false, hot := false, hotAt := none, temp := temp }
    Sensors.stackSample s i temp tth = modMem s (fun m => { m with stackTherm := SMap.ins m.stackTherm i th1 }) := by
  have legal : decide (tth < 680 ∨ 792 < tth) = false := decide_eq_false (by omega)
  have below : ¬ (840 : Int) ≤ temp := by omega
  simp only [Sensors.stackSample, legal, cool_not_hot cool, if_neg below, Bool.or_false, Bool.false_and, Bool.false_eq_true, if_false]

/-! ## What stays too hot or too low (R369, R452) -/

/-- A stack that has been at or above 105 °C for a second is a module fault, once. -/
theorem stackPersist_raises {i a : Nat} (since : (SMap.val {} s.mem.stackTherm i : StackTherm).hotAt = some a)
    (second : a + 1000000000 ≤ now s) :
    let th : StackTherm := SMap.val {} s.mem.stackTherm i
    Sensors.stackPersist s i =
      Report.raise (modMem s (fun m => { m with stackTherm := SMap.ins m.stackTherm i { th with hotAt := none } }))
        { cls := 0x40, unit := Sensors.sensorUnit (2 + i), detail := Sensors.thermalDetail 1 i th.temp th.tth } 4 := by
  simp only [Sensors.stackPersist, since, if_pos second]

/-- A core rail below its operating minimum for more than 10 µs: a glitch raises the alarm, anything else is a module fault. -/
theorem railLow_persists {rail mv us : Nat} (power : Sensors.powered s = true) (core : rail = 4 ∨ rail = 5) (long : 10 < us)
    (low : mv < 679) :
    Sensors.railLow s rail mv us =
      if Sensors.glitch mv then Alarm.alarm s 8
      else Report.raise s
        { cls := 0x41, unit := Sensors.sensorUnit (6 + rail), detail := Sensors.voltageDetail rail mv 679 us } 4 := by
  have tested : (Sensors.powered s && (rail == 4 || rail == 5) && decide (10 < us ∧ mv < 679)) = true := by
    simp [power, core, long, low]
  rw [Sensors.railLow, if_pos tested]

/-- Within the core rails' 679 mV, only what lies below 525 mV is a glitch. -/
theorem glitch_of_low {mv : Nat} (low : mv < 679) : Sensors.glitch mv = decide (mv < 525) :=
  decide_eq_decide.mpr (by omega)

/-! ## Scrubs (R216, R218, R219, R224) -/

section
variable {a : Nat} (dram : Mem.inDram a 1 = true)
include dram

theorem dramScrub_uncorrectable :
    Sensors.dramScrub s a .uncorrectable =
      Mem.uncorrectable s (64 * (a / 64)) true { unit := Report.unitCode 8 (Mem.channelOf a) } := by
  simp [Sensors.dramScrub, dram]

/-- A scrub of an access that is not poisoned does what its code reports. -/
theorem dramScrub_unpoisoned (sound : SMap.val false s.mem.poison (a / 64) = false) {e : Ecc} (correctable : e ≠ .uncorrectable) :
    let q : Mem.Req := { unit := Report.unitCode 8 (Mem.channelOf a) }
    Sensors.dramScrub s a e =
      if e = .corrected then Mem.corrected s (64 * (a / 64)) true false q
      else if e = .parity then Mem.loseChannel s (Mem.channelOf a) (64 * (a / 64)) true q 0
      else s := by
  simp [Sensors.dramScrub, dram, sound, correctable]

end

/-- An address of the SRAM that is scrubbed: a scratchpad, a pantry or the flag store. -/
def Scrubbed (a n o : Nat) : Prop := Mem.locate a = .spad n o ∨ Mem.locate a = .pantry n o ∨ Mem.locate a = .flags n o

/-- The three stores are scrubbed alike. -/
theorem sramScrub_eq {a n o : Nat} (place : Scrubbed a n o) (e : Ecc) :
    let q : Mem.Req := { unit := Mem.unitOf a }
    Sensors.sramScrub s a e =
      if e == .uncorrectable || SMap.val false s.mem.badWord (a / 8) then Mem.badSram s (8 * (a / 8)) q
      else if e == .corrected then Mem.countCorrected s a true q
      else s := by
  obtain spad | pantry | flags := place
  · simp only [Sensors.sramScrub, spad]
  · simp only [Sensors.sramScrub, pantry]
  · simp only [Sensors.sramScrub, flags]

end

/-- Settles O42, by the operation of each command. -/
theorem sensorCommandsComplete : Obligations.SensorCommandsComplete := by
  unfold Obligations.SensorCommandsComplete
  intro s x i th
  refine ⟨fun ready => ?sample, fun temp tth low lo hi cool => ?stackSample, fun a low since second => ?stackPersist,
    fun rail mv us power core long => ?rail, fun addr dram => ?dramScrub, fun addr n o place => ?sramScrub, fun count low => ?poll⟩
  case sample =>
    exact congrArg Host.Outcome.next (sample_powered (by simp [ready]) (powered_of_ready ready) x)
  case stackSample =>
    exact congrArg Host.Outcome.next ((if_pos low).trans (stackSample_cool lo hi cool i))
  case stackPersist =>
    exact congrArg Host.Outcome.next ((if_pos low).trans (stackPersist_raises since second))
  case rail =>
    constructor
    · intro above below
      refine congrArg Host.Outcome.next ((railLow_persists power core long below).trans (if_neg ?_))
      simp [glitch_of_low below, above]
    · intro below
      refine congrArg Host.Outcome.next ((railLow_persists power core long (by omega)).trans (if_pos ?_))
      simp [glitch_of_low (show mv < 679 by omega), below]
  case dramScrub =>
    refine ⟨congrArg Host.Outcome.next (dramScrub_uncorrectable dram), fun sound => ?_⟩
    have scrubs {e : Ecc} (correctable : e ≠ .uncorrectable) := dramScrub_unpoisoned dram sound correctable
    exact ⟨congrArg Host.Outcome.next (scrubs nofun), congrArg Host.Outcome.next (scrubs nofun), congrArg Host.Outcome.next (scrubs nofun)⟩
  case sramScrub =>
    have scrubs (e : Ecc) := sramScrub_eq (s := s) place e
    refine ⟨congrArg Host.Outcome.next (scrubs .uncorrectable), fun sound => ?_⟩
    rw [sound] at scrubs
    exact ⟨congrArg Host.Outcome.next (scrubs .corrected), congrArg Host.Outcome.next (scrubs .clean)⟩
  case poll =>
    exact congrArg Host.Outcome.next (if_pos low)

end Sys2Proof.Proofs.SensorsAndScrubs
end

section
/-! PROOFS. The flag store: sets, clears, overruns, and the package reset (R254, R260, R262, R362). -/

namespace Sys2Proof.Proofs.FlagStore

open Sys2Proof.Machine Sys2Proof.Machine.Ops

/-! ## The partner's copy (R362) -/

section
variable {s : State} {q f : Nat}

/-- Reading a map of values, where only set flags are listed, after one of them is written. -/
theorem val_write (m : SMap Bool) (k j : Nat) (b : Bool) :
    SMap.val false (if b then SMap.ins m k true else SMap.del m k) j = if j = k then b else SMap.val false m j := by
  by_cases same : j = k
  · cases b <;> simp [SMap.val, same]
  · cases b <;> simp [SMap.val, SMap.look_ins_ne, SMap.look_del_ne, same]

theorem double_alone (alone : partner s q = none) : FlagOps.double s q f = s := by
  simp [FlagOps.double, alone]

/-- With a partner, both flags have the value and the trace of the flag that is doubled, and no other flag changes. -/
theorem double_paired {k : Nat} (pair : partner s q = some k) (q' f' : Nat) :
    FlagOps.value (FlagOps.double s q f) q' f' =
      (if FlagOps.key q' f' = FlagOps.key k f then FlagOps.value s q f else FlagOps.value s q' f') ∧
    FlagOps.trace (FlagOps.double s q f) q' f' =
      (if FlagOps.key q' f' = FlagOps.key k f then FlagOps.trace s q f else FlagOps.trace s q' f') := by
  constructor
  · simp only [FlagOps.double, pair, FlagOps.value, modFlags_flags, val_write]
  · simp only [FlagOps.double, pair, FlagOps.trace, modFlags_flags]
    split
    · next same => rw [same, SMap.val_ins_self]
    · next other => exact SMap.val_ins_ne _ _ _ other

theorem double_partner {k : Nat} (pair : partner s q = some k) :
    FlagOps.value (FlagOps.double s q f) k f = FlagOps.value s q f ∧ FlagOps.trace (FlagOps.double s q f) k f = FlagOps.trace s q f := by
  simpa using double_paired (f := f) pair k f

variable (s q f)

theorem double_self :
    FlagOps.value (FlagOps.double s q f) q f = FlagOps.value s q f ∧ FlagOps.trace (FlagOps.double s q f) q f = FlagOps.trace s q f := by
  cases paired : partner s q with
  | none => simp [double_alone paired]
  | some k => simpa using double_paired (f := f) paired q f

theorem double_frame : FlagOps.double s q f = { s with flags := (FlagOps.double s q f).flags } := by
  cases paired : partner s q with
  | none => rw [double_alone paired]
  | some k => simp only [FlagOps.double, paired, modFlags]

variable {s q f}

theorem value_double_other {q' f' : Nat} (other : ∀ k, partner s q = some k → FlagOps.key q' f' ≠ FlagOps.key k f) :
    FlagOps.value (FlagOps.double s q f) q' f' = FlagOps.value s q' f' := by
  cases paired : partner s q with
  | none => rw [double_alone paired]
  | some k => rw [(double_paired paired q' f').1, if_neg (other k paired)]

end

/-! ## Writes (R254, R262) -/

/-- A write of a flag: its value and its trace. -/
def write (s : State) (q f : Nat) (b : Bool) (t : FlagTrace) : State :=
  modFlags s (fun x => { x with
    vals := if b then SMap.ins x.vals (FlagOps.key q f) true else SMap.del x.vals (FlagOps.key q f)
    traces := SMap.ins x.traces (FlagOps.key q f) t })

section
variable {s : State} {q f : Nat}

theorem setFlag_of_clear (p : Party) (clear : FlagOps.value s q f = false) :
    FlagOps.setFlag s q f p = FlagOps.double (write s q f true { FlagOps.trace s q f with sig := some p, sigTime := now s }) q f := by
  simp [FlagOps.setFlag, clear, write]

theorem clearFlag_of_set (p : Party) (isSet : FlagOps.value s q f = true) :
    FlagOps.clearFlag s q f p = FlagOps.double (write s q f false { FlagOps.trace s q f with clr := some p, clrTime := now s }) q f := by
  simp [FlagOps.clearFlag, isSet, write]

theorem setFlag_overruns (p : Party) (isSet : FlagOps.value s q f = true) (policy : (FlagOps.attr s q f).policy = true) :
    FlagOps.setFlag s q f p = FlagOps.double (modFlags s (fun x => { x with
      traces := SMap.ins x.traces (FlagOps.key q f) { FlagOps.trace s q f with ovr := min 65535 ((FlagOps.trace s q f).ovr + 1) }
      ovrCount := SMap.ins x.ovrCount q (min (2 ^ 48 - 1) (SMap.val 0 x.ovrCount q + 1)) })) q f := by
  simp [FlagOps.setFlag, isSet, policy]

end

section
variable (s : State) (q f : Nat) (b : Bool) (t : FlagTrace)

theorem value_write (q' f' : Nat) :
    FlagOps.value (write s q f b t) q' f' = if FlagOps.key q' f' = FlagOps.key q f then b else FlagOps.value s q' f' :=
  val_write ..

theorem trace_write : FlagOps.trace (write s q f b t) q f = t := SMap.val_ins_self ..

/-- A write that the partner takes too: the flag and the partner's read as written, every other flag and all else as before. -/
theorem double_write (q' f' : Nat) :
    let u := FlagOps.double (write s q f b t) q f
    FlagOps.value u q f = b ∧ FlagOps.trace u q f = t ∧
    (∀ k, partner s q = some k → FlagOps.value u k f = b ∧ FlagOps.trace u k f = FlagOps.trace u q f) ∧
    (FlagOps.key q' f' ≠ FlagOps.key q f ∧ (∀ k, partner s q = some k → FlagOps.key q' f' ≠ FlagOps.key k f) →
      FlagOps.value u q' f' = FlagOps.value s q' f') ∧
    u = { s with flags := u.flags } := by
  intro u
  have written : FlagOps.value (write s q f b t) q f = b := by rw [value_write, if_pos rfl]
  obtain ⟨value, trace⟩ := double_self (write s q f b t) q f
  refine ⟨value.trans written, trace.trans (trace_write ..), fun k pair => ?_, fun ⟨own, other⟩ => ?_, double_frame (write s q f b t) q f⟩
  · obtain ⟨value', trace'⟩ := double_partner (s := write s q f b t) (f := f) pair
    exact ⟨value'.trans written, trace'.trans trace.symm⟩
  · exact (value_double_other (s := write s q f b t) other).trans (by rw [value_write, if_neg own])

end

/-- Settles O11: a set, a clear and an overrun each write the flag's record, which the partner takes too. -/
theorem flagStoreRules : Obligations.FlagStoreRules := by
  unfold Obligations.FlagStoreRules
  refine ⟨fun s q f q' f' p => ⟨fun clear => ?set, fun isSet => ?clear⟩, fun s q f q' f' p isSet policy => ?overrun⟩
  case set =>
    obtain ⟨value, trace, paired, others, frame⟩ :=
      double_write s q f true { FlagOps.trace s q f with sig := some p, sigTime := now s } q' f'
    rw [setFlag_of_clear p clear]
    exact ⟨value, by rw [trace], by rw [trace], paired, others, frame⟩
  case clear =>
    obtain ⟨value, trace, paired, others, frame⟩ :=
      double_write s q f false { FlagOps.trace s q f with clr := some p, clrTime := now s } q' f'
    rw [clearFlag_of_set p isSet]
    exact ⟨value, by rw [trace], by rw [trace], paired, others, frame⟩
  case overrun =>
    rw [setFlag_overruns p isSet policy]
    refine ⟨fun other => value_double_other other, ?_, double_frame ..⟩
    rw [(double_self ..).2, FlagOps.trace, modFlags_flags, SMap.val_ins_self]

/-! ## Package reset (R260) -/

theorem notify_flags (s : State) (kind : Nat) (data : Bytes) : (Report.notify s kind data).flags = s.flags := by
  unfold Report.notify
  split <;> rfl

/-- The reset assertion leaves the flag store as it is at reset, also where the module is failed after it. -/
theorem assertReset_flags (s : State) (failed : Bool) : (ResetOps.assertReset s failed).flags = {} := by
  cases failed with
  | false => exact notify_flags ..
  | true => exact notify_flags ..

theorem resetAssert_asserts {s : State} {q : ResetSeq} (running : s.resetSeq = some q) (stage : q.stage = 2) (ready : s.dex.state = .ready)
    (left : ResetOps.abortsLeft s q = true) : ResetOps.resetAssert s = ResetOps.assertReset (ResetOps.announceDown s) q.failed := by
  simp [ResetOps.resetAssert, running, stage, ready, left]

/-- Settles O38: the flag store after the assertion is the one of reset. -/
theorem packageResetClearsFlags : Obligations.PackageResetClearsFlags := by
  unfold Obligations.PackageResetClearsFlags
  intro s q running stage ready left
  refine ⟨_, congrArg Host.Outcome.next (resetAssert_asserts running stage ready left), fun core f => ?_⟩
  have fresh := assertReset_flags (ResetOps.announceDown s) q.failed
  simp [FlagOps.value, FlagOps.attr, FlagOps.trace, fresh]

end Sys2Proof.Proofs.FlagStore
end

section
/-! PROOFS. The Hive: pushes, takes, peeks, the commands of a queue, its record, and the scrub (R239, R240, R245 to R249, R251). -/

namespace Sys2Proof.Proofs.HiveQueues

open Sys2Proof.Machine Sys2Proof.Machine.Ops Sys2Proof.Machine.Bits

@[simp] theorem hive_setHive (s : State) (n : Nat) (h : Hive) : HiveOps.hive (HiveOps.setHive s n h) n = h := SMap.val_ins_self ..

@[simp] theorem queue_setQueue (h : Hive) (q : Nat) (x : Queue) : HiveOps.queue (HiveOps.setQueue h q x) q = x := SMap.val_ins_self ..

section
variable {s : State} {n q : Nat}

/-! ## Pushes (R247, R248) -/

/-- A queue once a write at an offset has brought it cells: in arrival mode they follow TAIL, in sequenced mode they take their places. -/
def entered (x : Queue) (off : Nat) (cs : List Cell) (k : Nat) : Queue :=
  if HiveOps.sequenced x then
    HiveOps.settle 32 { x with pend := ((HiveOps.positions x off k).zip cs).foldl (fun m p => SMap.ins m p.1 p.2) x.pend }
  else { x with held := x.held ++ cs, tail := (x.tail + k) % 4294967296 }

section
variable {off : Nat} {data : Bytes} (check : W32)

/-- A write that nothing refuses brings its cells from the pool into the queue. -/
theorem push_accepts (accepted : HiveOps.refusal (HiveOps.hive s n) (HiveOps.queue (HiveOps.hive s n) q) off data.length = none) :
    ∃ h, HiveOps.push s n q off data check = (HiveOps.setHive { s with free := s.free + data.length / 64 } n h, 0) ∧
      h.free = (HiveOps.hive s n).free - data.length / 64 ∧
      HiveOps.queue h q = entered (HiveOps.queue (HiveOps.hive s n) q) off (HiveOps.cells (HiveOps.hive s n) s.free data check)
        (data.length / 64) := by
  simp only [HiveOps.push, accepted]
  exact ⟨_, rfl, rfl, queue_setQueue ..⟩

/-- A refused write is counted. -/
theorem push_refuses {st : Nat}
    (refused : HiveOps.refusal (HiveOps.hive s n) (HiveOps.queue (HiveOps.hive s n) q) off data.length = some st) :
    HiveOps.push s n q off data check =
      (HiveOps.setHive s n { HiveOps.hive s n with refused := min 4294967295 ((HiveOps.hive s n).refused + 1) }, st) := by
  simp only [HiveOps.push, refused]

/-- The writer is answered with the status of its push. -/
theorem hivePush_answers {t : State} {st : Nat} (pushed : HiveOps.push s n q off data check = (t, st)) :
    exec (.hivePush n q off data check) s = .next (emit t (.answer st [])) :=
  congrArg (fun r : State × Nat => Host.Outcome.next (emit r.1 (.answer r.2 []))) pushed

end

/-! ## Takes and peeks (R249, R251) -/

/-- After the appends of its cycle, a read of 1 to 8 cells that the queue holds from CUR on answers them, and a take moves CUR. -/
theorem portRead_serves {k : Nat} (move : Bool) (last : Order.appended s n q = true) (enabled : (HiveOps.queue (HiveOps.hive s n) q).cap ≠ 0)
    (nonempty : 0 < k) (fits : k ≤ 8)
    (holds : k ≤ dist32 (HiveOps.queue (HiveOps.hive s n) q).tail (HiveOps.queue (HiveOps.hive s n) q).cur) :
    let h := HiveOps.hive s n
    let x := HiveOps.queue h q
    let cs := HiveOps.nextCells x k
    HiveOps.portRead s n q (64 * k) move [] =
      emit (if move then HiveOps.setHive s n (HiveOps.setQueue h q { x with cur := (x.cur + k) % 4294967296 }) else s)
        (.cells 0 (cs.flatMap (·.data)) (cs.map (·.nibble))) := by
  have whole : 64 * k / 64 = k := Nat.mul_div_cancel_left k (by decide)
  have aligned : 64 * k % 64 = 0 := Nat.mul_mod_right ..
  simp [HiveOps.portRead, HiveOps.reports, HiveOps.read, last, whole, aligned, enabled, nonempty.ne', Nat.not_lt.mpr fits, Nat.not_lt.mpr holds,
    HiveOps.bytesOf, HiveOps.nibbleList]

/-! ## Commands and the queue record (R245, R246) -/

/-- MARK, RELEASE and ADVANCE are accepted where the step protocol does not rewind the queue. -/
theorem command_of_not_stepRewind (free : HiveOps.stepRewind s (HiveOps.queue (HiveOps.hive s n) q) = false) :
    let h := HiveOps.hive s n
    HiveOps.command s n q 0x01 0 = some (HiveOps.setHive s n (HiveOps.markQueue h q)) ∧
    HiveOps.command s n q 0x03 0 = some (HiveOps.setHive s n (HiveOps.releaseQueue h q)) ∧
    HiveOps.command s n q 0x04 0 = some (HiveOps.setHive s n (HiveOps.releaseQueue (HiveOps.markQueue h q) q)) := by
  simp [HiveOps.command, free]

/-- An accepted command or record write is answered OK. -/
theorem answerTo_of_accepted {r : Option State} {t : State} (accepted : r = some t) :
    Host.Outcome.next (φ := Fault) (ρ := Refusal) (HiveOps.answerTo s r) = .next (emit t (.answer 0 [])) := by
  rw [accepted, HiveOps.answerTo]

/-- A record write to an empty queue with a legal MODE is accepted. -/
theorem config_accepts {v : W64} (empty : HiveOps.occupancy (HiveOps.queue (HiveOps.hive s n) q) = 0) (known : v.toNat / 65536 % 256 < 8)
    (legal : ¬ (v.toNat / 262144 % 2 = 1 ∧ v.toNat / 131072 % 2 = 0)) :
    let h := HiveOps.hive s n
    let x := HiveOps.queue h q
    HiveOps.config s n q v = some (HiveOps.setHive s n (HiveOps.setQueue h q
      { x with cap := v.toNat % 65536, mode := v.toNat / 65536 % 256, owner := v.toNat / 16777216 % 256, mark := x.tail,
               stail := x.tail })) := by
  have cap : field v.toNat 15 0 = v.toNat % 65536 := RegisterWrites.field_zero ..
  have mode : field v.toNat 23 16 = v.toNat / 65536 % 256 := RegisterWrites.field_eq_div_mod ..
  have owner : field v.toNat 31 24 = v.toNat / 16777216 % 256 := RegisterWrites.field_eq_div_mod ..
  have rewinds : (bit (v.toNat / 65536 % 256) 2 && !bit (v.toNat / 65536 % 256) 1) = false := by
    simp only [bit, Nat.testBit_eq_decide_div_mod_eq, Bool.and_eq_false_iff, Bool.not_eq_false', decide_eq_false_iff_not, decide_eq_true_eq]
    omega
  simp [HiveOps.config, cap, mode, owner, empty, rewinds, Nat.not_le.mpr known]

end

/-- Settles O22: an accepted push enters its cells, a refused one is counted. -/
theorem hivePushes : Obligations.HivePushes := by
  unfold Obligations.HivePushes
  refine ⟨fun s n q off data check => ?accepted, fun s n q off st data check => ?refused⟩
  case accepted =>
    intro h x k accepted
    obtain ⟨h1, pushed, pool, queued⟩ := push_accepts check accepted
    have stored : HiveOps.hive (emit (HiveOps.setHive { s with free := s.free + k } n h1) (.answer 0 [])) n = h1 := hive_setHive ..
    refine ⟨_, hivePush_answers check pushed, fun arrival => ?_, fun sequenced => ?_, ?_, rfl, rfl, rfl⟩
    · rw [stored, queued, entered, if_neg (by rw [arrival]; decide)]
    · rw [stored, queued, entered, if_pos sequenced]
    · rw [stored, pool]
  case refused =>
    intro h x refused
    exact hivePush_answers check (push_refuses check refused)

/-- Settles O23: each port read, command, record write and scrub by what its operation does. -/
theorem hiveCommandsComplete : Obligations.HiveCommandsComplete := by
  unfold Obligations.HiveCommandsComplete
  refine ⟨fun s n q k => ?reads, fun s n q v => ?commands, fun s n q cell => ⟨rfl, rfl, rfl⟩⟩
  case reads =>
    intro h x last enabled nonempty fits holds
    exact ⟨congrArg Host.Outcome.next (portRead_serves true last enabled nonempty fits holds),
      congrArg Host.Outcome.next (portRead_serves false last enabled nonempty fits holds)⟩
  case commands =>
    intro h x
    refine ⟨fun free => ?_, rfl, rfl, fun empty known legal => ?_⟩
    · obtain ⟨mark, release, advance⟩ := command_of_not_stepRewind free
      exact ⟨answerTo_of_accepted mark, answerTo_of_accepted release, answerTo_of_accepted advance⟩
    · exact answerTo_of_accepted (config_accepts empty known legal)

end Sys2Proof.Proofs.HiveQueues
end

section
/-! PROOFS. What the set-up registers read as (R324, R377 to R379, R398, R455, R463, R501, R503 to R520): the map names a word of fields for
each offset, and such a word holds its fields. -/

namespace Sys2Proof.Proofs.RegisterReads

open Sys2Proof.Machine Sys2Proof.Machine.Ops Sys2Proof.Machine.Bits Sys2Proof.Safety Sys2Proof.Laws Sys2Proof.Proofs.RegisterWrites

/-! ## Words and their fields (R11) -/

/-- The bytes of a number are those of its residue. -/
theorem le_mod (n x : Nat) : le n (x % 256 ^ n) = le n x := by
  induction n generalizing x with
  | zero => rfl
  | succ n ih =>
    have low : BitVec.ofNat 8 (x % 256 ^ (n + 1)) = BitVec.ofNat 8 x := by
      apply BitVec.eq_of_toNat_eq
      rw [BitVec.toNat_ofNat, BitVec.toNat_ofNat, Nat.pow_succ']
      exact Nat.mod_mul_right_mod x 256 (256 ^ n)
    rw [le, le, low, Nat.pow_succ', Nat.mod_mul_right_div_self, ih]

/-- A word holds its fields in whatever order they are listed. -/
theorem holds_of_perm {v : Nat} {fs gs : List (Nat × Nat × Nat)} (perm : fs.Perm gs) (holds : Holds v fs) : Holds v gs := by
  obtain ⟨bound, fields, reserved⟩ := holds
  exact ⟨bound, fun f mem => fields f (perm.mem_iff.mpr mem), fun i out => reserved i (fun f mem => out f (perm.mem_iff.mp mem))⟩

theorem holds_whole (n : Nat) : Holds (n % 2 ^ 64) [(63, 0, n)] := by
  have word : word [(63, 0, n)] = n % 2 ^ 64 := by simp [Bits.word]
  exact word ▸ word_holds [(63, 0, n)] rfl

theorem holds_toNat (v : W64) : Holds v.toNat [(63, 0, v.toNat)] := by
  have whole := holds_whole v.toNat
  rwa [Nat.mod_eq_of_lt v.isLt] at whole

/-- Entries of one width side by side are tidy. -/
theorem tidyBelow_entries {w n m : Nat} (value : Nat → Nat) (width : 0 < w) (fits : w * n ≤ m) :
    tidyBelow m ((List.range n).reverse.map (fun i => (w * i + (w - 1), w * i, value i))) = true := by
  induction n generalizing m with
  | zero => rfl
  | succ n ih =>
    rw [Nat.mul_succ] at fits
    simp only [List.range_succ, List.reverse_append, List.reverse_singleton, List.singleton_append, List.map_cons, tidyBelow, ih (Nat.le_refl _),
      Bool.and_true, decide_eq_true_eq]
    omega

/-- A packed word holds its entries, listed from the lowest up (R508). -/
theorem packed_holds (d first : Nat) (m : SMap Nat) {w n : Nat} (width : 0 < w) (fits : w * n ≤ 64) :
    Holds (Regs.packed d w n first m) ((List.range n).map (fun i => (w * i + (w - 1), w * i, SMap.val d m (first + i)))) :=
  holds_of_perm ((List.reverse_perm _).map _) (word_holds _ (tidyBelow_entries _ width fits))

/-- A word of a mask of 256 bits holds its bits (R519). -/
theorem maskWord_holds (m : BitVec 256) (w : Nat) :
    Holds (Regs.maskWord m w) ((List.range 64).map (fun i => (i, i, (m.getLsbD (64 * w + i)).toNat))) := by
  have bits (i : Nat) : (Regs.maskWord m w).testBit i = (decide (i < 64) && m.getLsbD (64 * w + i)) := by
    rw [Regs.maskWord, Nat.testBit_mod_two_pow, Nat.testBit_shiftRight, BitVec.testBit_toNat]
  refine ⟨Nat.mod_lt _ (Nat.two_pow_pos 64), fun f mem => ?field, fun i out => ?reserved⟩
  case field =>
    obtain ⟨i, inWord, rfl⟩ := List.mem_map.mp mem
    have bit : (Regs.maskWord m w).testBit i = m.getLsbD (64 * w + i) := by rw [bits, decide_eq_true (List.mem_range.mp inWord), Bool.true_and]
    rw [field, Nat.add_sub_cancel_left, Nat.pow_one, Nat.mod_eq_of_lt (Bool.toNat_lt _), ← bit, Nat.toNat_testBit, Nat.shiftRight_eq_div_pow]
  case reserved =>
    have above : ¬ i < 64 := fun inWord =>
      Nat.lt_irrefl i (or_self_iff.mp (out _ (List.mem_map.mpr ⟨i, List.mem_range.mpr inWord, rfl⟩)))
    rw [bits, decide_eq_false above, Bool.false_and]

theorem toNat_eq_ite {b : Bool} {p : Prop} [Decidable p] (h : b = true ↔ p) : b.toNat = if p then 1 else 0 := by
  cases b <;> simp_all

/-! ## Reads of the region (R14, R503, R504) -/

section
variable {s : State} {o : Nat}

theorem read_ok {v : Nat} (notMsix : Regs.isMsix o = false) (aligned : o % 8 = 0) (value : Regs.value s o = some v) :
    Regs.read s o 8 = .ok (le 8 v) := by
  simp [Regs.read, notMsix, aligned, value]

theorem read_misfit {n : Nat} (notMsix : Regs.isMsix o = false) (mapped : (Regs.value s (o - o % 8)).isSome = true)
    (misfit : n ≠ 8 ∨ o % 8 ≠ 0) : Regs.read s o n = .error 3 := by
  obtain ⟨v, value⟩ := Option.isSome_iff_exists.mp mapped
  have fit : ¬ (n = 8 ∧ o % 8 = 0) := by omega
  simp [Regs.read, notMsix, value, fit]

theorem read_unmapped (n : Nat) (notMsix : Regs.isMsix o = false) (unmapped : Regs.value s (o - o % 8) = none) :
    Regs.read s o n = .error 2 := by
  simp [Regs.read, notMsix, unmapped]

/-- Eight aligned bytes are those of a value below 2^64. -/
theorem read_lt (notMsix : Regs.isMsix o = false) (mapped : (Regs.value s (o - o % 8)).isSome = true) (aligned : o % 8 = 0) :
    ∃ v, Regs.read s o 8 = .ok (le 8 v) ∧ v < 2 ^ 64 := by
  obtain ⟨v, value⟩ := Option.isSome_iff_exists.mp mapped
  rw [aligned, Nat.sub_zero] at value
  exact ⟨v % 256 ^ 8, by rw [read_ok notMsix aligned value, le_mod], Nat.mod_lt _ (by decide)⟩

/-- An aligned offset outside the MSI-X structures reads as the fields that its value holds. -/
theorem readsAs_of_holds {v : Nat} {fs : List (Nat × Nat × Nat)} (aligned : o % 8 = 0) (place : o < 0x20000 ∨ 0x21020 ≤ o)
    (value : Regs.value s o = some v) (holds : Holds v fs) : ReadsAs s o fs :=
  ⟨v, read_ok (decide_eq_false (by omega)) aligned value, holds⟩

theorem readsAs_word {fs : List (Nat × Nat × Nat)} (aligned : o % 8 = 0) (place : o < 0x20000 ∨ 0x21020 ≤ o)
    (value : Regs.value s o = some (word fs)) (tidy : tidyBelow 64 fs = true) : ReadsAs s o fs :=
  readsAs_of_holds aligned place value (word_holds fs tidy)

end

/-- A register that stands alone: the map gives its offset a word. -/
theorem readsAs_lone {s : State} (o : Nat) {fs : List (Nat × Nat × Nat)} (value : Regs.value s o = some (word fs) := by rfl)
    (place : o % 8 = 0 ∧ (o < 0x20000 ∨ 0x21020 ≤ o) := by decide) (tidy : tidyBelow 64 fs = true := by rfl) : ReadsAs s o fs :=
  readsAs_word place.1 place.2 value tidy

/-! ## Security (R455) -/

theorem secStat_reads (s : State) : ReadsAs s 0x10
    [(63, 48, SMap.val 0 s.sec.svn 1), (47, 40, s.sec.alarms), (39, 32, min 255 (Regs.recentAlarms s)), (22, 14, s.sec.lastSource),
      (10, 8, s.sec.sessions.length), (2, 2, if ∃ p ∈ s.ctxs, p.2.jobKey.isSome = true then 1 else 0), (1, 1, s.host.secure.toNat),
      (0, 0, s.sec.attested.toNat)] := by
  rw [← toNat_eq_ite (b := s.ctxs.any (fun p => p.2.jobKey.isSome)) List.any_eq_true]
  exact readsAs_lone 0x10

/-! ## Rings (R463) -/

/-- An offset in a block of records of `w` bytes names its record and its place in it. -/
theorem record_place {o b w i j : Nat} (base : w ∣ b) (inside : j < w) (offset : o = b + w * i + j) : (o - b) / w = i ∧ o % w = j := by
  subst offset
  obtain ⟨c, rfl⟩ := base
  have pos : 0 < w := by omega
  constructor
  · rw [Nat.add_assoc, Nat.add_sub_cancel_left, Nat.mul_add_div pos, Nat.div_eq_of_lt inside, Nat.add_zero]
  · rw [← Nat.mul_add, Nat.mul_add_mod, Nat.mod_eq_of_lt inside]

section
variable {s : State}

/-- A word of a ring's registers. -/
theorem readsAs_ring {r j o : Nat} {fs : List (Nat × Nat × Nat)} (h : r < 128) (inside : j < 0x40) (aligned : j % 8 = 0)
    (offset : o = 0x10000 + 0x40 * r + j)
    (value : ∀ o, (o - 0x10000) / 0x40 = r → o % 0x40 = j → Regs.readRing s o = some (word fs)) (tidy : tidyBelow 64 fs = true) :
    ReadsAs s o fs := by
  obtain ⟨record, place⟩ := record_place (by decide) inside offset
  exact readsAs_word (by omega) (by omega) ((value_ring (by omega) (by omega)).trans (value o record place)) tidy

/-- The words of a ring. -/
theorem ring_reads {r : Nat} (h : r < 128) : let as := ReadsAs s
    let x := ring s r
    as (0x10000 + 0x40 * r) [(63, 12, x.sqBase / 4096)] ∧ as (0x10008 + 0x40 * r) [(63, 12, x.cqBase / 4096)] ∧
    as (0x10010 + 0x40 * r) [(63, 63, x.enable.toNat), (47, 40, x.vector), (39, 39, x.irqEn.toNat), (31, 16, x.coalUs), (15, 8, x.coalCnt),
      (7, 4, x.cqLog), (3, 0, x.sqLog)] ∧
    as (0x10028 + 0x40 * r) [(63, 32, x.sqHead), (31, 16, x.lost), (15, 8, x.errCode),
      (1, 1, if x.enable = false ∧ x.inProg = [] then 1 else 0), (0, 0, x.err.toNat)] := by
  intro as x
  have stopped : (!x.enable && x.inProg.isEmpty) = true ↔ x.enable = false ∧ x.inProg = [] := by simp
  rw [← toNat_eq_ite stopped]
  refine ⟨readsAs_ring h (j := 0) (by decide) rfl (by omega) ?_ rfl, readsAs_ring h (j := 8) (by decide) rfl (by omega) ?_ rfl,
    readsAs_ring h (j := 0x10) (by decide) rfl (by omega) ?_ rfl, readsAs_ring h (j := 0x28) (by decide) rfl (by omega) ?_ rfl⟩ <;>
  · intro o record place
    rw [Regs.readRing, record, place]
    rfl

end

/-! ## The fabric (R324, R508) -/

section
variable {s : State}

theorem port_reads {p : Nat} (h : p < 27) : let x := port s p
    ReadsAs s (0x40000 + 8 * p)
      [(63, 56, x.epoch), (50, 46, x.peerPort), (45, 32, x.peer), (23, 16, x.cause), (15, 8, x.flaps), (3, 0, x.state)] := by
  intro x
  refine readsAs_word (by omega) (by omega) ?_ rfl
  rw [value_fabric (by omega) (by omega)]
  simp (disch := omega) only [Regs.readLow, beq_iff_eq, ↓if_neg, ↓if_pos, Nat.add_sub_cancel_left, Nat.mul_div_cancel_left]
  rfl

/-- A word of a bank. -/
theorem readsAs_bank {b j o v : Nat} {fs : List (Nat × Nat × Nat)} (h : b < 2) (inside : j < 0x10000) (aligned : j % 8 = 0)
    (offset : o = 0x50000 + 0x10000 * b + j) (value : Regs.bankRead (Regs.bank s b) j = some v) (holds : Holds v fs) : ReadsAs s o fs := by
  obtain ⟨record, place⟩ := record_place (by decide) inside offset
  refine readsAs_of_holds (by omega) (by omega) ?_ holds
  rw [value_fabric (by omega) (by omega)]
  simp (disch := omega) only [Regs.readLow, beq_iff_eq, ↓if_neg, ↓if_pos, record, place, value]

variable (x : Bank)

theorem bankRead_detour {w : Nat} (h : w < 3) :
    Regs.bankRead x (0x10 + 8 * w) = some (Regs.packed 31 5 (min 12 (27 - 12 * w)) (12 * w) x.detour) := by
  simp (disch := omega) only [Regs.bankRead, beq_iff_eq, ↓if_neg, ↓if_pos, Nat.add_sub_cancel_left, Nat.mul_div_cancel_left]

theorem bankRead_dirs {w : Nat} (h : w < 256) : Regs.bankRead x (0x800 + 8 * w) = some (Regs.packed 0 4 16 (16 * w) x.dirs) := by
  simp (disch := omega) only [Regs.bankRead, beq_iff_eq, ↓if_neg, ↓if_pos, Nat.add_sub_cancel_left, Nat.mul_div_cancel_left]

theorem bankRead_mcast {g : Nat} (h : g < 4096) : Regs.bankRead x (0x8000 + 8 * g) = some (SMap.val 0#64 x.mcast g).toNat := by
  simp (disch := omega) only [Regs.bankRead, beq_iff_eq, ↓if_neg, ↓if_pos, Nat.add_sub_cancel_left, Nat.mul_div_cancel_left]

theorem bank_reads {b : Nat} (h : b < 2) : let as := ReadsAs s
    let x := Regs.bank s b
    as (0x50000 + 0x10000 * b) [(16, 16, x.valid.toNat), (15, 0, x.table)] ∧ as (0x50008 + 0x10000 * b) [(26, 0, x.portEn)] ∧
    (∀ w < 3, as (0x50010 + 0x10000 * b + 8 * w)
      ((List.range (min 12 (27 - 12 * w))).map (fun i => (5 * i + 4, 5 * i, SMap.val 31 x.detour (12 * w + i))))) ∧
    (∀ w < 256, as (0x50800 + 0x10000 * b + 8 * w) ((List.range 16).map (fun i => (4 * i + 3, 4 * i, SMap.val 0 x.dirs (16 * w + i))))) ∧
    (∀ g < 4096, as (0x58000 + 0x10000 * b + 8 * g) [(63, 0, (SMap.val 0#64 x.mcast g).toNat)]) := by
  intro as x
  refine ⟨?table, ?portEn, fun w hw => ?detour, fun w hw => ?dirs, fun g hg => ?mcast⟩
  case table => exact readsAs_bank h (j := 0) (by decide) rfl (by omega) rfl (word_holds _ rfl)
  case portEn => exact readsAs_bank h (j := 8) (by decide) rfl (by omega) rfl (word_holds _ rfl)
  case detour =>
    exact readsAs_bank h (by omega) (by omega) (by omega) (bankRead_detour x hw) (packed_holds 31 (12 * w) x.detour (by decide) (by omega))
  case dirs =>
    exact readsAs_bank h (by omega) (by omega) (by omega) (bankRead_dirs x hw) (packed_holds 0 (16 * w) x.dirs (by decide) (by decide))
  case mcast => exact readsAs_bank h (by omega) (by omega) (by omega) (bankRead_mcast x hg) (holds_toNat _)

end

/-! ## Remote operations, memory and the census (R264, R512, R513) -/

section
variable {s : State}

theorem rankWindow_reads {c : Nat} (h : c < 256) : ReadsAs s (0x81000 + 8 * c) [(63, 0, (SMap.val 0#64 s.remote.win c).toNat)] := by
  refine readsAs_of_holds (by omega) (by omega) ?_ (holds_toNat _)
  rw [value_mid (by omega) (by omega)]
  simp (disch := omega) only [Regs.readMid, beq_iff_eq, ↓if_neg, ↓if_pos, Nat.add_sub_cancel_left, Nat.mul_div_cancel_left]

theorem rankEntry_reads {e : Nat} (h : e < 16384) : ReadsAs s (0xA0000 + 8 * e) [(63, 0, (SMap.val 0#64 s.remote.map e).toNat)] := by
  refine readsAs_of_holds (by omega) (by omega) ?_ (holds_toNat _)
  rw [value_mid (by omega) (by omega)]
  simp (disch := omega) only [Regs.readMid, beq_iff_eq, ↓if_neg, ↓if_pos, Nat.add_sub_cancel_left, Nat.mul_div_cancel_left]

theorem therm_reads : ReadsAs s 0xC0010 ((List.range 4).flatMap (fun i => let t : StackTherm := SMap.val {} s.mem.stackTherm i
    [(16 * i + 15, 16 * i + 8, t.tth / 8), (16 * i + 3, 16 * i + 3, t.hot.toNat), (16 * i + 2, 16 * i, t.level)])) := by
  have order : ([3, 2, 1, 0] : List Nat).Perm (List.range 4) := by decide
  exact readsAs_of_holds rfl (by decide) rfl (holds_of_perm (order.flatMap_right _) (word_holds _ rfl))

theorem onDie_reads {i : Nat} (h : i < 4) : ReadsAs s (0xC0020 + 8 * i) [(31, 0, SMap.val 0 s.mem.ondie i)] := by
  refine readsAs_word (by omega) (by omega) ?_ rfl
  rw [value_mid (by omega) (by omega)]
  simp (disch := omega) only [Regs.readMid, beq_iff_eq, ↓if_neg, ↓if_pos, Nat.add_sub_cancel_left, Nat.mul_div_cancel_left]

theorem channel_reads {i : Nat} (h : i < 128) : ReadsAs s (0xC1000 + 8 * i)
    [(63, 63, (SMap.val false s.dex.lostChannels i).toNat), (31, 0, (SMap.val {} s.mem.channels i : Channel).ce)] := by
  refine readsAs_word (by omega) (by omega) ?_ rfl
  rw [value_mid (by omega) (by omega)]
  simp (disch := omega) only [Regs.readMid, beq_iff_eq, ↓if_neg, ↓if_pos, Nat.add_sub_cancel_left, Nat.mul_div_cancel_left]
  rfl

/-- A word of a census. -/
theorem readsAs_census {c j o : Nat} {fs : List (Nat × Nat × Nat)} (h : c < 256) (inside : j < 0x20) (aligned : j % 8 = 0)
    (offset : o = 0xD0000 + 0x20 * c + j)
    (value : ∀ o, 0xD0000 ≤ o → o < 0xD2000 → (o - 0xD0000) / 0x20 = c → o % 0x20 = j → Regs.readMid s o = some (word fs))
    (tidy : tidyBelow 64 fs = true) : ReadsAs s o fs := by
  obtain ⟨record, place⟩ := record_place (by decide) inside offset
  refine readsAs_word (by omega) (by omega) ?_ tidy
  rw [value_mid (by omega) (by omega), value o (by omega) (by omega) record place]

theorem census_reads {c : Nat} (h : c < 256) : let as := ReadsAs s
    let r := SMap.val (0, 0, 0) s.census c
    as (0xD0000 + 0x20 * c) [(47, 5, r.1 / 32)] ∧ as (0xD0008 + 0x20 * c) [(23, 0, r.2.1)] ∧ as (0xD0010 + 0x20 * c) [(31, 0, r.2.2)] := by
  intro as r
  refine ⟨readsAs_census h (j := 0) (by decide) rfl (by omega) ?_ rfl, readsAs_census h (j := 8) (by decide) rfl (by omega) ?_ rfl,
    readsAs_census h (j := 0x10) (by decide) rfl (by omega) ?_ rfl⟩ <;>
  · intro o lo hi record place
    simp (disch := omega) only [Regs.readMid, beq_iff_eq, ↓if_neg, ↓if_pos, record, place]
    rfl

end

/-! ## Cores, engines, masks and groups (R505, R509, R515 to R517, R519, R520) -/

section
variable {s : State}

theorem role_reads {n : Nat} (h : n < 8) : let r := Swaps.role s n
    ReadsAs s (0xE0100 + 8 * n) ([(44, 36, r.failed), (35, 32, r.spare)] ++ (List.range 8).map (fun j => (4 * j + 3, 4 * j, r.map.getD j j))) := by
  intro r
  have order : ([7, 6, 5, 4, 3, 2, 1, 0] : List Nat).Perm (List.range 8) := by decide
  refine readsAs_of_holds (by omega) (by omega) (v := Regs.arrRole s n) ?_ (holds_of_perm ((order.map _).append_left _) (word_holds _ rfl))
  rw [value_high (by omega)]
  simp (disch := omega) only [Regs.readHigh, beq_iff_eq, ↓if_neg, ↓if_pos, Nat.add_sub_cancel_left, Nat.mul_div_cancel_left]

theorem value_arrayCounter {k j o : Nat} (h : k < 72) (inside : j < 8) (offset : o = 0xE1000 + 0x40 * k + 8 * j) :
    Regs.value s o = some (Regs.arrCounter s k j) := by
  obtain ⟨record, place⟩ := record_place (by decide) (by omega) offset
  rw [value_high (by omega)]
  simp (disch := omega) only [Regs.readHigh, beq_iff_eq, ↓if_neg, ↓if_pos, record, place, Nat.mul_div_cancel_left]

/-- The counters of an array and its level (R505). -/
theorem array_reads {k : Nat} (h : k < 72) : let a : ArrayPhys := SMap.val {} s.phys k
    (∀ j < 7, ReadsAs s (0xE1000 + 0x40 * k + 8 * j) [(47, 0, SMap.val 0 a.counters j)]) ∧ ReadsAs s (0xE1038 + 0x40 * k) [(6, 0, a.level)] := by
  intro a
  constructor
  · intro j hj
    have counter : Regs.arrCounter s k j = word [(47, 0, SMap.val 0 a.counters j)] := if_neg (by rw [beq_iff_eq]; omega)
    exact readsAs_word (by omega) (by omega) ((value_arrayCounter h (by omega) rfl).trans (congrArg some counter)) rfl
  · exact readsAs_word (by omega) (by omega) (value_arrayCounter h (j := 7) (by decide) (by omega)) rfl

theorem value_registerMode {k j o : Nat} (h : k < 72) (inside : j < 0x20) (offset : o = 0xF0000 + 0x20 * k + j) :
    Regs.value s o = Regs.vecRm (RegMode.core s k) j := by
  obtain ⟨record, place⟩ := record_place (by decide) inside offset
  rw [value_high (by omega)]
  simp (disch := omega) only [Regs.readHigh, beq_iff_eq, ↓if_neg, ↓if_pos, record, place]

/-- The registers of register mode (R516). -/
theorem registerMode_reads {k : Nat} (h : k < 72) : let as := ReadsAs s
    let x := RegMode.core s k
    as (0xF0000 + 0x20 * k) [(63, 40, x.limit), (2, 2, x.fail.toNat), (1, 1, x.halted.toNat), (0, 0, x.mode.toNat)] ∧
    as (0xF0008 + 0x20 * k) [(63, 0, x.seed.toNat)] ∧ as (0xF0010 + 0x20 * k) [(47, 10, x.win / 1024)] ∧
    as (0xF0018 + 0x20 * k) [(63, 0, x.digest.toNat)] := by
  intro as x
  refine ⟨?mode, ?seed, ?win, ?digest⟩
  case mode => exact readsAs_word (by omega) (by omega) (value_registerMode h (j := 0) (by decide) (by omega)) rfl
  case seed => exact readsAs_of_holds (by omega) (by omega) (value_registerMode h (j := 8) (by decide) (by omega)) (holds_toNat _)
  case win => exact readsAs_word (by omega) (by omega) (value_registerMode h (j := 0x10) (by decide) (by omega)) rfl
  case digest => exact readsAs_of_holds (by omega) (by omega) (value_registerMode h (j := 0x18) (by decide) (by omega)) (holds_toNat _)

theorem churnNext_reads {n w : Nat} (h : n < 8) (hw : w < 8) : let m := (SMap.val {} s.churns n : Churn).next
    ReadsAs s (0x100000 + 0x40 * n + 8 * w) [(63, 32, SMap.val 0 m (2 * w + 1)), (31, 0, SMap.val 0 m (2 * w))] := by
  intro m
  obtain ⟨record, place⟩ := record_place (b := 0x100000) (w := 0x40) (i := n) (j := 8 * w) (by decide) (by omega) rfl
  refine readsAs_word (by omega) (by omega) ?_ rfl
  rw [value_high (by omega)]
  simp (disch := omega) only [Regs.readHigh, beq_iff_eq, ↓if_neg, ↓if_pos, record, place, Nat.mul_div_cancel_left]
  rfl

theorem pressNext_reads {d w : Nat} (h : d < 2) (hw : w < 8) : let m := (SMap.val {} s.presses d : Press).next
    ReadsAs s (0x100400 + 0x40 * d + 8 * w) [(63, 32, SMap.val 0 m (2 * w + 1)), (31, 0, SMap.val 0 m (2 * w))] := by
  intro m
  obtain ⟨record, place⟩ := record_place (b := 0x100400) (w := 0x40) (i := d) (j := 8 * w) (by decide) (by omega) rfl
  refine readsAs_word (by omega) (by omega) ?_ rfl
  rw [value_high (by omega)]
  simp (disch := omega) only [Regs.readHigh, beq_iff_eq, ↓if_neg, ↓if_pos, record, place, Nat.mul_div_cancel_left]
  rfl

theorem digestAccumulator_reads {a : Nat} (h : a < 16) : ReadsAs s (0x100800 + 8 * a) [(63, 0, (SMap.val 0#64 s.dacc a).toNat)] := by
  refine readsAs_of_holds (by omega) (by omega) ?_ (holds_toNat _)
  rw [value_high (by omega)]
  simp (disch := omega) only [Regs.readHigh, beq_iff_eq, ↓if_neg, ↓if_pos, Nat.add_sub_cancel_left, Nat.mul_div_cancel_left]

/-- The masks of 256 contexts (R519). -/
theorem masks_read {w : Nat} (h : w < 4) :
    ReadsAs s (0x110040 + 8 * w) ((List.range 64).map (fun i => (i, i, (s.err.redMask.getLsbD (64 * w + i)).toNat))) ∧
    ReadsAs s (0x110060 + 8 * w) ((List.range 64).map (fun i => (i, i, (s.err.weevilHold.getLsbD (64 * w + i)).toNat))) := by
  constructor <;>
  · refine readsAs_of_holds (by omega) (by omega) ?_ (maskWord_holds _ w)
    rw [value_high (by omega)]
    simp (disch := omega) only [Regs.readHigh, beq_iff_eq, ↓if_neg, ↓if_pos, Nat.add_sub_cancel_left, Nat.mul_div_cancel_left]

theorem weevilStat_reads {k : Nat} (h : k < 72) : ReadsAs s (0x110100 + 8 * k)
    [(35, 35, (Regs.unrotatable s k).toNat), (34, 34, (SMap.val false s.weevil.due k && Swaps.deferred s k).toNat),
      (33, 33, (SMap.val false s.weevil.due k).toNat), (32, 32, ((Swaps.role s (k / 9)).failed.testBit (k % 9)).toNat),
      (31, 0, min 4294967295 (Swaps.age s k / 1000000000))] := by
  refine readsAs_word (by omega) (by omega) ?_ rfl
  rw [value_high (by omega)]
  simp (disch := omega) only [Regs.readHigh, beq_iff_eq, ↓if_neg, ↓if_pos, Nat.add_sub_cancel_left, Nat.mul_div_cancel_left]
  rfl

theorem value_multicast {g w : Nat} (h : g < 4096) (inside : w < 128) : Regs.value s (0x400000 + 0x400 * g + 8 * w) =
    some (SMap.val (if w = 0 then 0xFF0000#64 else 0#64) s.remote.mcast (128 * g + w)).toNat := by
  have group : (0x400 * g + 8 * w) / 0x400 = g := by omega
  have place : (0x400 * g + 8 * w) % 0x400 / 8 = w := by omega
  rw [value_high (by omega)]
  simp (disch := omega) only [Regs.readHigh, beq_iff_eq, ↓if_neg, ↓if_pos, Nat.add_assoc, Nat.add_sub_cancel_left, Regs.mcastRead, group, place]

/-- A multicast group and its leaves (R509). -/
theorem multicast_reads {g : Nat} (h : g < 4096) :
    ReadsAs s (0x400000 + 0x400 * g) [(63, 0, (SMap.val 0xFF0000#64 s.remote.mcast (128 * g)).toNat)] ∧
    ∀ w, 1 ≤ w → w ≤ 64 → ReadsAs s (0x400000 + 0x400 * g + 8 * w) [(63, 0, (SMap.val 0#64 s.remote.mcast (128 * g + w)).toNat)] := by
  constructor
  · exact readsAs_of_holds (by omega) (by omega) (value_multicast h (w := 0) (by decide)) (holds_toNat _)
  · intro w lo hi
    have value := value_multicast (s := s) h (w := w) (by omega)
    rw [if_neg (by omega)] at value
    exact readsAs_of_holds (by omega) (by omega) value (holds_toNat _)

end

/-- What R377, R494, R498, R500, R510, R512 and R514 admit fits the fields of the registers. -/
theorem ranges_fit {s : State} (ranges : RangesOk s) : s.health.expel < 2 ^ 10 ∧ s.health.prob < 2 ^ 10 ∧ s.health.warn < 2 ^ 10 ∧
    s.remote.opTimeout < 2 ^ 27 ∧ s.remote.ordTimeout < 2 ^ 24 ∧ s.mem.scrubPeriod < 2 ^ 8 ∧ s.quantum < 2 ^ 27 ∧ s.weevil.window < 2 ^ 11 ∧
    s.weevil.count < 2 ^ 4 ∧ s.gov.limit < 2 ^ 16 ∧ s.gov.floor < 2 ^ 3 ∧ max s.gov.level s.gov.floor < 2 ^ 3 := by
  obtain ⟨health, timeouts, scrub, quantum, swapCtl, limit, -, level, floor⟩ := ranges
  simp only [healthOk, timeoutsOk, scrubOk, quantumOk, swapCtlOk, limitOk] at health timeouts scrub quantum swapCtl limit
  omega

/-- Settles O56: each register of the map reads as the word of its fields. -/
theorem registerValues : Obligations.RegisterValues := by
  unfold Obligations.RegisterValues
  intro s as
  refine ⟨fun o notMsix mapped => ⟨read_lt notMsix mapped, fun n => read_misfit notMsix mapped⟩, fun o n => read_unmapped n,
    readsAs_lone 0x00, readsAs_lone 0x08, secStat_reads s, readsAs_lone 0x18, readsAs_lone 0x20, readsAs_lone 0x28, readsAs_lone 0x30,
    fun r => ring_reads, readsAs_of_holds rfl (by decide) rfl (holds_whole _), readsAs_lone 0x30008, fun p => port_reads,
    readsAs_lone 0x40100, readsAs_lone 0x40108, fun b => bank_reads,
    readsAs_lone 0x80000, readsAs_lone 0x80008, readsAs_lone 0x80010, readsAs_lone 0x80018, readsAs_lone 0x80020, readsAs_lone 0x80028,
    readsAs_lone 0x80030, readsAs_lone 0x80038, readsAs_lone 0x80040, fun c => rankWindow_reads, fun e => rankEntry_reads,
    readsAs_lone 0xC0000, readsAs_lone 0xC0008, therm_reads, fun i => onDie_reads, fun i => channel_reads, fun c => census_reads,
    readsAs_lone 0xE0000, readsAs_lone 0xE0008, fun n => role_reads, fun k h => ?core, fun n hn w => churnNext_reads hn,
    fun d hd w => pressNext_reads hd, fun a => digestAccumulator_reads,
    readsAs_lone 0x110000, readsAs_lone 0x110008, readsAs_lone 0x110010, readsAs_lone 0x110018, readsAs_lone 0x110020, readsAs_lone 0x110028,
    fun w => masks_read, fun g => multicast_reads, ranges_fit⟩
  intro a x
  obtain ⟨counters, level⟩ := array_reads (s := s) h
  obtain ⟨mode, seed, win, digest⟩ := registerMode_reads (s := s) h
  exact ⟨counters, level, mode, seed, win, digest, weevilStat_reads h⟩

end Sys2Proof.Proofs.RegisterReads
end

section
/-! PROOFS. The module's router and its table swaps (R301, R304 to R306, R311 to R313, R319). -/

namespace Sys2Proof.Proofs.Routing

open Sys2Proof.Machine Sys2Proof.Machine.Ops Sys2Proof.Machine.Bits

/-! ## Forwarding (R301, R304 to R306, R311) -/

/-- Where the router holds a packet that came by a port, if it does. -/
def heldAs (s : State) (inPort : Option Nat) (p : Pkt) : Option (RouterHeld × Nat) :=
  s.fabric.router.zipIdx.find? (fun h => h.1.inPort == inPort && h.1.pkt == p)

section
variable {s : State} {inPort : Option Nat} {cls : RouteClass} {p : Pkt}

/-- A packet that reaches the router goes where nothing stands before it and its route has room, and is held otherwise. -/
theorem enter_goes_or_holds (s : State) (inPort : Option Nat) (cls : RouteClass) (p : Pkt) :
    (∀ t, Router.behind s.fabric.router inPort cls p = false → Router.route s inPort cls p = some t → Router.enter s inPort cls p = t) ∧
    (Router.behind s.fabric.router inPort cls p = true ∨ Router.route s inPort cls p = none →
      Router.enter s inPort cls p = Router.holdPkt s inPort cls p (Router.waitsFor s inPort cls p)) := by
  refine ⟨fun t first goes => ?_, fun waits => ?_⟩
  · simp [Router.enter, first, goes]
  · rcases waits with second | full
    · simp [Router.enter, second]
    · simp [Router.enter, full]

/-- A held packet that tries again goes on the same terms, and otherwise keeps its place. -/
theorem again_goes_or_waits (s : State) (i : Nat) (h : RouterHeld) :
    let s1 := modFabric s (fun f => { f with router := f.router.eraseIdx i })
    (∀ t, Router.behind (s.fabric.router.take i) h.inPort h.cls h.pkt = false → Router.route s1 h.inPort h.cls h.pkt = some t →
      Router.again s i h = t) ∧
    (Router.behind (s.fabric.router.take i) h.inPort h.cls h.pkt = true ∨ Router.route s1 h.inPort h.cls h.pkt = none →
      Router.again s i h = s) := by
  refine ⟨fun t first goes => ?_, fun waits => ?_⟩
  · simp [Router.again, first, goes]
  · rcases waits with second | full
    · simp [Router.again, second]
    · simp [Router.again, full]

theorem forward_injects {x : Pkt} {rest : List Pkt} (new : heldAs s none p = none) (unstopped : Router.stopped s p = false)
    (first : Router.injectable s p = true) (handed : takeFirst (fun (y : Pkt) => y == p) s.fabric.inject = some (x, rest)) :
    Router.forward s none cls p = Router.enter (modFabric s (fun f => { f with inject := rest })) none (Router.classAt none cls p) p := by
  unfold heldAs at new
  simp only [Router.forward, new, unstopped, first, handed, Bool.not_true, Bool.or_self, Bool.false_eq_true, if_false]

theorem forward_arrives {q : Nat} (new : heldAs s (some q) p = none) (up : isUp s q = true) (valid : q < 27) :
    Router.forward s (some q) cls p = Router.enter s (some q) cls p := by
  unfold heldAs at new
  simp [Router.forward, new, up, valid]

theorem forward_held {h : RouterHeld} {i : Nat} (held : heldAs s inPort p = some (h, i)) :
    Router.forward s inPort cls p = Router.again s i h := by
  unfold heldAs at held
  simp only [Router.forward, held]

/-- A packet of the adaptive class that 64 slots have not moved takes its escape route (R305). -/
theorem fallback_escapes {i a q : Nat} {h : RouterHeld} (held : s.fabric.router[i]? = some h) (adaptive : h.cls = .adaptive)
    (blocked : h.since + 64 ≤ s.ns) (still : Router.adaptiveHop s h.inPort h.pkt = .wait a)
    (escape : Router.escapeHop s h.inPort .e0 h.pkt = .go q cls) : Router.fallback s i =
      Router.putOut (modFabric s (fun f => { f with router := f.router.eraseIdx i })) h.inPort h.pkt q cls
        (Router.originOf s h.inPort h.cls h.pkt) none := by
  simp [Router.fallback, held, adaptive, blocked, still, escape]

end

/-! ## Table swaps (R312, R313, R319) -/

section
variable {s : State} {w : SwapWindow} (swap : s.fabric.swap = some w)
include swap

theorem responseStop_stops (stage : w.stage = 0) (due : w.instant + w.window / 4 ≤ now s) :
    Router.responseStop s = modFabric s (fun f => { f with rspStopped := true, swap := some { w with stage := 1 } }) := by
  simp [Router.responseStop, swap, stage, due]

theorem resume_resumes (stage : w.stage = 2) (due : w.instant + w.window ≤ now s) :
    Router.resume s = modFabric s (fun f => { f with reqStopped := false, rspStopped := false, swap := none }) := by
  simp [Router.resume, swap, stage, due]

/-- The state once the packets held are discarded, counted and reported (R312). -/
def swapped (s : State) (w : SwapWindow) : State :=
  let n := Router.heldCount s
  let s1 := modFabric (Router.discard s) (fun f =>
    { f with swap := some { w with stage := 2 }, swapDrop := min 4294967295 (f.swapDrop + n) })
  if n = 0 then s1 else Router.swapError s1 14 n

/-- A port that had reached UP by an instant is usable (R319). -/
def usableBy (instant : Nat) (x : Port) : Port :=
  { x with usable := x.usable || ((x.state == 5 || x.state == 7) && decide (x.upAt ≤ instant)) }

/-- The named bank becomes active, and the ports that were UP in time usable (R313, R319). -/
theorem activate_swaps {b : Nat} (stage : w.stage = 1) (due : w.instant + w.window / 2 ≤ now s) (bank : Router.bankWith s w.table = some b) :
    Router.activate s = modFabric (swapped s w) (fun f => { f with
      activeBank := b, activeTable := w.table, ports := SMap.mapVals (fun _ => usableBy w.instant) f.ports }) := by
  simp only [Router.activate, swap, stage, due, bank, beq_self_eq_true, decide_true, Bool.and_self, if_true, beq_iff_eq]
  rfl

/-- Where no bank carries the table, an error reports it (R313). -/
theorem activate_reports (stage : w.stage = 1) (due : w.instant + w.window / 2 ≤ now s) (noBank : Router.bankWith s w.table = none) :
    Router.activate s = Router.swapError (swapped s w) 15 0 := by
  simp only [Router.activate, swap, stage, due, noBank, beq_self_eq_true, decide_true, Bool.and_self, if_true, beq_iff_eq]
  rfl

end

/-- Settles O29, by what the router has of a packet and by the stage of a swap. -/
theorem routerCommandsComplete : Obligations.RouterCommandsComplete := by
  unfold Obligations.RouterCommandsComplete
  constructor
  · intro s p x q i cls h rest inPort known enters
    have enters_of {c : Instr} {s1 : State} {r : Option Nat} {k : RouteClass}
        (arm : exec c s = .next (Router.enter s1 r k p)) : enters c s1 r k := by
      obtain ⟨goes, holds⟩ := enter_goes_or_holds s1 r k p
      exact ⟨fun t first route => arm.trans (congrArg Host.Outcome.next (goes t first route)),
        fun waits => arm.trans (congrArg Host.Outcome.next (holds waits))⟩
    refine ⟨?injected, ?arrived, ?held, ?blocked⟩
    case injected =>
      exact fun new unstopped first handed => enters_of (congrArg Host.Outcome.next (forward_injects new unstopped first handed))
    case arrived => exact fun new up valid => enters_of (congrArg Host.Outcome.next (forward_arrives new up valid))
    case held =>
      intro held s1
      obtain ⟨goes, stays⟩ := again_goes_or_waits s i h
      have tries := forward_held (cls := cls) held
      exact ⟨fun t first route => congrArg Host.Outcome.next (tries.trans (goes t first route)),
        fun waits => congrArg Host.Outcome.next (tries.trans (stays waits))⟩
    case blocked =>
      exact fun a held adaptive blocked still escape => congrArg Host.Outcome.next (fallback_escapes held adaptive blocked still escape)
  · intro s w swap
    refine ⟨?stop, ?activate, ?resume⟩
    case stop => exact fun stage due => congrArg Host.Outcome.next (responseStop_stops swap stage due)
    case activate =>
      intro stage due n s1 s2
      exact ⟨fun b bank => congrArg Host.Outcome.next (activate_swaps swap stage due bank),
        fun noBank => congrArg Host.Outcome.next (activate_reports swap stage due noBank)⟩
    case resume => exact fun stage due => congrArg Host.Outcome.next (resume_resumes swap stage due)

end Sys2Proof.Proofs.Routing
end

section
/-! PROOFS. The combination of verdicts up the tree, and the last child's report (R331, R334). -/

namespace Sys2Proof.Proofs.VerdictCombination

open Sys2Proof.Machine Sys2Proof.Machine.Ops

/-! ## The combination (R334) -/

/-- Adding to a count already reduced modulo 2^32 is adding to the count: the COUNT field associates. -/
theorem countSum_assoc (a b c : Nat) : ((a + b) % 4294967296 + c) % 4294967296 = (a + (b + c) % 4294967296) % 4294967296 := by
  rw [Nat.mod_add_mod, Nat.add_mod_mod, Nat.add_assoc]

/-- A sum that stops at a limit associates: NONFINITE and SATURATED. -/
theorem cappedSum_assoc (limit a b c : Nat) : min limit (min limit (a + b) + c) = min limit (a + min limit (b + c)) := by
  omega

theorem combine_assoc (a b c : VoteUpMsg) : Vote.combine (Vote.combine a b) c = Vote.combine a (Vote.combine b c) := by
  simp only [Vote.combine, countSum_assoc, cappedSum_assoc, min_assoc, max_assoc, BitVec.or_assoc, BitVec.add_assoc]

theorem combine_comm {a b : VoteUpMsg} (same : a.ctx = b.ctx) : Vote.combine a b = Vote.combine b a := by
  simp only [Vote.combine, same, Nat.add_comm a.count, min_comm a.stepMin, max_comm a.stepMax, BitVec.or_comm a.fail,
    Nat.add_comm a.nonfinite, Nat.add_comm a.saturated, min_comm a.digMin, max_comm a.digMax, BitVec.add_comm a.loss]

/-- The combination takes from its second verdict every field but the context. -/
theorem combine_ctx (a b : VoteUpMsg) (c : Nat) : Vote.combine a { b with ctx := c } = Vote.combine a b := rfl

/-- Two reports combine with a verdict in either order, whatever contexts they name. -/
theorem combine_right_comm (o a b : VoteUpMsg) : Vote.combine (Vote.combine o a) b = Vote.combine (Vote.combine o b) a := by
  have swap : Vote.combine a { b with ctx := a.ctx } = Vote.combine { b with ctx := a.ctx } a := combine_comm rfl
  calc Vote.combine (Vote.combine o a) b
      = Vote.combine (Vote.combine o a) { b with ctx := a.ctx } := (combine_ctx _ _ _).symm
    _ = Vote.combine o (Vote.combine { b with ctx := a.ctx } a) := by rw [combine_assoc, swap]
    _ = Vote.combine (Vote.combine o b) a := by rw [← combine_assoc, combine_ctx o b]

/-- Reports that come in another order combine to the same verdict. -/
theorem foldl_combine_perm {l m : List VoteUpMsg} (reordered : l.Perm m) (o : VoteUpMsg) :
    l.foldl Vote.combine o = m.foldl Vote.combine o :=
  haveI : RightCommutative Vote.combine := ⟨combine_right_comm⟩
  reordered.foldl_eq o

/-! ## The last report -/

/-- Only what a change does to the context's present step counts. -/
theorem modStep_congr {s : State} {c : Nat} {x : Ctx} (defined : ctx? s c = some x) {f g : StepState → StepState}
    (agree : f x.step = g x.step) : modStep s c f = modStep s c g := by
  rw [modStep, modStep, modCtx_eq defined, modCtx_eq defined, agree]

@[simp] theorem fenced_modStep (s : State) (c : Nat) (f : StepState → StepState) : fenced (modStep s c f) = fenced s := by
  unfold modStep modCtx
  split <;> rfl

section
variable {s : State} {c : Nat} {x : Ctx} {u : StepSetupBody} (defined : ctx? s c = some x) (setup : x.step.setup = some u)
  (running : fenced s = false) (alive : x.step.aborted = false) (awaits : x.step.contributed = false)
include defined setup running alive awaits

/-- A context below the root whose own part is done and whose children have all reported contributes the combination (R331, R334). -/
theorem progress_contributes (boundary : x.step.boundary.isSome = true) (digest : x.step.digestDone = true)
    (confirmed : x.step.confirmDone = true) (inner : u.root = false)
    (all : (Vote.children u).all (fun p => (SMap.look x.step.votes p).isSome) = true) :
    Vote.progress s c = Vote.sendTree (modStep s c (fun t => { t with contributed := true })) [u.parent]
      (Vote.upFlit (Vote.combined c x.step)) := by
  have reached : x.step.boundary.isNone = false := by simpa using boundary
  simp only [Vote.progress, defined, setup, reached, digest, awaits, alive, running, confirmed, all, inner, Bool.not_true, Bool.or_self,
    Bool.false_eq_true, if_true, if_false]

/-- A child's first report in an attempt is kept, and the vote goes on (R334). -/
theorem voteUp_keeps {p : Nat} {v : VoteUpMsg} (named : v.ctx = c) (up : isUp s p = true) (child : (Vote.children u).contains p = true)
    (steps : stepped x = true) (first : SMap.look x.step.votes p = none) :
    Vote.voteUp s p v = Vote.progress (modStep s c (fun t => { t with votes := SMap.ins x.step.votes p v })) c := by
  rw [modStep_congr defined (g := fun t => { t with votes := SMap.ins t.votes p v }) rfl]
  simp only [Vote.voteUp, named, defined, setup, up, running, child, steps, alive, awaits, first, Option.isNone_none, Bool.not_false,
    Bool.and_self, if_true]

end

/-- Settles O34: the fields combine one by one, and the last report takes the vote past its wait for the children. -/
theorem verdictsCombineInAnyOrder : Obligations.VerdictsCombineInAnyOrder := by
  unfold Obligations.VerdictsCombineInAnyOrder
  refine ⟨fun a b => ?fields, fun a b => combine_comm, combine_assoc, fun o l m reordered => foldl_combine_perm reordered o, ?last⟩
  case fields => exact ⟨rfl, rfl, rfl, rfl, rfl, rfl, rfl, rfl, rfl⟩
  case last =>
    intro s p v x u defined setup up running child steps alive awaits first boundary digest confirmed inner votes all
    have kept : ctx? (modStep s v.ctx (fun t => { t with votes := votes })) v.ctx =
        some { x with step := { x.step with votes := votes } } := ctx_modCtx defined _
    have still : fenced (modStep s v.ctx (fun t => { t with votes := votes })) = false := by rw [fenced_modStep, running]
    refine congrArg Host.Outcome.next ?_
    rw [voteUp_keeps defined setup running alive awaits rfl up child steps first,
      progress_contributes kept setup still alive awaits boundary digest confirmed inner all, modStep_modStep]

end Sys2Proof.Proofs.VerdictCombination
end

section
/-! PROOFS. Copies and work of the host (R343, R470, R471, R478). -/

namespace Sys2Proof.Proofs.CopiesAndWork

open Sys2Proof.Machine Sys2Proof.Machine.Ops Sys2Proof.Machine.Bits Sys2Proof.Proofs.ContextDescriptors

/-! ## Descriptors that stay in progress (R469 to R471) -/

section
variable {s : State} {d : DescHead} (code : Desc.badCode d = false)
include code

/-- A copy into memory has nothing to check but its length, and that it names no context (R470). -/
theorem copyIn_moves {y : CopyFields} (length : HostDesc.badLength y = false) (noCtx : d.ctx = 255) (memory : y.queue = false) :
    HostDesc.copyIn s d y = (s, none) := by
  simp [HostDesc.copyIn, code, noCtx, length, memory]

/-- A copy out of memory in no context waits for its trigger (R470). -/
theorem copyOut_waits {y : CopyFields} (length : HostDesc.badLength y = false) (noCtx : d.ctx = 255) (memory : y.queue = false)
    (triggers : y.trigEn = true) (core : y.trigCore < 64) (flag : y.trigFlag < 8192) : HostDesc.copyOut s d y = (s, none) := by
  simp [HostDesc.copyOut, code, length, memory, core, flag, triggers, noCtx]

end

/-- WORK in a plain context sets its start flag as the host and waits, until its time limit if it has one (R471). -/
theorem work_starts {s : State} {d : DescHead} {w : WorkFields} {x : Ctx} (head : Desc.badHead d = false)
    (cores : w.startCore < 64 ∧ w.doneCore < 64) (flags : w.startFlag < 8192 ∧ w.doneFlag < 8192) (defined : ctx? s d.ctx = some x)
    (plain : stepped x = false) (living : x.step.dead = false) (kept : x.deleting = none) :
    HostDesc.work s d w =
      (FlagOps.arrive (modProg s d.ring d.t (fun i => { i with deadline := if w.timeout == 0 then none else some (now s + 1000 * w.timeout) }))
        w.startCore w.startFlag 1 (FlagWindow.hostParty s), none) := by
  have inRange : ¬ (64 ≤ w.startCore ∨ 64 ≤ w.doneCore ∨ 8192 ≤ w.startFlag ∨ 8192 ≤ w.doneFlag) := by omega
  have alive : dead s d.ctx = false := by simp [dead, defined, living, kept]
  simp only [HostDesc.work, head, inRange, defined, plain, alive, decide_false, Bool.or_self, Bool.false_eq_true, if_false]

/-! ## What a descriptor in progress does -/

section
variable {s : State} {r t : Nat} {i : InProgress} (found : inProg? s r t = some i)
include found

section
variable (running : fenced s = false)
include running

/-- The trigger flag of a waiting COPY_OUT is consumed (R470): the transfer of a stepped context joins the egress of its attempt (R343), any
other one is sent. -/
theorem trigger_consumes (copy : i.op = 11) (waits : Report.waiting i = true)
    (set : FlagOps.value s i.copy.trigCore i.copy.trigFlag = true) :
    let s1 := FlagOps.arrive s i.copy.trigCore i.copy.trigFlag 2 (FlagWindow.hostParty s)
    (ctx? s i.head.ctx = none → HostDesc.trigger s r t = modProg s1 r t (fun j => { j with sending := true })) ∧
    (∀ x, ctx? s i.head.ctx = some x → stepped x = true → s.ckpt.egress.length < 1024 →
      HostDesc.trigger s r t = modCkpt (modProg s1 r t (fun j => { j with triggered := some x.step.step })) (fun k =>
        { k with egress := k.egress ++ [{ ctx := i.head.ctx, step := x.step.step, ring := r, t := t }] })) := by
  refine ⟨fun noCtx => ?_, fun x defined steps room => ?_⟩
  · simp [HostDesc.trigger, found, running, copy, waits, set, noCtx]
  · simp [HostDesc.trigger, found, running, copy, waits, set, defined, steps, Nat.not_le.mpr room]

/-- A WORK whose done flag is set clears it, and ends with the status bits of its work (R471). -/
theorem workDone_ends (work : i.op = 12) (done : FlagOps.value s i.work.doneCore i.work.doneFlag = true) :
    HostDesc.workDone s r t =
      endDesc (FlagOps.arrive s i.work.doneCore i.work.doneFlag 2 (FlagWindow.hostParty s)) r t Status.ok
        [(16, le 1 (field i.bits.toNat 5 0))] := by
  simp [HostDesc.workDone, found, running, work, done]

/-- A WORK past its time limit whose done flag is clear ends with TIMEOUT (R471). -/
theorem workTimeout_ends {e : Nat} (work : i.op = 12) (limit : i.deadline = some e) (past : e ≤ now s) (turn : Order.turn 5 s = true)
    (undone : FlagOps.value s i.work.doneCore i.work.doneFlag = false) : HostDesc.workTimeout s r t = endDesc s r t Status.timeout [] := by
  simp [HostDesc.workTimeout, found, limit, running, work, Nat.not_lt.mpr past, turn, undone]

end

/-! ## The end of a transfer (R470, R478) -/

section
variable {hits : List CodeHit} (ready : hostReady s = true)
include ready

/-- The end of a COPY_IN meets the code errors of its accesses. -/
theorem transferEnd_copyIn (copy : i.op = 10) (res : CopyResult) : HostDesc.transferEnd s r t { result := res, hits := hits } =
    HostDesc.copyInEnd (Mem.inject s hits { unit := Report.unitCode 11 0, ctx := i.head.ctx }) r t i.copy res := by
  simp [HostDesc.transferEnd, found, ready, copy]

/-- A COPY_OUT that is being sent ends where no egress of its context that was committed before it is still on its way (R343). -/
theorem transferEnd_copyOut (copy : i.op = 11) (sends : i.sending = true) (res : CopyResult) :
    let u := Mem.inject s hits { unit := Report.unitCode 11 0, ctx := i.head.ctx }
    StepOps.behindEgress u i.head.ctx r t = false →
    HostDesc.transferEnd s r t { result := res, hits := hits } = HostDesc.copyOutEnd (StepOps.egressDone u r t) r t i res := by
  intro u first
  simp [HostDesc.transferEnd, found, ready, copy, sends, u, first]

end

end

/-- What a COPY_IN has read is written outside the push areas as any write of the host, whose refusal ends it. -/
theorem copyInEnd_writes (s : State) (r t : Nat) {y : CopyFields} {data : Bytes} (outside : HostDesc.pushArea y.localAddr = none)
    (whole : data.length = y.length) :
    HostDesc.copyInEnd s r t y (.read data) =
      let w := Bus.write s y.localAddr data (Bus.hostAccess s data)
      endDesc w.1 r t (if w.2 == 0 then Status.ok else Status.refused) [] := by
  simp [HostDesc.copyInEnd, HostDesc.place, outside, whole]

/-- The data of a COPY_OUT that could be read leaves, with the parts that failed marked, and the status tells of them (R478). -/
theorem copyOutEnd_writes (s : State) (r t : Nat) (i : InProgress) :
    let o := Bus.read s i.copy.localAddr i.copy.length { unit := Report.unitCode 11 0, ctx := i.head.ctx }
    ∀ p ∈ [(0, Status.ok), (4, Status.check), (5, Status.poisoned)], o.2.status = p.1 →
      HostDesc.copyOutEnd s r t i .written =
        endDesc (emit o.1 (.hostWrite i.copy.hostAddr o.2.data o.2.bad)) r t p.2 [(16, le 8 (i.triggered.getD 0))] := by
  intro o p known status
  simp only [o] at status ⊢
  fin_cases known <;> simp [HostDesc.copyOutEnd, status, Status.ok, Status.check, Status.poisoned, Status.refused]

/-- Settles O52, descriptor by descriptor: how it starts, what its trigger or flag does, and how it ends. -/
theorem copiesAndWorkComplete : Obligations.CopiesAndWorkComplete := by
  unfold Obligations.CopiesAndWorkComplete
  intro s d y good known running
  have code : Desc.badCode d = false := by simp [Desc.badCode, good, known]
  refine ⟨fun starts long short noCtx => ?copies, fun r t i found => ?progress, fun x w starts low => ?work⟩
  case copies =>
    have length : HostDesc.badLength y = false := decide_eq_false (by omega)
    exact ⟨fun memory => congrArg Host.Outcome.next (lasting_runs starts running (copyIn_moves code length noCtx memory)),
      fun memory triggers core flag => congrArg Host.Outcome.next
        (lasting_runs starts running (copyOut_waits code length noCtx memory triggers core flag))⟩
  case progress =>
    refine ⟨fun x copy waits set => ?trigger, ?copyIn, ?copyOut, fun work => ?workEnds⟩
    case trigger =>
      obtain ⟨sent, gated⟩ := trigger_consumes found running copy waits set
      exact ⟨fun noCtx => congrArg Host.Outcome.next (sent noCtx),
        fun defined steps room => congrArg Host.Outcome.next (gated x defined steps room)⟩
    case copyIn =>
      exact fun data hits ready copy memory outside whole => congrArg Host.Outcome.next
        ((transferEnd_copyIn found ready copy _).trans (copyInEnd_writes _ r t outside whole))
    case copyOut =>
      exact fun hits ready copy sends first p known status => congrArg Host.Outcome.next
        ((transferEnd_copyOut found ready copy sends _ first).trans (copyOutEnd_writes _ r t i p known status))
    case workEnds =>
      exact ⟨fun done => congrArg Host.Outcome.next (workDone_ends found running work done),
        fun e limit past turn undone => congrArg Host.Outcome.next (workTimeout_ends found running work limit past turn undone)⟩
  case work =>
    intro startCore doneCore startFlag doneFlag defined plain living kept s1
    have head := badHead_eq_false good known low
    exact congrArg Host.Outcome.next (lasting_runs starts running
      (work_starts (s := Desc.register s d _) head ⟨startCore, doneCore⟩ ⟨startFlag, doneFlag⟩ defined plain living kept))

end Sys2Proof.Proofs.CopiesAndWork
end

section
/-! PROOFS. The registers with a range (R377, R494, R498, R500, R510, R512, R514): what a step does, read for them. -/

namespace Sys2Proof.Proofs.RegisterRanges

open Sys2Proof.Machine Sys2Proof.Safety

/-- Neither the queue nor the clock is a register with a range. -/
theorem rangesOk_requeued {s : State} (ranges : RangesOk s) (pending : List Instr) (ns : Nat) :
    RangesOk { s with pending := pending, ns := ns } :=
  ⟨ranges.health, ranges.timeouts, ranges.scrub, ranges.quantum, ranges.swapCtl, ranges.governor⟩

/-- Settles O5: a nanosecond that passes and a command that leaves the queue keep the ranges, and from there on a step is steady. -/
theorem stepKeepsRegisterRanges : Obligations.StepKeepsRegisterRanges := by
  unfold Obligations.StepKeepsRegisterRanges
  intro s t ranges h
  obtain ⟨_, idle⟩ | ⟨_, rest, _, _, command⟩ := CanonicalMemory.step_cases h
  · exact idle.ranges (rangesOk_requeued ranges s.pending (s.ns + 1))
  · exact command.ranges (rangesOk_requeued ranges rest s.ns)

end Sys2Proof.Proofs.RegisterRanges
end

section
/-! PROOFS. HEALTH_CTL, and the health score with its bands (R373 to R375, R377, R379). -/

namespace Sys2Proof.Proofs.Health

open Sys2Proof.Machine Sys2Proof.Machine.Ops Sys2Proof.Machine.Bits Sys2Proof.Safety Sys2Proof.Laws

/-! ## HEALTH_CTL (R377) -/

/-- The top field of a word, when its value fits, stands above the rest (R11). -/
theorem word_cons_of_fits {n hi lo : Nat} (fits : n < 2 ^ (hi + 1 - lo)) (fs : List (Nat × Nat × Nat)) :
    word ((hi, lo, n) :: fs) = n * 2 ^ lo + word fs := by
  rw [word_cons, Nat.mod_eq_of_lt fits]

/-- HEALTH_CTL reads as its four fields, each in its place, when these fit. -/
theorem healthCtl_eq {h : HealthRegs} (warn : h.warn < 2 ^ 10) (prob : h.prob < 2 ^ 10) (expel : h.expel < 2 ^ 10) :
    Regs.healthCtl h = h.warn + h.prob * 2 ^ 16 + h.expel * 2 ^ 32 + (if h.probation = true then 2 ^ 48 else 0) := by
  have flag : h.probation.toNat * 2 ^ 48 = if h.probation = true then 2 ^ 48 else 0 := by
    cases h.probation <;> simp
  rw [Regs.healthCtl, word_cons_of_fits h.probation.toNat_lt, word_cons_of_fits expel, word_cons_of_fits prob, word_cons_of_fits warn,
    flag, show word [] = 0 from rfl]
  omega

/-- Settles O53: the rule of the register takes or refuses the fields, and what it takes reads back. -/
theorem healthControlRegister : Obligations.HealthControlRegister := by
  unfold Obligations.HealthControlRegister
  refine ⟨⟨rfl, rfl, rfl, rfl⟩, fun s v served => ?_⟩
  intro w p e
  have rule : Regs.healthWrite s v.toNat =
      if w < p ∧ p < e ∧ e ≤ 1000 then
        ({ s with health := { s.health with warn := w, prob := p, expel := e, probation := v.getLsbD 48 } }, 0)
      else (s, 3) := by
    simp only [w, p, e, BitVec.extractLsb'_toNat]
    rfl
  refine ⟨fun legal => ⟨?takes, ?reads⟩, fun illegal => ?refuses⟩
  case takes =>
    exact RegisterWrites.accepts_of_hostWrite served rfl rfl (rule.trans (if_pos legal))
  case reads =>
    obtain ⟨low, mid, top⟩ := legal
    exact congrArg some (healthCtl_eq (by simp only; omega) (by simp only; omega) (by simp only; omega))
  case refuses =>
    exact RegisterWrites.refuses_of_hostWrite served rfl rfl (rule.trans (if_neg illegal))

/-! ## The score (R373) -/

theorem score_le (s : State) : Sensors.score s ≤ 1000 := Nat.min_le_left ..

/-- What the weight of an event is scaled from: the part of the decay that lies within six hours. -/
def fraction (rest : Nat) : Nat :=
  if rest = 0 then Sensors.one else (Sensors.expNeg (rest * Sensors.ln2 / 21600000000000) 48 0 Sensors.one).toNat

/-- The decay halves with each six hours. -/
theorem decay_eq (age : Nat) : Sensors.decay age = fraction (age % 21600000000000) / 2 ^ (age / 21600000000000) := by
  simp only [Sensors.decay, fraction]
  split <;> rfl

/-- After n times six hours more the decay is halved n more times, rounded down. -/
theorem decay_later (a n : Nat) : Sensors.decay (a + 21600000000000 * n) = Sensors.decay a / 2 ^ n := by
  rw [decay_eq, decay_eq, Nat.add_mul_mod_self_left, Nat.add_mul_div_left _ _ (by decide), Nat.pow_add, Nat.div_div_eq_div_mul]

/-! ## The bands (R374) -/

theorem inBand_of_le {sc th : Nat} (reached : th ≤ sc) (held : Bool) : Sensors.inBand sc th held = true := by
  simp [Sensors.inBand, reached]

/-- A band that is held stays within 50 of its threshold. -/
theorem inBand_held {sc th : Nat} (near : th < sc + 50) : Sensors.inBand sc th true = true := by
  simp [Sensors.inBand, near]

/-- A band that is not held is entered at its threshold alone. -/
theorem not_inBand_of_lt {sc th : Nat} (below : sc < th) : Sensors.inBand sc th false = false := by
  simp [Sensors.inBand, below]

/-- A band is left 50 below its threshold, held or not. -/
theorem not_inBand_of_far {sc th : Nat} (far : sc + 50 ≤ th) (held : Bool) : Sensors.inBand sc th held = false := by
  simp [Sensors.inBand, show ¬ th ≤ sc by omega, show ¬ th < sc + 50 by omega]

theorem band_expel {h : HealthRegs} {old sc : Nat} (expel : Sensors.inBand sc h.expel (decide (3 ≤ old)) = true) :
    Sensors.band h old sc = 3 := if_pos expel

/-- A score in none of the three bands is in the band of a sound module. -/
theorem band_sound {h : HealthRegs} {old sc : Nat} (expel : Sensors.inBand sc h.expel (decide (3 ≤ old)) = false)
    (prob : Sensors.inBand sc h.prob (decide (2 ≤ old)) = false) (warn : Sensors.inBand sc h.warn (decide (1 ≤ old)) = false) :
    Sensors.band h old sc = 0 := by
  simp [Sensors.band, expel, prob, warn]

/-! ## The update (R373 to R375, R379) -/

/-- A READY module without overdue tests takes the score, its band and the recommendation; a new band is posted and reported. -/
theorem update_ready {s : State} (ready : s.dex.state = .ready) (current : Sensors.overdue s = s) :
    let sc := Sensors.score s
    let b := Sensors.band s.health s.dex.band sc
    let r := Sensors.recommend s.health b
    let s1 := modDex s (fun d => { d with score := sc, band := b, recommend := r, standing := min 1023 (Sensors.standing s) })
    Sensors.update s =
      if b == s.dex.band then s1
      else Report.notify ((Sensors.hostRings s1).foldl (fun acc q => postCq acc q false
        { kind := Status.kBand, body := [(16, le 1 b), (17, le 1 r), (18, le 2 sc)] }) s1) 2 (le 1 b ++ le 1 r ++ le 2 sc) := by
  simp only [Sensors.update, ready, beq_self_eq_true, if_true, current]
  rfl

theorem flush_on {s : State} (on : s.dex.state ≠ .off) : Sensors.flush s = modDex s (fun d => { d with nvEvents := d.events }) :=
  if_neg (by simpa using on)

/-- Settles O43: the update by whether the band changes, the decay by its halving, and the bands by where the score lies. -/
theorem healthScoreRules : Obligations.HealthScoreRules := by
  unfold Obligations.HealthScoreRules
  refine ⟨fun s ready current => ?commands, score_le, fun a n => ?decay, fun h old sc ok => ?bands⟩
  case commands =>
    intro sc b r s1
    have updates := update_ready ready current
    exact ⟨fun same => congrArg Host.Outcome.next (updates.trans (if_pos (by simpa using same))),
      fun changed => congrArg Host.Outcome.next (updates.trans (if_neg (by simpa using changed))),
      congrArg Host.Outcome.next (flush_on (by simp [ready]))⟩
  case decay =>
    rw [decay_later]
    exact ⟨Nat.div_mul_le_self .., Nat.lt_mul_of_div_lt (Nat.lt_succ_self _) (Nat.two_pow_pos n)⟩
  case bands =>
    obtain ⟨low, mid, _⟩ := ok
    refine ⟨fun reached => band_expel (inBand_of_le reached _), fun held near => ?_, fun sound below => ?_, fun far => ?_⟩
    · subst held
      exact band_expel (inBand_held near)
    · subst sound
      exact band_sound (not_inBand_of_lt (by omega)) (not_inBand_of_lt (by omega)) (not_inBand_of_lt below)
    · exact band_sound (not_inBand_of_far (by omega) _) (not_inBand_of_far (by omega) _) (not_inBand_of_far far _)

end Sys2Proof.Proofs.Health
end

section
/-! PROOFS. The reset sequence and its escalations (R354, R382, R385, R387, R397). What raising an error and fencing the module leave of
what the sequence is decided by is said through one view of the state. -/

namespace Sys2Proof.Proofs.ResetSequence

open Sys2Proof.Machine Sys2Proof.Machine.Ops Sys2Proof.Machine.Bits

/-! ## What the sequence is decided by -/

/-- The management state, what RST_STAT tells of the last reset (R398), the sequence that runs, and fabric time. -/
structure ResetView where
  state : MgmtState
  lastCause : Nat
  lastClass : Nat
  seq : Option ResetSeq
  time : Nat

/-- What the reset sequence is decided by, read off a state. -/
def view (s : State) : ResetView := ⟨s.dex.state, s.dex.lastCause, s.dex.lastClass, s.resetSeq, now s⟩

/-- A fold of an operation that leaves the view leaves it. -/
theorem view_foldl {α : Type} {f : State → α → State} (keeps : ∀ s x, view (f s x) = view s) (l : List α) (s : State) :
    view (l.foldl f s) = view s := by
  induction l generalizing s with
  | nil => rfl
  | cons x l ih => exact (ih _).trans (keeps s x)

theorem view_ite {p : Prop} [Decidable p] {s t u : State} (yes : view t = view s) (no : view u = view s) :
    view (if p then t else u) = view s := by
  split
  · exact yes
  · exact no

/-! ## Completion entries and messages -/

theorem view_signal (s : State) (v : Nat) : view (signal s v) = view s := view_ite rfl rfl

theorem view_writeCq (s : State) (r : Nat) (e : CqEntry) : view (writeCq s r e) = view s :=
  view_ite (view_signal ..) rfl

theorem view_putCq (s : State) (r : Nat) (e : CqEntry) (ok : Bool) : view (putCq s r e ok) = view s :=
  view_ite (view_writeCq ..) rfl

theorem view_postCq (s : State) (r : Nat) (isDesc : Bool) (e : CqEntry) (ok : Bool) : view (postCq s r isDesc e ok) = view s :=
  view_ite rfl (view_ite (view_putCq ..) (view_ite rfl (view_ite rfl rfl)))

@[simp] theorem view_postCtx (s : State) (c : Nat) (e : CqEntry) : view (postCtx s c e) = view s := by
  unfold postCtx
  split
  · exact view_postCq ..
  · rfl

theorem view_fetch (s : State) (r : Nat) (ok : Bool) : view (fetch s r ok) = view s :=
  view_ite rfl (view_ite rfl rfl)

theorem view_endDesc (s : State) (r t status : Nat) (body : List (Nat × Bytes)) : view (endDesc s r t status body) = view s := by
  simp only [endDesc]
  split
  · rfl
  · exact (view_fetch ..).trans (view_ite rfl (view_postCq ..))

theorem view_sendControls (s : State) (ps : List Nat) (b : Bytes) : view (sendControls s ps b) = view s :=
  view_foldl (f := fun acc p => sendControl acc p b) (fun _ _ => rfl) ..

theorem view_notify (s : State) (kind : Nat) (data : Bytes) : view (Report.notify s kind data) = view s :=
  view_ite rfl rfl

/-! ## Raising an error (R354, R359) -/

@[simp] theorem view_addEvent (s : State) (w : Nat) : view (Report.addEvent s w) = view s := view_ite rfl rfl

@[simp] theorem view_modStep (s : State) (c : Nat) (f : StepState → StepState) : view (modStep s c f) = view s := by
  unfold modStep modCtx
  split <;> rfl

/-- The log and the controller's copies of it are no part of the view. -/
theorem view_logged (s : State) (r : ErrRec) (records nvRecords : Dexhorn → List ErrRec) :
    view (modDex (Report.logRec s r) (fun d => { d with records := records d, nvRecords := nvRecords d })) = view s := rfl

@[simp] theorem view_record (s : State) (r : ErrRec) : view (Report.record s r) = view s := by
  simp only [Report.record, view_postCtx]
  exact view_ite ((view_notify ..).trans (view_logged ..)) (view_logged ..)

/-- An error whose effect is module fault (4) or module failed (5) is recorded, and then triggers the reset sequence from a state that
agrees in what the sequence is decided by (R354, R382). -/
theorem raise_triggers (s : State) (r : ErrRec) (failed : Bool) : ∃ u, view u = view s ∧
    Report.raise s r (if failed = true then 5 else 4) = Report.trigger u 1 1 r.cls failed := by
  cases failed <;>
  · refine ⟨_, ?_, rfl⟩
    split <;> simp [Report.setFail]

/-! ## The fence (R385, R386) -/

theorem view_fenceHeld (s : State) : view (Report.fenceHeld s) = view s :=
  view_foldl (f := fun acc (h : Held) => answer acc h.pkt 6) (fun _ _ => rfl) ..

theorem view_fenceHost (s : State) : view (Report.fenceHost s) = view s :=
  view_foldl (fun _ _ => view_endDesc ..) ..

/-- The fence starts the sequence given and changes nothing else that the sequence is decided by. -/
theorem view_fence (s : State) (q : ResetSeq) : view (Report.fence s q) = { view s with seq := some q } :=
  (view_fenceHost _).trans ((view_fenceHeld _).trans (view_sendControls ..))

/-- A trigger at a READY module with no sequence running starts one now, and is told in RST_STAT (R385, R398). -/
theorem view_trigger {s : State} (ready : s.dex.state = .ready) (noReset : s.resetSeq = none) (abort cause cls : Nat) (failed : Bool) :
    view (Report.trigger s abort cause cls failed) =
      ⟨.ready, cause, cls, some { td := now s, stage := 1, cause := abort, failed := failed, ta := 0 }, now s⟩ := by
  rw [Management.trigger_fences ready noReset, view_fence, ← ready]
  rfl

/-- An error of effect module fault or module failed at such a module starts the sequence (R354, R382). -/
theorem view_raise {s : State} (ready : s.dex.state = .ready) (noReset : s.resetSeq = none) (r : ErrRec) (failed : Bool) :
    view (Report.raise s r (if failed = true then 5 else 4)) =
      ⟨.ready, 1, r.cls, some { td := now s, stage := 1, cause := 1, failed := failed, ta := 0 }, now s⟩ := by
  obtain ⟨u, same, triggers⟩ := raise_triggers s r failed
  have time : now u = now s := congrArg ResetView.time same
  rw [triggers, view_trigger ((congrArg ResetView.state same).trans ready) ((congrArg ResetView.seq same).trans noReset), time]

/-! ## The stages of the sequence (R385, R387) and its escalation (R397) -/

section
variable {s : State} {q : ResetSeq}

theorem drainEnd_ends (running : s.resetSeq = some q) (stage : q.stage = 1) (turn : Order.turn 5 s = true)
    (drained : RemoteOps.draining s = false ∨ q.td + 100000 ≤ now s) : ResetOps.drainEnd s = ResetOps.endDrain s q := by
  simp [ResetOps.drainEnd, running, stage, turn, drained]

/-- The announcements leave RST_STAT, so that the reset tells the trigger's cause and class. -/
theorem assertReset_announced (s : State) : ResetOps.assertReset (ResetOps.announceDown s) false =
    Report.notify (Report.packageReset (ResetOps.announceDown s) s.dex.lastCause s.dex.lastClass) 1 [2] := by
  have same : view (ResetOps.announceDown s) = view s := view_sendControls ..
  have cause : (ResetOps.announceDown s).dex.lastCause = s.dex.lastCause := congrArg ResetView.lastCause same
  have cls : (ResetOps.announceDown s).dex.lastClass = s.dex.lastClass := congrArg ResetView.lastClass same
  rw [← cause, ← cls]
  rfl

/-- A sequence whose first steps have not ended 150 µs past their start is escalated to the package reset, in a removal as in READY. -/
theorem sequenceTimeout_escalates (running : s.resetSeq = some q) (stage : q.stage = 1) (past : q.td + 150000 ≤ now s) :
    (s.dex.state = .ready → ResetOps.sequenceTimeout s = ResetOps.assertReset (ResetOps.watchdog s) q.failed) ∧
    (s.dex.state = .removing → ResetOps.sequenceTimeout s = ResetOps.removalReset (ResetOps.watchdog s)) := by
  constructor <;> intro state <;> simp [ResetOps.sequenceTimeout, running, stage, past, state]

/-- Bring-up that has not ended 13 s past the reset assertion is escalated to the cold cycle. -/
theorem readyTimeout_cycles (bringup : s.dex.state = .bringup) (first : s.dex.coldCycle = 0)
    (past : s.dex.assertedAt + 13000000000 ≤ s.ns) : ResetOps.readyTimeout s = ResetOps.coldCycle (ResetOps.watchdog s) 1 0x23 := by
  simp [ResetOps.readyTimeout, bringup, first, past]

/-- The rails return a second after they were removed, which is the reset assertion (R383, R484). -/
theorem offEnd_asserts (bringup : s.dex.state = .bringup) (off : s.dex.coldCycle = 1) (past : s.dex.coldAt + 1000000000 ≤ s.ns) :
    ResetOps.offEnd s = Report.assertion s 2 := by
  simp [ResetOps.offEnd, bringup, off, past]

/-- A cold cycle that has not ended 19 s past the rails' return is escalated to the failed module. -/
theorem coldTimeout_raises (bringup : s.dex.state = .bringup) (again : s.dex.coldCycle = 2)
    (past : s.dex.assertedAt + 19000000000 ≤ s.ns) :
    ResetOps.coldTimeout s = Report.raise s { cls := 0x23, unit := Report.unitCode 13 0, aux := 5 } 5 := by
  simp [ResetOps.coldTimeout, bringup, again, past]

end

/-- Settles O37: the trigger by what it leaves in view, each stage and each deadline by its operation. -/
theorem resetCommandsComplete : Obligations.ResetCommandsComplete := by
  unfold Obligations.ResetCommandsComplete
  intro s q cls failed
  refine ⟨fun ready noReset => ?trigger, fun running stage turn drained => ?drain, fun running stage ready left whole => ?assert,
    fun running stage ready past => ?ready, fun running stage removing past => ?removing, fun bringup => ?bringup⟩
  case trigger =>
    have after := view_raise ready noReset { cls := cls, unit := Report.unitCode 13 0 } failed
    exact ⟨_, rfl, rfl, congrArg ResetView.seq after, congrArg ResetView.lastCause after, congrArg ResetView.lastClass after⟩
  case drain =>
    exact congrArg Host.Outcome.next (drainEnd_ends running stage turn drained)
  case assert =>
    have asserts := FlagStore.resetAssert_asserts running stage ready left
    rw [whole] at asserts
    exact congrArg Host.Outcome.next (asserts.trans (assertReset_announced s))
  case ready =>
    exact congrArg Host.Outcome.next ((sequenceTimeout_escalates running stage past).1 ready)
  case removing =>
    exact congrArg Host.Outcome.next ((sequenceTimeout_escalates running stage past).2 removing)
  case bringup =>
    exact ⟨fun first past => congrArg Host.Outcome.next (readyTimeout_cycles bringup first past),
      fun off past => ⟨_, congrArg Host.Outcome.next (offEnd_asserts bringup off past), rfl, rfl, rfl, rfl, rfl⟩,
      fun again past => congrArg Host.Outcome.next (coldTimeout_raises bringup again past)⟩

end Sys2Proof.Proofs.ResetSequence
end

section
/-! PROOFS. The queue, the clock, the outputs and the free values of a step, and the state after reset (the machine as a whole). -/

namespace Sys2Proof.Proofs.MachineSteps

open Sys2Proof.Machine Sys2Proof.Safety Sys2Proof.Laws

/-- Settles O1: both states have the command at the front of their queue. -/
theorem stepRunsFrontCommand : Obligations.StepRunsFrontCommand := by
  unfold Obligations.StepRunsFrontCommand
  exact fun s c rest => ⟨step_cons rfl, step_cons (s := s.enqueueFront c) rfl⟩

/-- Every command answers a next state. -/
theorem exec_answers (c : Instr) (s : State) : ∃ t, exec c s = .next t := by
  obtain ⟨t, answers, _⟩ := exec_goes c s
  exact ⟨t, answers⟩

/-- With a command waiting a step is that command, which answers; with none it is the idle nanosecond. -/
theorem step_answers (s : State) : ∃ t, step s = .next t := by
  cases queue : s.pending with
  | nil => exact ⟨_, step_nil queue⟩
  | cons c rest =>
    rw [step_cons queue]
    exact exec_answers c _

/-- Settles O2: the idle nanosecond is steady from the next nanosecond on, so that it leaves the empty queue and moves the clock by one. -/
theorem everyCommandAnswersNextState : Obligations.EveryCommandAnswersNextState := by
  unfold Obligations.EveryCommandAnswersNextState
  refine ⟨exec_answers, step_answers, fun s empty => ?_⟩
  have idle := idle_steady s
  exact ⟨_, step_nil empty, idle.pending.trans empty, idle.ns⟩

/-- Settles O3: what a step does before its steady part is to move the clock on an empty queue, or else to take the front command away. -/
theorem queueClockAndOutputsStep : Obligations.QueueClockAndOutputsStep := by
  unfold Obligations.QueueClockAndOutputsStep
  intro s t h
  obtain ⟨empty, idle⟩ | ⟨c, rest, front, _, command⟩ := CanonicalMemory.step_cases h
  · refine ⟨?_, ?_, idle.out, idle.free⟩
    · simpa [empty] using idle.pending
    · simpa [empty] using idle.ns
  · refine ⟨?_, ?_, command.out, command.free⟩
    · simpa [front] using command.pending
    · simpa [front] using command.ns

/-- Every register with a range holds a value of its range at reset (R377, R494, R498, R500, R510, R512, R514). -/
theorem rangesOk_reset : RangesOk State.reset := by
  constructor <;> simp [healthOk, timeoutsOk, scrubOk, quantumOk, swapCtlOk, governorOk, limitOk, State.reset]

/-- Settles O6: reset lists no byte of memory, no command and no output. -/
theorem resetMeetsInvariants : Obligations.ResetMeetsInvariants := by
  unfold Obligations.ResetMeetsInvariants
  exact ⟨rfl, rangesOk_reset, rfl, rfl⟩

end Sys2Proof.Proofs.MachineSteps
end

section
/-! PROOFS. REM_OP_TIMEOUT and REM_ORD_TIMEOUT (R510). -/

namespace Sys2Proof.Proofs.RemoteTimeouts

open Sys2Proof.Machine Sys2Proof.Machine.Ops Sys2Proof.Machine.Bits

section
variable {s : State} {v : W64} {n : Nat}

/-- The rule of REM_OP_TIMEOUT takes a TIMEOUT in its range and at least twice the other. -/
theorem opTimeoutWrite_eq (field : (v.extractLsb' 0 27).toNat = n) : Regs.opTimeoutWrite s v.toNat =
    if 200 ≤ n ∧ n ≤ 100000 ∧ 2 * s.remote.ordTimeout ≤ n then ({ s with remote := { s.remote with opTimeout := n } }, 0) else (s, 3) := by
  have low : Bits.field v.toNat 26 0 = n := by rw [← field]; simp [RegisterWrites.field_zero]
  simp only [Regs.opTimeoutWrite, low]
  by_cases legal : 200 ≤ n ∧ n ≤ 100000 ∧ 2 * s.remote.ordTimeout ≤ n
  · rw [if_pos legal, if_neg (by omega)]
    rfl
  · rw [if_neg legal, if_pos (by omega)]

/-- The rule of REM_ORD_TIMEOUT takes a TIMEOUT in its range and at most half the other. -/
theorem ordTimeoutWrite_eq (field : (v.extractLsb' 0 24).toNat = n) : Regs.ordTimeoutWrite s v.toNat =
    if 10 ≤ n ∧ n ≤ 10000 ∧ 2 * n ≤ s.remote.opTimeout then ({ s with remote := { s.remote with ordTimeout := n } }, 0) else (s, 3) := by
  have low : Bits.field v.toNat 23 0 = n := by rw [← field]; simp [RegisterWrites.field_zero]
  simp only [Regs.ordTimeoutWrite, low]
  by_cases legal : 10 ≤ n ∧ n ≤ 10000 ∧ 2 * n ≤ s.remote.opTimeout
  · rw [if_pos legal, if_neg (by omega)]
    rfl
  · rw [if_neg legal, if_pos (by omega)]

/-- A register whose one field stands at its lowest bit reads as what the field holds, when it fits. -/
theorem word_low {hi : Nat} (fits : n < 2 ^ (hi + 1)) : word [(hi, 0, n)] = n := by
  rw [Health.word_cons_of_fits fits]
  simp [word]

end

/-- Settles O54: each register's rule takes or refuses the field, and what it takes reads back. -/
theorem remoteTimeoutRegisters : Obligations.RemoteTimeoutRegisters := by
  unfold Obligations.RemoteTimeoutRegisters
  refine ⟨⟨rfl, rfl⟩, fun s v served => ?_⟩
  intro a b
  have opRule := opTimeoutWrite_eq (s := s) (v := v) (n := a) rfl
  have ordRule := ordTimeoutWrite_eq (s := s) (v := v) (n := b) rfl
  refine ⟨fun legal => ⟨?takesOp, ?readsOp⟩, fun illegal => ?refusesOp, fun legal => ⟨?takesOrd, ?readsOrd⟩, fun illegal => ?refusesOrd⟩
  case takesOp => exact RegisterWrites.accepts_of_hostWrite served rfl rfl (opRule.trans (if_pos legal))
  case readsOp => exact congrArg some (word_low (v.extractLsb' 0 27).isLt)
  case refusesOp => exact RegisterWrites.refuses_of_hostWrite served rfl rfl (opRule.trans (if_neg illegal))
  case takesOrd => exact RegisterWrites.accepts_of_hostWrite served rfl rfl (ordRule.trans (if_pos legal))
  case readsOrd => exact congrArg some (word_low (v.extractLsb' 0 24).isLt)
  case refusesOrd => exact RegisterWrites.refuses_of_hostWrite served rfl rfl (ordRule.trans (if_neg illegal))

end Sys2Proof.Proofs.RemoteTimeouts
end

section
/-! PROOFS. The power governor (R498 to R500, R528). -/

namespace Sys2Proof.Proofs.PowerGovernor

open Sys2Proof.Machine Sys2Proof.Machine.Ops

section
variable {g : Governor}

theorem power_above (above : g.limit * 10 * g.samples < g.sum) : Governors.power g = (min 7 (g.level + 1), 0) := by
  simp [Governors.power, above]

theorem power_within (notAbove : g.sum ≤ g.limit * 10 * g.samples) (notBelow : (g.limit - 25) * 10 * g.samples ≤ g.sum) :
    Governors.power g = (g.level, 0) := by
  simp [Governors.power, Nat.not_lt.mpr notAbove, Nat.not_lt.mpr notBelow]

/-- A period 25 W below the limit is not above it. -/
theorem not_above_of_below (below : g.sum < (g.limit - 25) * 10 * g.samples) : ¬ g.limit * 10 * g.samples < g.sum := by
  have : (g.limit - 25) * 10 * g.samples ≤ g.limit * 10 * g.samples := by gcongr; omega
  omega

theorem power_tenth_below (some_samples : 0 < g.samples) (below : g.sum < (g.limit - 25) * 10 * g.samples) (nine : 9 ≤ g.below)
    (above_zero : 0 < g.level) : Governors.power g = (g.level - 1, 0) := by
  simp [Governors.power, not_above_of_below below, some_samples, below, nine, above_zero]

theorem power_early_below (some_samples : 0 < g.samples) (below : g.sum < (g.limit - 25) * 10 * g.samples) (early : g.below < 9) :
    Governors.power g = (g.level, g.below + 1) := by
  have counted : min 10 (g.below + 1) = g.below + 1 := by omega
  simp [Governors.power, not_above_of_below below, some_samples, below, Nat.not_le.mpr early, counted]

end

section
variable {s : State} (on : Sensors.powered s = true)
include on

theorem sample_adds (w : Nat) :
    Governors.sample s w = { s with gov := { s.gov with sum := s.gov.sum + w, samples := s.gov.samples + 1 } } := if_pos on

/-- A die at 100 °C raises the floor by one, a millisecond after its last move. -/
theorem floorStep_rises (hot : s.power.sample.tdie.any (fun x => decide (800 ≤ x)) = true) (due : s.gov.floorAt + 1000000 ≤ s.ns) :
    Governors.floorStep s = { s with gov := { s.gov with floor := min 7 (s.gov.floor + 1), floorAt := s.ns } } := by
  have sampled : s.power.sample.tdie.isEmpty = false := by
    cases dies : s.power.sample.tdie with
    | nil => simp [dies] at hot
    | cons => rfl
  simp only [Governors.floorStep, on, sampled, hot, due]
  rfl

/-- Dies at 97 °C or below lower it by one, ten milliseconds after its last move. -/
theorem floorStep_falls (sampled : s.power.sample.tdie ≠ []) (cool : s.power.sample.tdie.all (fun x => decide (x ≤ 776)) = true)
    (due : s.gov.floorAt + 10000000 ≤ s.ns) :
    Governors.floorStep s = { s with gov := { s.gov with floor := s.gov.floor - 1, floorAt := s.ns } } := by
  have notHot : s.power.sample.tdie.any (fun x => decide (800 ≤ x)) = false := by
    simp only [List.all_eq_true, List.any_eq_false, decide_eq_true_eq] at cool ⊢
    intro x die
    have := cool x die
    omega
  simp only [Governors.floorStep, on, List.isEmpty_eq_false_iff.mpr sampled, notHot, cool, due]
  rfl

end

/-- Settles O44: the period's end by where its sum lies, the thermal floor by its hottest die. -/
theorem governorCommandsComplete : Obligations.GovernorCommandsComplete := by
  unfold Obligations.GovernorCommandsComplete
  intro s w on
  refine ⟨congrArg Host.Outcome.next (sample_adds on w), fun due => ?period, fun hot due => congrArg Host.Outcome.next (floorStep_rises on hot due),
    fun sampled cool due => congrArg Host.Outcome.next (floorStep_falls on sampled cool due)⟩
  case period =>
    have ends : exec .governingPeriodEnd s = .next (Governors.periodEnd s) := rfl
    rw [Governors.periodEnd, on, decide_eq_true due] at ends
    refine ⟨_, ends, rfl, fun above => ?_, fun notAbove notBelow => ?_, fun some_samples below nine above_zero => ?_,
      fun some_samples below early => ?_, rfl, rfl, rfl, rfl, rfl, rfl, rfl, rfl⟩
    · exact Prod.mk.inj (power_above above)
    · exact Prod.mk.inj (power_within notAbove notBelow)
    · exact Prod.mk.inj (power_tenth_below some_samples below nine above_zero)
    · exact Prod.mk.inj (power_early_below some_samples below early)

end Sys2Proof.Proofs.PowerGovernor
end

section
/-! PROOFS. ABORT, its record in the seen table, and QUIESCED (R389 to R392). -/

namespace Sys2Proof.Proofs.AbortBroadcast

open Sys2Proof.Machine Sys2Proof.Machine.Ops

section
variable {s : State}

/-- A new ABORT on a port that is UP is recorded, relayed while it has hops left, and applied where it stands then; one that carries RESET
gives its origin a new generation first (R390, R391). -/
theorem receive_new {p : Nat} {a : AbortMsg} (up : isUp s p = true) (new : AbortOps.seenBy s a = false) :
    AbortOps.receive s p a =
      let s1 := { s with fabric := { s.fabric with seen := ((a.sender, a.ctx, a.time, now s) :: s.fabric.seen).take 1024 } }
      let s2 := if a.hops = 0 then s1 else sendControls s1 ((upPorts s1).filter (· != p)) (AbortOps.flit { a with hops := a.hops - 1 })
      AbortOps.applyHere
        (if a.reset = true then modRemote s2 (fun r => { r with peerGen := SMap.ins r.peerGen a.origin ((a.originGen + 1) % 256) }) else s2) a := by
  rw [AbortOps.receive, up, new]
  simp only [beq_iff_eq]
  rfl

theorem seenExpiry_drops {i : Nat} {k : Nat × Nat × Nat × Nat} (held : s.fabric.seen[i]? = some k) (past : k.2.2.2 + 1000000 ≤ now s) :
    AbortOps.seenExpiry s i = { s with fabric := { s.fabric with seen := s.fabric.seen.eraseIdx i } } := by
  simp only [AbortOps.seenExpiry, held, past, if_true]
  rfl

theorem quiesced_posts {c : Nat} {x : Ctx} (defined : ctx? s c = some x) (due : x.step.quiesceDue = true)
    (quiet : AbortOps.quiet s c x = true) (running : fenced s = false) :
    AbortOps.quiesced s c = postCtx (modStep s c (fun t => { t with quiesceDue := false })) c
      { kind := Status.kQuiesced, body := AbortOps.quiescedBody x.step } := by
  simp only [AbortOps.quiesced, defined, due, quiet, running]
  rfl

end

/-- Settles O36, by the branch that each command's hypotheses leave. -/
theorem abortCommandsComplete : Obligations.AbortCommandsComplete := by
  unfold Obligations.AbortCommandsComplete
  intro s p a
  refine ⟨fun up new => ?message, fun i k held past => congrArg Host.Outcome.next (seenExpiry_drops held past),
    fun c x defined due quiet running => congrArg Host.Outcome.next (quiesced_posts defined due quiet running)⟩
  case message =>
    intro s1 s2
    have arrives := congrArg (Host.Outcome.next (φ := Fault) (ρ := Refusal)) (receive_new up new)
    refine ⟨fun reset => arrives.trans ?_, fun noReset => arrives.trans ?_⟩
    · simp only [reset, if_true, s1, s2]
    · simp only [noReset, Bool.false_eq_true, if_false, s1, s2]

end Sys2Proof.Proofs.AbortBroadcast
end

section
/-! PROOFS. The host link: host resets, the link's going down and coming up, and IDE streams (R387, R449, R460, R480, R487, R531). -/

namespace Sys2Proof.Proofs.HostPortLink

open Sys2Proof.Machine Sys2Proof.Machine.Ops Sys2Proof.Laws Sys2Proof.Proofs.Management

/-! ## Host resets (R460, R531) -/

section
variable {s : State}

/-- The reset sequence that a host reset begins: its ABORTs have CAUSE 8, and RST_STAT tells cause 2 (R389, R398). -/
def fencedByHost (s : State) : State :=
  Report.fence { s with dex := { s.dex with lastCause := 2, lastClass := 0 } } { td := now s, stage := 1, cause := 8, failed := false, ta := 0 }

theorem hostReset_fences (ready : s.dex.state = .ready) (noReset : s.resetSeq = none) : HostLink.hostReset s = fencedByHost s :=
  trigger_fences ready noReset 8 2 0 false

theorem overLink_fences (up : s.host.linkUp = true) (ready : s.dex.state = .ready) (noReset : s.resetSeq = none) :
    HostLink.overLink s = fencedByHost s :=
  (if_pos up).trans (hostReset_fences ready noReset)

theorem perstAssert_fences (ready : s.dex.state = .ready) (noReset : s.resetSeq = none) (high : s.power.perst = false) :
    HostLink.perstAssert s = fencedByHost { s with power := { s.power with perst := true } } := by
  rw [HostLink.perstAssert, if_pos (by simp [ready, high])]
  exact hostReset_fences ready noReset

/-- Outside READY only the pin changes (R531). -/
theorem perstAssert_pin (notReady : s.dex.state ≠ .ready) : HostLink.perstAssert s = { s with power := { s.power with perst := true } } :=
  if_neg (by simp [notReady])

theorem linkUp_comes_up (ready : s.dex.state = .ready) (high : s.power.perst = false) (down : s.host.linkUp = false)
    (notSecure : s.host.secure = false) (noReset : s.resetSeq = none) :
    HostLink.linkUp s = { s with host := { s.host with linkUp := true } } := by
  rw [HostLink.linkUp, if_pos (by simp [ready, high, down, fenced, noReset])]
  exact if_neg (by simp [notSecure])

end

/-! ## IDE streams (R449) -/

/-- A stream that has just been marked Secure makes some stream Secure. -/
theorem any_ins_true (m : SMap Bool) (k : Nat) : (SMap.ins m k true).any (fun p => p.2) = true := by
  induction m with
  | nil => rfl
  | cons p rest ih =>
    simp only [SMap.ins]
    split
    · simp
    · split
      · simp
      · simp [ih]

section
variable {s : State} {stream : Nat}

/-- The first stream to become Secure lets out what was held for the host. -/
theorem streamState_secures {key : BitVec 256} (keyed : SMap.look s.host.ideKeys stream = some key)
    (going : SMap.val false s.host.ideGo stream = true) (up : s.host.linkUp = true) (notSecure : s.host.secure = false) :
    Spdm.streamState s stream true =
      Spdm.flushHost { s with host := { s.host with ideOn := SMap.ins s.host.ideOn stream true, secure := true } } := by
  have turnsOn : (true && ((SMap.look s.host.ideKeys stream).isSome && SMap.val false s.host.ideGo stream) && s.host.linkUp) = true := by
    simp [keyed, going, up]
  simp only [Spdm.streamState, turnsOn, any_ins_true, notSecure, Bool.not_false, Bool.and_self, if_true]
  rfl

/-- When the only Secure stream leaves that state, the descriptors in progress are fenced. -/
theorem streamState_fences (secure : s.host.secure = true) (only : s.host.ideOn = [(stream, true)]) :
    Spdm.streamState s stream false =
      Report.fenceHost { s with host := { s.host with ideOn := SMap.ins s.host.ideOn stream false, secure := false } } := by
  have none_on : (SMap.ins s.host.ideOn stream false).any (fun p => p.2) = false := by simp [only, SMap.ins]
  simp only [Spdm.streamState, Bool.false_and, none_on, secure, Bool.not_false, Bool.not_true, Bool.and_self, Bool.false_eq_true, if_false,
    if_true]
  rfl

/-- A key-management message in a session is carried out and acknowledged there, sealed. -/
theorem ideKm_answers {h : SpdmHead} {id : Nat} {x : Session} {m : IdeKm} {t : State} (served : Spdm.served s h.i3c = true)
    (session : h.session = some id) (finished : Spdm.session? s id true = some x) (effect : Spdm.ideKm s h stream m = (t, 0x7E, [])) :
    exec (.ideKmMessage h stream m) s = .next (Spdm.sealed t x [5, 0x7E]) :=
  congrArg Host.Outcome.next ((spdm_runIn served session finished _).trans (by rw [effect]; rfl))

/-- Inside a session, after the negotiation, keys of one of the two streams are programmed, or set to go. -/
theorem ideKm_programs {h : SpdmHead} {id : Nat} (negotiated : s.sec.negotiated = 7) (session : h.session = some id) (low : stream < 2)
    (key : BitVec 256) : Spdm.ideKm s h stream (.keyProg key) =
      ({ s with host := { s.host with ideKeys := SMap.ins s.host.ideKeys stream key } }, 0x7E, []) := by
  simp only [Spdm.ideKm, Spdm.inside, Spdm.after, negotiated, session, Nat.not_le.mpr low, beq_self_eq_true, if_true, if_false]
  rfl

theorem ideKm_sets_go {h : SpdmHead} {id : Nat} (negotiated : s.sec.negotiated = 7) (session : h.session = some id) (low : stream < 2)
    (keyed : (SMap.look s.host.ideKeys stream).isSome = true) : Spdm.ideKm s h stream .keySetGo =
      ({ s with host := { s.host with ideGo := SMap.ins s.host.ideGo stream true } }, 0x7E, []) := by
  simp only [Spdm.ideKm, Spdm.inside, Spdm.after, negotiated, session, Nat.not_le.mpr low, keyed, beq_self_eq_true, if_true, if_false]
  rfl

end

/-- Settles O48: the resets by their trigger, the streams by what the change leaves Secure. -/
theorem hostLinkCommandsComplete : Obligations.HostLinkCommandsComplete := by
  unfold Obligations.HostLinkCommandsComplete
  intro s stream id key h x reset
  refine ⟨fun ready noReset high => congrArg Host.Outcome.next (perstAssert_fences ready noReset high),
    fun notReady => congrArg Host.Outcome.next (perstAssert_pin notReady), rfl, ?resets, rfl,
    fun ready high down notSecure noReset => congrArg Host.Outcome.next (linkUp_comes_up ready high down notSecure noReset),
    fun low => ⟨fun keyed going up notSecure => ?secures, fun secure only => ?leaves, fun served negotiated session finished => ?message⟩⟩
  case resets =>
    intro c among up ready noReset
    have fences : Host.Outcome.next (HostLink.overLink s) = (.next (reset s) : Host.Outcome State Fault Refusal) :=
      congrArg Host.Outcome.next (overLink_fences up ready noReset)
    simp only [List.mem_cons, List.not_mem_nil, or_false] at among
    obtain rfl | rfl | rfl | rfl := among <;> exact fences
  case secures =>
    exact congrArg Host.Outcome.next ((if_pos low).trans (streamState_secures keyed going up notSecure))
  case leaves =>
    exact congrArg Host.Outcome.next ((if_pos low).trans (streamState_fences secure only))
  case message =>
    exact ⟨ideKm_answers served session finished (ideKm_programs negotiated session low key),
      fun keyed => ideKm_answers served session finished (ideKm_sets_go negotiated session low keyed)⟩

end Sys2Proof.Proofs.HostPortLink
end

section
/-! PROOFS. The security alarm (R438, R452 to R456). -/

namespace Sys2Proof.Proofs.SecurityAlarm

open Sys2Proof.Machine Sys2Proof.Machine.Ops

section
variable {s : State} {bits : Nat}

/-- An alarm ends the shard writer's items, erases the keys and is counted (R453 to R455). -/
def counted (s : State) (bits : Nat) : State := Alarm.count (Alarm.eraseKeys (Alarm.endItems s)) bits

/-- The third alarm in 24 hours is recorded with effect 5, one before it with effect 6 (R454). -/
def recorded (s : State) (bits : Nat) (third : Bool) : State := Alarm.recordAlarm (counted s bits) bits (if third = true then 5 else 6)

/-- An alarm with a source, outside OFF, is counted and recorded, and then goes by the management state it met. -/
theorem alarms_by_state (on : s.dex.state ≠ .off) (source : 0 < bits) :
    Alarm.alarm s bits =
      let third := decide (3 ≤ Alarm.recent (counted s bits))
      let s2 := recorded s bits third
      match s.dex.state with
      | .ready => Alarm.sequence s2 third
      | .bringup => if third = true then Report.declareFailed s2 else Report.packageReset s2 5 0x50
      | .removing => modDex s2 (fun d => { d with removal := d.removal.map (fun r => { r with failed := r.failed || third }) })
      | .standby | .safe => if third = true then Report.declareFailed s2 else s2
      | .off | .failed => s2 := by
  rw [Alarm.alarm, if_neg (by simp [on, Nat.ne_of_gt source])]
  rfl

theorem alarms_of_source (low : bits < 512) : exec (.securityAlarm bits) s = .next (Alarm.alarm s bits) :=
  congrArg (fun b => Host.Outcome.next (Alarm.alarm s b)) (Nat.mod_eq_of_lt low)

/-- In READY the alarm runs the reset sequence, which fails the module at the third (R453, R454). -/
theorem alarms_ready (source : 0 < bits) (ready : s.dex.state = .ready) :
    Alarm.alarm s bits =
      let third := decide (3 ≤ Alarm.recent (counted s bits))
      Alarm.sequence (recorded s bits third) third := by
  rw [alarms_by_state (by simp [ready]) source, ready]

/-- In STANDBY and SAFE there is nothing to reset, and the third alarm fails the module at once (R454). -/
theorem alarms_standby (source : 0 < bits) (rest : s.dex.state = .standby ∨ s.dex.state = .safe) {third : Bool}
    (count : decide (3 ≤ Alarm.recent (counted s bits)) = third) :
    Alarm.alarm s bits = if third = true then Report.declareFailed (recorded s bits third) else recorded s bits third := by
  obtain state | state := rest <;> rw [alarms_by_state (by simp [state]) source, state, count]

/-- The third alarm in a removal lets it end in FAILED (R454, R502). -/
theorem alarms_removing_third (source : 0 < bits) (removing : s.dex.state = .removing) (third : 3 ≤ Alarm.recent (counted s bits)) :
    Alarm.alarm s bits =
      modDex (recorded s bits true) (fun d => { d with removal := d.removal.map (fun r => { r with failed := true }) }) := by
  rw [alarms_by_state (by simp [removing]) source, removing, decide_eq_true third]
  simp only [Bool.or_true]

/-- A second after the reset assertion the check of an alarm's source goes by whether it is still active, and by the cold cycle (R454). -/
theorem persist_eq (raised : s.sec.alarmSince = some bits) (bringup : s.dex.state = .bringup) (powered : s.dex.coldCycle ≠ 1)
    (past : s.dex.assertedAt + 1000000000 ≤ s.ns) (active : Bool) :
    Alarm.persist s active =
      if active = false then { s with sec := { s.sec with alarmSince := none } }
      else if s.dex.coldCycle = 0 then ResetOps.coldCycle s 5 0x50
      else Report.declareFailed (Alarm.recordAlarm s bits 5) := by
  have due : (s.dex.state == .bringup && s.dex.coldCycle != 1 && decide (s.dex.assertedAt + 1000000000 ≤ s.ns)) = true := by
    simp [bringup, powered, past]
  simp only [Alarm.persist, raised, due, if_true, Bool.not_eq_true', beq_iff_eq]
  rfl

/-- In READY the images are checked, and one that fails is a source of the alarm (R438, R452). -/
theorem reverify_ready (ready : s.dex.state = .ready) (dexhornOk imagesOk : Bool) :
    Alarm.reverify s dexhornOk imagesOk = Alarm.alarm s ((if dexhornOk then 0 else 128) + (if imagesOk then 0 else 256)) :=
  if_pos (by simp [ready])

theorem alarms_without_source : Alarm.alarm s 0 = s := if_pos (by simp)

end

/-- Settles O39: the alarm by the state it meets, its check by what is still active, and the images by which of them fails. -/
theorem alarmCommandsComplete : Obligations.AlarmCommandsComplete := by
  unfold Obligations.AlarmCommandsComplete
  intro s
  refine ⟨?ready, ?unpowered,
    fun bits raised bringup past => ⟨fun powered => ?gone, fun first => ?cycles, fun again => ?fails⟩, fun ready => ⟨?sound, ?dexhorn, ?images⟩⟩
  case ready =>
    intro bits ready source low s1 third
    exact (alarms_of_source low).trans (congrArg Host.Outcome.next (alarms_ready source ready))
  case unpowered =>
    intro bits source low s1
    refine ⟨fun rest => ⟨fun third => ?third, fun notThird => ?early⟩, fun removing third => ?removing⟩
    case third =>
      exact (alarms_of_source low).trans
        (congrArg Host.Outcome.next ((alarms_standby source rest (decide_eq_true third)).trans (if_pos rfl)))
    case early =>
      exact (alarms_of_source low).trans
        (congrArg Host.Outcome.next ((alarms_standby source rest (decide_eq_false (Nat.not_le.mpr notThird))).trans (if_neg Bool.false_ne_true)))
    case removing =>
      exact (alarms_of_source low).trans (congrArg Host.Outcome.next (alarms_removing_third source removing third))
  case gone => exact congrArg Host.Outcome.next (persist_eq raised bringup powered past false)
  case cycles =>
    exact congrArg Host.Outcome.next ((persist_eq raised bringup (by simp [first]) past true).trans (by simp [first]))
  case fails =>
    exact congrArg Host.Outcome.next ((persist_eq raised bringup (by simp [again]) past true).trans (by simp [again]))
  case sound => exact congrArg Host.Outcome.next ((reverify_ready ready true true).trans alarms_without_source)
  case dexhorn => exact congrArg Host.Outcome.next (reverify_ready ready false true)
  case images => exact congrArg Host.Outcome.next (reverify_ready ready true false)

end Sys2Proof.Proofs.SecurityAlarm
end

section
/-! PROOFS. Input power: its losses and lockouts, excursions, and the breaker's trip (R482, R483, R489, R524, R532). -/

namespace Sys2Proof.Proofs.InputPower

open Sys2Proof.Machine Sys2Proof.Machine.Ops

section
variable {s : State}

theorem inputValid_applies (off : s.dex.state = .off) (unlocked : s.power.overLock = false) (present : s.power.present = true) :
    Powering.inputValid s = { s with power := { s.power with inputOk := true } } :=
  if_pos (by simp [off, unlocked, present])

/-- In a lockout, or before the presence contact is made, the input does not become valid (R482, R532). -/
theorem inputValid_waits (held : s.power.overLock = true ∨ s.power.present = false) : Powering.inputValid s = s :=
  if_neg (by obtain h | h := held <;> simp [h])

/-- A loss of every supply leaves no age: it counts from the present powered time (R365). -/
theorem age_powerLoss (s : State) (k : Nat) : Swaps.age (Powering.powerLoss s) k = 0 := Nat.sub_self _

/-- The pin of the presence contact, and the loss of input where the module holds work (R532). -/
theorem presenceBreak_eq (s : State) : Powering.presenceBreak s =
    let gone := { s with power := { s.power with present := false } }
    if Powering.removable s.dex.state = true then gone else Powering.powerLoss gone := rfl

/-! ## Excursions (R524) -/

/-- An excursion that no record tells of yet is recorded, once it has lasted a millisecond. -/
theorem excursion_records {mv us : Nat} (on : s.dex.state ≠ .off) (out : 44000 ≤ mv ∧ mv < 48000 ∨ 60000 < mv ∧ mv ≤ 63000)
    (long : 1000 ≤ us) (new : s.power.excursionAt = none) :
    Powering.excursion s mv us = Report.raise { s with power := { s.power with excursionAt := some s.ns } }
      { cls := 0x41, unit := Sensors.sensorUnit 6,
        detail := Sensors.voltageDetail 0 mv (if mv < 48000 then 48000 else 60000) us } 0 := by
  simp only [Powering.excursion, new]
  exact if_pos (by simp [on, out, long])

/-- One that began before its last record has no other within the second. -/
theorem excursion_silent {mv us t : Nat} (last : s.power.excursionAt = some t) (within : s.ns < t + 1000000000)
    (same : s.ns ≤ t + 1000 * us) : Powering.excursion s mv us = s := by
  simp only [Powering.excursion, last]
  exact if_neg (by simp [within, same])

/-! ## The breaker (R483) -/

/-- The trip's record, its health events, and the message that tells of it. -/
def tripped (s : State) (mv : Nat) : State :=
  let r := Report.fill s { cls := 0x41, unit := Sensors.sensorUnit 6, detail := Sensors.voltageDetail 0 mv 54000 0 } 4 false
  let s1 := Report.addEvent (Report.addEvent (Report.record s r) 80) 300
  Report.notify { s1 with power := { s1.power with trips := s.dex.powered :: s1.power.trips, excursionAt := some s.ns } } 6 (Report.recBytes r)

/-- A trip in READY makes a cold cycle, or FAILED where another lies within 24 hours of powered time. -/
theorem breakerTrip_ready (ready : s.dex.state = .ready) (mv : Nat) :
    Powering.breakerTrip s mv =
      if s.power.trips.any (fun t => decide (s.dex.powered < t + 86400000000000)) = true then Report.declareFailed (tripped s mv)
      else ResetOps.coldCycle (tripped s mv) 1 0x41 := by
  have notRemoving : ¬ (s.dex.state == .removing) = true := by simp [ready]
  simp only [Powering.breakerTrip, SensorsAndScrubs.powered_of_ready ready, if_neg notRemoving, Bool.not_true, Bool.false_eq_true, if_false]
  rfl

end

/-- Settles O45, by the branch that each command's hypotheses leave. -/
theorem inputPowerCommandsComplete : Obligations.InputPowerCommandsComplete := by
  unfold Obligations.InputPowerCommandsComplete
  intro s mv us
  refine ⟨fun off unlocked present => congrArg Host.Outcome.next (inputValid_applies off unlocked present),
    fun held => congrArg Host.Outcome.next (inputValid_waits held), rfl, rfl, rfl, rfl, rfl, rfl, rfl, rfl, age_powerLoss s,
    ⟨fun works => ?loses, fun holdsNone => ?keeps⟩,
    fun on out long new => congrArg Host.Outcome.next (excursion_records on out long new),
    fun t last within same => congrArg Host.Outcome.next (excursion_silent last within same), ?trip⟩
  case loses => exact congrArg Host.Outcome.next ((presenceBreak_eq s).trans (if_neg (by simp [works])))
  case keeps => exact congrArg Host.Outcome.next ((presenceBreak_eq s).trans (if_pos holdsNone))
  case trip =>
    intro ready r s1 s2
    refine ⟨fun first => ?first, fun second => ?second⟩
    case first => exact congrArg Host.Outcome.next ((breakerTrip_ready ready mv).trans (if_neg (by simp [first])))
    case second =>
      exact congrArg Host.Outcome.next ((breakerTrip_ready ready mv).trans (if_pos (by simpa using second)))

end Sys2Proof.Proofs.InputPower
end

section
/-! PROOFS. Hot removal (R454, R488, R502). -/

namespace Sys2Proof.Proofs.HotRemoval

open Sys2Proof.Machine Sys2Proof.Machine.Ops

section
variable {s : State} {r : Removal}

/-- A graceful request in READY is held and told (R488, R502). -/
theorem request_waits (none_yet : s.dex.removal = none) (ready : s.dex.state = .ready) (wait : Nat) :
    Powering.request s false wait = Report.notify
      (modDex s (fun d => { d with removal := some { force := false, since := s.ns, wait := wait, running := false } })) 1 [3] := by
  simp only [Powering.request, none_yet, ready]
  rfl

/-- The module enters REMOVING with a removal that runs. -/
def removing (s : State) (r : Removal) : State :=
  Report.enterState { s with dex := { s.dex with removal := some { r with running := true } } } .removing

theorem waitingRemoval_some (requested : s.dex.removal = some r) (waits : r.running = false) (ready : s.dex.state = .ready) :
    Powering.waitingRemoval s = some r := by
  simp [Powering.waitingRemoval, requested, waits, ready]

/-- A removal that begins fences a module that has contexts (R385, R488). -/
theorem startRemoval_eq (running : fenced s = false) (r : Removal) : Powering.startRemoval s r =
    if s.ctxs.isEmpty = true then removing s r
    else Report.fence (removing s r) { td := now s, stage := 1, cause := 8, failed := false, ta := 0 } := by
  rw [Powering.startRemoval, if_neg (by simp [running])]
  rfl

theorem removalStart_starts (waiting : Powering.waitingRemoval s = some r) (due : r.force = true ∨ s.ctxs = []) :
    Powering.removalStart s = Powering.startRemoval s r := by
  simp only [Powering.removalStart, waiting]
  exact if_pos (by simpa using due)

theorem waitExpiry_starts (waiting : Powering.waitingRemoval s = some r) (limited : r.wait ≠ 0)
    (past : r.since + 1000000000 * r.wait ≤ s.ns) : Powering.waitExpiry s = Powering.startRemoval s { r with force := true } := by
  simp only [Powering.waitExpiry, waiting]
  exact if_pos (by simp [limited, past])

section
variable (isRemoving : s.dex.state = .removing) (running : s.dex.removal = some r)
include isRemoving running

/-- Once its first step is over, the links announce their going down and the host port stops (R488). -/
theorem removalStep_announces (first : r.step = 1) (done : Powering.stepOneOver s = true) :
    Powering.removalStep s = Powering.nextStep (HostLink.linkDown (ResetOps.announceDown s)) 3 := by
  simp only [Powering.removalStep, isRemoving, running, first, done, if_true]

theorem removalStep_records (third : r.step = 3) :
    Powering.removalStep s = Powering.nextStep (modDex s (fun d => { d with nvEvents := d.events, nvRecords := d.records })) 4 := by
  simp only [Powering.removalStep, isRemoving, running, third]

theorem removalStep_stops (fourth : r.step = 4) :
    Powering.removalStep s = Powering.nextStep (modPower (Report.railsOff s .removing) (fun p => { p with rails := .falling })) 5 := by
  simp only [Powering.removalStep, isRemoving, running, fourth]

/-- Once the rails have fallen the module is SAFE, or FAILED after a third alarm (R454, R488). -/
theorem safe_ends (last : r.step = 5) : Powering.safe s =
    let s1 := { s with power := { s.power with rails := .off }, dex := { s.dex with removal := none } }
    if r.failed = true then Report.declareFailed s1 else Report.enterState s1 .safe := by
  simp only [Powering.safe, isRemoving, running, last]
  rfl

end

end

/-- Settles O47, by the request that waits and by the step that the sequence has reached. -/
theorem removalCommandsComplete : Obligations.RemovalCommandsComplete := by
  unfold Obligations.RemovalCommandsComplete
  intro s r
  refine ⟨fun none_yet ready => congrArg Host.Outcome.next (request_waits none_yet ready 120), ?starts, ?steps⟩
  case starts =>
    intro requested waits ready running go stop
    have waiting := waitingRemoval_some requested waits ready
    refine ⟨fun empty => ?empty, fun defined force => ?force, fun defined limited past => ?expired⟩
    case empty =>
      exact congrArg Host.Outcome.next
        ((removalStart_starts waiting (.inr empty)).trans ((startRemoval_eq running r).trans (if_pos (by simp [empty]))))
    case force =>
      exact congrArg Host.Outcome.next
        ((removalStart_starts waiting (.inl force)).trans ((startRemoval_eq running r).trans (if_neg (by simpa using defined))))
    case expired =>
      exact congrArg Host.Outcome.next
        ((waitExpiry_starts waiting limited past).trans ((startRemoval_eq running _).trans (if_neg (by simpa using defined))))
  case steps =>
    intro isRemoving running on
    refine ⟨removalStep_announces isRemoving running, removalStep_records isRemoving running, removalStep_stops isRemoving running,
      fun fifth => ?safe⟩
    case safe =>
      intro s1
      exact ⟨fun sound => congrArg Host.Outcome.next ((safe_ends isRemoving running fifth).trans (if_neg (by simp [sound]))),
        fun failed => congrArg Host.Outcome.next ((safe_ends isRemoving running fifth).trans (if_pos failed))⟩

end Sys2Proof.Proofs.HotRemoval
end

section
/-! PROOFS. Bring-up: the controller's boot, its phases, and a rail that does not regulate (R435, R484 to R487). -/

namespace Sys2Proof.Proofs.BringUp

open Sys2Proof.Machine Sys2Proof.Machine.Ops

/-! ## The controller boots (R435, R484) -/

section
variable {s : State} (off : s.dex.state = .off) (input : s.power.inputOk = true)
include off input

/-- Without its firmware or the root secret the controller boots into FAILED. -/
theorem boot_fails {firmwareOk pufOk : Bool} (bad : firmwareOk = false ∨ pufOk = false) :
    Powering.boot s firmwareOk pufOk = Report.enterState s .failed := by
  rw [Powering.boot, if_pos (by simp [off, input]), if_pos (by simpa using bad)]

/-- With both it boots into STANDBY, and goes on with AUTOSTART where the module is present. -/
theorem boot_standby : Powering.boot s true true =
    let s1 := Sensors.update (Report.enterState s .standby)
    if (s1.dex.autostart && s1.power.present) = true then Powering.enableRails s1 else s1 := by
  rw [Powering.boot, if_pos (by simp [off, input])]
  rfl

end

/-- A message to the subscriber changes what has left the module, and nothing else. -/
theorem notify_frame (s : State) (kind : Nat) (data : Bytes) :
    Report.notify s kind data = { s with out := (Report.notify s kind data).out } := by
  unfold Report.notify
  split <;> rfl

theorem enterState_frame (s : State) (st : MgmtState) :
    Report.enterState s st = { modDex s (fun d => { d with state := st }) with out := (Report.enterState s st).out } := notify_frame ..

/-- The rails are enabled by a reset assertion with no cause, which is told. -/
theorem enableRails_frame (s : State) :
    Powering.enableRails s = { Report.packageReset s 0 0 with out := (Powering.enableRails s).out } := notify_frame ..

/-! ## The rails (R485) -/

section
variable {s : State} (bringup : s.dex.state = .bringup) (powered : s.dex.coldCycle ≠ 1)
include bringup powered

theorem railTimeout_sticks {rail g n : Nat} (group : Powering.railOrder.findIdx? (fun l => l.contains rail) = some g)
    (rising : s.power.rails = .rising n) (mv : Nat) :
    Powering.railTimeout s rail mv = Report.raise { s with power := { s.power with rails := .stuck g } }
      { cls := 0x41, unit := Sensors.sensorUnit (6 + rail),
        detail := Sensors.voltageDetail rail mv (([0, 1800, 750, 750, 700, 700, 500, 500, 800, 800] : List Nat).getD rail 0) 10000 } 0 := by
  simp only [Powering.railTimeout, group, rising]
  exact if_pos (by simp [bringup, powered])

/-! ## The phases (R486) -/

/-- The end of the phase that runs is that phase's rule. -/
theorem phaseEnd_eq {n : Nat} (phase : s.dex.phase = n) (r : PhaseResult) : Powering.phaseEnd s n r =
    match (generalizing := false) n with
    | 1 => Powering.phase1 s r
    | 2 => if r.ok then Powering.phase2 s else s
    | 3 => if r.ok || !r.lostChannels.isEmpty then Powering.phase3 s (r.lostChannels.filter (· < 128)) else s
    | 4 => if r.ok then Powering.phase4 s else Report.declareFailed s
    | 5 => Powering.phase5 s r.failedCores
    | 6 => if r.ok then Powering.phase6 s else Report.declareFailed s
    | 7 => Powering.toPhase s 8
    | _ => s :=
  if_pos (by simp [bringup, phase, powered])

end

section
variable {s : State} {r : PhaseResult}

theorem phase1_fails (bad : r.firmwareOk = false ∨ r.pufOk = false ∨ Powering.tooOld s [1] = true) :
    Powering.phase1 s r = Report.declareFailed s :=
  if_pos (by simpa [or_assoc] using bad)

/-- With every rail in regulation phase 1 runs the staged firmware and gives way to phase 2 (R435, R485). -/
theorem phase1_ends {n : Nat} (firmware : r.firmwareOk = true) (puf : r.pufOk = true) (current : Powering.tooOld s [1] = false)
    (rising : s.power.rails = .rising n) (ok : r.ok = true) :
    Powering.phase1 s r = Powering.toPhase (Sensors.update (modPower (Powering.runStaged s [1]) (fun p => { p with rails := .up }))) 2 := by
  rw [Powering.phase1, if_neg (by simp [firmware, puf, current]), rising]
  exact if_pos ok

/-- The time phase ends once fabric time is locked, no firefly comes, or 600 ms have passed (R487). -/
theorem timeEnd_ready (bringup : s.dex.state = .bringup) (last : s.dex.phase = 8)
    (settled : s.ftime.state = .locked ∨ Powering.noFirefly s = true ∨ s.dex.phaseAt + 600000000 ≤ s.ns) :
    Powering.timeEnd s =
      modGov (Report.enterState (modDex s (fun d => { d with coldCycle := 0 })) .ready) (fun g => { g with periodAt := s.ns }) :=
  if_pos (by simpa [bringup, last, or_assoc] using settled)

end

/-- Settles O46: the boot by what it finds, each phase by its rule. -/
theorem bringUpCommandsComplete : Obligations.BringUpCommandsComplete := by
  unfold Obligations.BringUpCommandsComplete
  intro s rail mv r
  refine ⟨fun off input => ⟨fun f u bad => congrArg Host.Outcome.next (boot_fails off input bad), ?boots⟩, fun bringup powered => ?bringup⟩
  case boots =>
    intro s1
    have boots := boot_standby off input
    refine ⟨fun stays => ?stays, fun autostart present => ?goes_on⟩
    case stays =>
      exact congrArg Host.Outcome.next (boots.trans (if_neg (by simpa [imp_iff_not_or] using stays)))
    case goes_on =>
      have frame := enableRails_frame s1
      refine ⟨_, congrArg Host.Outcome.next (boots.trans (if_pos (by rw [Bool.and_eq_true]; exact ⟨autostart, present⟩))), rfl,
        congrArg State.dex frame, congrArg State.power frame, (congrArg State.mem frame :), congrArg State.ctxs frame,
        (congrArg State.remote frame :), fun k => ?_⟩
      exact (congrArg (Swaps.age · k) frame).trans (Nat.sub_self _)
  case bringup =>
    refine ⟨fun g n group rising => congrArg Host.Outcome.next (railTimeout_sticks bringup powered group rising mv),
      fun first bad => congrArg Host.Outcome.next ((phaseEnd_eq bringup powered first r).trans (phase1_fails bad)), ?first,
      fun second ok => ?second, fun third ok => ?third, fun fourth ok => ?fourth,
      fun fifth => congrArg Host.Outcome.next (phaseEnd_eq bringup powered fifth r), fun sixth ok => ?sixth,
      fun seventh => congrArg Host.Outcome.next (phaseEnd_eq bringup powered seventh r), fun last settled => ?last⟩
    case first =>
      intro n first firmware puf current rising ok u
      exact congrArg Host.Outcome.next ((phaseEnd_eq bringup powered first r).trans (phase1_ends firmware puf current rising ok))
    case second => exact congrArg Host.Outcome.next ((phaseEnd_eq bringup powered second r).trans (if_pos ok))
    case third => exact congrArg Host.Outcome.next ((phaseEnd_eq bringup powered third r).trans (if_pos (by simp [ok])))
    case fourth => exact congrArg Host.Outcome.next ((phaseEnd_eq bringup powered fourth r).trans (if_pos ok))
    case sixth => exact congrArg Host.Outcome.next ((phaseEnd_eq bringup powered sixth r).trans (if_pos ok))
    case last =>
      have ends := timeEnd_ready bringup last settled
      rw [enterState_frame] at ends
      exact ⟨_, congrArg Host.Outcome.next ends, rfl, rfl, rfl⟩

end Sys2Proof.Proofs.BringUp
end

section
/-! PROOFS. Rings: doorbells, the control register, coalescing, and entries that are written or fail (R463 to R465, R468, R475, R476). -/

namespace Sys2Proof.Proofs.HostRings

open Sys2Proof.Machine Sys2Proof.Machine.Ops Sys2Proof.Machine.Bits

/-! ## Requests of the host (R14, R386, R449) -/

section
variable {s : State}

theorem running_of_served (served : hostServed s = true) : fenced s = false := by
  simp only [hostServed, Bool.and_eq_true, Bool.not_eq_true'] at served
  exact served.2

theorem link_of_served (served : hostServed s = true) : s.host.linkUp = true ∧ s.host.secure = true := by
  simp only [hostServed, hostReady, Bool.and_eq_true] at served
  exact served.1

theorem fromHost_served (served : hostServed s = true) (t : State) : fromHost s t = t := if_pos served

/-- Without a Secure stream a request over a link that is up is an Unsupported Request. -/
theorem fromHost_refused (notReady : hostReady s = false) (up : s.host.linkUp = true) (running : fenced s = false) (t : State) :
    fromHost s t = emit s (.answer 2 []) := by
  rw [fromHost, if_neg (by simp [hostServed, notReady]), if_pos (by simp [up, running])]

end

/-! ## Stopping and fetching (R464, R465, R468) -/

/-- A ring that has stopped with a code: its descriptors in progress lose their entries (R465). -/
def stopped (x : Ring) (code : Nat) : Ring := { hush x with err := true, errCode := code }

@[simp] theorem stopRing_eq (s : State) (r code : Nat) : stopRing s r code = setRing s r (stopped (ring s r) code) := rfl

section
variable {s : State} {r : Nat} {y : Ring} (link : s.host.linkUp = true ∧ s.host.secure = true) (enabled : y.enable = true)
  (sound : y.err = false)
include link enabled sound

/-- A ring that holds no entry fetches up to TAIL while a place of its 32 is free (R464, R475). -/
theorem mayFetch_free (free : y.held = []) :
    mayFetch (setRing s r y) y = min (dist32 y.tail y.sqHead) (32 - (dist32 y.sqHead y.nextStart + y.inProg.length)) := by
  obtain ⟨up, secure⟩ := link
  exact if_neg (by simp [enabled, sound, free, setRing, modHost, up, secure])

end

theorem mayFetch_holding {s : State} {y : Ring} (holds : y.held ≠ []) : mayFetch s y = 0 :=
  if_pos (by simp [holds])

/-- A ring that has just been written fetches what it may: SQ_HEAD moves on, unless the read of the SQ fails, which stops the ring. -/
theorem fetch_setRing (s : State) (r : Nat) (y : Ring) (ok : Bool) :
    fetch (setRing s r y) r ok =
      if mayFetch (setRing s r y) y = 0 then setRing s r y
      else if ok = true then setRing s r { y with sqHead := (y.sqHead + mayFetch (setRing s r y) y) % 4294967296 }
      else setRing s r (stopped y 3) := by
  simp only [fetch, ring_setRing, setRing_setRing, stopRing_eq, beq_iff_eq]

/-! ## Doorbells (R464, R465, R475) -/

section
variable {s : State} {r : Nat} (served : hostServed s = true) (enabled : (ring s r).enable = true) (sound : (ring s r).err = false)
include served enabled sound

theorem sqDb_moves {tail : Nat} (near : dist32 tail (ring s r).sqHead ≤ 2 ^ (ring s r).sqLog) (ok : Bool) :
    Rings.sqDb s r tail ok = fetch (setRing s r { ring s r with tail := tail }) r ok := by
  simp only [Rings.sqDb, running_of_served served, enabled, sound, Nat.not_lt.mpr near, Bool.not_true, Bool.or_self, Bool.false_eq_true,
    if_false]

/-- A TAIL too far ahead stops the ring with code 1. -/
theorem sqDb_stops {tail : Nat} (far : 2 ^ (ring s r).sqLog < dist32 tail (ring s r).sqHead) (ok : Bool) :
    Rings.sqDb s r tail ok = setRing s r (stopped (ring s r) 1) := by
  simp only [Rings.sqDb, running_of_served served, enabled, sound, far, Bool.not_true, Bool.or_self, Bool.false_eq_true, if_false, if_true,
    stopRing_eq]

theorem cqDb_moves {head : Nat} (behind : dist32 (ring s r).written head < 2147483648) (cqOk sqOk : Bool) :
    Rings.cqDb s r head cqOk sqOk = fetch (flushHeld 64 (setRing s r { ring s r with head := head }) r cqOk) r sqOk := by
  simp only [Rings.cqDb, running_of_served served, enabled, sound, Nat.not_le.mpr behind, Bool.not_true, Bool.or_self, Bool.false_eq_true,
    if_false]

/-- A HEAD past what was written stops the ring with code 2. -/
theorem cqDb_stops {head : Nat} (past : 2147483648 ≤ dist32 (ring s r).written head) (cqOk sqOk : Bool) :
    Rings.cqDb s r head cqOk sqOk = setRing s r (stopped (ring s r) 2) := by
  simp only [Rings.cqDb, running_of_served served, enabled, sound, past, Bool.not_true, Bool.or_self, Bool.false_eq_true, if_false, if_true,
    stopRing_eq]

end

/-! ## The control register (R463, R465, R476) -/

/-- The fields of a write to HOST_RING_CTL, as the ring takes them: the sizes only while ENABLE is 0. -/
def configured (x : Ring) (w : Nat) : Ring :=
  { x with vector := field w 47 40, irqEn := bit w 39, coalUs := field w 31 16, coalCnt := field w 15 8,
           cqLog := if x.enable then x.cqLog else field w 7 4, sqLog := if x.enable then x.sqLog else field w 3 0 }

/-- The count and the sizes of a write to HOST_RING_CTL are in their ranges. -/
def Fits (x : Ring) (w : Nat) : Prop :=
  1 ≤ field w 15 8 ∧ (x.enable = true ∨ 4 ≤ field w 7 4 ∧ field w 7 4 ≤ 12 ∧ 4 ≤ field w 3 0 ∧ field w 3 0 ≤ 12)

theorem fits_iff (x : Ring) (w : Nat) :
    Fits x w ↔
      ¬ (field w 15 8 == 0 || (!x.enable && decide (field w 7 4 < 4 ∨ 12 < field w 7 4 ∨ field w 3 0 < 4 ∨ 12 < field w 3 0))) = true := by
  cases enabled : x.enable <;> simp [Fits, enabled] <;> omega

/-- A ring that is not enabled, or has no unsignalled entry, has nothing to settle. -/
theorem settle_setRing_idle {s : State} {r : Nat} {z : Ring} (idle : z.enable = false ∨ z.unsignalled = 0) :
    Rings.settle (setRing s r z) r = setRing s r z := by
  simp only [Rings.settle, ring_setRing]
  exact if_neg (by obtain h | h := idle <;> simp [h])

section
variable {s : State} {r w : Nat}

theorem ctlWrite_refuses (bad : ¬ Fits (ring s r) w) : Rings.ctlWrite s r w = (s, 3) :=
  if_pos (not_not.mp (mt (fits_iff ..).mpr bad))

theorem ctlWrite_takes (fits : Fits (ring s r) w) : Rings.ctlWrite s r w =
    (Rings.settle (setRing (if bit w 63 && !(ring s r).enable then Rings.renumber s r else s) r
      (if bit w 63 then (if (ring s r).enable then configured (ring s r) w else Rings.restart (configured (ring s r) w))
       else hush { configured (ring s r) w with enable := false })) r, 0) :=
  if_neg ((fits_iff ..).mp fits)

/-- A write that enables a ring starts its counts again; one that finds it enabled leaves them, and may signal at once (R463, R476). -/
theorem ctlWrite_enables (fits : Fits (ring s r) w) (on : bit w 63 = true) : Rings.ctlWrite s r w =
    (if (ring s r).enable = true then Rings.settle (setRing s r (configured (ring s r) w)) r
     else setRing (Rings.renumber s r) r (Rings.restart (configured (ring s r) w)), 0) := by
  rw [ctlWrite_takes fits]
  cases enabled : (ring s r).enable
  · simp [on, settle_setRing_idle (z := Rings.restart (configured (ring s r) w)) (.inr rfl)]
  · simp [on]

theorem ctlWrite_disables (fits : Fits (ring s r) w) (off : bit w 63 = false) : Rings.ctlWrite s r w =
    (setRing s r (hush { configured (ring s r) w with enable := false }), 0) := by
  rw [ctlWrite_takes fits]
  simp [off, settle_setRing_idle (z := hush { configured (ring s r) w with enable := false }) (.inl rfl)]

/-- The coalescing time has passed: the unsignalled entries are signalled once (R476). -/
theorem coalesce_signals (irq : (ring s r).irqEn = true) (secure : s.host.secure = true) (some_waiting : 0 < (ring s r).unsignalled)
    (timed : (ring s r).coalUs ≠ 0) (past : (ring s r).unsignalledAt + 1000 * (ring s r).coalUs ≤ now s) :
    Rings.coalesce s r = signal (setRing s r { ring s r with unsignalled := 0 }) (ring s r).vector :=
  if_pos (by simp [irq, secure, some_waiting, timed, past])

end

/-! ## The commands -/

section
variable {s : State} {r : Nat} (valid : r < 128)
include valid

theorem exec_hostSqDb (tail : W32) (ok : Bool) : exec (.hostSqDb r tail ok) s = .next (fromHost s (Rings.sqDb s r tail.toNat ok)) :=
  congrArg Host.Outcome.next (if_pos valid)

theorem exec_hostCqDb (x : CqHead) : exec (.hostCqDb r x) s = .next (fromHost s (Rings.cqDb s r x.head.toNat x.cqOk x.sqOk)) :=
  congrArg Host.Outcome.next (if_pos valid)

theorem exec_ringEnable {v : W64} (on : v.getLsbD 63 = true) : exec (.ringEnable r v) s =
    .next (fromHost s (emit (Rings.ctlWrite s r v.toNat).1 (.answer (hostStatus (Rings.ctlWrite s r v.toNat).2) []))) :=
  congrArg Host.Outcome.next (if_pos (by simp only [valid, on, decide_true, Bool.and_self]))

theorem exec_ringDisable {v : W64} (off : v.getLsbD 63 = false) : exec (.ringDisable r v) s =
    .next (fromHost s (emit (Rings.ctlWrite s r v.toNat).1 (.answer (hostStatus (Rings.ctlWrite s r v.toNat).2) []))) :=
  congrArg Host.Outcome.next (if_pos (by simp only [valid, off, decide_true, Bool.not_false, Bool.and_self]))

end

/-! ## Entries (R465, R472, R475) -/

section
variable {s : State} {r : Nat}

/-- With room, and no entry held, an entry goes to the CQ at once. -/
theorem postCq_puts (isDesc : Bool) (e : CqEntry) (enabled : (ring s r).enable = true) (sound : (ring s r).err = false)
    (up : s.host.linkUp = true) (free : (ring s r).held = []) (room : cqRoom s (ring s r) = true) (ok : Bool) :
    postCq s r isDesc e ok = putCq s r e ok := by
  simp only [postCq, enabled, sound, up, free, room, Bool.not_true, Bool.or_self, Bool.false_eq_true, if_false, List.isEmpty_nil,
    Bool.and_self, if_true]

/-- An entry of a ring that does not signal leaves in two writes, its first eight bytes last. -/
theorem writeCq_out (e : CqEntry) (silent : (ring s r).irqEn = false) :
    (writeCq s r e).out =
      (emitEntry s r ((ring s r).written % 2 ^ (ring s r).cqLog) (cqBytes (ring s r) (ring s r).written (ring s r).overflow e)).out := by
  simp only [writeCq, silent, Bool.false_and, Bool.false_eq_true, if_false]
  rfl

end

/-- Settles O49: each doorbell and control write by what the ring finds, and an entry by whether its write fails. -/
theorem ringCommandsComplete : Obligations.RingCommandsComplete := by
  unfold Obligations.RingCommandsComplete
  intro s r n v valid x stopped
  refine ⟨fun served => ⟨fun enabled sound => ?doorbells, ?control⟩, fun notReady up running => ?refused, ?coalesced, ?entries⟩
  case doorbells =>
    have link := link_of_served served
    have tail (ok : Bool) : exec (.hostSqDb r n ok) s = .next (Rings.sqDb s r n.toNat ok) := by
      rw [exec_hostSqDb valid, fromHost_served served]
    intro y
    refine ⟨?fetches, ?holds, ?far, ?head⟩
    case fetches =>
      intro near free k
      have may : mayFetch (setRing s r y) y = k := mayFetch_free (y := y) link enabled sound free
      have fetches (ok : Bool) := (sqDb_moves served enabled sound near ok).trans (fetch_setRing s r y ok)
      rw [may] at fetches
      refine ⟨fun room => ⟨?reads, ?fails⟩, fun noRoom ok => ?none⟩
      case reads => exact (tail true).trans (congrArg Host.Outcome.next ((fetches true).trans ((if_neg room).trans (if_pos rfl))))
      case fails =>
        exact (tail false).trans (congrArg Host.Outcome.next ((fetches false).trans ((if_neg room).trans (if_neg Bool.false_ne_true))))
      case none => exact (tail ok).trans (congrArg Host.Outcome.next ((fetches ok).trans (if_pos noRoom)))
    case holds =>
      intro near holds ok
      refine (tail ok).trans (congrArg Host.Outcome.next ((sqDb_moves served enabled sound near ok).trans ?_))
      exact (fetch_setRing s r y ok).trans (if_pos (mayFetch_holding (y := y) holds))
    case far =>
      exact fun far ok => (tail ok).trans (congrArg Host.Outcome.next (sqDb_stops served enabled sound far ok))
    case head =>
      intro cqOk sqOk
      have head : exec (.hostCqDb r { head := n, cqOk := cqOk, sqOk := sqOk }) s = .next (Rings.cqDb s r n.toNat cqOk sqOk) := by
        rw [exec_hostCqDb valid, fromHost_served served]
      exact ⟨fun behind => head.trans (congrArg Host.Outcome.next (cqDb_moves served enabled sound behind cqOk sqOk)),
        fun past => head.trans (congrArg Host.Outcome.next (cqDb_stops served enabled sound past cqOk sqOk))⟩
  case control =>
    intro w y fits
    refine ⟨fun on => ⟨fun legal => ?enables, fun illegal => ?refusesOn⟩, fun off => ⟨fun legal => ?disables, fun illegal => ?refusesOff⟩⟩
    case enables =>
      rw [exec_ringEnable valid on, fromHost_served served, ctlWrite_enables legal on]
      rfl
    case refusesOn =>
      rw [exec_ringEnable valid on, fromHost_served served, ctlWrite_refuses illegal]
      rfl
    case disables =>
      rw [exec_ringDisable valid off, fromHost_served served, ctlWrite_disables legal off]
      rfl
    case refusesOff =>
      rw [exec_ringDisable valid off, fromHost_served served, ctlWrite_refuses illegal]
      rfl
  case refused =>
    have refuses := fromHost_refused notReady up running
    intro c among
    simp only [List.mem_cons, List.not_mem_nil, or_false] at among
    obtain rfl | rfl | rfl | rfl := among
    · rw [exec_hostSqDb valid, refuses]
    · rw [exec_hostCqDb valid, refuses]
    · rw [exec_ringEnable valid (by simp), refuses]
    · rw [exec_ringDisable valid (by simp), refuses]
  case coalesced =>
    exact fun irq secure some_waiting timed past => congrArg Host.Outcome.next
      ((if_pos valid).trans (coalesce_signals irq secure some_waiting timed past))
  case entries =>
    intro d e enabled sound up free room slot b
    have puts := postCq_puts d e enabled sound up free room
    refine ⟨fun silent => ?written, ?failed⟩
    case written =>
      rw [puts true]
      exact writeCq_out e silent
    case failed => exact puts false

end Sys2Proof.Proofs.HostRings
end

section
/-! PROOFS. Checkpoints, the shard writer, shard loads, and a module's release (R408 to R428). -/

namespace Sys2Proof.Proofs.Checkpoints

open Sys2Proof.Machine Sys2Proof.Machine.Ops Sys2Proof.Machine.Bits Sys2Proof.Safety Sys2Proof.Proofs.ScheduleChanges
  Sys2Proof.Proofs.ContextDescriptors

/-! ## CKPT_SETUP and CKPT_COMMIT (R408, R420) -/

section
variable {s : State} {c : Nat}

/-- A block that meets R409 is kept with its context, while the shard writer holds no work of it. -/
theorem setup_keeps {a : Nat} {b : CkptBlock} (legal : Ckpts.block (Mem.load s a 256 false (Ckpts.req c)).1 a = some b)
    (defined : (ctx? (Mem.load s a 256 false (Ckpts.req c)).1 c).isSome = true)
    (idle : Ckpts.writing (Mem.load s a 256 false (Ckpts.req c)).1 c = false) :
    Ckpts.setup s c a = (modCtx (Mem.load s a 256 false (Ckpts.req c)).1 c (fun y => { y with ckpt := some b }), Status.ok) := by
  have notNone : (ctx? (Mem.load s a 256 false (Ckpts.req c)).1 c).isNone = false := by simpa using defined
  simp only [Ckpts.setup, legal, notNone, idle, Bool.false_eq_true, if_false]

/-- A root writes the record of a complete manifest, signed, and poisoned where the manifest's codes fail (R290, R420, R478). -/
theorem commit_writes {x : Ctx} {b : CkptBlock} {slot step : Nat} (host : Nat) (defined : ctx? s c = some x) (block : x.ckpt = some b)
    (root : b.root = true) (legal : slot ≤ 1)
    (complete : (List.range b.shards).find? (fun i =>
      !Ckpts.entryOk (Mem.load s b.manifest (128 * b.shards) true (Ckpts.req c)).1 b slot step i) = none) :
    Ckpts.commit s c slot step host =
      let m := Mem.load s b.manifest (128 * b.shards) true (Ckpts.req c)
      let md := Digest.sha ((List.range b.shards).flatMap (fun i => Mem.bytesAt m.1 (b.manifest + 128 * i) 64))
      let h := Ckpts.header m.1 b 3 0 slot step b.regions.length 0 0 0 (Ckpts.regionDigest b.regions) md
      let g := Digest.sign m.1 (Config.sha3 h)
      let r := h ++ padMul 64 g.1
      (emit g.2 (.hostWrite host r (if m.2.sound = true ∧ m.2.check = [] then [] else [(0, r.length)])),
        if m.2.check ≠ [] then Status.check else if m.2.sound = false then Status.poisoned else Status.ok, []) := by
  simp only [Ckpts.commit, Nat.not_lt.mpr legal, defined, block, root, complete, Bool.not_true, Bool.false_eq_true, if_false,
    Bool.and_eq_true, Bool.not_eq_true', List.isEmpty_iff, List.isEmpty_eq_false_iff]

end

/-! ## The shard writer (R412, R416, R418) -/

section
variable {s : State}

/-- The first item ends with its notice, its flag action and its completion entry, in that order, and the next one begins. -/
theorem finishItem_ends {i : WriterItem} {rest : List WriterItem} {x : Ctx} {b : CkptBlock} (items : s.ckpt.items = i :: rest)
    (defined : ctx? s i.ctx = some x) (block : x.ckpt = some b) (o : WriterOutcome) : Ckpts.finishItem s o =
      let p := Ckpts.produce (modCkpt s (fun w => { w with items := rest, itemAt := s.ns })) b i x.jobKey o
      let s1 := (Mem.store p.1 b.notice (Ckpts.notice b i p.2.1 p.2.2.1 p.2.2.2) false (Ckpts.req i.ctx)).1
      let s2 := FlagOps.arrive s1 b.fcore b.flag b.fact { module := moduleId s, core := 0, ctx := i.ctx, src := FlagOps.srcKind 4 }
      postCtx s2 i.ctx { kind := Status.kShard, body := [(16, p.2.1), (80, le 8 i.step), (88, le 2 b.shard), (90, le 1 i.slot),
                                                         (91, le 1 p.2.2.1), (96, le 8 p.2.2.2)] } := by
  simp only [Ckpts.finishItem, items, defined, block]

/-- An item whose time has passed ends once the codes of its regions have reported (R216, R418). -/
theorem itemFinish_finishes {i : WriterItem} {rest : List WriterItem} {o : WriterOutcome} (items : s.ckpt.items = i :: rest)
    (due : Ckpts.early s o = false) (hits : List CodeHit) :
    Ckpts.itemFinish s { outcome := o, hits := hits } = Ckpts.finishItem (Mem.inject s hits (Ckpts.req i.ctx)) o := by
  rw [Ckpts.itemFinish, if_neg (by simp [due]), items]
  rfl

end

/-! ## Shard loads (R421, R422, R478) -/

/-- A load whose header agrees runs on, the last of its context's. -/
theorem load_begins {s : State} {d : DescHead} {y : LoadBody} {x : Ctx} {b : CkptBlock} (head : Desc.badHead d = false)
    (body : Desc.bodyStatus d = none) (legal : Ckpts.badLoad d y = false) (defined : ctx? s d.ctx = some x) (closed : x.step.isOpen = false)
    (block : x.ckpt = some b) (agrees : Ckpts.loadCheck b y = none) :
    Ckpts.load s d y =
      (modCkpt (modCtx s d.ctx (fun z => { z with unrestored := true }))
        (fun w => { w with loads := SMap.ins w.loads d.ctx (SMap.val [] w.loads d.ctx ++ [(d, y)]) }), none) := by
  simp only [Ckpts.load, head, body, legal, defined, closed, block, agrees, Option.isSome_none, Bool.false_eq_true, if_false]

/-- Nothing that came poisoned: nothing is marked. -/
theorem markRegions_clean (rs : List Region) (s : State) (k f at0 : Nat) : Ckpts.markRegions rs s k f at0 [] = s := by
  induction rs generalizing s at0 with
  | nil => rfl
  | cons r rest ih =>
    have unmarked : Ckpts.poisonedUnits (Ckpts.regionAddr r k) f r at0 [] = [] := List.filter_eq_nil_iff.mpr (by simp)
    rw [Ckpts.markRegions, unmarked]
    exact ih ..

/-- The plaintext of a full load goes to the regions of the block. -/
theorem writeLoad_full {y : LoadBody} (full : y.partialLoad = false) (s : State) (c : Nat) (b : CkptBlock) (job : BitVec 256) (cipher : Bytes) :
    Ckpts.writeLoad s c b job y cipher [] =
      let h := padTo 256 y.header
      let plain := padTo (at' h 32 8) (Config.gcmOpen (Ckpts.fileKey job (BitVec.ofNat 256 (at' h 40 32))) 0 h cipher)
      Ckpts.writeRegions b.regions s c (at' h 8 8) (at' h 6 1) plain := by
  simp only [Ckpts.writeLoad, full, Bool.false_eq_true, if_false, markRegions_clean]

/-- The earliest load of a context is taken from those in progress. -/
def loadTaken (u : State) (c : Nat) (rest : List (DescHead × LoadBody)) : State :=
  modCkpt u (fun w => { w with loads := if rest = [] then SMap.del w.loads c else SMap.ins w.loads c rest })

section
variable {s : State} {c : Nat} {d : DescHead} {y : LoadBody} {rest : List (DescHead × LoadBody)}
  (earliest : SMap.val [] s.ckpt.loads c = (d, y) :: rest) (hits : List CodeHit)
include earliest

theorem loadComplete_hostFault : Ckpts.loadComplete s c { result := .hostFault, hits := hits } =
    endDesc (loadTaken (Mem.inject s hits (Ckpts.req c)) c rest) d.ring d.t Status.hostFault [] := by
  simp only [Ckpts.loadComplete, earliest, List.isEmpty_iff]
  rfl

section
variable {x : Ctx} {b : CkptBlock} {job : BitVec 256} (defined : ctx? (Mem.inject s hits (Ckpts.req c)) c = some x) (block : x.ckpt = some b)
  (key : x.jobKey = some job)
include defined block key

theorem loadComplete_poisoned (cipher : Bytes) (offsets : List Nat) :
    Ckpts.loadComplete s c { result := .poisoned cipher offsets, hits := hits } =
      endDesc (Ckpts.writeLoad (loadTaken (Mem.inject s hits (Ckpts.req c)) c rest) c b job y cipher offsets) d.ring d.t Status.poisoned [] := by
  simp only [Ckpts.loadComplete, earliest, defined, block, key, List.isEmpty_iff]
  rfl

/-- What opened under the job key is written before its tag and its signature are judged (R421). -/
theorem loadComplete_opened {cipher : Bytes} {t : State}
    (written : Ckpts.writeLoad (loadTaken (Mem.inject s hits (Ckpts.req c)) c rest) c b job y cipher [] = t) (tagOk sigOk : Bool) :
    Ckpts.loadComplete s c { result := .opened cipher tagOk sigOk, hits := hits } =
      if tagOk = false then endDesc t d.ring d.t Status.badTag []
      else if sigOk = false then endDesc t d.ring d.t Status.badSignature []
      else endDesc (modCtx t c (fun z => { z with unrestored := false })) d.ring d.t Status.ok [] := by
  subst written
  simp only [Ckpts.loadComplete, earliest, defined, block, key, List.isEmpty_iff, Bool.not_eq_true']
  rfl

end

end

/-! ## Release (R428) -/

section
variable {s : State} {c : Nat}

/-- A release whose writer and operations are done erases the job key; it wipes memory, unless another context is defined. -/
theorem releaseSelf_releases (waiting : s.ckpt.releases.contains (c, none) = true) (idle : Ckpts.writing s c = false)
    (quiet : ∀ y, ctx? s c = some y → AbortOps.quiet s c y = true) (none_pending : Ckpts.pendingWork s c = false) :
    Ckpts.releaseSelf s c =
      let s1 := modCtx s c (fun y => { y with jobKey := none })
      if s.ctxs.all (fun p => p.1 == c) then
        modCkpt s1 (fun w => { w with releases := w.releases.map (fun r => if r == (c, none) then (c, some (now s)) else r) })
      else Ckpts.released s1 c true := by
  cases defined : ctx? s c with
  | none => simp only [Ckpts.releaseSelf, defined, waiting, idle, none_pending, Bool.not_false, Bool.and_self, if_true]
  | some y =>
    simp only [Ckpts.releaseSelf, defined, waiting, idle, none_pending, quiet y defined, Bool.not_false, Bool.and_self, if_true]

theorem wipeDone_wipes {t : Nat} (wiping : s.ckpt.releases.find? (fun r => r.2.isSome) = some (c, some t)) :
    Ckpts.wipeDone s = Ckpts.released (Ckpts.wipe s) c false := by
  simp only [Ckpts.wipeDone, wiping]

end

/-- Settles O40, command by command: each by the checks that its hypotheses pass. -/
theorem checkpointCommandsComplete : Obligations.CheckpointCommandsComplete := by
  unfold Obligations.CheckpointCommandsComplete
  intro s d a x b
  refine ⟨?setup, ?item, ?commit, ?load, ?loaded, ?release, fun c t wiping => congrArg Host.Outcome.next (wipeDone_wipes wiping)⟩
  case setup =>
    intro starts running good known low s1 s2 legal defined idle
    have head := badHead_eq_false good known low
    refine congrArg Host.Outcome.next (atOnce_ends starts running 7 ?_)
    rw [if_neg (by simp [head])]
    exact congrArg (fun r : State × Nat => (r.1, r.2, ([] : List (Nat × Bytes)))) (setup_keeps (s := s1) legal defined idle)
  case item =>
    intro i rest rest' o hits items due u left defined block
    exact congrArg Host.Outcome.next ((itemFinish_finishes items due hits).trans (finishItem_ends left defined block o))
  case commit =>
    intro slot step host starts running good known low defined block root legal m s1 complete
    have head := badHead_eq_false good known low
    refine congrArg Host.Outcome.next (atOnce_ends starts running 8 ?_)
    rw [if_neg (by simp [head])]
    exact commit_writes (s := Desc.register s d _) host defined block root legal complete
  case load =>
    intro y starts running good known read clean low legal defined closed block agrees
    exact congrArg Host.Outcome.next (lasting_runs starts running (load_begins (s := Desc.register s d _)
      (badHead_eq_false good known low) (bodyStatus_eq_none read clean) legal defined closed block agrees))
  case loaded =>
    intro c y rest job cipher offsets hits earliest u s1
    refine ⟨congrArg Host.Outcome.next (loadComplete_hostFault earliest hits), fun defined block key => ⟨?poisoned, fun full => ?opened⟩⟩
    case poisoned => exact congrArg Host.Outcome.next (loadComplete_poisoned earliest hits defined block key cipher offsets)
    case opened =>
      intro h plain s2 done
      have opens := loadComplete_opened earliest hits defined block key (writeLoad_full full _ c b job cipher)
      refine ⟨congrArg Host.Outcome.next ((opens true true).trans ?_), congrArg Host.Outcome.next ((opens false true).trans ?_),
        congrArg Host.Outcome.next ((opens true false).trans ?_)⟩
      · exact (if_neg Bool.noConfusion).trans (if_neg Bool.noConfusion)
      · exact if_pos rfl
      · exact (if_neg Bool.noConfusion).trans (if_pos rfl)
  case release =>
    intro c waiting idle quiet none_pending s1 alone
    have releases := releaseSelf_releases waiting idle quiet none_pending
    refine ⟨fun last => congrArg Host.Outcome.next (releases.trans (if_pos ?_)),
      fun others => congrArg Host.Outcome.next (releases.trans (if_neg ?_))⟩
    · simpa [alone] using last
    · simpa [alone] using others

end Sys2Proof.Proofs.Checkpoints
end

section
/-! PROOFS. SPDM requests, in the clear and in a session, and keys from outside (R441, R442, R444 to R448). -/

namespace Sys2Proof.Proofs.SecurityRequests

open Sys2Proof.Machine Sys2Proof.Machine.Ops Sys2Proof.Machine.Bits Sys2Proof.Safety Sys2Proof.Laws

/-! ## How a request is answered (R444) -/

section
variable {s : State}

/-- A request comes outside a session, or in a finished one that is there. -/
def ComesIn (s : State) (h : SpdmHead) (x : Option Session) : Prop :=
  h.session = none ∧ x = none ∨ ∃ id y, h.session = some id ∧ x = some y ∧ Spdm.session? s id true = some y

/-- The response goes the way the request came: in the clear, or sealed under the session's key. -/
theorem run_replies {h : SpdmHead} {x : Option Session} (served : Spdm.served s h.i3c = true) (comes : ComesIn s h x)
    {f : State → Spdm.Answer} {t : State} {code : Nat} {b : Bytes} (effect : f s = (t, code, b)) :
    Spdm.run s h true f = Spdm.reply t x (.spdm code b) ([5] ++ le 1 code ++ b) := by
  obtain ⟨outside, rfl⟩ | ⟨id, y, inside, rfl, there⟩ := comes
  · rw [spdm_run served outside, effect, reply_clear]
  · rw [spdm_runIn served inside there, effect, reply_sealed]
    rfl

/-- A request that names no binding and no session is answered in the clear, in every state but OFF. -/
theorem run_clear (on : s.dex.state ≠ .off) {f : State → Spdm.Answer} {t : State} {code : Nat} {b : Bytes} (effect : f s = (t, code, b)) :
    Spdm.run s {} true f = emit t (.spdm code b) := by
  rw [spdm_run (by simp [Spdm.served, on]) rfl, effect]

/-- A request that comes in a session is answered in it. -/
theorem run_sealed {h : SpdmHead} {id : Nat} {x : Session} {finished : Bool} (served : Spdm.served s h.i3c = true)
    (session : h.session = some id) (there : Spdm.session? s id finished = some x) {f : State → Spdm.Answer} {t : State} {code : Nat} {b : Bytes}
    (effect : f s = (t, code, b)) : Spdm.run s h finished f = Spdm.sealed t x ([5] ++ le 1 code ++ b) := by
  rw [spdm_runIn served session there, effect]
  rfl

section
variable (negotiated : s.sec.negotiated = 7)
include negotiated

/-- After the negotiation a request is its own rule. -/
theorem after_negotiated (f : State → Spdm.Answer) : Spdm.after s f = f s := if_pos (by simp [negotiated])

theorem inside_session {h : SpdmHead} {id : Nat} (session : h.session = some id) (f : State → Nat → Spdm.Answer) :
    Spdm.inside s h f = f s id := by
  rw [Spdm.inside, after_negotiated negotiated, session]

end

/-! ## Negotiation (R444) -/

theorem capabilities_first (first : s.sec.negotiated = 1) :
    Spdm.capabilities s = ({ s with sec := { s.sec with negotiated := 3 } }, 0x61,
      [0] ++ le 1 (Config.capability 0) ++ [0, 0] ++ le 4 0x64F6 ++ le 4 (Config.capability 1) ++ le 4 (Config.capability 2)) :=
  if_pos (by rw [first]; decide)

theorem algorithms_select (second : s.sec.negotiated = 3) :
    Spdm.algorithms s true true = ({ s with sec := { s.sec with negotiated := 7 } }, 0x63, Spdm.selected) := by
  rw [Spdm.algorithms, if_neg (by rw [second]; decide)]
  rfl

/-! ## Certificates and attestation (R441, R442, R445, R448) -/

/-- A signed response draws its nonce and its signature, and the module has attested. -/
theorem signedResponse_eq (s : State) (code : Nat) (body : Bytes) (nonce : BitVec 256) :
    Spdm.signedResponse s code body nonce =
      let n := le 32 (Config.random s.free).toNat
      ({ s with sec := { s.sec with attested := true }, free := s.free + 2 }, code,
        body ++ n ++ [0, 0] ++ padTo 4627 (Config.signature (Digest.identityKey s) (Config.sha3 (body ++ n ++ le 32 nonce.toNat)) (s.free + 1))) :=
  rfl

section
variable (identity : s.sec.identity.isSome = true)
include identity

theorem notIsNone_identity : ¬ s.sec.identity.isNone = true := by
  simpa using Option.isSome_iff_ne_none.mp identity

section
variable (negotiated : s.sec.negotiated = 7)
include negotiated

theorem digests_answers : Spdm.digests s = (s, 0x01, Spdm.chainDigest s) := by
  rw [Spdm.digests, after_negotiated negotiated, if_pos identity]
  rfl

/-- A portion of the chain from an offset in it, with its length and the length of what remains. -/
theorem certificate_answers {off : Nat} (inChain : off ≤ (Spdm.chain s).length) (len : Nat) : Spdm.certificate s 0 off len =
    let rest := (Spdm.chain s).drop off
    (s, 0x02, le 2 (rest.take len).length ++ le 2 (rest.length - (rest.take len).length) ++ rest.take len) := by
  rw [Spdm.certificate, after_negotiated negotiated, if_neg (notIsNone_identity identity), if_neg (by simpa using inChain)]
  rfl

theorem challenge_answers (nonce : BitVec 256) : Spdm.challenge s 0 nonce = Spdm.signedResponse s 0x03 (Spdm.chainDigest s) nonce := by
  rw [Spdm.challenge, after_negotiated negotiated, if_neg (notIsNone_identity identity)]
  rfl

/-- One of the six measurements, signed. -/
theorem measurements_answers {i : Nat} (lo : 1 ≤ i) (hi : i ≤ 6) (nonce : BitVec 256) :
    Spdm.measurements s i true nonce = Spdm.signedResponse s 0x60 (Spdm.blocks s [i]) nonce := by
  have notCount : ¬ (i == 0) = true := by simp; omega
  simp only [Spdm.measurements, after_negotiated negotiated, if_neg notCount, if_pos hi, Bool.not_true, Bool.false_eq_true, if_false, identity,
    if_true]

end

end

/-! ## Sessions (R444, R446, R448) -/

/-- After attestation a pre-shared key that is still held opens a session, and is gone. -/
theorem pskExchange_opens (negotiated : s.sec.negotiated = 7) {hint : Nat} {k : Psk} (attested : s.sec.attested = true)
    (room : s.sec.sessions.length < 4)
    (held : s.sec.psks.find? (fun k => k.hint == hint && decide (s.ns < k.stored + 60000000000)) = some k) :
    Spdm.pskExchange s hint = (modSec s (fun y => { y with
        psks := y.psks.filter (fun q => q.hint != hint),
        sessions := y.sessions ++ [{ id := Spdm.freeId s, hint := hint, finished := false, key := k.key, updates := 0 }] }),
      0x66, le 2 (Spdm.freeId s)) := by
  simp only [Spdm.pskExchange, after_negotiated negotiated, attested, Nat.not_le.mpr room, held, Bool.not_true, Bool.false_eq_true, if_false]
  rfl

/-! ## Job keys (R446, R447) -/

section
variable (negotiated : s.sec.negotiated = 7) {h : SpdmHead} {id c : Nat} {z : Ctx} (session : h.session = some id)
  (defined : ctx? s c = some z) (idle : Ckpts.writing s c = false)
include negotiated session defined idle

theorem jobKeySet_sets {digest : BitVec 512} (job : ∀ b, z.ckpt = some b → b.jobDigest = digest) (key : BitVec 256) :
    Spdm.jobKeySet s h c digest key = (modCtx s c (fun y => { y with jobKey := some key }), 0x7E, [3, 0]) := by
  have same : ¬ z.ckpt.any (fun b => b.jobDigest != digest) = true := by
    cases block : z.ckpt with
    | none => simp
    | some b => simp [job b block]
  simp only [Spdm.jobKeySet, after_negotiated negotiated, session, defined, idle, if_neg same, Option.isNone_some, Bool.false_eq_true, if_false]
  rfl

theorem jobKeyErase_erases : Spdm.jobKeyErase s h c = (modCtx s c (fun y => { y with jobKey := none }), 0x7E, [4, 0]) := by
  simp only [Spdm.jobKeyErase, after_negotiated negotiated, session, defined, idle, Option.isNone_some, Bool.false_eq_true, if_false]
  rfl

end

/-! ## Pre-shared keys (R446) -/

section
variable (negotiated : s.sec.negotiated = 7)
include negotiated

/-- A fresh encapsulation key and a nonce are drawn, and signed with the challenge. -/
theorem kemKeyGet_makes (identity : s.sec.identity.isSome = true) (nonce : BitVec 256) : Spdm.kemKeyGet s nonce =
    let key := padTo 1568 (Config.kemKey s.free)
    let n := Config.random (s.free + 1)
    let g := padTo 4627 (Config.signature (Digest.identityKey s) (Config.sha3 (key ++ le 32 n.toNat ++ le 32 nonce.toNat)) (s.free + 2))
    ({ s with sec := { s.sec with kem := some (key, n, nonce) }, free := s.free + 3 }, 0x7E, [1, 0] ++ (key ++ le 32 n.toNat ++ g)) := by
  rw [Spdm.kemKeyGet, after_negotiated negotiated, if_neg (notIsNone_identity identity)]
  rfl

/-- A ciphertext for the key gives the pre-shared key, stored under its hint; the encapsulation key is discarded. -/
theorem kemPsk_stores {ct key : Bytes} {mine theirs : BitVec 256} {hint : Nat} (made : s.sec.kem = some (key, mine, theirs))
    (whole : ct.length = 1568) (low : hint < 2 ^ 128) : Spdm.kemPsk s ct hint =
    let psk := Digest.keyOf (Digest.labelPsk ++ le 32 (Config.kemSecret key ct).toNat ++ le 32 mine.toNat ++ le 32 theirs.toNat)
    ({ s with sec := { s.sec with kem := none, psks := s.sec.psks.filter (fun k => k.hint != hint) ++ [⟨hint, psk, s.ns⟩] } }, 0x7E, [2, 0]) := by
  have legal : ¬ (ct.length != 1568 || decide (2 ^ 128 ≤ hint)) = true := by simpa [whole] using low
  simp only [Spdm.kemPsk, after_negotiated negotiated, made, if_neg legal]
  rfl

end

end

/-- Settles O59: a request's rule gives its answer, and the answer goes the way that the request came. -/
theorem securityRequestsComplete : Obligations.SecurityRequestsComplete := by
  unfold Obligations.SecurityRequestsComplete
  refine ⟨fun s on => ⟨?version, fun first => ?capabilities, fun negotiated identity => ?digests⟩, fun s h x nonce served comes => ?requests,
    fun s h id x served negotiated session => ⟨fun there => ?finish, fun there => ?session⟩, fun s x b => rfl,
    fun s nonce hint => ⟨rfl, fun on negotiated => ⟨fun identity => ?kemKey, ?kemPsk⟩⟩⟩
  case version => exact congrArg Host.Outcome.next (run_clear on rfl)
  case capabilities => exact congrArg Host.Outcome.next (run_clear on (capabilities_first first))
  case digests => exact congrArg Host.Outcome.next (run_clear on (digests_answers identity negotiated))
  case requests =>
    have replies {f : State → Spdm.Answer} {t : State} {code : Nat} {b : Bytes} (effect : f s = (t, code, b)) :=
      congrArg (Host.Outcome.next (φ := Fault) (ρ := Refusal)) (run_replies served comes effect)
    intro out
    refine ⟨fun second => replies (algorithms_select second), fun n => replies rfl,
      fun negotiated => ⟨fun n c => ?vendor, fun identity => ⟨?certificate, ?signed⟩, ?opens⟩⟩
    case vendor => exact replies (after_negotiated negotiated (fun t => Spdm.vendor t c Spdm.badRequest []))
    case certificate => exact fun off len inChain => replies (certificate_answers identity negotiated inChain len)
    case signed =>
      intro n g done ans
      exact ⟨replies (challenge_answers identity negotiated nonce), fun i lo hi => replies (measurements_answers identity negotiated lo hi nonce)⟩
    case opens => exact fun hint k attested room held => replies (pskExchange_opens negotiated attested room held)
  case finish =>
    exact congrArg Host.Outcome.next (run_sealed served session there (inside_session negotiated session _))
  case session =>
    have seals {f : State → Spdm.Answer} {t : State} {code : Nat} {b : Bytes} (effect : f s = (t, code, b)) :=
      congrArg (Host.Outcome.next (φ := Fault) (ρ := Refusal)) (run_sealed served session there effect)
    exact ⟨seals (inside_session negotiated session _), seals (inside_session negotiated session _), seals (inside_session negotiated session _),
      fun c z defined idle => ⟨fun digest key job => seals (jobKeySet_sets negotiated session defined idle job key),
        seals (jobKeyErase_erases negotiated session defined idle)⟩⟩
  case kemKey => exact congrArg Host.Outcome.next (run_clear on (kemKeyGet_makes negotiated identity nonce))
  case kemPsk =>
    exact fun ct key mine theirs made whole low => congrArg Host.Outcome.next (run_clear on (kemPsk_stores negotiated made whole low))

end Sys2Proof.Proofs.SecurityRequests
end
